-- ==== Sys2Proof/Word.lean ====
section
/-! DEFINITION. The word types of the OL640 and the index types that its register file, its windows and its
blocks are numbered with. -/
namespace Sys2Proof

/-- One byte of a block, a frame or memory. -/
abbrev Byte := BitVec 8
/-- One half of a register, as the 16-bit host bus carries it (R76). -/
abbrev HalfWord := BitVec 16
/-- A register, a command argument or a result word. -/
abbrev Word := BitVec 32
/-- Drone time, the device generation and check values. -/
abbrev DWord := BitVec 64

/-- A context number, CTX_0 to CTX_63. -/
abbrev CtxId := Fin 64
/-- A PCIe function: 0 is the PF, n is VF_n. -/
abbrev FnId := Fin 64
/-- A host-bus chip select, CS0 to CS3. -/
abbrev ChipSelect := Fin 4
/-- A window: 0 to 3 are CS0 to CS3, 4 is the PF, 4 + n is VF_n. -/
abbrev WinId := Fin 68
/-- A register of the register file, numbered by its byte offset divided by 4 (Table 05-1). -/
abbrev RegOffset := Fin 64
/-- A continuous head: 0 is head A, 1 is head B. -/
abbrev ContHead := Fin 2
/-- A HEAD code: 0 = A, 1 = B, 2 = E. -/
abbrev HeadId := Fin 3
/-- SYN_A, SYN_B, SYN_E. -/
abbrev SynId := Fin 3
/-- CAL_0 to CAL_3. -/
abbrev CalId := Fin 4
/-- A vector port VP_0 to VP_3. -/
abbrev PortId := Fin 4
/-- An EXTINT pin, a GPIO pin. -/
abbrev PinId := Fin 16
/-- TIM_0 to TIM_15. -/
abbrev TimerId := Fin 16
/-- MON_0 to MON_31. -/
abbrev MonId := Fin 32
/-- A fetch queue, queue_0 to queue_135. -/
abbrev QueueId := Fin 136
/-- A relay egress stream. -/
abbrev StreamId := Fin 16
/-- A relay ingest stream. -/
abbrev IngestId := Fin 8
/-- A memory channel. -/
abbrev Channel := Fin 2
/-- A z-slot. -/
abbrev SlotId := Fin 16
/-- An MSI-X vector of one function. -/
abbrev VectorId := Fin 8
/-- An EVU source. -/
abbrev SourceId := Fin 288
/-- A bistable rail: 0 VGL, 1 VSL, 2 VSH, 3 VGH, 4 VCOM. -/
abbrev RailId := Fin 5

end Sys2Proof
end

