-- ==== Sys2Proof/Syntax.lean ====
section
/-! DEFINITION. The commands of the OL640 block: one constructor of `Instr` for each row of the opcode table, with
the operands the row needs (what software writes, or what the board, the panel or the link shows at that event). -/
namespace Sys2Proof

/-- The tag and the four argument words a command is issued with (R108). -/
structure Cmd where
  tag : Byte
  a0 : Word
  a1 : Word
  a2 : Word
  a3 : Word
deriving DecidableEq, Repr

/-- How a register write arrives: the high-half commit through a chip select (R87), or one DWORD through a PCIe
function (R92). -/
inductive WriteAccess where
  | half (cs : ChipSelect) (hi : HalfWord)
  | dword (fn : FnId) (v : Word)
deriving DecidableEq, Repr

/-- How a register read arrives: the low half through a chip select (R85), or one DWORD through a PCIe function. -/
inductive ReadAccess where
  | half (cs : ChipSelect)
  | dword (fn : FnId)
deriving DecidableEq, Repr

/-- The lockable resources of Table 06-4 (the command slot is the window's own). -/
inductive Resource where
  | power
  | syn (y : SynId)
  | gate (h : HeadId)
  | cal (u : CalId)
  | ctxSet (n : CtxId)
deriving DecidableEq, Repr

/-- The chip selects and strobes that a host asserts at once (R78). -/
structure HostStrobes where
  cs : BitVec 4
  oe : Bool
  we : Bool
deriving DecidableEq, Repr

/-- A BAR_0 request that is no whole DWORD of the register file: its direction, offset and length in DWORDs, which of
its bytes are enabled, the bytes a write carries, and whether it is a peer-to-peer request. -/
structure InvalidTlp where
  peer : Bool := false
  write : Bool
  off : Nat
  dwords : Nat
  enables : List Bool
  data : List Byte
deriving DecidableEq, Repr

/-- The Drone-domain registers that have a shadow in FCLK and are written by software (R62). -/
inductive DroneShadow where
  | heartbeat
  | powerReq
  | timer (t : TimerId)
deriving DecidableEq, Repr

/-- The strap pins as sampled at reset release (R545). -/
structure Straps where
  flashBoot : Bool
  hbSync : Bool
  imageAlt : Bool
  quadOk : Bool
  pcieEn : Bool
deriving DecidableEq, Repr

/-- The monitored supplies (R585). -/
inductive Supply where
  | vddDrone | vddCore | vddSram | vddMemio
deriving DecidableEq, Repr

/-- What the serial flash answers to the boot loader: its SFDP signature, and the bytes at the primary and the
alternate image. -/
structure FlashRead where
  sfdp : List Byte
  primary : List Byte
  alternate : List Byte
deriving DecidableEq, Repr

/-- How the three training attempts go (R191): which channels fail, whether the two differ, and, on a pass, the
installed capacity code and the ranks per channel. -/
inductive TrainingResult where
  | pass (sizeCode : Nat) (ranks : Nat)
  | fail (ch0 ch1 mismatch : Bool)
deriving DecidableEq, Repr

/-- The events of Table 25-5. -/
inductive WakeSource where
  | extint (p : PinId)
  | timer (k : Fin 4)
  | relayLink
  | hostBus
deriving DecidableEq, Repr

/-- The mode register 4 value of each rank (channel × 2 + rank) at a poll (R206). -/
structure Mr4Values where
  v : Vector Byte 4
deriving DecidableEq, Repr

/-- The structures that the SRAM scrub walks, as UNIT of SRAM_UE numbers them (Table 27-2). -/
inductive SramUnit where
  | protectedStore | relief | lineStores | bistable | maps | staging
deriving DecidableEq, Repr

/-- What the scrub of one SRAM word finds (R210). -/
inductive ScrubOutcome where
  | clean
  | corrected
  | uncorrectable (u : SramUnit) (word : Nat)
deriving DecidableEq, Repr

/-- What the ECC of a returned read shows (R197, R198). -/
inductive ReadOutcome where
  | good
  | corrected (word : Nat)
  | uncorrectable (word : Nat)
deriving DecidableEq, Repr

/-- The users of the shared ADC (R421). -/
inductive AdcUser where
  | contrast | bistable
deriving DecidableEq, Repr

/-- The PHY status registers as MDIO shows them (R427). -/
structure PhyStatus where
  up : Bool
  speed : Fin 3
  fullDuplex : Bool
deriving DecidableEq, Repr

/-- A frame as the MAC receives it: its bytes from the destination address to the last one before the FCS, whether
its FCS checks, whether the ERX queue was full when it arrived (R60), and the time of its SFD in ns, on a clock that
reads 1000 × Drone time. -/
structure RxFrame where
  bytes : List Byte
  fcsOk : Bool
  queueFull : Bool
  time : Nat
deriving DecidableEq, Repr

/-- Whose wait exceeds the wait timeout (R573): the command of a window, a head that the power sequencer or the boot
loader starts, or the power sequencer itself. -/
inductive Waiter where
  | window (w : WinId)
  | head (h : ContHead)
  | power
deriving DecidableEq, Repr

/-- A look at HPD once a second (R330): the head, and whether its HPD is high. -/
structure HpdLook where
  head : ContHead
  high : Bool
deriving DecidableEq, Repr

/-- How an eDP training attempt ends (R329): whether clock recovery and channel equalisation completed, the voltage swing
and pre-emphasis levels the panel requested last, and whether its DPCD reports the alternate scrambler seed reset and
down-spread (Table 15-4). -/
structure TrainingEnd where
  clockRecovered : Bool
  equalised : Bool
  swing : Fin 4
  preEmphasis : Fin 4
  altSeed : Bool
  downSpread : Bool
deriving DecidableEq, Repr

/-- How a self-test chunk ends (R468): the failing instances it found, and whether foreground work asked for the
block meanwhile. -/
structure ChunkResult where
  failures : Word
  foreground : Bool
deriving DecidableEq, Repr

/-- A completion TLP of a COPY_IN read request (R183). -/
inductive PcieCompletion where
  | data (bytes : List Byte)
  | error
  /-- Either, for a host read of a COPY_IN that has ended (R173). -/
  | late
deriving DecidableEq, Repr

/-- One edge of TCK with the levels of TMS, TDI and TRST_N (R597). -/
structure TckEdge where
  rising : Bool
  tms : Bool
  tdi : Bool
  trstN : Bool
deriving DecidableEq, Repr

/-- The commands: one constructor per row of the opcode table. -/
inductive Instr where
  /-- NOP (R138). Command that completes at once and returns its argument and the caller's generation. -/
  | nop (w : WinId) (c : Cmd)
  /-- UNASSIGNED_OPCODE (R138). A command with an opcode not listed in the opcode table completes with BAD_ARG whatever the caller's role. -/
  | unassignedOpcode (w : WinId) (op : Byte) (c : Cmd)
  /-- ATTACH (R166). Attaches a tenant context with a new epoch, or with MODIFY changes only its guardian roles. -/
  | attach (w : WinId) (c : Cmd)
  /-- DETACH (R170). Starts detaching a context: its epoch advances, its windows are unbound, its commits are aborted and its events, timers and monitors are returned or cleared. -/
  | detach (w : WinId) (c : Cmd)
  /-- SEAL (R168). Checks the cross-head total with the context's full reservation and, if it fits, makes the context sealed. -/
  | seal (w : WinId) (c : Cmd)
  /-- BIND_WINDOW (R80). Binds chip select 1, 2 or 3 to an attached tenant, or unbinds it. -/
  | bindWindow (w : WinId) (c : Cmd)
  /-- PARTITION_SET (R176). Checks and sets a context's partition extent in 64 KiB granules and releases any granules it loses. -/
  | partitionSet (w : WinId) (c : Cmd)
  /-- TERRITORY_SET (R184). Sets or removes one territory rectangle and z-slot range of a context on a head, subject to overlap and admission checks. -/
  | territorySet (w : WinId) (c : Cmd)
  /-- COPY_IN (R182). DMA from host memory into the caller's partition in ascending address order. -/
  | copyIn (w : WinId) (c : Cmd)
  /-- COPY_OUT (R183). DMA from the caller's partition to host memory, completing when the last write TLP has been sent. -/
  | copyOut (w : WinId) (c : Cmd)
  /-- COMMIT (R266). Reads and checks a commit list and its descriptors, then submits it to the budget checker for acceptance. -/
  | commit (w : WinId) (c : Cmd)
  /-- COMMIT_ABORT (R139). Aborts the still-pending parts of one of the caller's commits if every pending part is still before its cut-off. -/
  | commitAbort (w : WinId) (c : Cmd)
  /-- COMMIT_CHECK (R277). Performs every check of a commit without changing anything and reports the result and the frames of application. -/
  | commitCheck (w : WinId) (c : Cmd)
  /-- RELIEF_FLUSH (R294). Marks DIRTY the Relief tiles of the runs that hold the caller's layers on the named heads. -/
  | reliefFlush (w : WinId) (c : Cmd)
  /-- PROTECT_LOAD (R304). Checks a protected content block and writes it into the head's shadow image. -/
  | protectLoad (w : WinId) (c : Cmd)
  /-- PROTECT_LOCK (R306). Checks a lock, holds the image apart, computes its expected value and waits for the boundary at which it takes effect. -/
  | protectLock (w : WinId) (c : Cmd)
  /-- PROTECT_RELEASE (R317). Ends a protected-layer lock at the next suitable frame boundary. -/
  | protectRelease (w : WinId) (c : Cmd)
  /-- HEAD_CONFIG (R322). Checks and copies on chip a head configuration block and its LUTs, for head A, B or E. -/
  | headConfig (w : WinId) (c : Cmd)
  /-- HEAD_START (R333). Powers, clocks, links and starts a configured continuous head, completing at its first frame boundary. -/
  | headStart (w : WinId) (c : Cmd)
  /-- HEAD_STOP (R334). Lets the current frame end, optionally runs discharge, and then stops the head. -/
  | headStop (w : WinId) (c : Cmd)
  /-- PANEL_POWER (R350). Runs a head's panel power-on or power-off sequence according to its panel state. -/
  | panelPower (w : WinId) (c : Cmd)
  /-- EPD_UPDATE (R401). Checks the canvas, samples temperature, raises the rails and plays balance and waveform phases to the bistable panel. -/
  | epdUpdate (w : WinId) (c : Cmd)
  /-- EPD_CLEAR (R407). Drives every bistable pixel to level 15 with balance phases and the CLEAR waveforms. -/
  | epdClear (w : WinId) (c : Cmd)
  /-- SEG_WRITE (R415). Stores segment pattern bytes into the inactive half of the segment RAM and sets PENDING. -/
  | segWrite (w : WinId) (c : Cmd)
  /-- SCAN (R461). Reads a scan descriptor and starts a Caliper memory, tap or ingest check-value operation. -/
  | scan (w : WinId) (c : Cmd)
  /-- SELFTEST (R467). Runs a known-answer or SRAM self-test in chunks on a Caliper unit. -/
  | selftest (w : WinId) (c : Cmd)
  /-- QUEUE_CONFIG (R230). Sets the weight of a fetch or egress queue. -/
  | queueConfig (w : WinId) (c : Cmd)
  /-- POLICER_CONFIG (R231). Sets a queue's two-bucket policer after the rate-sum and per-head checks. -/
  | policerConfig (w : WinId) (c : Cmd)
  /-- RELAY_CONFIG (R430). Checks and takes the relay port block, powering PD_LINK and starting or stopping the link. -/
  | relayConfig (w : WinId) (c : Cmd)
  /-- RELAY_STREAM (R437). Enables, reconfigures or disables a relay egress stream. -/
  | relayStream (w : WinId) (c : Cmd)
  /-- RELAY_INGEST (R443). Enables or disables a relay ingest stream and its buffers. -/
  | relayIngest (w : WinId) (c : Cmd)
  /-- MAQUETTE (R148). Starts a full snapshot of device state when a staging buffer is free. -/
  | maquette (w : WinId) (c : Cmd)
  /-- MAQUETTE_SHORT (R112). Replaces the context's 32-word short-form capture in one cycle and increments CAPTURES. -/
  | maquetteShort (w : WinId) (c : Cmd)
  /-- FAULT_CLEAR (R569). Empties the fault log and clears OVERFLOW in one cycle. -/
  | faultClear (w : WinId) (c : Cmd)
  /-- POWER_MODE (R530). Checks a mode request and its parameter block and changes between RUN and DIM or enters HOLD or OFF. -/
  | powerMode (w : WinId) (c : Cmd)
  /-- CLOCK_CONFIG (R371). Checks and loads a synthesizer configuration and starts its Bore toward lock. -/
  | clockConfig (w : WinId) (c : Cmd)
  /-- PHASE_STEP (R380). Takes a signed number of one-tap phase steps on a running synthesizer. -/
  | phaseStep (w : WinId) (c : Cmd)
  /-- EVT_ROUTE (R477). Sets the owner, target mask and priority of an event source from 128 to 287. -/
  | evtRoute (w : WinId) (c : Cmd)
  /-- MONITOR_BIND (R516). Binds a monitor channel to a probe, or unbinds it. -/
  | monitorBind (w : WinId) (c : Cmd)
  /-- COMMAND_DISPATCH (R130). A window's executor takes its oldest queued command once the previous one has completed and runs the checks of R135. -/
  | commandDispatch (w : WinId)
  /-- RESOURCE_GRANT (R144). A held lockable resource is released and granted to the oldest waiting command, which then continues. -/
  | resourceGrant (r : Resource)
  /-- BUDGET_CHECKER_SLOT (R143). In a context's 2 µs rotation slot the budget checker decides its oldest ready COMMIT, COMMIT_CHECK or SEAL. -/
  | budgetCheckerSlot
  /-- DETACH_DRAIN_COMPLETE (R170). When a detaching context's requests have drained, its record is cleared, its partition released and DETACH completes. -/
  | detachDrainComplete (n : CtxId)
  /-- MAQUETTE_QUIET_POINT (R148). At a budget-checker slot boundary the snapshot state is captured as it stands. -/
  | maquetteQuietPoint (w : WinId)
  /-- MAQUETTE_WRITTEN (R151). The Maquette writer has written the trailer through queue_134 and the command completes. -/
  | maquetteWritten (w : WinId)
  /-- WAIT_TIMEOUT (R573). A resource or engine wait exceeds 100 ms, so the command completes TIMEOUT and releases what it holds. -/
  | waitTimeout (x : Waiter)
  /-- WAITING_ALL_RELEASE (R576). After every active sequencer has waited 1 ms, the earliest waiter is released STALLED. -/
  | waitingAllRelease
  /-- CMD_ISSUE (R108). A CMD_ISSUE commit queues one command with the current arguments, or is refused when occupancy is 16. -/
  | cmdIssue (acc : WriteAccess)
  /-- CMD_STATUS_READ (R109). A read of CMD_STATUS pops the oldest completion and loads its result words. -/
  | cmdStatusRead (acc : ReadAccess)
  /-- HOST_LOW_HALF_READ (R85). A host-bus read of a register's low half returns bits [15:0] and loads the read-holding latch. -/
  | hostLowHalfRead (cs : ChipSelect) (off : RegOffset)
  /-- HOST_HIGH_HALF_READ (R86). A host-bus read of a high half returns the latch if tagged for that register, otherwise the live bits. -/
  | hostHighHalfRead (cs : ChipSelect) (off : RegOffset)
  /-- HOST_LOW_HALF_WRITE (R87). A host-bus write of a low half stores 16 bits in the write-holding latch without changing any register. -/
  | hostLowHalfWrite (cs : ChipSelect) (off : RegOffset) (v : HalfWord)
  /-- HOST_BUS_CONFLICT (R78). Several chip selects or both strobes asserted together perform no access. -/
  | hostBusConflict (strobes : HostStrobes)
  /-- REGISTER_WRITE (R6). A 32-bit write to a register with no row of its own stores its fields by access code. -/
  | registerWrite (off : RegOffset) (acc : WriteAccess)
  /-- BAR0_INVALID_TLP (R93). A BAR_0 TLP longer than one DWORD or with partial byte enables is discarded or answered with Unsupported Request. -/
  | bar0InvalidTlp (fn : FnId) (tlp : InvalidTlp)
  /-- MEM_WIN_DATA_READ (R90). A low-half or DWORD read of MEM_WIN_DATA reads memory at MEM_WIN_ADDR after the partition check. -/
  | memWinDataRead (acc : ReadAccess)
  /-- MEM_WIN_DATA_WRITE (R63). A committed MEM_WIN_DATA write enters the memory controller's write queue after the partition check. -/
  | memWinDataWrite (acc : WriteAccess)
  /-- BAR2_READ (R181). A PCIe read of BAR_2 reads partition memory, or returns zero outside the partition. -/
  | bar2Read (fn : FnId) (off : Nat) (len : Nat)
  /-- BAR2_WRITE (R181). A PCIe write of BAR_2 writes partition memory, or is discarded outside the partition. -/
  | bar2Write (fn : FnId) (off : Nat) (data : List Byte)
  /-- FAULT_LOG_DATA_READ (R122). Reads a word of a fault log entry, taking a window snapshot of the entry on word 0. -/
  | faultLogDataRead (acc : ReadAccess)
  /-- VEC_CLAIM (R116). A read claims the highest-priority owned pending enabled source into service at target 4. -/
  | vecClaim (acc : ReadAccess)
  /-- VEC_DONE (R487). A write ends the service of a source at a vector port or at own delivery. -/
  | vecDone (acc : WriteAccess)
  /-- EVT_PEND_WITHDRAW (R480). A write of 1 to EVT_PEND withdraws owned pending bits and clears their merge counters. -/
  | evtPendWithdraw (acc : WriteAccess)
  /-- MERGE_CLR (R479). EVT_CTL.MERGE_CLR clears the merge counter of the selected owned source. -/
  | mergeClr (acc : WriteAccess)
  /-- TIM_START (R119). Starts and stops the selected owned timer channels together. -/
  | timStart (acc : WriteAccess)
  /-- TIM_CTL_WRITE (R506). A TIM_CTL write sets a channel's mode, clock and actions, and starts or stops it. -/
  | timCtlWrite (acc : WriteAccess)
  /-- TIM_COUNT_WRITE (R505). A TIM_COUNT write sets the count at once, with no match or wrap. -/
  | timCountWrite (acc : WriteAccess)
  /-- TIM_PRESCALE_WRITE (R498). A TIM_PRESCALE write sets the divisor and clears the prescaler accumulator. -/
  | timPrescaleWrite (acc : WriteAccess)
  /-- MON_CLEAR (R120). MON_CTL.CLEAR resets the channel's minimum, maximum, counts, bins and sticky flags. -/
  | monClear (acc : WriteAccess)
  /-- DOORBELL_WRITE (R127). A nonzero OUT code rings the supervisor or a named tenant and raises its command-completion source. -/
  | doorbellWrite (acc : WriteAccess)
  /-- DOORBELL_READ (R127). A read of DOORBELL returns and clears the rung codes, in CTX_0 popping the oldest tenant entry. -/
  | doorbellRead (acc : ReadAccess)
  /-- HEARTBEAT_WRITE (R126). A committed HEARTBEAT write from CTX_0 is a heartbeat that restarts the timeout and cancels a pending fallback. -/
  | heartbeatWrite (acc : WriteAccess)
  /-- POWER_REQ_WRITE (R123). A POWER_REQ write with a changed MODE is a mode request as by POWER_MODE without a block. -/
  | powerReqWrite (acc : WriteAccess)
  /-- DRONE_SHADOW_TRANSFER (R62). The Drone domain takes a written Drone-register shadow through its handshake 2 to 3 µs after the write. -/
  | droneShadowTransfer (r : DroneShadow)
  /-- RESET_HEAD (R129). RESET_CTL resets head A or B, unless its protected layer is locked. -/
  | resetHead (acc : WriteAccess) (h : ContHead)
  /-- RESET_HEAD_E (R404). RESET_CTL resets head E, stopping any drive and leaving the engine idle with rails down. -/
  | resetHeadE (acc : WriteAccess)
  /-- RESET_RELAY_PORT (R453). RESET_CTL resets the relay port, dropping frames and disabling every stream. -/
  | resetRelayPort (acc : WriteAccess)
  /-- RESET_CAL (R472). RESET_CTL resets a Caliper unit, aborting its operation and advancing its epoch. -/
  | resetCal (acc : WriteAccess) (u : CalId)
  /-- RESET_SEGMENT_DRIVER (R423). RESET_CTL stops the segment driver and returns its record and RAM to reset. -/
  | resetSegmentDriver (acc : WriteAccess)
  /-- RESET_TIMERS (R512). RESET_CTL returns TIM_0 to TIM_11 to their reset values except owner and backlight channels. -/
  | resetTimers (acc : WriteAccess)
  /-- VF_FUNCTION_LEVEL_RESET (R170). A function-level reset of VF_n is a DETACH of CTX_n issued by the device itself. -/
  | vfFunctionLevelReset (n : CtxId)
  /-- VF_ENABLE_CLEAR (R172). Clearing VF Enable or lowering NumVFs resets every VF that ceases to exist and detaches its context. -/
  | vfEnableClear (enable : Bool) (numVfs : Nat)
  /-- PF_FUNCTION_LEVEL_RESET (R52). A PF function-level reset aborts the PF window's queued commands and disables its MSI-X. -/
  | pfFunctionLevelReset
  /-- PE_PERST (R590). PE_PERST_N low for 100 µs is a fundamental reset of the PCIe endpoint. -/
  | pePerst
  /-- PCIE_HOT_RESET (R536). A hot reset or link disable signalled by the host resets the PF and clears VF Enable. -/
  | pcieHotReset
  /-- MSIX_VECTOR_UNMASK (R489). When a masked MSI-X vector is unmasked with its set non-empty, its message is sent. -/
  | msixVectorUnmask (fn : FnId) (v : VectorId)
  /-- COLD_RESET (R543). POR_N or RESET_N held low resets every block and starts start-up at reset release. -/
  | coldReset (straps : Straps)
  /-- BROWN_OUT (R585). A monitored supply below its threshold for t_MON causes a cold reset. -/
  | brownOut (supply : Supply) (straps : Straps)
  /-- REGISTER_FILE_READY (R99). Within 2 ms of reset release the register file becomes ready and ID readable. -/
  | registerFileReady
  /-- BOOT_IMAGE_VALIDATION (R553). The boot loader reads SFDP and streams the primary, then the alternate, image through CAL_0 to decide validity. -/
  | bootImageValidation (flash : FlashRead)
  /-- MEMORY_TRAINING (R191). Training of the LP4 memory ends in pass, setting DRAM_READY, or after three failures in MEM_TRAIN. -/
  | memoryTraining (r : TrainingResult)
  /-- BOOT_IMAGE_APPLY (R557). The boot loader loads and applies the image sections in order and hands step 7 to the head sequencers. -/
  | bootImageApply (recheck : Option Nat)
  /-- WAKE_REQUEST (R537). An enabled wake source in HOLD or OFF begins exit. -/
  | wakeRequest (src : WakeSource)
  /-- HOST_BUS_WAKE (R101). A 2 µs assertion of HB_CS_N_0 while PD_HOST is off is a wake request. -/
  | hostBusWake
  /-- POWER_STEP_WAIT_TIMEOUT (R541). A WAIT_PIN of a power step list reaches its timeout. -/
  | powerStepWaitTimeout
  /-- CLK_LOSS (R74). The Drone domain detects loss of XTAL_IN, logs CLK_LOSS and the synthesizers gate. -/
  | clkLoss (pll : Bool)
  /-- XTAL_RETURN (R580). XTAL_IN returns and the system PLL relocks, followed by a calibration before memory grants resume. -/
  | xtalReturn
  /-- BORE_LOCK (R366). A Bore's phase error stays within ±W for N cycles, so it is locked and its output may start. -/
  | boreLock (y : SynId)
  /-- SYN_LOSS (R376). A locked Bore loses lock or reference, setting SYN_LOST and gating a running output. -/
  | synLoss (y : SynId) (reference : Bool)
  /-- CALIBRATION_DUE (R203). Every T_CI a periodic calibration falls due and runs at the first qualifying instant. -/
  | calibrationDue
  /-- FORCED_CALIBRATION (R203). A due calibration with no qualifying instant within 8 × T_CI runs at once. -/
  | forcedCalibration
  /-- MR4_POLL (R206). Every 16 ms mode register 4 is read and refresh rates set, with MEM_HOT on high temperature. -/
  | mr4Poll (r : Mr4Values)
  /-- DRAM_SCRUB (R208). Every 2 ms one 256-byte block is read for scrub. -/
  | dramScrub
  /-- SRAM_SCRUB (R210). Every 50 µs one on-chip SRAM word is read, checked and corrected. -/
  | sramScrub (r : ScrubOutcome)
  /-- TOKEN_CREDIT (R219). Every 1 µs each queue's buckets are credited with CIR and PIR. -/
  | tokenCredit
  /-- SCHEDULER_GRANT (R223). The fetch scheduler grants the waiting request with the smallest finish tag in the committed, then the excess, tier. -/
  | schedulerGrant
  /-- MEMORY_READ_RETURN (R198). Read data returns from memory, with ECC correction or uncorrectable-error handling and epoch checking. -/
  | memoryReadReturn (ch : Channel) (r : ReadOutcome)
  /-- SEALED_RELEASE (R227). At a sealed request's release time its read data is delivered and the grant counted. -/
  | sealedRelease (q : QueueId)
  /-- QUEUE_SAMPLE (R234). Every 1 µs each queue's depth and largest delay are sampled for monitors. -/
  | queueSample
  /-- LINE_START (R279). At each line start of a continuous head the requests of line y + 3 enter the queues and line events fire. -/
  | lineStart (h : ContHead)
  /-- LINE_COMPOSED (R279). Composition of a line completes once its fetch data has arrived and is written to the line store. -/
  | lineComposed (h : ContHead)
  /-- SHED (R280). With lead below one line and composition waiting on fetch, the lowest-ranked visible layer is shed. -/
  | shed (h : ContHead)
  /-- VERTICAL_BLANK (R239). At line VACTIVE the vertical blank source fires and I8 palettes load. -/
  | verticalBlank (h : ContHead)
  /-- FRAME_BOUNDARY (R273). At line 0 FRAME increments and all pending parts, locks, releases, live changes and shed restorations apply together. -/
  | frameBoundary (h : ContHead)
  /-- PROTECTED_CHECK (R312). When the tap passes the protected rectangle's last line, the check value is compared with the expected value. -/
  | protectedCheck (h : ContHead)
  /-- WRITEBACK_FRAME_COMPLETE (R337). The last row of a writeback frame is written and its record marked complete. -/
  | writebackFrameComplete (h : ContHead)
  /-- WRITEBACK_ABANDON (R73). A full writeback queue abandons the frame's writeback and counts a drop. -/
  | writebackAbandon (h : ContHead)
  /-- FSYNC_IN_EDGE (R338). An edge of FSYNC_IN is a genlock reference event. -/
  | fsyncInEdge (t : Nat)
  /-- HPD_PULSE (R330). An HPD low pulse is ignored, an IRQ_HPD, or a lost link by its length. -/
  | hpdPulse (h : ContHead) (us : Nat) (locked : Bool)
  /-- LINK_RETRAIN (R330). Once per second while HPD is high, training of an untrained or lost link is attempted. -/
  | linkRetrain (h : HpdLook)
  /-- PANEL_SEQUENCE_STEP (R348). After a step's DELAY ends, the next panel sequence step is taken. -/
  | panelSequenceStep (h : ContHead)
  /-- WAIT_PIN_LEVEL (R348). A WAIT_PIN target is sampled at its level and the step completes. -/
  | waitPinLevel (h : ContHead)
  /-- WAIT_PIN_TIMEOUT (R361). A WAIT_PIN reaches its TIMEOUT, so the sequence is reversed and PANEL_SEQ logged. -/
  | waitPinTimeout (h : ContHead)
  /-- CANVAS_COMPOSED (R389). CP_E finishes the E canvas, records its check value and raises canvas composed. -/
  | canvasComposed
  /-- RAIL_POWER_GOOD (R398). A bistable rail reaches power-good and, after GAP_UP, the next rail is enabled. -/
  | railPowerGood (r : RailId)
  /-- RAIL_PG_TIMEOUT (R398). A rail fails to reach power-good within PG_TO and power-up fails. -/
  | railPgTimeout (r : RailId)
  /-- RAIL_FAULT (R400). A rail leaves power-good for over 10 µs while up, interrupting any drive. -/
  | railFault (r : RailId)
  /-- RAILS_DOWN (R399). The last rail's GAP_DOWN ends, E_RAILS clears and rails down is raised. -/
  | railsDown
  /-- EPD_PHASE_START (R397). A new bistable phase starts PHASE_US after the last, or when an overrunning phase ends. -/
  | epdPhaseStart
  /-- EPD_ROW_PERIOD (R396). A row period shifts, latches and drives one row once its data is in the engine. -/
  | epdRowPeriod
  /-- LEDGER_CHECK (R406). Every 10 minutes while idle the ledger block CRCs are checked and failures repaired. -/
  | ledgerCheck
  /-- SEGMENT_FRAME_START (R416). At a segment frame start pending halves swap and a pending record applies. -/
  | segmentFrameStart
  /-- COMMON_PERIOD_END (R414). A common period ends after its negative phase and a new VLCD target may take effect. -/
  | commonPeriodEnd
  /-- CONTRAST_SAMPLE (R417). The ADC measures VLCD, recomputes the target and checks for a VLCD fault. -/
  | contrastSample (mv : Nat)
  /-- TEMP_REFRESH (R420). Every t_REF the die sensor and THERM_IN are converted and TEMP updated. -/
  | tempRefresh (die : HalfWord) (therm : BitVec 12)
  /-- BISTABLE_TEMPERATURE_SAMPLE (R420). The ADC completes the 16-conversion temperature sample for an update. -/
  | bistableTemperatureSample (code : BitVec 12)
  /-- ADC_REQUEST_LATE (R421). An ADC request waits more than 10 ms and raises source 182. -/
  | adcRequestLate (u : AdcUser)
  /-- VLCD_REACHED (R422). VLCD comes within 5 % of target and the first segment frame starts. -/
  | vlcdReached
  /-- VLCD_START_TIMEOUT (R422). VLCD not in range after t_VF: the start fails and the pump stops. -/
  | vlcdStartTimeout (mv : Nat)
  /-- PHY_POLL (R427). Every 100 ms the PHY status registers are read over MDIO and link state updated. -/
  | phyPoll (r : PhyStatus)
  /-- EGRESS_FRAME_RELEASE (R433). An egress queue's head slice frame is granted and released to the ETX queue. -/
  | egressFrameRelease
  /-- ETHERNET_FRAME_RECEIVED (R444). A received frame is checked as a slice for an ingest stream and its pixels written. -/
  | ethernetFrameReceived (f : RxFrame)
  /-- INGEST_STALE (R447). STALE_MS pass without a complete frame and the stream becomes stale. -/
  | ingestStale (g : IngestId)
  /-- CALIPER_OPERATION_END (R470). A Caliper operation ends and its result, MATCH and DONE are set together. -/
  | caliperOperationEnd (u : CalId)
  /-- SELFTEST_CHUNK (R468). A self-test chunk completes and the test continues, yields or ends. -/
  | selftestChunk (u : CalId) (r : ChunkResult)
  /-- TILE_FLATTEN (R288). CP_E finishes flattening a Relief tile, storing it or marking it UNUSABLE. -/
  | tileFlatten (h : ContHead)
  /-- EXTINT_EDGE (R482). A filtered rising edge of an EXTINT pin raises its source. -/
  | extintEdge (p : PinId)
  /-- VP_ACK_RECOGNIZED (R485). An acknowledge is recognized and answered with the claimed source's vector or 511. -/
  | vpAckRecognized (p : PortId)
  /-- VP_ACK_RELEASE (R486). VP_ACK_N rises, VEC is released and a waiting acknowledge may be answered. -/
  | vpAckRelease (p : PortId)
  /-- TIMER_TICK (R499). A prescaler tick takes one counting step with compares, wraps and output actions. -/
  | timerTick (t : TimerId)
  /-- HEARTBEAT_LAPSE (R161). The heartbeat timeout expires without a write and the lapse is raised and logged. -/
  | heartbeatLapse
  /-- FALLBACK_SUBMISSION (R162). The second timeout expires and the fallback commit set is submitted. -/
  | fallbackSubmission
  /-- PCIE_COMPLETION_RECEIVED (R183). A completion TLP from the host arrives for a COPY_IN read request, carrying data or an error completion. -/
  | pcieCompletionReceived (w : WinId) (r : PcieCompletion)
  /-- BUS_MASTER_ENABLE_CLEAR (R183). The host clears Bus Master Enable of a function during a COPY_IN or COPY_OUT, which then completes INCOMPLETE. -/
  | busMasterEnableClear (fn : FnId)
  /-- VF_ENABLE_SET (R180). The host sets VF Enable or raises NumVFs, bringing virtual functions into existence. -/
  | vfEnableSet (ari : Bool) (numVfs : Nat)
  /-- LINK_PLL_LOCK (R333). A head's link PLL reaches lock within t_LPL, setting LCLK_LOCK and letting HEAD_START go on to the serializer or training. -/
  | linkPllLock (h : ContHead)
  /-- LINK_TRAINING_END (R329). An eDP training attempt ends in success, setting x_LINK and raising link up, or in failure after t_LT. -/
  | linkTrainingEnd (h : ContHead) (r : TrainingEnd)
  /-- HPD_WAIT_TIMEOUT (R333). HEAD_START's wait of t_HPD for HPD high expires and the head starts without a trained link. -/
  | hpdWaitTimeout (h : ContHead)
  /-- EXPECTED_VALUE_COMPLETE (R308). The expected-value computation of a PROTECT_LOCK ends, so the lock takes effect at once on a stopped head or at the next qualifying boundary. -/
  | expectedValueComplete (h : ContHead)
  /-- LAST_PHASE_STEP_TAKEN (R380). The last of PHASE_STEP's steps is taken at a rising edge, one per 16 output periods, and the command completes OK. -/
  | lastPhaseStepTaken (y : SynId)
  /-- XTAL32_LOSS (R57). The 32.768 kHz crystal stops, XTAL32_OK clears, Drone time counts the untrimmed RC oscillator and timers on that clock stop counting. -/
  | xtal32Loss
  /-- XTAL32_RETURN (R57). The 32.768 kHz crystal starts again, XTAL32_OK sets and Drone time is trimmed against it again. -/
  | xtal32Return
  /-- NEGATIVE_PHASE_START (R413). After t_PH of a common period's positive phase, every COM and SEG pin moves to its negative-phase level. -/
  | negativePhaseStart
  /-- JTAG_TCK_EDGE (R597). A TCK edge advances the IEEE 1149.1 TAP, which may drive pins under EXTEST. -/
  | jtagTckEdge (e : TckEdge)
deriving DecidableEq, Repr

end Sys2Proof
end

