-- ==== Sys2Proof/Config.lean ====
section
/-! DEFINITION. What an implementation fixes and the spec leaves open: free values without a body, taken by the count
`State.free` of free values taken so far. -/
namespace Sys2Proof

/-- The pool entry a placed descriptor takes among the free entries of its slot, as an index into the list of free
entries (R236 says that it takes one, not which). -/
opaque Config.poolChoice : Nat → Nat

/-- A latency in clock cycles that a monitor probe measures and the model does not time (Table 24-1, probes
DRAM_LATENCY and EVU_LATENCY). -/
opaque Config.latency : Nat → Word

/-- How far below its value at the end of a line the line lead was at its lowest in that line, in 1/256 line, where lines
were completed in it (Table 24-1, probe LINE_LEAD): the model does not time the completions. -/
opaque Config.lineLead : Nat → Nat

/-- How many pixels of a line whose composition is not complete are composed when its scan begins (R32). -/
opaque Config.pixelsReady : Nat → Nat

/-- How many 256-byte chunks a self-test of the line stores, the bistable caches, the maps or the staging buffers has
beyond the first (21.7 gives no size for these): by the target, at most 8 192. -/
opaque Config.selftestChunks : Nat → Nat

/-- How many steps of a PHASE_STEP a synthesizer has taken when its output gates (R380), taken modulo the number
asked for. -/
opaque Config.stepsTaken : Nat → Nat

/-- Whether the power sequencer holds the ADC to supervise VIN_BOOST while it brings PD_EPD up for a bistable command
(R420 says that it may; 27.4 shows it). -/
opaque Config.adcHold : Nat → Bool

/-- The level of a canvas pixel that CP_E composes from bytes with an uncorrectable memory error (the spec gives none):
by the count and the pixel's number. -/
opaque Config.canvasLevel : Nat → Nat → Nat

/-- A byte that a slice carries of a writeback word with an uncorrectable memory error (the spec gives none): by the count
and the byte's number in its row. -/
opaque Config.relayByte : Nat → Nat → Byte

/-- How many bytes of a snapshot are in memory when the command that writes it is aborted (07.8). -/
opaque Config.maquetteWritten : Nat → Nat

/-- Whether a HEARTBEAT write that is on its way to the Drone domain takes effect in the very Drone cycle in which the second
timeout expires (R163): the model does not time the handshake to a cycle. -/
opaque Config.sameDroneCycle : Nat → Bool

/-- The identifier assigned to the manufacturer by the PCI-SIG (R180: as read from configuration space). -/
opaque Config.vendorId : BitVec 16

/-- TX_OFFSET of a FIRST slice in ns (R450): the model does not time the release to 1 ns. -/
opaque Config.txOffset : Nat → Word

/-- The word of the protected store at which the live image of head A (0) or B (1) starts: the spec gives the allotments
no places in the store. -/
opaque Config.protPlace : Nat → Nat

/-- The level sensed at a GPIO that the block does not drive, where a WAIT_PIN of a power step list looks at it. -/
opaque Config.pinLevel : Nat → Bool

/-- The length of the JTAG instruction register, the bits beyond the two lowest that it captures, and the codes it
gives its instructions: 0 BYPASS, 1 SAMPLE/PRELOAD, 2 EXTEST, 3 IDCODE (R597 gives none of these). -/
opaque Config.irLength : Nat
opaque Config.irCapture : Nat → Bool
opaque Config.irCode : List Bool → Fin 4

/-- The manufacturer identity in the IDCODE (R597: as read from the device). -/
opaque Config.manufacturer : BitVec 11

/-- The length of the boundary-scan register, and the levels it captures, by the count and the cell. -/
opaque Config.boundaryLength : Nat
opaque Config.boundaryLevel : Nat → Nat → Bool

end Sys2Proof
end

