-- ==== Sys2Proof/Machine/State.lean ====
section
/-! DEFINITION. What the OL640 holds: every register, queue, buffer, counter and mode of the spec, as plain data, with
the machine right after reset. -/
namespace Sys2Proof.Machine

/-- The block stops on no command of its table (NOTES.md, Stops). -/
inductive Fault where
  /-- Raised by no meaning: the spec gives every command of the table an effect. Safe. -/
  | none_
deriving DecidableEq, Repr

/-- Why a command has no meaning. -/
inductive Refusal where
  /-- Raised by `exec` for a row whose meaning is not written yet. Safe. -/
  | notModelled (mnemonic : String)
deriving DecidableEq, Repr

/-- The status codes of Table 06-1, in the table's order. -/
inductive Code where
  | ok | queued | denied | badArg | outOfPartition | rejected | aborted | timeout | stalled | incomplete | locked
  | noResource | busy
deriving DecidableEq, Repr

/-- A rectangle and z-slot range of a context on one head (08.8). -/
structure Territory where
  x : Nat
  y : Nat
  w : Nat
  h : Nat
  zlo : Nat
  zhi : Nat
  overlap : Bool
deriving DecidableEq, Repr

/-- The four territory entries of a context on one head. -/
abbrev Terrs := Vector (Option Territory) 4

/-- The pixel formats of Table 11-2. -/
inductive Format where
  | argb8888 | xrgb8888 | rgb888 | rgb565 | argb4444 | a8 | i8 | nv12 | ycbcr422
deriving DecidableEq, Repr

/-- The fields of a layer descriptor (Table 11-1), as the pool copy holds them. Plane bases are byte offsets from the
start of the address space `LayerSource` names. -/
structure Desc where
  format : Format
  rot : Fin 4
  hflip : Bool
  vflip : Bool
  tiled : Bool
  csc : Nat
  premult : Bool
  static_ : Bool
  relay : Option IngestId
  /-- The plane bases count from the start of device space: a layer of the boot image (R557). -/
  boot : Bool
  constAlpha : Nat
  shedRank : Nat
  slot : SlotId
  base0 : Nat
  base1 : Nat
  stride0 : Nat
  stride1 : Nat
  srcW : Nat
  srcH : Nat
  srcX : Nat
  srcY : Nat
  w : Nat
  h : Nat
  dstX : Int
  dstY : Int
  colour : Word
  m : Vector Int 9
  off : Vector Int 3
deriving DecidableEq, Repr

/-- An applied layer: the pool copy, the context and commit that placed it, and its pool entry (R236). -/
structure Layer where
  desc : Desc
  ctx : CtxId
  commitId : BitVec 16
  pool : Nat
deriving DecidableEq, Repr

/-- One entry of an accepted commit: a descriptor copied to a pool entry, or a cleared slot (Table 12-1). -/
inductive SlotOp where
  | place (z : SlotId) (d : Desc) (pool : Nat)
  | clear (z : SlotId)
deriving DecidableEq, Repr

/-- The part of a commit for one head: the boundary fixed at acceptance, none while the head is stopped (R275). -/
structure CommitPart where
  head : HeadId
  boundary : Option Nat
  ops : List SlotOp
deriving DecidableEq, Repr

/-- An accepted, unapplied commit with the parts that are still pending (R264). -/
structure PendingCommit where
  ctx : CtxId
  id : BitVec 16
  parts : List CommitPart
  joint : Bool
  fallback : Bool
  listOff : Nat
  entries : Nat
  /-- FCLK time of acceptance (probe COMMIT_LATENCY). -/
  acceptedAt : Nat
deriving DecidableEq, Repr

/-- What the COMMIT section of a Maquette shows of a context's last applied commit on one head. -/
structure AppliedCommit where
  id : BitVec 16
  frame : Option Nat
  joint : Bool
  fallback : Bool
  listOff : Nat
  entries : Nat
deriving DecidableEq, Repr

/-- The four states of a context (08.1). -/
inductive CtxStatus where
  | unattached | shared | sealed | detaching
deriving DecidableEq, Repr

/-- A context's record (Table 08-1) and its context-scoped registers (Table 05-1). -/
structure Ctx where
  st : CtxStatus
  epoch : BitVec 16
  partBase : Nat
  partSize : Nat
  terr : Vector Terrs 3
  terrShown : Vector Terrs 3
  terrNext : Vector (List (Option Nat × Terrs)) 3
  guardA : Bool
  guardB : Bool
  gen : DWord
  captures : Byte
  capture : Vector Word 32
  doorIn : Byte
  commitId : BitVec 16
  appliedId : BitVec 16
  appliedHead : BitVec 2
  appliedFrame : Byte
  lastApplied : Vector (Option AppliedCommit) 3
  /-- The window whose DETACH is draining, when one is (R170). -/
  detachBy : Option WinId
deriving DecidableEq, Repr

/-- A command in a window's queue, with its place in CMD_ISSUE order (R144). -/
structure QEntry where
  op : Byte
  cmd : Cmd
  order : Nat
deriving DecidableEq, Repr

/-- A completion waiting to be popped (R131). -/
structure Completion where
  tag : Byte
  code : Code
  q0 : Word
  q1 : Word
deriving DecidableEq, Repr

/-- The checked list of a COMMIT or COMMIT_CHECK that is ready for its budget-checker slot (R143). -/
structure CommitReq where
  check : Bool
  joint : Bool
  fallback : Bool
  listOff : Nat
  entries : Nat
  /-- The entries in list order: head, slot, and the descriptor bytes of a place entry. -/
  list : List (HeadId × SlotId × Option (List Byte))
  /-- A commit of the boot image: where its section stands in device space (R557, R559). -/
  boot : Option Nat
deriving DecidableEq, Repr

/-- A COPY_IN or COPY_OUT in progress (R182): the host address and partition offset of the next byte to ask for, how
many bytes are still to be asked for, how many are asked for and not yet moved, and how many are moved. -/
structure Copy where
  out : Bool
  host : Nat
  off : Nat
  toAsk : Nat
  asked : Nat
  moved : Nat
  total : Nat
deriving DecidableEq, Repr

/-- Where the executor of a window stands with its command. -/
inductive Phase where
  /-- It waits for the first resource of the list, and then takes the others (R142). -/
  | acquire (rest : List Resource)
  /-- It waits for its context's slot of the budget checker (R143). -/
  | budget (r : CommitReq)
  /-- A SEAL that waits for its context's slot. -/
  | budgetSeal
  /-- A DETACH that drains (Table 08-2, step 6). -/
  | drain
  /-- A COPY_IN or COPY_OUT that moves data. -/
  | copy (c : Copy)
  /-- A MAQUETTE that waits for a staging buffer, for its quiet point, or for its snapshot to be written. -/
  | maqStage
  | maqQuiet
  | maqWrite
  /-- A PROTECT_LOCK whose expected value is being computed, or that waits for its boundary (R308). -/
  | lockExpected (h : ContHead)
  | lockBoundary (h : ContHead) (frame : Nat)
  /-- A PROTECT_RELEASE that waits for its boundary (R317). -/
  | releaseBoundary (h : ContHead) (frame : Nat)
  /-- A HEAD_START or HEAD_STOP carried out by the head sequencer. -/
  | headStart (h : ContHead)
  | headStop (h : ContHead)
  /-- A PANEL_POWER whose sequence runs. -/
  | panel (h : ContHead)
  /-- An EPD_UPDATE or EPD_CLEAR carried out by the bistable update sequencer. -/
  | epd
  /-- It waits for the first Caliper unit that becomes free (21.7, 21.10). -/
  | anyCal
  /-- A SCAN or SELFTEST on a Caliper unit. -/
  | caliper (u : CalId)
  /-- A POWER_MODE to HOLD or OFF that the power sequencer carries out. -/
  | power
  /-- A CLOCK_CONFIG that waits for lock, and a PHASE_STEP whose steps are being taken. -/
  | clockLock (y : SynId)
  | phaseSteps (y : SynId)
deriving DecidableEq, Repr

/-- The command a window's executor has taken. -/
structure Exec where
  entry : QEntry
  ctx : CtxId
  epoch : BitVec 16
  phase : Phase
  /-- The binding ended: the completion is discarded (R82, R145). -/
  discard : Bool
  /-- When its present wait began, in the order of waits (R576). -/
  since : Nat
deriving DecidableEq, Repr

/-- A window: its two holding latches, its window-scoped registers and its command queue. -/
structure Window where
  readLatch : Option (RegOffset × HalfWord)
  writeLatch : Option (RegOffset × HalfWord)
  halfErr : Bool
  mwStatus : BitVec 3
  issueRefused : Bool
  scratch : Word
  args : Vector Word 4
  result0 : Word
  result1 : Word
  queue : List QEntry
  exec : Option Exec
  done : List Completion
  issued : HalfWord
  completed : HalfWord
  sumIndex : BitVec 5
  sumAuto : Bool
  mwAddr : Word
  evtGroup : BitVec 4
  evtPort : BitVec 2
  mergeSel : BitVec 9
  timSel : TimerId
  monSel : MonId
  histItem : BitVec 5
  histAuto : Bool
  calSel : CalId
  cursor : Byte
  snapshot : Option (BitVec 6 × Vector Word 4)
deriving DecidableEq, Repr

/-- Who holds a lockable resource. -/
inductive Holder where
  | window (w : WinId)
  | powerSeq
  | bootLoader
  | headSeq (h : ContHead)
deriving DecidableEq, Repr

/-- Where a command that the power sequencer or the boot loader runs on a head stands. -/
inductive AutoPhase where
  /-- It waits for the first resource of the list, and then takes the others. -/
  | waiting (rest : List Resource)
  | running
deriving DecidableEq, Repr

/-- A HEAD_START or PANEL_POWER ON without a window: of step 7 of Table 26-6, or of a wake (R538, R561). -/
structure Auto where
  head : ContHead
  start : Bool
  wake : Bool
  phase : AutoPhase
  /-- When its present wait began, in the order of waits (R576). -/
  since : Nat
deriving DecidableEq, Repr

/-- The command port: bindings of CS1 to CS3, resources, and the CMD_ISSUE order. -/
structure Port where
  csBound : Vector (Option CtxId) 3
  csLock : BitVec 3
  freeze : Bool
  held : List (Resource × Holder)
  nextOrder : Nat
  nextWait : Nat
  budgetCtx : CtxId
  deviceGen : DWord
  resetRefused : Bool
  /-- The supervisor's doorbell queue: one entry per ringing tenant, oldest first (R127). -/
  doorQueue : List (CtxId × Byte)
  /-- The two staging buffers of the Maquette writer, in the order their commands started (R150). -/
  staging : List (WinId × Option (List Byte))
  /-- The fallback commits that wait for CTX_0's budget-checker slots, with their instance numbers (R162). -/
  fallbackQueue : List (Nat × CommitReq)
  /-- Commands without a window, in the order in which they run. -/
  auto : List Auto
deriving DecidableEq, Repr

/-- One EVU source (22.1): its delivery state, its service at VP_0 to VP_3 and at own delivery, and the Drone domain's
latch and count for it (R493). -/
structure Source where
  pending : Bool
  enable : Bool
  merge : Byte
  owner : CtxId
  prio : BitVec 4
  mask : BitVec 4
  service : BitVec 5
  droneLatch : Bool
  droneCount : Byte
deriving DecidableEq, Repr

/-- A vector port: VEC_BASE and its handshake (Table 22-3). -/
structure VPort where
  base : BitVec 16
  stride : BitVec 2
  thresh : BitVec 4
  en : Bool
  /-- An acknowledge is recognized and waits for VEC (R486). -/
  waiting : Bool
deriving DecidableEq, Repr

/-- An entry of the pin record (Table 22-2). -/
structure PinEntry where
  filterN : Byte
  filterClk : Bool
  invert : Bool
deriving DecidableEq, Repr

/-- The Event and Vector Unit. -/
structure Evu where
  src : Vector Source 288
  hold : Bool
  port : Vector VPort 4
  /-- The port that VEC answers and the value driven on VEC[15:0]. -/
  vec : Option (PortId × HalfWord)
  pin : Vector PinEntry 16
deriving DecidableEq, Repr

/-- One MSI-X table entry with its pending bit. -/
structure MsixEntry where
  addrLo : Word
  addrHi : Word
  data : Word
  control : Word
  pba : Bool
deriving DecidableEq, Repr

/-- A TLP the endpoint sends. -/
inductive Tlp where
  | completion (fn : FnId) (data : List Byte) (poisoned : Bool)
  | unsupportedRequest (fn : FnId)
  | msix (fn : FnId) (v : VectorId) (addr : DWord) (data : Word)
  | memRead (fn : FnId) (addr : Nat) (len : Nat)
  | memWrite (fn : FnId) (addr : Nat) (data : List Byte)
deriving DecidableEq, Repr

/-- One PCIe function's configuration that the block's rules read. -/
structure Function where
  busMaster : Bool
  msixEnable : Bool
  msixMask : Bool
  /-- Max_Payload_Size and Max_Read_Request_Size in bytes (R180). -/
  maxPayload : Nat
  maxRead : Nat
  msix : Vector MsixEntry 8
deriving DecidableEq, Repr

/-- The PCIe endpoint: link, SR-IOV capability, functions, and the TLPs it has sent, oldest first. -/
structure Pcie where
  linkUp : Bool
  refclk : Bool
  vfEnable : Bool
  numVfs : Nat
  ari : Bool
  fn : Vector Function 64
  sent : List Tlp
  /-- Host reads of COPY_IN commands that ended before their data came, oldest first: window, context and epoch (R173,
  R174). -/
  late : List (WinId × CtxId × BitVec 16)
deriving DecidableEq, Repr

/-- A fault log entry (Table 27-1). -/
structure FaultEntry where
  time : DWord
  code : Byte
  unit_ : Byte
  ctx : Option CtxId
  cls : BitVec 2
  arg : Word
deriving DecidableEq, Repr

/-- The sticky bits [19:12] of FAULT_SUMMARY (Table 05-25). -/
structure Seen where
  shed : Bool
  underrun : Bool
  mismatch : Bool
  stall : Bool
  clkLoss : Bool
  ecc : Bool
  lapse : Bool
  therm : Bool
deriving DecidableEq, Repr

/-- The fault log and what the Drone domain holds for it (27.1). -/
structure FaultLog where
  entries : List FaultEntry
  overflow : Bool
  seen : Seen
  bootFault : Bool
  held : List FaultEntry
  heldOverflow : Bool
  /-- THERM_LIMIT may be written again (R571). -/
  thermArmed : Bool
deriving DecidableEq, Repr

/-- A released extent of granules that awaits zeroing: what its zeroing still waits for (Table 08-2, steps 7 and 8),
and the next byte to zero. -/
structure Released where
  first : Nat
  count : Nat
  waitA : Bool
  waitB : Bool
  waitE : Bool
  next : Nat
deriving DecidableEq, Repr

/-- The memory configuration section the boot loader took, or its absence (R192). -/
structure MemConfig where
  rate : Nat
  ecc : Bool
  deliverable : Nat
deriving DecidableEq, Repr

/-- The memory controller. -/
structure MemCtl where
  cfg : Option MemConfig
  rate : Nat
  ecc : Bool
  sizeCode : Nat
  ranks : Nat
  ready : Bool
  selfRefresh : Bool
  saved : Bool
  resetN : Bool
  deliverable : Nat
  calDue : Bool
  forcedCount : Word
  mr4 : Vector Byte 4
  hot : Vector Bool 4
  /-- The 8-byte words that hold an uncorrectable error, by address divided by 8. -/
  badWords : List Nat
  lastCe : Option Nat
  scrubNext : Nat
  sramNext : Nat
  released : List Released
deriving DecidableEq, Repr

/-- The policer and weight of a queue (Table 10-2). -/
structure Policer where
  weight : Nat
  cir : Nat
  cbs : Nat
  pir : Nat
  pbs : Nat
deriving DecidableEq, Repr

/-- What a memory request is made for. -/
inductive ReqKind where
  /-- Source bytes of the layer in a slot for display lines `first` to `last` of a frame (R250, R251). -/
  | pixel (h : ContHead) (z : SlotId) (frame first last : Nat)
  /-- Palette bytes from offset `off` on, for a frame (R239). -/
  | palette (h : ContHead) (z : SlotId) (frame off : Nat)
  /-- Source bytes of a member for the `n`-th flattening (R288). -/
  | flatten (n : Nat)
  | scrub
  | correct
  | zero
  | scan (u : CalId) (epoch : Nat)
  /-- Of the COPY_OUT that window `w` issued in place `order` of CMD_ISSUE order. -/
  | copyRead (w : WinId) (order : Nat)
  | copyWrite (w : WinId) (data : List Byte)
  /-- The list or a descriptor of the COMMIT or COMMIT_CHECK that window `w` issued in place `order` (R262). -/
  | commit (w : WinId) (order : Nat)
  /-- Of an access that its own row carries out whole: memory has been read or written when it enters the queue. -/
  | access (write : Bool)
  /-- The same of the boot loader, a requester of its own (R179). -/
  | boot (write : Bool)
deriving DecidableEq, Repr

/-- A memory request (R217), with the context and epoch it is made for (R173). -/
structure Request where
  kind : ReqKind
  ctx : CtxId
  epoch : BitVec 16
  addr : Nat
  len : Nat
  entered : Nat
  /-- The release time of R227 on a sealed queue, fixed when the request becomes committed class. -/
  release : Option Nat
deriving DecidableEq, Repr

/-- A granted read whose data is delivered in grant order (R216), on a sealed queue at its release time (R227); `due` once
its data is late (R229). -/
structure Held where
  req : Request
  data : Option (List Byte × ReadOutcome)
  due : Bool
deriving DecidableEq, Repr

/-- A fetch queue. -/
structure Queue where
  pol : Policer
  polNext : Option Policer
  tc : Nat
  tp : Nat
  /-- The tokens of a sealed queue as its own requests alone leave them (R228). -/
  ownC : Nat
  ownP : Nat
  fcPrev : Nat
  fePrev : Nat
  reqs : List Request
  /-- Requesters that found the queue full (R216). -/
  waiting : List Request
  /-- The finish tags of the request at the head (R222). -/
  headFc : Option Nat
  headFe : Option Nat
  ds : Nat
  held : List Held
  late : Nat
  /-- The largest delays of the sampling period, to the release time and to the grant (10.8). -/
  delay : Option Nat
  rawDelay : Option Nat
deriving DecidableEq, Repr

/-- The fetch scheduler: FCLK time, the two virtual times, the queues, and the reads each channel has accepted. -/
structure Fetch where
  fclk : Nat
  vc : Nat
  ve : Nat
  queue : Vector Queue 136
  /-- The entries of each channel's request queue that the controller has not taken, and the bytes of write data with
  them (Table 03-2). -/
  chan : Vector Nat 2
  chanData : Vector Nat 2
  inflight : Vector (List (QueueId × Request)) 2
  /-- A read returned on the channel in this sampling period (probe DRAM_LATENCY). -/
  readIn : Vector Bool 2
  /-- The requester of queue_135 served last: 0 to 63 a context, 64 the boot loader (R179). -/
  turn : Nat
deriving DecidableEq, Repr

/-- A composed pixel, 12 bits a component. -/
structure Px where
  r : Nat
  g : Nat
  b : Nat
deriving DecidableEq, Repr

/-- Bytes fetched for a slot, kept for display lines `first` to `last` of a frame. -/
structure Burst where
  slot : SlotId
  frame : Nat
  first : Nat
  last : Nat
  addr : Nat
  bytes : List Byte
deriving DecidableEq, Repr

/-- A run tile that serves a decided line (R291): the bytes it holds in its on-chip slot. -/
structure Served where
  line : Nat
  members : List SlotId
  tx : Nat
  ty : Nat
  chip : Nat
  bytes : List Byte
deriving DecidableEq, Repr

/-- A composed line in the line store with what it was composed from: the sheds in force, the run members made
transparent, the tiles that served it and the bytes fetched for it. -/
structure Stored where
  line : Nat
  px : List Px
  shed : List SlotId
  blank : List SlotId
  served : List Served
  bursts : List Burst
deriving DecidableEq, Repr

/-- What the first lines of a frame that has not begun are composed from: each layer with its slot and its context's
territories, and the background. -/
structure Opening where
  layers : List (SlotId × Layer × Terrs)
  background : Px
deriving DecidableEq, Repr

/-- The composition pipeline and line store of a continuous head. -/
structure Comp where
  /-- The next line to compose, and the composed lines in the line store. -/
  nextLine : Nat
  store : List Stored
  /-- The lines whose requests have entered and which are not composed: what serves them is decided (R291). -/
  decided : List Nat
  bursts : List Burst
  /-- Reads still outstanding, by slot and the lines they serve. -/
  missing : List (SlotId × Nat × Nat)
  shed : List SlotId
  /-- Slots whose context was detached: transparent, not counted as shed (Table 08-2, step 2). -/
  gone : List SlotId
  /-- Sheds made while composing lines of the next frame (R280). -/
  shedNext : List SlotId
  palette : Vector (List Byte) 16
  palMissing : Vector Nat 16
  /-- Slots with a FETCH_EXTENT entry in this frame (R178). -/
  extent : List SlotId
  served : List Served
  /-- Run members that are transparent on a decided line (R296, R297). -/
  blank : List (Nat × List SlotId)
  /-- What the lines ahead of a head that is not scanning were asked for with. -/
  opening : Option Opening
  /-- The lines composed since the line being scanned began (probe LINE_LEAD). -/
  composed : Nat
  shedCount : Word
  underrun : Word
  wbDrop : Word
deriving DecidableEq, Repr

/-- The states of Table 13-1; a clean tile names its slot. -/
inductive TileState where
  | dirty | flattening | unusable
  | chip (slot : Nat)
  | spill (slot : Nat)
deriving DecidableEq, Repr

structure Tile where
  tx : Nat
  ty : Nat
  st : TileState
deriving DecidableEq, Repr

/-- A static run (13.1). -/
structure Run where
  members : List SlotId
  settle : Nat
  serving : Bool
  tiles : List Tile
deriving DecidableEq, Repr

/-- The Relief store: the runs of heads A and B, the tiles in the on-chip part by slot, and the number of flattenings
begun. -/
structure Relief where
  runs : Vector (List Run) 2
  chip : List (Nat × List Byte)
  begun : Nat
deriving DecidableEq, Repr

/-- An image in the protected store (Table 14-2). -/
structure Image where
  format : Format
  premult : Bool
  w : Nat
  h : Nat
  colour : Word
  palette : List Byte
  pixels : List Byte
deriving DecidableEq, Repr

/-- A lock that waits for its expected value or its boundary, with the image held apart for it (R307). -/
structure LockReq where
  image : Image
  /-- The image was the shadow image; else it is the live one, kept by a relock. -/
  loaded : Bool
  x : Nat
  y : Nat
  safe : Bool
  floor : Byte
  expected : Option DWord
deriving DecidableEq, Repr

/-- The protected layer of one head. -/
structure Prot where
  live : Option Image
  shadow : Option Image
  lock : Option LockReq
  x : Nat
  y : Nat
  safe : Bool
  floor : Byte
  expected : DWord
  guardian : Option CtxId
  orphaned : Bool
  safeShowing : Bool
  /-- A mismatch was found: safe frames start at the next boundary (R315). -/
  safeNext : Bool
  mismatch : Word
  lastLog : Option Nat
  /-- Words of the live image with an uncorrectable SRAM error (R316). -/
  badWords : List Nat
  allot : Nat
  /-- CAL_3's accumulator of this head's frame, and whether the frame's check is complete (R312). -/
  acc : Word
  checked : Bool
deriving DecidableEq, Repr

/-- The modes of Table 25-2. -/
inductive Mode where
  | run | dim | hold | off
deriving DecidableEq, Repr

/-- A step of a sequence table (Table 16-2). -/
inductive SeqOp where
  | assert | deassert | waitPin | delay | frames | pwmStart | pwmStop
deriving DecidableEq, Repr

/-- One step: its action, target, level, and the programmed DELAY and TIMEOUT, which the model does not time. -/
structure SeqStep where
  op : SeqOp
  target : Nat
  level : Bool
  delay : Nat
  timeout : Nat
deriving DecidableEq, Repr

/-- A transition the power sequencer carries out (Table 25-4 and R538): its target, the step reached, and what waits
for it. -/
structure Transition where
  target : Mode
  exiting : Bool
  step : Nat
  byWindow : Option WinId
  /-- The place in CMD_ISSUE order at which it began (Table 25-4, step 1). -/
  order : Nat
  /-- What is left of the power step list that runs, and the number of the step in hand. -/
  list : List SeqStep
  at_ : Nat
  /-- When the present wait began, in the order of waits (R576). -/
  since : Nat
deriving DecidableEq, Repr

/-- The power sequencer. -/
structure Power where
  mode : Mode
  refused : Bool
  domains : BitVec 9
  wake : BitVec 3
  /-- POWER_REQ as the Drone domain holds it, its FCLK shadow, and whether the shadow waits for its handshake. -/
  req : Word
  reqShadow : Word
  reqDirty : Bool
  /-- The mode last requested (R123), and the latest request that waits for BUSY to clear or for the power-domain
  request. -/
  lastMode : BitVec 3
  queued : Option (BitVec 3)
  dimScale : Nat
  resumeHeads : Bool
  resumeDim : Bool
  trans : Option Transition
  wakeKept : Option WakeSource
  /-- The heads that were started at entry, with whether their panel was ON then (R533, step 3). -/
  resume : Vector (Option Bool) 2
  /-- The power step table: HOLD entry, HOLD exit, OFF entry, OFF exit. -/
  steps : Vector (List SeqStep) 4
  /-- TEMP and its THERM field as last refreshed (R124). -/
  die : HalfWord
  therm : BitVec 12
  thermValid : Bool
deriving DecidableEq, Repr

/-- The Drone domain: time, crystals and the heartbeat monitor. -/
structure Drone where
  time : DWord
  xtalOk : Bool
  xtal32Ok : Bool
  pllLock : Bool
  xtalLost : Bool
  timeout : Nat
  fallback : Nat
  /-- The HEARTBEAT shadow in FCLK, and whether it waits for its handshake (R62). -/
  hbTimeout : Nat
  hbFallback : Nat
  hbDirty : Bool
  armed : Bool
  lapsed : Bool
  /-- The second timeout runs (R49). -/
  second : Bool
  /-- HEAD_STATUS.FALLBACK. -/
  fallbackShown : Bool
deriving DecidableEq, Repr

/-- A timer channel (05.7, chapter 23). -/
structure Timer where
  owner : CtxId
  count : Word
  period : Word
  cmpA : Word
  cmpB : Word
  en : Bool
  mode : BitVec 3
  clk : BitVec 4
  aUp : BitVec 2
  aDown : BitVec 2
  bUp : BitVec 2
  bDown : BitVec 2
  ovf : BitVec 2
  unf : BitVec 2
  preload : Bool
  outInit : Bool
  out : Bool
  tout : BitVec 4
  int_ : HalfWord
  frac : Byte
  status : BitVec 4
  down : Bool
  acc : Nat
  heldPeriod : Option Word
  heldA : Option Word
  heldB : Option Word
  /-- The effective compare of a backlight channel (R357). -/
  eff : Option Word
deriving DecidableEq, Repr

/-- A write to TIM_12 to TIM_15 that waits for its handshake (R62): of one channel's register, or of TIM_START with the
channels it starts and stops. -/
inductive TimerWrite where
  | reg (t : Fin 4) (off : Nat) (v : Word)
  | startStop (start stop : BitVec 4)
deriving DecidableEq, Repr

/-- A monitor channel (05.8, chapter 24). -/
structure Monitor where
  bound : Option CtxId
  probe : Byte
  probeIndex : Byte
  en : Bool
  log2 : Bool
  freeze : Bool
  highSeen : Bool
  lowSeen : Bool
  highLive : Bool
  lowLive : Bool
  /-- Bound or cleared, with no sample processed since (R521). -/
  fresh : Bool
  min : Word
  max : Word
  bins : Vector Word 16
  count : Word
  highMark : Word
  lowMark : Word
  highCross : HalfWord
  lowCross : HalfWord
  base : Word
  width : Word
deriving DecidableEq, Repr

/-- GENLOCK of Table 15-2. -/
inductive Genlock where
  | none | headA | fsyncIn | relay
deriving DecidableEq, Repr

/-- The link of Table 15-2, LINK_TYPE and LINK_PARAM. -/
inductive Link where
  | edp (lanes : Nat) (rate : Fin 3)
  | lvds (dual : Bool) (five : Bool) (jeida : Bool) (swap : Bool)
deriving DecidableEq, Repr

/-- The live fields of a head configuration (R323), with the LUT contents copied on chip. -/
structure HeadLive where
  depth : Fin 3
  dither : Fin 3
  degammaEn : Bool
  gammaEn : Bool
  wbEn : Bool
  fsyncOut : Bool
  background : Px
  lineEvt : Nat
  commitLead : Nat
  glOffset : Int
  glWindow : Nat
  trimLimit : Nat
  degammaOff : Nat
  gammaOff : Nat
  /-- The R, G and B tables, 1 024 entries each, one after the other. -/
  degamma : List Nat
  gamma : List Nat
deriving DecidableEq, Repr

/-- A head configuration (Table 15-2). -/
structure HeadCfg where
  link : Link
  hsPol : Bool
  vsPol : Bool
  genlock : Genlock
  glStream : IngestId
  fsyncFall : Bool
  hactive : Nat
  vactive : Nat
  htotal : Nat
  vtotal : Nat
  hsyncStart : Nat
  hsyncEnd : Nat
  vsyncStart : Nat
  vsyncEnd : Nat
  live : HeadLive
deriving DecidableEq, Repr

/-- The steps of R333 that a starting head waits in. -/
inductive StartStep where
  | synth | pll | hpd | training | firstBoundary
deriving DecidableEq, Repr

/-- Whether a head runs. -/
inductive RunState where
  | stopped
  | starting (step : StartStep)
  | running
  /-- It runs to the end of line VTOTAL − 1 and stops there (R334). -/
  | stopping
deriving DecidableEq, Repr

/-- Frame boundaries that a FRAMES step still waits for, and whether the present frame is a clear or discharge frame
(R353, R359). -/
inductive FrameShow where
  | normal
  | clear (left : Nat) (shown : Bool)
  | discharge (kind : Nat) (left : Nat) (shown : Bool)
deriving DecidableEq, Repr

/-- The writeback of one head (15.7). -/
structure Writeback where
  last : Option (Fin 2)
  writing : Option (Fin 2)
  frame : Word
  rows : Nat
deriving DecidableEq, Repr

/-- The genlock of one head (15.8). Times are in ns of the model's time base. -/
structure GenlockState where
  lastRef : Option Int
  refPeriod : Option Int
  refs : Nat
  /-- Frame boundaries passed since the last reference event. -/
  missed : Nat
  /-- The period trim in 1/1000 ppm. -/
  trim : Int
  inCount : Nat
  outCount : Nat
  locked : Bool
  holdover : Bool
deriving DecidableEq, Repr

/-- The main stream attributes of an eDP head (R328). Mvid and Nvid stand for the ratio of the pixel clock to the link
symbol clock. -/
structure Msa where
  htotal : Nat
  vtotal : Nat
  hstart : Nat
  vstart : Nat
  hsyncWidth : Nat
  vsyncWidth : Nat
  hwidth : Nat
  vheight : Nat
  hsPol : Bool
  vsPol : Bool
  depth : Fin 3
  mvid : Nat
  nvid : Nat
deriving DecidableEq, Repr

/-- The eDP link of a head: HPD as last seen, whether the lanes carry the stream (R330), what the last training applied and
the panel's DPCD reported (R326, R329), and the attributes sent in the last vertical blank (R328). -/
structure EdpLink where
  hpd : Bool
  stream : Bool
  swing : Fin 4
  preEmphasis : Fin 3
  altSeed : Bool
  downSpread : Bool
  msa : Option Msa
deriving DecidableEq, Repr

/-- A continuous head: configuration, run state, scan position and link. -/
structure Head where
  cfg : Option HeadCfg
  /-- Live changes, each with the boundary at which it takes effect, in the order of acceptance (R323). -/
  next : List (HeadLive × Nat)
  run : RunState
  /-- The head runs the clear or discharge frames of a FRAMES step. -/
  frames : FrameShow
  line : Nat
  frame : Word
  gated : Bool
  link : Bool
  /-- A training attempt runs on a started head (R330). -/
  training : Bool
  pll : Bool
  edp : EdpLink
  wb : Writeback
  gl : GenlockState
  /-- The Drone time of the last frame boundary. -/
  frameTime : DWord
deriving DecidableEq, Repr

/-- The panel states of R350. -/
inductive PanelState where
  | off | powered | on | discharged
deriving DecidableEq, Repr

/-- A panel sequence table (Tables 16-1 and 16-2). -/
structure PanelTable where
  polVdd : Bool
  polBl : Bool
  polPwm : Bool
  clearFrames : Nat
  dischargeFrames : Nat
  dischargeKind : Nat
  gateGpio : PinId
  blChannel : TimerId
  pwmPrescale : Word
  pwmPeriod : Word
  pwmInit : Word
  on : List SeqStep
  off : List SeqStep
deriving DecidableEq, Repr

/-- What a running sequence waits for. -/
inductive SeqWait where
  | delay | pin | frames
deriving DecidableEq, Repr

/-- A running panel sequence: the steps left, the number of the step in hand, what it waits for, what it leads to,
and what has been asserted, latest first. -/
structure PanelRun where
  powerOff : Bool
  steps : List SeqStep
  stepNo : Nat
  wait : SeqWait
  /-- Steps to run without their FRAMES step. -/
  skipFrames : Bool
  /-- The state at the end, and whether the second phase is then armed. -/
  final : PanelState
  arm : Bool
  /-- The head stops after the FRAMES step (R360, Table 16-4). -/
  stopAfter : Bool
  asserted : List Nat
  pwmStarted : Bool
  byWindow : Option WinId
  /-- The power sequencer's or the boot loader's PANEL_POWER ON runs it (R538, R561). -/
  auto : Bool
deriving DecidableEq, Repr

/-- The level of a pin the block can drive: high-impedance until its first driving step (R345). -/
inductive PinDrive where
  | highZ | low | high
deriving DecidableEq, Repr

/-- The panel power of one head (chapter 16). -/
structure Panel where
  st : PanelState
  table : Option PanelTable
  /-- The table whose second phase is armed (R350). -/
  armed : Option PanelTable
  boot : Option PanelTable
  run : Option PanelRun
  /-- Pins the first phase of the armed sequence asserted (R362). -/
  firstAsserted : List Nat
  vddEn : PinDrive
  blEn : PinDrive
  blPwm : PinDrive
  backlight : Option TimerId
deriving DecidableEq, Repr

/-- A synthesizer's configuration (R371). -/
structure SynCfg where
  period : Word
  w : Nat
  log2n : Nat
  ditherOff : Bool
  autoResume : Bool
  seed : HalfWord
deriving DecidableEq, Repr

inductive BoreState where
  | idle | locking | locked
deriving DecidableEq, Repr

/-- A synthesizer's output: off, running, or gated after a loss (R375, R376). -/
inductive OutState where
  | off | running | gated
deriving DecidableEq, Repr

/-- A pixel clock synthesizer with its modulator (R368). -/
structure Syn where
  cfg : Option SynCfg
  bore : BoreState
  out : OutState
  lost : Bool
  connected : Bool
  e1 : Int
  e2 : Int
  rPrev : Int
  lfsr : HalfWord
  /-- The trimmed period, in 1/65536 tap (R339). -/
  x : Int
  net : HalfWord
  /-- Phase steps still to take, signed, and those of the command already taken. -/
  steps : Int
  taken : Nat
  /-- The output was running at HOLD entry (R364). -/
  wasRunning : Bool
  /-- The last CLOCK_CONFIG completed TIMEOUT (R371, R372). -/
  timedOut : Bool
deriving DecidableEq, Repr

/-- One rail of the head E configuration block. -/
structure RailCfg where
  gapUp : Nat
  pgTo : Nat
  gapDown : Nat
  disch : Nat
deriving DecidableEq, Repr

/-- The head E configuration block (Table 18-1). -/
structure EpdCfg where
  width : Nat
  height : Nat
  rowClks : Nat
  leW : Nat
  fbRows : Nat
  split : Bool
  tempTherm : Bool
  vcom : Nat
  background : Px
  rails : Vector RailCfg 5
deriving DecidableEq, Repr

/-- The steps of Table 18-5. -/
inductive EpdStep where
  | composeWait | canvasScan | sample | railsUp | drive | railsDown
deriving DecidableEq, Repr

/-- An EPD_UPDATE or EPD_CLEAR in progress. -/
structure EpdRun where
  byWindow : WinId
  clear : Bool
  mode : Fin 4
  x : Nat
  y : Nat
  w : Nat
  h : Nat
  step : EpdStep
  cal : Option CalId
  band : Nat
  /-- B and P of R402, the phases begun, the Drone time at which the last one began, and the rows whose drive has begun
  in it. -/
  b : Nat
  p : Nat
  phase : Nat
  began : Nat
  row : Nat
  /-- Pixels that R405 holds, as y × WIDTH + x, with the phase from which on they hold. -/
  stuck : List (Nat × Nat)
  /-- The completion once the rails are down: its code and Q0. -/
  outcome : Code
  q0 : Nat
deriving DecidableEq, Repr

/-- Where the rails stand: down; being raised in the order of R398, with the rail that is waited for; up; being
powered down (R399). -/
inductive RailState where
  | down
  | rising (rail : RailId)
  | up
  | falling
deriving DecidableEq, Repr

/-- What the last row period drove (Table 18-4): the row, each word on EP_SD with EP_SDCE_N beside it, whether
EP_GDSP was high, and the drive time OE_W. Between row periods every output is low, with both chip enables high. -/
structure EpdRow where
  row : Nat
  words : List (HalfWord × BitVec 2)
  gdsp : Bool
  drive : Nat
deriving DecidableEq, Repr

/-- The bistable engine. -/
structure Epd where
  cfg : Option EpdCfg
  composing : Bool
  /-- A composition is due when the running command ends (R390). -/
  composeDue : Bool
  check : Option Word
  rails : RailState
  railsShown : Bool
  run : Option EpdRun
  lastRow : Option EpdRow
deriving DecidableEq, Repr

/-- The segment configuration record (Table 19-1, APPLY apart). -/
structure SegCfg where
  en : Bool
  tcTherm : Bool
  blank : Bool
  mux : Nat
  bias4 : Bool
  tc : Nat
  frameHz : Nat
  vlcd25 : Nat
  thermRef : Nat
  thermT : Int
  thermK : Int
deriving DecidableEq, Repr

inductive SegRun where
  | stopped
  /-- The pump runs toward V_T (R422). -/
  | starting
  | running
  /-- The common period in progress is completed, then the driver stops (R423); a reset follows when asked. -/
  | stopping (reset : Bool)
deriving DecidableEq, Repr

/-- The segment driver (chapter 19). V_T and the measured range count in 10 mV units. -/
structure Seg where
  cfg : SegCfg
  next : Option SegCfg
  run : SegRun
  half0 : Vector Byte 96
  half1 : Vector Byte 96
  active1 : Bool
  pending : Bool
  frame : Word
  /-- A frame start has happened since the driver started. -/
  counted : Bool
  /-- The common period in progress; MUX between the last one and the next frame start. -/
  com : Nat
  /-- The negative phase of that common period (R413). -/
  negative : Bool
  target : Nat
  targetNext : Option Nat
  limited : Bool
  outCount : Nat
  inCount : Nat
  fault : Bool
  pump : Bool
deriving DecidableEq, Repr

/-- The shared ADC (19.6): since which wait the power sequencer holds it while it waits for the bistable rails, and
whether the present wait of a contrast or bistable request has raised source 182 (R421). -/
structure Adc where
  hold : Option Nat
  contrastLate : Bool
  bistableLate : Bool
deriving DecidableEq, Repr

/-- The port block (Table 20-1). -/
structure RelayCfg where
  en : Bool
  tag : Bool
  autoneg : Bool
  txDelay : Bool
  rxDelay : Bool
  speed : Nat
  phyAddr : Nat
  mac : List Byte
  ethertype : Nat
  tci : Nat
  group : List Byte
  linkDelay : Nat
deriving DecidableEq, Repr

/-- The stream block (Table 20-2). -/
structure StreamCfg where
  headB : Bool
  rle : Bool
  everyN : Nat
  x : Nat
  y : Nat
  w : Nat
  h : Nat
  dst : List Byte
  span : Nat
deriving DecidableEq, Repr

/-- The source frame a stream is sending: its number, buffer, depth and safe mark, and the next row and pixel. -/
structure Sending where
  frame : Word
  buffer : Fin 2
  depth : Nat
  safe : Bool
  row : Nat
  px : Nat
  /-- The block in force for this frame (R437). -/
  cfg : StreamCfg
deriving DecidableEq, Repr

structure Stream where
  cfg : Option StreamCfg
  enabled : Bool
  session : HalfWord
  seq : Word
  lastBegun : Option Word
  sending : Option Sending
  sent : Word
  dropped : Word
deriving DecidableEq, Repr

/-- An assembled slice that waits for release (Table 20-3): the FCLK time it entered, its destination, whether it is
the first or last of its frame, the header with TX_OFFSET zero, and the payload. -/
structure Slice where
  entered : Nat
  dst : List Byte
  first : Bool
  last : Bool
  header : List Byte
  payload : List Byte
deriving DecidableEq, Repr

/-- An egress queue: its policer and tags, and its assembled slices, oldest first. -/
structure EgressQueue where
  pol : Policer
  tc : Nat
  tp : Nat
  fcPrev : Nat
  fePrev : Nat
  frames : List Slice
  headFc : Option Nat
  headFe : Option Nat
  delay : Option Nat
deriving DecidableEq, Repr

/-- The ingest block (Table 20-4). -/
structure IngestCfg where
  headB : Bool
  src : Nat
  srcMac : List Byte
  w : Nat
  h : Nat
  unit_ : Nat
  staleMs : Nat
deriving DecidableEq, Repr

structure Ingest where
  cfg : Option IngestCfg
  enabled : Bool
  session : Option HalfWord
  expect : Word
  curFrame : Word
  filling : Bool
  buf : Option (Fin 3)
  shown : Option (Fin 3)
  ready : Option (Fin 3)
  live : Bool
  stale : Bool
  /-- The relay layer composes in this frame (R449). -/
  showNow : Bool
  lastSeq : Word
  frames : Word
  lost : Word
  /-- The present run of lost slices has raised source 268. -/
  lossRun : Bool
deriving DecidableEq, Repr

/-- The relay port. -/
structure Relay where
  cfg : Option RelayCfg
  up : Bool
  speed : Fin 3
  duplexFault : Bool
  stream : Vector Stream 16
  egress : Vector EgressQueue 16
  vc : Nat
  ve : Nat
  ingest : Vector Ingest 8
  rxDrop : Bool
  txDrop : Bool
  dropCount : Word
  /-- Received frames dropped at the ERX queue (Table 03-2). -/
  rxDropCount : Word
  /-- CLK_STATUS.ERX_OK. -/
  erx : Bool
  /-- The frames in the ETX queue (Table 03-2), oldest first, and the bits of the oldest that are sent. -/
  etx : List (List Byte)
  etxBits : Nat
  /-- The frames the ETX queue has sent on the wire, oldest first. -/
  wire : List (List Byte)
deriving DecidableEq, Repr

/-- The CRC parameters of an operation (R457) with its folding (R459). -/
structure CrcCfg where
  width : Nat
  poly : DWord
  init : DWord
  xorout : DWord
  refin : Bool
  refout : Bool
  fold : Fin 3
  block : Nat
  seq : Nat
  expect : Option DWord
deriving DecidableEq, Repr

/-- What a Caliper operation works on. -/
inductive CalOp where
  | memory (base : Nat) (start rows length stride : Nat)
  | tap (h : ContHead) (x y w hgt : Nat) (begun : Bool)
  | ingest (g : IngestId)
  | canvas
  | bootImage
  | selftest (target : Nat) (chunk : Nat) (failures : Word)
deriving DecidableEq, Repr

/-- An operation of a unit: who started it, its CRC register and its progress in bytes. -/
structure CalRun where
  op : CalOp
  byWindow : Option WinId
  ctx : CtxId
  crc : CrcCfg
  reg : DWord
  /-- Bytes fed of the current row, rows done, and blocks begun. -/
  rowPos : Nat
  row : Nat
  blocks : Nat
  /-- Bytes asked of memory and not yet returned. -/
  asked : Nat
  /-- An uncorrectable memory error ends the operation (R463). -/
  failed : Bool
  /-- Drone time of the start (R469). -/
  since : Nat
deriving DecidableEq, Repr

/-- A Caliper unit: its operation, its epoch (which advances at a reset, R472, and with each operation, so that data
asked for an ended operation is discarded too) and its result registers (Table 05-31). -/
structure Cal where
  op : Option CalRun
  /-- A self-test that yielded the unit to the operation (R468). -/
  yielded : Option CalRun
  epoch : Nat
  yields : Nat
  done : Bool
  match_ : Bool
  incomplete : Bool
  feed : BitVec 3
  yieldsShown : Byte
  owner : CtxId
  value : DWord
deriving DecidableEq, Repr

/-- The steps of a start-up (26). -/
inductive BootPhase where
  | reset | registers | validated | trained | done
deriving DecidableEq, Repr

/-- One section of a valid boot image: its type, instance and payload. -/
structure BootSection where
  type : Nat
  inst : Nat
  payload : List Byte
deriving DecidableEq, Repr

/-- How the serial flash is read (R550): the instruction, the address bytes, the wires for the address and for the data,
the dummy clocks (mode clocks among them) and SF_CLK in kHz. -/
structure FlashMode where
  instr : Byte
  addrBytes : Nat
  addrWires : Nat
  wires : Nat
  dummy : Nat
  kHz : Nat
deriving DecidableEq, Repr

/-- The boot loader. -/
structure Boot where
  straps : Straps
  /-- How the flash is read, once it has been discovered. -/
  flash : Option FlashMode
  phase : BootPhase
  doneFlag : Bool
  sections : List BootSection
  /-- An image was validated (R553). -/
  valid : Bool
  /-- The fallback commit set (R559). -/
  fallback : List CommitReq
deriving DecidableEq, Repr

/-- The states of the TAP controller of IEEE 1149.1. -/
inductive Tap where
  | testLogicReset | runTestIdle
  | selectDr | captureDr | shiftDr | exit1Dr | pauseDr | exit2Dr | updateDr
  | selectIr | captureIr | shiftIr | exit1Ir | pauseIr | exit2Ir | updateIr
deriving DecidableEq, Repr

/-- The instructions of R597. -/
inductive JtagInstr where
  | bypass | sample | extest | idcode
deriving DecidableEq, Repr

/-- The JTAG port: the TAP's state, the instruction in force, the two shift registers, the update latch of the
boundary-scan register, and TDO, driven while a register shifts. -/
structure Jtag where
  tap : Tap
  inst : JtagInstr
  ir : List Bool
  dr : List Bool
  boundary : List Bool
  tdo : Option Bool
deriving DecidableEq, Repr

/-- What the pins show that no other part holds. -/
structure Pins where
  /-- The last value driven on HB_D. -/
  hbD : HalfWord
  /-- HB_WAIT_N as last driven (R71, R77). -/
  hbWait : PinDrive
  /-- A GPIO that a sequence has driven is an output from then on (R346). -/
  gpio : Vector PinDrive 16
  jtag : Jtag
deriving DecidableEq, Repr

/-- The OL640. -/
structure State where
  /-- The commands that are waiting, first in, first out. -/
  pending : List Instr
  mem : List Host.Cell
  memc : MemCtl
  win : Vector Window 68
  ctx : Vector Ctx 64
  port : Port
  evu : Evu
  pcie : Pcie
  faults : FaultLog
  power : Power
  drone : Drone
  timer : Vector Timer 16
  /-- The writes to TIM_12 to TIM_15 that wait for their handshake, in issue order (R62, R65). -/
  timerShadow : List TimerWrite
  mon : Vector Monitor 32
  fetch : Fetch
  /-- The applied layer of each slot of heads A, B and E (R236). -/
  slot : Vector (Vector (Option Layer) 16) 3
  /-- The accepted, unapplied commits in acceptance order. -/
  commits : List PendingCommit
  comp : Vector Comp 2
  relief : Relief
  prot : Vector Prot 2
  head : Vector Head 2
  panel : Vector Panel 2
  syn : Vector Syn 3
  epd : Epd
  seg : Seg
  adc : Adc
  relay : Relay
  cal : Vector Cal 4
  boot : Boot
  pins : Pins
  /-- The model's own: how many free values have been taken (DESIGN CHOICE). -/
  free : Nat
deriving DecidableEq, Repr

/-! ## Reset values -/

/-- A window whose window-scoped registers have their reset values (R104): latches empty, nothing queued. -/
def Window.reset : Window where
  readLatch := none
  writeLatch := none
  halfErr := false
  mwStatus := 0
  issueRefused := false
  scratch := 0
  args := Vector.replicate 4 0
  result0 := 0
  result1 := 0
  queue := []
  exec := none
  done := []
  issued := 0
  completed := 0
  sumIndex := 0
  sumAuto := false
  mwAddr := 0
  evtGroup := 0
  evtPort := 0
  mergeSel := 0
  timSel := 0
  monSel := 0
  histItem := 0
  histAuto := false
  calSel := 0
  cursor := 0
  snapshot := none

/-- No territory. -/
def Terrs.none_ : Terrs := Vector.replicate 4 none

/-- A context that was never attached (Table 08-1). -/
def Ctx.unattached : Ctx where
  st := .unattached
  epoch := 0
  partBase := 0
  partSize := 0
  terr := Vector.replicate 3 Terrs.none_
  terrShown := Vector.replicate 3 Terrs.none_
  terrNext := Vector.replicate 3 []
  guardA := false
  guardB := false
  gen := 0
  captures := 0
  capture := Vector.replicate 32 0
  doorIn := 0
  commitId := 1
  appliedId := 0
  appliedHead := 0
  appliedFrame := 0
  lastApplied := Vector.replicate 3 none
  detachBy := none

/-- CTX_0 after cold reset: attached, shared, epoch 1 (R164). -/
def Ctx.supervisor : Ctx := { Ctx.unattached with st := .shared, epoch := 1 }

/-- Sources 0 to 127 have fixed attributes; the others start with CTX_0 (R476). -/
def Source.reset (n : Nat) : Source where
  pending := false
  enable := false
  merge := 0
  owner := if n < 128 then ⟨n % 64, Nat.mod_lt _ (by decide)⟩ else 0
  prio := if n < 128 then 8 else 0
  mask := if n = 0 ∨ n = 64 then 1 else 0
  service := 0
  droneLatch := false
  droneCount := 0

def VPort.reset : VPort where
  base := 0
  stride := 0
  thresh := 0
  en := false
  waiting := false

def PinEntry.zero : PinEntry := { filterN := 0, filterClk := false, invert := false }

def Evu.reset : Evu where
  src := Vector.ofFn fun i => Source.reset i.1
  hold := false
  port := Vector.replicate 4 VPort.reset
  vec := none
  pin := Vector.replicate 16 PinEntry.zero

/-- An MSI-X table entry after a reset: masked, as the PCI Express specification has it. -/
def MsixEntry.reset : MsixEntry := { addrLo := 0, addrHi := 0, data := 0, control := 1, pba := false }

def Function.reset : Function where
  busMaster := false
  msixEnable := false
  msixMask := false
  maxPayload := 128
  maxRead := 512
  msix := Vector.replicate 8 MsixEntry.reset

def Pcie.reset : Pcie where
  linkUp := false
  refclk := true
  vfEnable := false
  numVfs := 0
  ari := false
  fn := Vector.replicate 64 Function.reset
  sent := []
  late := []

def Seen.none_ : Seen where
  shed := false
  underrun := false
  mismatch := false
  stall := false
  clkLoss := false
  ecc := false
  lapse := false
  therm := false

def FaultLog.reset : FaultLog where
  entries := []
  overflow := false
  seen := Seen.none_
  bootFault := false
  held := []
  heldOverflow := false
  thermArmed := true

def MemCtl.reset : MemCtl where
  cfg := none
  rate := 3733
  ecc := false
  sizeCode := 0
  ranks := 0
  ready := false
  selfRefresh := false
  saved := false
  resetN := false
  deliverable := 0
  calDue := false
  forcedCount := 0
  mr4 := Vector.replicate 4 0
  hot := Vector.replicate 4 false
  badWords := []
  lastCe := none
  scrubNext := 0
  sramNext := 0
  released := []

/-- The reset policer and weight of a fetch queue (Table 10-3). -/
def Policer.reset (q : Nat) : Policer :=
  if q < 128 then { weight := 256, cir := 0, cbs := 0, pir := 0xFFFFFF, pbs := 64 }
  else if q = 128 then { weight := 64, cir := 0, cbs := 0, pir := 0xFFFFFF, pbs := 256 }
  else if q = 129 then { weight := 1024, cir := 0, cbs := 0, pir := 0xFFFFFF, pbs := 256 }
  else if q = 130 then { weight := 256, cir := 0x2000, cbs := 64, pir := 0xFFFFFF, pbs := 256 }
  else if q = 131 then { weight := 64, cir := 0x800, cbs := 16, pir := 0xFFFFFF, pbs := 64 }
  else if q = 132 then { weight := 1, cir := 0x1000, cbs := 16, pir := 0x10000, pbs := 64 }
  else if q = 133 then { weight := 256, cir := 0, cbs := 0, pir := 0xFFFFFF, pbs := 256 }
  else if q = 134 then { weight := 64, cir := 0x1000, cbs := 16, pir := 0xFFFFFF, pbs := 64 }
  else { weight := 256, cir := 0x4000, cbs := 64, pir := 0xFFFFFF, pbs := 256 }

/-- A queue with the given policer, both buckets full (R219), and the previous tags at the virtual times (R232).
Tokens are held in 1/256 byte. -/
def Queue.fresh (p : Policer) (vc ve : Nat) : Queue where
  pol := p
  polNext := none
  tc := p.cbs * 64 * 256
  tp := p.pbs * 64 * 256
  ownC := p.cbs * 64 * 256
  ownP := p.pbs * 64 * 256
  fcPrev := vc
  fePrev := ve
  reqs := []
  waiting := []
  headFc := none
  headFe := none
  ds := 0
  held := []
  late := 0
  delay := none
  rawDelay := none

def Fetch.reset : Fetch where
  fclk := 0
  vc := 0
  ve := 0
  queue := Vector.ofFn fun q => Queue.fresh (Policer.reset q.1) 0 0
  chan := Vector.replicate 2 0
  chanData := Vector.replicate 2 0
  inflight := Vector.replicate 2 []
  readIn := Vector.replicate 2 false
  turn := 0

def Comp.reset : Comp where
  nextLine := 0
  store := []
  decided := []
  bursts := []
  missing := []
  shed := []
  gone := []
  shedNext := []
  palette := Vector.replicate 16 []
  palMissing := Vector.replicate 16 0
  extent := []
  served := []
  blank := []
  opening := none
  composed := 0
  shedCount := 0
  underrun := 0
  wbDrop := 0

def Relief.reset : Relief := { runs := Vector.replicate 2 [], chip := [], begun := 0 }

/-- An empty protected layer with the allotment of cold reset (R301). -/
def Prot.reset : Prot where
  live := none
  shadow := none
  lock := none
  x := 0
  y := 0
  safe := false
  floor := 0
  expected := 0
  guardian := none
  orphaned := false
  safeShowing := false
  safeNext := false
  mismatch := 0
  lastLog := none
  badWords := []
  allot := 16
  acc := 0
  checked := false

def Writeback.reset : Writeback := { last := none, writing := none, frame := 0, rows := 0 }

def GenlockState.reset : GenlockState where
  lastRef := none
  refPeriod := none
  refs := 0
  missed := 0
  trim := 0
  inCount := 0
  outCount := 0
  locked := false
  holdover := false

/-- HPD has not been seen high, and nothing is trained or sent. -/
def EdpLink.reset : EdpLink where
  hpd := false
  stream := false
  swing := 0
  preEmphasis := 0
  altSeed := false
  downSpread := false
  msa := none

/-- An unconfigured head (R322). -/
def Head.reset : Head where
  cfg := none
  next := []
  run := .stopped
  frames := .normal
  line := 0
  frame := 0
  gated := false
  link := false
  training := false
  pll := false
  edp := EdpLink.reset
  wb := Writeback.reset
  gl := GenlockState.reset
  frameTime := 0

/-- Panel power after cold reset: OFF, pins high-impedance (R345, R350). -/
def Panel.reset : Panel where
  st := .off
  table := none
  armed := none
  boot := none
  run := none
  firstAsserted := []
  vddEn := .highZ
  blEn := .highZ
  blPwm := .highZ
  backlight := none

/-- An unconfigured synthesizer (R363). -/
def Syn.reset : Syn where
  cfg := none
  bore := .idle
  out := .off
  lost := false
  connected := false
  e1 := 0
  e2 := 0
  rPrev := 0
  lfsr := 0
  x := 0
  net := 0
  steps := 0
  taken := 0
  wasRunning := false
  timedOut := false

/-- An unconfigured head E (R386). -/
def Epd.reset : Epd where
  cfg := none
  composing := false
  composeDue := false
  check := none
  rails := .down
  railsShown := false
  run := none
  lastRow := none

/-- The reset values of Table 19-1. -/
def SegCfg.reset : SegCfg where
  en := false
  tcTherm := false
  blank := false
  mux := 4
  bias4 := false
  tc := 0
  frameHz := 64
  vlcd25 := 300
  thermRef := 2048
  thermT := 400
  thermK := 0

/-- The segment driver after cold reset (R410). -/
def Seg.reset : Seg where
  cfg := SegCfg.reset
  next := none
  run := .stopped
  half0 := Vector.replicate 96 0
  half1 := Vector.replicate 96 0
  active1 := false
  pending := false
  frame := 0
  counted := false
  com := 0
  negative := false
  target := 0
  targetNext := none
  limited := false
  outCount := 0
  inCount := 0
  fault := false
  pump := false

def Adc.reset : Adc := { hold := none, contrastLate := false, bistableLate := false }

def Stream.reset : Stream where
  cfg := none
  enabled := false
  session := 0
  seq := 0
  lastBegun := none
  sending := none
  sent := 0
  dropped := 0

/-- An egress queue at reset (R435). -/
def EgressQueue.reset : EgressQueue where
  pol := { weight := 256, cir := 0, cbs := 0, pir := 0xFFFFFF, pbs := 64 }
  tc := 0
  tp := 64 * 64 * 256
  fcPrev := 0
  fePrev := 0
  frames := []
  headFc := none
  headFe := none
  delay := none

def Ingest.reset : Ingest where
  cfg := none
  enabled := false
  session := none
  expect := 0
  curFrame := 0
  filling := false
  buf := none
  shown := none
  ready := none
  live := false
  stale := false
  showNow := false
  lastSeq := 0
  frames := 0
  lost := 0
  lossRun := false

def Relay.reset : Relay where
  cfg := none
  up := false
  speed := 0
  duplexFault := false
  stream := Vector.replicate 16 Stream.reset
  egress := Vector.replicate 16 EgressQueue.reset
  vc := 0
  ve := 0
  ingest := Vector.replicate 8 Ingest.reset
  rxDrop := false
  txDrop := false
  dropCount := 0
  rxDropCount := 0
  erx := true
  etx := []
  etxBits := 0
  wire := []

def Cal.reset : Cal where
  op := none
  yielded := none
  epoch := 0
  yields := 0
  done := false
  match_ := false
  incomplete := false
  feed := 0
  yieldsShown := 0
  owner := 0
  value := 0

/-- A timer channel at reset (05.7). -/
def Timer.reset : Timer where
  owner := 0
  count := 0
  period := 0xFFFFFFFF
  cmpA := 0
  cmpB := 0
  en := false
  mode := 0
  clk := 0
  aUp := 0
  aDown := 0
  bUp := 0
  bDown := 0
  ovf := 0
  unf := 0
  preload := false
  outInit := false
  out := false
  tout := 0
  int_ := 1
  frac := 0
  status := 0
  down := false
  acc := 0
  heldPeriod := none
  heldA := none
  heldB := none
  eff := none

/-- An unbound monitor channel (R515). -/
def Monitor.reset : Monitor where
  bound := none
  probe := 0
  probeIndex := 0
  en := false
  log2 := false
  freeze := false
  highSeen := false
  lowSeen := false
  highLive := false
  lowLive := false
  fresh := false
  min := 0xFFFFFFFF
  max := 0
  bins := Vector.replicate 16 0
  count := 0
  highMark := 0xFFFFFFFF
  lowMark := 0
  highCross := 0
  lowCross := 0
  base := 0
  width := 1

/-- The boot loader holds CAL_0 from reset release (Table 21-1). -/
def Port.reset : Port where
  csBound := Vector.replicate 3 none
  csLock := 0
  freeze := false
  held := [(.cal 0, .bootLoader)]
  nextOrder := 0
  nextWait := 0
  budgetCtx := 0
  deviceGen := 0
  resetRefused := false
  doorQueue := []
  staging := []
  fallbackQueue := []
  auto := []

def Power.reset : Power where
  mode := .run
  refused := false
  domains := 0x01F
  wake := 0
  req := 0
  reqShadow := 0
  reqDirty := false
  lastMode := 0
  queued := none
  dimScale := 128
  resumeHeads := true
  resumeDim := false
  trans := none
  wakeKept := none
  resume := Vector.replicate 2 none
  steps := Vector.replicate 4 []
  die := 0
  therm := 0
  thermValid := false

def Drone.reset : Drone where
  time := 0
  xtalOk := true
  xtal32Ok := true
  pllLock := true
  xtalLost := false
  timeout := 100
  fallback := 0
  hbTimeout := 100
  hbFallback := 0
  hbDirty := false
  armed := false
  lapsed := false
  second := false
  fallbackShown := false

def Straps.none_ : Straps where
  flashBoot := false
  hbSync := false
  imageAlt := false
  quadOk := false
  pcieEn := false

def Boot.reset (straps : Straps) : Boot where
  straps := straps
  flash := none
  phase := .reset
  doneFlag := false
  sections := []
  valid := false
  fallback := []

/-- A TAP held in Test-Logic-Reset selects IDCODE (R597). -/
def Jtag.reset : Jtag := { tap := .testLogicReset, inst := .idcode, ir := [], dr := [], boundary := [], tdo := none }

def Pins.reset : Pins where
  hbD := 0
  hbWait := .highZ
  gpio := Vector.replicate 16 .highZ
  jtag := Jtag.reset

/-- The OL640 right after reset release with the straps sampled as given (R543, R545). -/
def State.resetWith (straps : Straps) : State where
  pending := []
  mem := []
  memc := MemCtl.reset
  win := Vector.replicate 68 Window.reset
  ctx := (Vector.replicate 64 Ctx.unattached).set 0 Ctx.supervisor
  port := Port.reset
  evu := Evu.reset
  pcie := Pcie.reset
  faults := FaultLog.reset
  power := Power.reset
  drone := Drone.reset
  timer := Vector.replicate 16 Timer.reset
  timerShadow := []
  mon := Vector.replicate 32 Monitor.reset
  fetch := Fetch.reset
  slot := Vector.replicate 3 (Vector.replicate 16 none)
  commits := []
  comp := Vector.replicate 2 Comp.reset
  relief := Relief.reset
  prot := Vector.replicate 2 Prot.reset
  head := Vector.replicate 2 Head.reset
  panel := Vector.replicate 2 Panel.reset
  syn := Vector.replicate 3 Syn.reset
  epd := Epd.reset
  seg := Seg.reset
  adc := Adc.reset
  relay := Relay.reset
  cal := Vector.replicate 4 Cal.reset
  boot := Boot.reset straps
  pins := Pins.reset
  free := 0

/-- The OL640 right after reset, no strap set. -/
def State.reset : State := State.resetWith Straps.none_

end Sys2Proof.Machine
end

