-- ==== Sys2Proof/Machine/Bits.lean ====
section
/-! DEFINITION. Reading bit fields of words and little-endian fields of byte strings, and writing them back. -/
namespace Sys2Proof.Machine

/-- Bits [lo + n − 1 : lo] of a word, as a number. -/
def fld (v : Word) (lo n : Nat) : Nat := v.toNat / 2 ^ lo % 2 ^ n

/-- A field of `n` bits placed at bit `lo`. -/
def put (x lo n : Nat) : Word := BitVec.ofNat 32 (x % 2 ^ n * 2 ^ lo)

/-- One bit placed at bit `lo`. -/
def putB (b : Bool) (lo : Nat) : Word := if b then BitVec.ofNat 32 (2 ^ lo) else 0

/-- A little-endian number. -/
def le : List Byte → Nat
  | [] => 0
  | b :: bs => b.toNat + 256 * le bs

/-- The little-endian number of `n` bytes at offset `off`; bytes past the end count as 0. -/
def leAt (b : List Byte) (off n : Nat) : Nat := le ((b.drop off).take n)

/-- The byte at an offset, 0 past the end. -/
def byteAt (b : List Byte) (off : Nat) : Nat := (b.getD off 0).toNat

/-- A big-endian number, as on the wire (R429). -/
def beAt (b : List Byte) (off n : Nat) : Nat := le (((b.drop off).take n).reverse)

/-- `n` little-endian bytes of a number. -/
def toLe : Nat → Nat → List Byte
  | 0, _ => []
  | n + 1, v => BitVec.ofNat 8 v :: toLe n (v / 256)

/-- `n` big-endian bytes of a number. -/
def toBe (n v : Nat) : List Byte := (toLe n v).reverse

/-- A number of `n` bits read as two's complement. -/
def signed (n v : Nat) : Int := if v < 2 ^ (n - 1) then v else (v : Int) - 2 ^ n

/-- A number read back into `n` bits of two's complement. -/
def unsigned (n : Nat) (v : Int) : Nat := (v % 2 ^ n).toNat

/-- Every byte of a range of a string is 0: the reserved fields of a block. -/
def zeroAt (b : List Byte) (off n : Nat) : Bool := ((b.drop off).take n).all (· == 0)

/-- The four bytes of a word, least significant first. -/
def wordBytes (v : Word) : List Byte := toLe 4 v.toNat

/-- ⌈a / b⌉. -/
def ceilDiv (a b : Nat) : Nat := (a + b - 1) / b

/-- A saturating increment of a 32-bit counter. -/
def satInc (v : Word) : Word := if v = 0xFFFFFFFF then v else v + 1

/-- An optional value where the test holds. -/
def guardSome {α : Type} (b : Bool) (a : α) : Option α := if b then some a else none

end Sys2Proof.Machine
end

