-- ==== Sys2Proof/Machine/Operands.lean ====
section
/-! DEFINITION. The argument words of a command (06.4): the fields that several commands share, and the reserved bits. -/
namespace Sys2Proof.Machine

/-- The bits of a word outside the listed fields are 0: the reserved argument bits of R135, step 4. -/
def onlyBits (v mask : Word) : Bool := v &&& ~~~mask = 0

/-- The bits that a command names in its four argument words are the only ones set (R135, step 4, 06.4): a word that the
command does not name has a mask of 0 (log 61). -/
def argBits (a : Cmd) (m0 m1 m2 m3 : Word) : Bool :=
  onlyBits a.a0 m0 && onlyBits a.a1 m1 && onlyBits a.a2 m2 && onlyBits a.a3 m3

/-- All 32 bits of an argument word are named. -/
def wholeWord : Word := 0xFFFFFFFF

/-- A CTX argument field. -/
def argCtx (v : Word) : CtxId := ⟨fld v 0 6, Nat.mod_lt _ (by decide)⟩

/-- A HEAD argument field of A0[9:8], none for the value 3. -/
def argHead (v : Word) : Option HeadId := if h : fld v 8 2 < 3 then some ⟨fld v 8 2, h⟩ else none

/-- A HEAD argument that must name head A or B. -/
def argCont (v : Word) : Option ContHead := if h : fld v 8 2 < 2 then some ⟨fld v 8 2, h⟩ else none

/-- Partition offset in bytes of a W-offset (R137). -/
def woff (v : Word) : Nat := 4 * v.toNat

end Sys2Proof.Machine
end

