-- ==== Sys2Proof/Machine/Ops.lean ====
section
/-! DEFINITION. The named operations over the state: one field of one group at a time, memory and partitions, events
and MSI-X messages, the fault log, completions and lockable resources. -/
namespace Sys2Proof.Machine

/-! ## One element of a group -/

def State.modWin (s : State) (w : WinId) (f : Window → Window) : State := { s with win := s.win.set w (f s.win[w]) }
def State.modCtx (s : State) (n : CtxId) (f : Ctx → Ctx) : State := { s with ctx := s.ctx.set n (f s.ctx[n]) }
def State.modSrc (s : State) (n : SourceId) (f : Source → Source) : State :=
  { s with evu := { s.evu with src := s.evu.src.set n (f s.evu.src[n]) } }
def State.modFn (s : State) (n : FnId) (f : Function → Function) : State :=
  { s with pcie := { s.pcie with fn := s.pcie.fn.set n (f s.pcie.fn[n]) } }
def State.modTimer (s : State) (n : TimerId) (f : Timer → Timer) : State :=
  { s with timer := s.timer.set n (f s.timer[n]) }
def State.modMon (s : State) (n : MonId) (f : Monitor → Monitor) : State := { s with mon := s.mon.set n (f s.mon[n]) }
def State.modQueue (s : State) (q : QueueId) (f : Queue → Queue) : State :=
  { s with fetch := { s.fetch with queue := s.fetch.queue.set q (f s.fetch.queue[q]) } }
def State.modComp (s : State) (h : ContHead) (f : Comp → Comp) : State := { s with comp := s.comp.set h (f s.comp[h]) }
def State.modHead (s : State) (h : ContHead) (f : Head → Head) : State := { s with head := s.head.set h (f s.head[h]) }
def State.modPanel (s : State) (h : ContHead) (f : Panel → Panel) : State :=
  { s with panel := s.panel.set h (f s.panel[h]) }
def State.modProt (s : State) (h : ContHead) (f : Prot → Prot) : State := { s with prot := s.prot.set h (f s.prot[h]) }
def State.modSyn (s : State) (y : SynId) (f : Syn → Syn) : State := { s with syn := s.syn.set y (f s.syn[y]) }
def State.modCal (s : State) (u : CalId) (f : Cal → Cal) : State := { s with cal := s.cal.set u (f s.cal[u]) }
def State.modSlot (s : State) (h : HeadId) (z : SlotId) (x : Option Layer) : State :=
  { s with slot := s.slot.set h (s.slot[h].set z x) }
def State.modStream (s : State) (i : StreamId) (f : Stream → Stream) : State :=
  { s with relay := { s.relay with stream := s.relay.stream.set i (f s.relay.stream[i]) } }
def State.modEgress (s : State) (i : StreamId) (f : EgressQueue → EgressQueue) : State :=
  { s with relay := { s.relay with egress := s.relay.egress.set i (f s.relay.egress[i]) } }
def State.modIngest (s : State) (g : IngestId) (f : Ingest → Ingest) : State :=
  { s with relay := { s.relay with ingest := s.relay.ingest.set g (f s.relay.ingest[g]) } }

/-- A step for each of a list's members, in order. -/
def forEach {α : Type} (l : List α) (f : α → State → State) (s : State) : State := l.foldl (fun s a => f a s) s

/-- The head numbers as HEAD codes. -/
def headId (h : ContHead) : HeadId := h.castLE (by decide)

/-- A HEAD code as a continuous head, none for head E. -/
def contHead (h : HeadId) : Option ContHead := if hh : h.1 < 2 then some ⟨h.1, hh⟩ else none

def headName (h : ContHead) : Nat := h.1

/-- The two continuous heads, the three heads, the units and the slots, in ascending order. -/
def conts : List ContHead := [0, 1]
def heads3 : List HeadId := [0, 1, 2]
def cals : List CalId := [0, 1, 2, 3]
def slots : List SlotId := List.finRange 16
def ctxs : List CtxId := List.finRange 64
def wins : List WinId := List.finRange 68

/-! ## Power domains (Table 25-1) -/

/-- The power domains, as POWER_STATE.DOMAINS numbers them. -/
inductive Pd where
  | drone | host | fabric | sram | mem | headA | headB | epd | link
deriving DecidableEq, Repr

def Pd.bit : Pd → Nat
  | .drone => 0 | .host => 1 | .fabric => 2 | .sram => 3 | .mem => 4 | .headA => 5 | .headB => 6 | .epd => 7
  | .link => 8

def pdOn (p : Pd) (s : State) : Bool := s.power.domains.getLsbD p.bit

def setPd (p : Pd) (on : Bool) (s : State) : State :=
  { s with power := { s.power with
      domains := if on then s.power.domains ||| (1#9 <<< p.bit) else s.power.domains &&& ~~~(1#9 <<< p.bit) } }

/-- The domain of a head. -/
def headPd (h : ContHead) : Pd := if h = 0 then .headA else .headB

/-! ## Memory -/

/-- A byte of memory. A byte that nothing has written reads 0 (DESIGN CHOICE, log 3). -/
def readCell : List Host.Cell → Nat → Byte
  | [], _ => 0
  | (a, b) :: m, x => if a = x then b else readCell m x

/-- Memory with one byte written; a byte of 0 is not listed. -/
def writeCell : List Host.Cell → Nat → Byte → List Host.Cell
  | [], x, v => if v = 0 then [] else [(x, v)]
  | (a, b) :: m, x, v =>
    if x < a then (if v = 0 then (a, b) :: m else (x, v) :: (a, b) :: m)
    else if x = a then (if v = 0 then m else (x, v) :: m)
    else (a, b) :: writeCell m x v

/-- The canonical form: addresses strictly rising, no listed byte 0. -/
def Memory.wf : List Host.Cell → Bool
  | [] => true
  | [(_, b)] => b ≠ 0
  | (a, b) :: (a', b') :: m => b ≠ 0 && a < a' && Memory.wf ((a', b') :: m)

def readMem (m : List Host.Cell) (a n : Nat) : List Byte := (List.range n).map fun i => readCell m (a + i)

def writeMem (m : List Host.Cell) (a : Nat) : List Byte → List Host.Cell
  | [] => m
  | b :: bs => writeMem (writeCell m a b) (a + 1) bs

/-- Words wholly written no longer hold an error; a word written in part keeps it (log 11). -/
def clearBad (bad : List Nat) (a n : Nat) : List Nat := bad.filter fun w => ¬ (a ≤ 8 * w ∧ 8 * w + 8 ≤ a + n)

/-- A write of a byte string to physical memory. -/
def State.write (s : State) (a : Nat) (bs : List Byte) : State :=
  { s with mem := writeMem s.mem a bs, memc := { s.memc with badWords := clearBad s.memc.badWords a bs.length } }

def State.read (s : State) (a n : Nat) : List Byte := readMem s.mem a n

/-- An uncorrectable error lies in the range (R198). -/
def badRange (s : State) (a n : Nat) : Bool := s.memc.badWords.any fun w => decide (8 * w < a + n ∧ a < 8 * w + 8)

/-- The first word of a range that holds an uncorrectable error. -/
def firstBad (s : State) (a n : Nat) : Option Nat := s.memc.badWords.find? fun w => decide (8 * w < a + n ∧ a < 8 * w + 8)

/-- Installed capacity by the MEM_SIZE code (Table 05-3), in bytes. -/
def installed (code : Nat) : Nat := if code = 0 then 0 else 2 ^ (28 + code)

/-- Usable capacity (09.3). -/
def usable (s : State) : Nat := if s.memc.ecc then installed s.memc.sizeCode / 8 * 7 else installed s.memc.sizeCode

/-- The device region is the top 256 MiB of usable capacity (R193). -/
def deviceBase (s : State) : Nat := usable s - 0x10000000

/-- Local memory answers (R102): trained, not in self-refresh, PD_MEM on. -/
def memAvail (s : State) : Bool := s.memc.ready && !s.memc.selfRefresh && pdOn .mem s

/-- The first byte and the size in bytes of a context's partition (08.6). -/
def partBase (s : State) (n : CtxId) : Nat := s.ctx[n].partBase * 65536
def partBytes (s : State) (n : CtxId) : Nat := s.ctx[n].partSize * 65536

/-- A partition-relative range lies wholly within the partition (R135, step 5). -/
def inPart (s : State) (n : CtxId) (off len : Nat) : Bool := decide (off + len ≤ partBytes s n)

/-- The bytes of a block at a partition-relative offset (R137). -/
def readPart (s : State) (n : CtxId) (off len : Nat) : List Byte := s.read (partBase s n + off) len

/-- The block holds an uncorrectable error: REJECTED with reason 0x41 (R198). -/
def badPart (s : State) (n : CtxId) (off len : Nat) : Bool := badRange s (partBase s n + off) len

/-! ## Contexts and windows -/

def attached (s : State) (n : CtxId) : Bool := s.ctx[n].st = .shared || s.ctx[n].st = .sealed

def isSealed (s : State) (n : CtxId) : Bool := s.ctx[n].st = .sealed

/-- VF_n exists (R180): VF Enable, within NumVFs, and within VF_7 without ARI. -/
def vfExists (s : State) (n : CtxId) : Bool :=
  s.pcie.vfEnable && decide (0 < n.1 ∧ n.1 ≤ s.pcie.numVfs) && (s.pcie.ari || decide (n.1 ≤ 7))

/-- The windows of a chip select and of a function. -/
def csWin (c : ChipSelect) : WinId := c.castLE (by decide)
def fnWin (f : FnId) : WinId := ⟨4 + f.1, by omega⟩

/-- A window's path. -/
inductive Path where
  | cs (c : ChipSelect)
  | fn (f : FnId)
deriving DecidableEq, Repr

def winPath (w : WinId) : Path :=
  if h : w.1 < 4 then .cs ⟨w.1, h⟩ else .fn ⟨w.1 - 4, by omega⟩

/-- The context a window is bound to (R20, R79, R83). -/
def winCtx (s : State) (w : WinId) : Option CtxId :=
  match winPath w with
  | .cs c => if c = 0 then some 0 else
      match s.port.csBound[c.1 - 1]'(by omega) with
      | some n => guardSome (attached s n) n
      | none => none
  | .fn f => if f = 0 then some 0 else guardSome (vfExists s f && attached s f) f

/-- The windows bound to a context. -/
def boundWins (s : State) (n : CtxId) : List WinId := wins.filter fun w => winCtx s w = some n

/-- The context holds the guardian role of a head. -/
def guards (s : State) (n : CtxId) (h : ContHead) : Bool := if h = 0 then s.ctx[n].guardA else s.ctx[n].guardB

/-- The layer of a head is locked (R299). -/
def protLocked (s : State) (h : ContHead) : Bool := s.prot[h].live.isSome

def anyLocked (s : State) : Bool := conts.any (protLocked s)

/-- CAL_3 is reserved by a lock (Table 14-1). -/
def cal3Reserved (s : State) : Bool := anyLocked s

/-- A head is started: it runs, or runs to its end (R333, R334). -/
def Head.started (x : Head) : Bool := x.run = .running || x.run = .stopping

def started (s : State) (h : ContHead) : Bool := s.head[h].started

def bumpDevice (s : State) : State := { s with port := { s.port with deviceGen := s.port.deviceGen + 1 } }

/-- The per-context generation (R128). -/
def bumpCtx (n : CtxId) (s : State) : State := s.modCtx n fun c => { c with gen := c.gen + 1 }

/-! ## Events (chapter 22) -/

/-- PD_FABRIC is on, so the EVU and the fault log run. -/
def fabricOn (s : State) : Bool := pdOn .fabric s

/-- The sources that the Drone domain latches (R493). -/
def droneSource (n : Nat) : Bool := decide (176 ≤ n ∧ n ≤ 183 ∨ 240 ≤ n ∧ n ≤ 263 ∨ n = 280)

/-- The MSI-X vector of a source (R489). -/
def vectorOf (n : Nat) (x : Source) : VectorId :=
  if n < 64 then 0 else if n < 128 then 1
  else ⟨2 + x.prio.toNat / 3, by have := x.prio.isLt; omega⟩

/-- The source counts toward its owner's messages (R484, R488, R490). -/
def Source.counts (hold : Bool) (x : Source) : Bool :=
  x.pending && x.enable && !x.service.getLsbD 4 && !(x.owner = 0 && hold)

/-- The set of deliverable sources of a vector is not empty. -/
def vecLive (s : State) (c : CtxId) (v : VectorId) : Bool :=
  s.evu.src.toList.zipIdx.any fun p => p.1.owner = c && vectorOf p.2 p.1 = v && p.1.counts s.evu.hold

def fnExists (s : State) (f : FnId) : Bool := f = 0 || vfExists s f

/-- Send the message of a vector, or set its pending bit while it is masked or disabled (R489). -/
def sendMsix (f : FnId) (v : VectorId) (s : State) : State :=
  let x := s.pcie.fn[f]
  let e := x.msix[v]
  if !fnExists s f then s
  else if x.msixEnable && !x.msixMask && !e.control.getLsbD 0 then
    let s := s.modFn f fun x => { x with msix := x.msix.set v { e with pba := false } }
    { s with pcie := { s.pcie with sent := s.pcie.sent ++ [.msix f v (e.addrHi ++ e.addrLo) e.data] } }
  else s.modFn f fun x => { x with msix := x.msix.set v { e with pba := true } }

/-- The pending bit of a vector whose set has become empty clears. -/
def clearPba (f : FnId) (v : VectorId) (s : State) : State :=
  s.modFn f fun x => { x with msix := x.msix.set v { x.msix[v] with pba := false } }

/-- After a change to a vector's set: the message on empty to non-empty, the pending bit cleared on empty. -/
def msixNotify (c : CtxId) (v : VectorId) (before : Bool) (s : State) : State :=
  match before, vecLive s c v with
  | false, true => sendMsix c v s
  | true, false => clearPba c v s
  | _, _ => s

/-- A change of a source's delivery state that leaves its owner and priority alone. -/
def withSrc (n : SourceId) (f : Source → Source) (s : State) : State :=
  let x := s.evu.src[n]
  let v := vectorOf n.1 x
  msixNotify x.owner v (vecLive s x.owner v) (s.modSrc n f)

/-- One rising edge at a source (R479). -/
def Source.edge (x : Source) : Source :=
  if x.pending then { x with merge := if x.merge = 255 then 255 else x.merge + 1 } else { x with pending := true }

/-- One edge at a source that the Drone domain holds while PD_FABRIC is off (R493). -/
def Source.latch (x : Source) : Source :=
  { x with droneLatch := true, droneCount := if x.droneCount = 255 then 255 else x.droneCount + 1 }

/-- A pending bit is withdrawn (R480). -/
def Source.withdraw (x : Source) : Source := { x with pending := false, merge := 0 }

/-- Raise an EVU source: in the EVU while PD_FABRIC is on, else in the Drone domain's latch. -/
def raise (n : Nat) (s : State) : State :=
  if h : n < 288 then
    if fabricOn s then withSrc ⟨n, h⟩ Source.edge s
    else if droneSource n then s.modSrc ⟨n, h⟩ Source.latch else s
  else s

/-- Raise a source where a condition holds. -/
def raiseIf (b : Bool) (n : Nat) (s : State) : State := if b then raise n s else s

/-- Raise a source of a continuous head (Table 15-3). -/
def raiseHead (h : ContHead) (off : Nat) (s : State) : State := raise (128 + 16 * h.1 + off) s

/-! ## The fault log (chapter 27) -/

/-- The FAULT_SUMMARY bit of a code (Table 27-2). -/
def Seen.mark (x : Seen) (code : Nat) : Seen :=
  if code = 0x01 then { x with underrun := true }
  else if code = 0x03 ∨ code = 0x04 then { x with ecc := true }
  else if code = 0x06 ∨ code = 0x08 then { x with therm := true }
  else if code = 0x10 then { x with clkLoss := true }
  else if code = 0x14 then { x with mismatch := true }
  else if code = 0x30 then { x with stall := true }
  else if code = 0x32 then { x with lapse := true }
  else x

/-- The CLASS of a code (Table 27-2). -/
def faultClass (code : Nat) : BitVec 2 :=
  if code ∈ [0x02, 0x13, 0x21] then 0
  else if code ∈ [0x05, 0x10, 0x14, 0x22, 0x35, 0x40, 0x41] then 2
  else 1

/-- The codes that the Drone domain detects while PD_FABRIC is off (R568). -/
def droneFault (code : Nat) : Bool := decide (code ∈ [0x10, 0x24, 0x26, 0x08])

/-- Enter one entry: the oldest goes when 64 are held (R122, R567). -/
def enterFault (e : FaultEntry) (s : State) : State :=
  let l := s.faults
  let full := decide (64 ≤ l.entries.length)
  let l := { l with
    entries := (if full then l.entries.drop 1 else l.entries) ++ [e],
    overflow := l.overflow || full,
    seen := l.seen.mark e.code.toNat,
    bootFault := l.bootFault || e.code = 0x40 || e.code = 0x41 }
  raise 281 { s with faults := l }

/-- Write a fault log entry, or hold it in the Drone domain while PD_FABRIC is off. -/
def logFault (code unit : Nat) (arg : Word) (s : State) (ctx : Option CtxId := none) : State :=
  let e : FaultEntry := { time := s.drone.time, code := BitVec.ofNat 8 code, unit_ := BitVec.ofNat 8 unit, ctx := ctx, cls := faultClass code, arg := arg }
  if fabricOn s then enterFault e s
  else if droneFault code then
    if s.faults.held.length < 4 then { s with faults := { s.faults with held := s.faults.held ++ [e] } }
    else { s with faults := { s.faults with heldOverflow := true } }
  else s

/-- A read met an uncorrectable error: ECC_UE with the channel and address bits [39:8], and source 186 (R198). -/
def logUe (word : Option Nat) (s : State) : State :=
  match word with
  | some w => raise 186 (logFault 0x03 (w / 32 % 2) (BitVec.ofNat 32 (w / 32)) s)
  | none => s

/-- The same for a physical range and for a block of a partition. -/
def logUeIn (a n : Nat) (s : State) : State := logUe (firstBad s a n) s
def logUePart (c : CtxId) (off n : Nat) (s : State) : State := logUeIn (partBase s c + off) n s

/-! ## Completions and resources (06.1, 06.5) -/

def Window.occupancy (x : Window) : Nat := x.queue.length + (if x.exec.any fun e => !e.discard then 1 else 0) + x.done.length

def releaseHolder (h : Holder) (s : State) : State :=
  { s with port := { s.port with held := s.port.held.filter fun p => p.2 ≠ h } }

/-- A command completes (R131): its completion enters the window's queue, it releases its resources, and the context's source
is raised; a MAQUETTE of CTX_0 raises the Maquette-done source too (R152). A command of an ended binding does not count
in the window's new binding; the PF's binding never ends (R52). -/
def finish (w : WinId) (code : Code) (q0 q1 : Word) (s : State) : State :=
  match s.win[w].exec with
  | none => s
  | some e =>
    let s := s.modWin w fun x => { x with
      exec := none
      completed := if e.discard && w ≠ 4 then x.completed else x.completed + 1
      done := if e.discard then x.done else x.done ++ [{ tag := e.entry.cmd.tag, code := code, q0 := q0, q1 := q1 }] }
    let s := releaseHolder (.window w) s
    let s := raiseIf (!e.discard && attached s e.ctx && s.ctx[e.ctx].epoch = e.epoch) e.ctx.1 s
    raiseIf (e.entry.op = 0x50 && e.ctx = 0) 285 s

/-- A completion without result words. -/
def finish0 (w : WinId) (code : Code) (s : State) : State := finish w code 0 0 s

/-- A REJECTED completion (R140): the reason and the head, and in CTX_0's window the first failing line. -/
def reject (w : WinId) (reason head line : Nat) (s : State) : State :=
  let sup := decide (winCtx s w = some 0)
  finish w .rejected (put reason 0 8 ||| put head 8 2) (if sup then put line 0 13 else 0) s

/-- The window's command goes on in a given phase; its present wait starts now. -/
def setPhase (w : WinId) (p : Phase) (s : State) : State :=
  let n := s.port.nextWait
  let s := { s with port := { s.port with nextWait := n + 1 } }
  s.modWin w fun x => { x with exec := x.exec.map fun e => { e with phase := p, since := n } }

/-- A window whose command shares commit gates and descriptor sets with others of its kind: COMMIT, COMMIT_CHECK and SEAL,
which the budget checker decides in its own order, within 128 µs whatever other contexts issue (R143, log 25). -/
def sharesGates (s : State) : Holder → Bool
  | .window w => match s.win[w].exec with
    | some e => decide (e.entry.op.toNat ∈ [0x10, 0x12, 0x03])
    | none => false
  | _ => false

/-- A resource that a would-be holder cannot take now. -/
def resBlocked (s : State) (h : Holder) (r : Resource) : Bool :=
  s.port.held.any fun p => p.1 = r && p.2 ≠ h && !(sharesGates s h && sharesGates s p.2)

def resHeld (s : State) (r : Resource) : Bool := s.port.held.any fun p => p.1 = r

/-- Some command waits for the resource (R144). -/
def resWanted (s : State) (r : Resource) : Bool :=
  wins.any fun w => match s.win[w].exec with
    | some { phase := .acquire (r' :: _), .. } => r' = r
    | some { phase := .anyCal, .. } => match r with
      | .cal u => !(u = 3 && cal3Reserved s)
      | _ => false
    | _ => false

/-- A command without a window waits for the resource, or a POWER_REQ request for the power-domain request. -/
def autoWants (s : State) (r : Resource) : Bool :=
  (match s.port.auto with
    | { phase := .waiting (r' :: _), .. } :: _ => r' = r
    | _ => false)
  || (r = .power && s.power.queued.isSome && s.power.trans.isNone && fabricOn s)

def take (h : Holder) (r : Resource) (s : State) : State :=
  { s with port := { s.port with held := s.port.held ++ [(r, h)] } }

/-- Take the resources of a list in order as far as they are free; answer those still to take. -/
def takeAll (h : Holder) : List Resource → State → State × List Resource
  | [], s => (s, [])
  | r :: rs, s => if resBlocked s h r || resWanted s r || autoWants s r then (s, r :: rs) else takeAll h rs (take h r s)

/-- Run a command's action once it holds its resources; else it waits (R142). -/
def acquire (w : WinId) (rs : List Resource) (act : State → State) (s : State) : State :=
  match takeAll (.window w) rs s with
  | (s, []) => act s
  | (s, rest) => setPhase w (.acquire rest) s

/-- Complete with a code where a check fails, else go on. -/
def check (w : WinId) (bad : Bool) (code : Code) (k : State → State) (s : State) : State :=
  if bad then finish0 w code s else k s

/-! ## Wake requests (25.5) -/

/-- A power mode as POWER_REQ.MODE and POWER_MODE name it. -/
def Mode.ofCode (n : Nat) : Option Mode := match n with
  | 0 => some .run
  | 1 => some .dim
  | 2 => some .hold
  | 3 => some .off
  | _ => none

/-- Entry to HOLD or OFF is in progress. -/
def entering (s : State) : Bool := s.power.trans.any fun t => !t.exiting

/-- The device is in HOLD or in OFF. -/
def asleep (s : State) : Bool := s.power.mode = .hold || s.power.mode = .off

/-- The enable of a wake source (Table 25-5); the relay port wakes the device out of HOLD only. -/
def wakeEnabled (s : State) (x : WakeSource) : Bool :=
  let r := s.power.req
  match x with
  | .extint p => r.getLsbD (8 + p.1)
  | .timer k => r.getLsbD (24 + k.1)
  | .relayLink => r.getLsbD 6 && r.getLsbD 4 && s.power.mode ≠ .off && s.power.trans.all fun t => t.target ≠ .off
  | .hostBus => r.getLsbD 5

/-- POWER_STATE.WAKE's code of a source (Table 25-5). -/
def WakeSource.code : WakeSource → BitVec 3
  | .extint _ => 1
  | .timer _ => 2
  | .relayLink => 3
  | .hostBus => 4

/-- A wake request during entry to HOLD or OFF, or in HOLD or OFF, is kept: the first one to arrive (R537, R540). The
exit begins at WAKE_REQUEST or at a step of the power sequencer. -/
def wakeRequest (x : WakeSource) (s : State) : State :=
  if wakeEnabled s x && (asleep s || entering s) && s.power.wakeKept.isNone && !(s.power.trans.any fun t => t.exiting) then
    { s with power := { s.power with wakeKept := some x, wake := WakeSource.code x } }
  else s

/-- Local memory answers a command of a window: during entry to HOLD or OFF, only commands issued before it still use
memory, and none from step 3 on (Table 25-4, step 1). -/
def cmdMem (s : State) (w : WinId) : Bool :=
  memAvail s && !s.power.trans.any fun t => !t.exiting &&
    (decide (3 ≤ t.step) || s.win[w].exec.any fun e => decide (t.order ≤ e.entry.order))

/-- The next count of free values. -/
def bumpFree (s : State) : State := { s with free := s.free + 1 }

end Sys2Proof.Machine
end

