-- ==== Sys2Proof/Machine/Jtag.lean ====
section
/-! DEFINITION. The JTAG port (R597): the TAP controller of IEEE 1149.1 with its instruction and data registers. -/
namespace Sys2Proof.Machine

/-- The TAP's next state (IEEE 1149.1). -/
def Tap.next (t : Tap) (tms : Bool) : Tap :=
  match t, tms with
  | .testLogicReset, true => .testLogicReset
  | .testLogicReset, false => .runTestIdle
  | .runTestIdle, true => .selectDr
  | .runTestIdle, false => .runTestIdle
  | .selectDr, true => .selectIr
  | .selectDr, false => .captureDr
  | .captureDr, true => .exit1Dr
  | .captureDr, false => .shiftDr
  | .shiftDr, true => .exit1Dr
  | .shiftDr, false => .shiftDr
  | .exit1Dr, true => .updateDr
  | .exit1Dr, false => .pauseDr
  | .pauseDr, true => .exit2Dr
  | .pauseDr, false => .pauseDr
  | .exit2Dr, true => .updateDr
  | .exit2Dr, false => .shiftDr
  | .updateDr, true => .selectDr
  | .updateDr, false => .runTestIdle
  | .selectIr, true => .testLogicReset
  | .selectIr, false => .captureIr
  | .captureIr, true => .exit1Ir
  | .captureIr, false => .shiftIr
  | .shiftIr, true => .exit1Ir
  | .shiftIr, false => .shiftIr
  | .exit1Ir, true => .updateIr
  | .exit1Ir, false => .pauseIr
  | .pauseIr, true => .exit2Ir
  | .pauseIr, false => .pauseIr
  | .exit2Ir, true => .updateIr
  | .exit2Ir, false => .shiftIr
  | .updateIr, true => .selectDr
  | .updateIr, false => .runTestIdle

/-- The IDCODE: version 1, part number 0x0640, the manufacturer identity, and 1 (R597). -/
def idcode : Word := putB true 0 ||| put Config.manufacturer.toNat 1 11 ||| put 0x0640 12 16 ||| put 1 28 4

/-- The bits of a word, least significant first. -/
def wordBits (v : Word) : List Bool := (List.range 32).map v.getLsbD

/-- What the selected data register captures. -/
def captureDr (n : Nat) : JtagInstr → List Bool
  | .bypass => [false]
  | .idcode => wordBits idcode
  | .sample | .extest => (List.range Config.boundaryLength).map (Config.boundaryLevel n)

/-- What the instruction register captures: 01 in its two lowest bits (IEEE 1149.1). -/
def captureIr : List Bool := ([true, false] ++ (List.range (Config.irLength - 2)).map Config.irCapture).take Config.irLength

/-- The instruction that a code selects: all ones is BYPASS (IEEE 1149.1). -/
def irInstr (ir : List Bool) : JtagInstr :=
  if ir.all id then .bypass
  else match Config.irCode ir with
    | 0 => .bypass
    | 1 => .sample
    | 2 => .extest
    | 3 => .idcode

/-- A register takes TDI at its far end. -/
def shiftIn (tdi : Bool) (l : List Bool) : List Bool := l.drop 1 ++ [tdi]

/-- A rising edge of TCK: the registers capture or shift, and the TAP moves on. -/
def Jtag.rise (x : Jtag) (n : Nat) (tms tdi : Bool) : Jtag :=
  let y : Jtag := match x.tap with
    | .captureDr => { x with dr := captureDr n x.inst }
    | .shiftDr => { x with dr := shiftIn tdi x.dr }
    | .captureIr => { x with ir := captureIr }
    | .shiftIr => { x with ir := shiftIn tdi x.ir }
    | _ => x
  { y with tap := x.tap.next tms }

/-- A falling edge of TCK: the update latches and TDO change. -/
def Jtag.fall (x : Jtag) : Jtag :=
  match x.tap with
  | .testLogicReset => { x with inst := .idcode, tdo := none }
  | .updateIr => { x with inst := irInstr x.ir, tdo := none }
  | .updateDr =>
    { x with boundary := if x.inst = .sample ∨ x.inst = .extest then x.dr else x.boundary, tdo := none }
  | .shiftDr => { x with tdo := x.dr.head? }
  | .shiftIr => { x with tdo := x.ir.head? }
  | _ => { x with tdo := none }

/-- TRST_N low holds the TAP in Test-Logic-Reset. -/
def Jtag.held (x : Jtag) : Jtag := { x with tap := .testLogicReset, inst := .idcode, tdo := none }

/-- JTAG_TCK_EDGE. -/
def execJtagTckEdge (e : TckEdge) (s : State) : Host.Outcome State Fault Refusal :=
  let set (x : Jtag) (s : State) : State := { s with pins := { s.pins with jtag := x } }
  let x := s.pins.jtag
  if !e.trstN then .next (set x.held s)
  else if e.rising then .next (set (x.rise s.free e.tms e.tdi) (bumpFree s))
  else .next (set x.fall s)

/-- EXTEST drives the boundary-scan cells' pins from the update latch, whatever the blocks that own them do. -/
def extestDrives (s : State) : Option (List Bool) := guardSome (s.pins.jtag.inst = .extest) s.pins.jtag.boundary

end Sys2Proof.Machine
end

