-- ==== Sys2Proof/Machine/Crc.lean ====
section
/-! DEFINITION. The CRC computation of R457, and the CRC-32C of R155. -/
namespace Sys2Proof.Machine

/-- The n low bits of a number in reverse order. -/
def reflect (n v : Nat) : Nat := (List.range n).foldl (fun r i => 2 * r + v / 2 ^ i % 2) 0

/-- One bit of the stream (R457). -/
def crcBit (w poly reg b : Nat) : Nat :=
  let fb := b ≠ reg / 2 ^ (w - 1) % 2
  let r := 2 * reg % 2 ^ w
  if fb then Nat.xor r poly else r

/-- One byte of the stream, most significant bit first, reflected when REFIN is set. -/
def crcByte (w poly : Nat) (refin : Bool) (reg : Nat) (b : Byte) : Nat :=
  let v := if refin then reflect 8 b.toNat else b.toNat
  [7, 6, 5, 4, 3, 2, 1, 0].foldl (fun r i => crcBit w poly r (v / 2 ^ i % 2)) reg

/-- A byte string fed into the register. -/
def crcFeed (w poly : Nat) (refin : Bool) (reg : Nat) (bs : List Byte) : Nat := bs.foldl (crcByte w poly refin) reg

/-- The result from the register. -/
def crcEnd (w : Nat) (refout : Bool) (xorout reg : Nat) : Nat :=
  Nat.xor (if refout then reflect w reg else reg) xorout % 2 ^ w

/-- The parameters of CRC-32C (R155). -/
def crcPoly : Nat := 0x1EDC6F41
def crcInit : Nat := 0xFFFFFFFF

def crcC (reg : Nat) (bs : List Byte) : Nat := crcFeed 32 crcPoly true reg bs
def crcFin (reg : Nat) : Nat := crcEnd 32 true 0xFFFFFFFF reg

/-- CRC-32C of a byte string. -/
def crc32c (bs : List Byte) : Nat := crcFin (crcC crcInit bs)

end Sys2Proof.Machine
end

