-- ==== Sys2Proof/Machine/Monitors.lean ====
section
/-! DEFINITION. Monitors (chapter 24): what a sample does to a channel, and MONITOR_BIND. -/
namespace Sys2Proof.Machine

/-- The bin of a sample (R519). -/
def Monitor.bin (x : Monitor) (v : Word) : Fin 16 :=
  let n := v.toNat
  let k := if x.log2 then (if n = 0 then 0 else Nat.min 15 (Nat.log2 n + 1))
    else if n < x.base.toNat then 0 else Nat.min 15 ((n - x.base.toNat) / x.width.toNat)
  if h : k < 16 then ⟨k, h⟩ else 15

/-- A crossing count saturates at 0xFFFF. -/
def crossInc (v : HalfWord) : HalfWord := if v = 0xFFFF then v else v + 1

/-- The watermark state machine for one sample (R521): the channel after it, and how often it raises its event. A
fresh channel counts a sample beyond a watermark as a crossing whatever its live bits show. -/
def Monitor.watch (x : Monitor) (v : Word) : Monitor × Nat :=
  let hi := decide (x.highMark.toNat < v.toNat)
  let lo := decide (v.toNat < x.lowMark.toNat)
  let up := hi && (!x.highLive || x.fresh)
  let dn := lo && (!x.lowLive || x.fresh)
  ({ x with
      highCross := if up then crossInc x.highCross else x.highCross
      lowCross := if dn then crossInc x.lowCross else x.lowCross
      highSeen := x.highSeen || up
      lowSeen := x.lowSeen || dn
      highLive := hi
      lowLive := lo
      fresh := false },
    (if up && !x.highSeen then 1 else 0) + (if dn && !x.lowSeen then 1 else 0))

/-- What a sample captures while FREEZE is 0 (R518). -/
def Monitor.capture (x : Monitor) (v : Word) : Monitor :=
  if x.freeze then x
  else
    let b := x.bin v
    { x with
      min := if v.toNat < x.min.toNat then v else x.min
      max := if x.max.toNat < v.toNat then v else x.max
      count := satInc x.count
      bins := x.bins.set b (satInc x.bins[b]) }

/-- The source that reports a channel's event (R523). -/
def monSource (c : MonId) (owner : CtxId) : Nat := if owner = 0 then 272 + c.1 / 4 else owner.1

/-- One sample at one channel. -/
def sampleOne (c : MonId) (v : Word) (s : State) : State :=
  let x := s.mon[c]
  match x.bound with
  | none => s
  | some owner =>
    if !x.en then s
    else
      let (y, events) := (x.capture v).watch v
      (List.range events).foldl (fun s _ => raise (monSource c owner) s) (s.modMon c fun _ => y)

/-- A probe presents a sample to every channel bound to it (R517). -/
def sample (probe idx : Nat) (v : Nat) (s : State) : State :=
  forEach (List.finRange 32) (fun c s =>
    let x := s.mon[c]
    if x.bound.isSome && decide (x.probe.toNat = probe ∧ x.probeIndex.toNat = idx) then
      sampleOne c (BitVec.ofNat 32 v) s
    else s) s

/-- MON_CTL.CLEAR (Table 05-21); the live bits stay until the next sample, which is fresh (R521). -/
def Monitor.clear (x : Monitor) : Monitor :=
  { x with
    min := 0xFFFFFFFF, max := 0, count := 0, bins := Vector.replicate 16 0
    highCross := 0, lowCross := 0, highSeen := false, lowSeen := false, fresh := true }

/-- The range of PROBE_INDEX of a probe code, none for a code that Table 24-1 does not list. -/
def probeRange (p : Nat) : Option Nat :=
  if p = 1 ∨ p = 2 then some 136
  else if p = 3 ∨ p = 4 ∨ p = 9 then some 128
  else if p = 8 ∨ p = 0x10 ∨ p = 0x28 then some 2
  else if p = 0x11 then some 1
  else if p = 0x18 then some 16
  else if p = 0x20 then some 4
  else none

/-- Table 24-1 permits the probe and its queue to a tenant (R516, R39). -/
def probeAllowed (s : State) (c : CtxId) (p idx : Nat) : Bool :=
  c = 0 ||
    (decide (p ∈ [1, 2, 3, 9]) && decide (idx = 2 * c.1 ∨ idx = 2 * c.1 + 1) && !(p = 3 && isSealed s c))

/-- MONITOR_BIND (R516). -/
def actMonitorBind (w : WinId) (c : CtxId) (a : Cmd) (s : State) : State :=
  let ch : MonId := ⟨fld a.a0 0 5, Nat.mod_lt _ (by decide)⟩
  let unbind := a.a0.getLsbD 16
  let probe := fld a.a1 0 8
  let idx := fld a.a1 8 8
  let x := s.mon[ch]
  if !argBits a 0x1001F 0xFFFF 0 0 then finish0 w .badArg s
  else if unbind && a.a1 ≠ 0 then finish0 w .badArg s
  else if !unbind && !((probeRange probe).any fun n => decide (idx < n)) then finish0 w .badArg s
  else if !unbind && !probeAllowed s c probe idx then finish0 w .denied s
  else if x.bound.any (· ≠ c) && !(c = 0 && unbind) then finish0 w .busy s
  else if unbind then
    if x.bound.isNone then finish0 w .ok s
    else finish0 w .ok (bumpDevice (s.modMon ch fun _ => Monitor.reset))
  else
    let y := { Monitor.reset with bound := some c, probe := BitVec.ofNat 8 probe, probeIndex := BitVec.ofNat 8 idx, en := true, fresh := true }
    finish0 w .ok (bumpDevice (s.modMon ch fun _ => y))

end Sys2Proof.Machine
end

