-- ==== Sys2Proof/Machine/Fetch.lean ====
section
/-! DEFINITION. Fetch scheduling and policing (chapter 10): requests and queues, classes, finish tags, grants, token
credit and the samples of depth and delay. -/
namespace Sys2Proof.Machine

/-- The context and the continuous head of a queue 0 to 127 (R13). -/
def queueCtx (q : QueueId) : Option CtxId := if h : q.1 < 128 then some ⟨q.1 / 2, by omega⟩ else none
def queueHead (q : QueueId) : ContHead := ⟨q.1 % 2, Nat.mod_lt _ (by decide)⟩

/-- queue_(2n + h) (R13). -/
def layerQueue (n : CtxId) (h : ContHead) : QueueId := ⟨2 * n.1 + h.1, by omega⟩

/-- The queue belongs to a sealed context. -/
def sealedQueue (s : State) (q : QueueId) : Bool := (queueCtx q).any fun n => isSealed s n

/-- The memory channel of an address (R189). -/
def channelOf (a : Nat) : Channel := ⟨a / 256 % 2, Nat.mod_lt _ (by decide)⟩

/-- The admission bandwidth A in 1/100 byte per µs (09.5). -/
def admission100 (deliverable : Nat) : Nat := 98 * deliverable

/-- The numerator and denominator of the delay bound D of R225, in µs: (CBS × 64 + 256) / CIR + 34 816 / A. -/
def delayBound (p : Policer) (deliverable : Nat) : Nat × Nat :=
  ((p.cbs * 64 + 256) * 256 * admission100 deliverable + 3481600 * p.cir, p.cir * admission100 deliverable)

/-- The release offset D_S, in whole µs (10.6). -/
def releaseOffset (p : Policer) (deliverable : Nat) : Nat :=
  let (n, d) := delayBound p deliverable
  if d = 0 then 0 else ceilDiv n d

/-- Tags compare modulo 2^48 (R224). -/
def tagBefore (a b : Nat) : Bool := decide (2 ^ 47 ≤ (a + 2 ^ 48 - b) % 2 ^ 48)
def tagMax (a b : Nat) : Nat := if tagBefore a b then b else a

/-- The finish tags of a request that becomes the head of its queue (R222). -/
def tagC (vc : Nat) (q : Queue) (r : Request) : Option Nat :=
  if q.pol.cir = 0 then none else some ((tagMax vc q.fcPrev + ceilDiv (r.len * 2 ^ 24) q.pol.cir) % 2 ^ 48)
def tagE (ve : Nat) (q : Queue) (r : Request) : Nat :=
  (tagMax ve q.fePrev + ceilDiv (r.len * 65536) q.pol.weight) % 2 ^ 48

/-- The class of the request at the head (R220). -/
inductive ReqClass where
  | committed | excess | held
deriving DecidableEq, Repr

/-- Scrub slows to the committed rate of queue_132 where that rate is below 128 000 B/s, 32.768 in the unit of Table 10-2:
its requests then take committed class only (R208, R209; log 108). -/
def scrubSlow (ecc : Bool) (n : QueueId) (p : Policer) : Bool := n = 132 && ecc && decide (p.cir ≤ 32)

/-- On a sealed queue a request is committed class once its own queue's tokens have made it so (R228); with PIR = 0 every
request is held (R221). -/
def Queue.classOf (q : Queue) (isSealed slow : Bool) (r : Request) : ReqClass :=
  let l := r.len * 256
  if q.pol.pir = 0 then .held
  else if isSealed then (if r.release.isSome then .committed else .held)
  else if q.headFc.isSome && decide (l ≤ q.tc) && decide (l ≤ q.tp) then .committed
  else if decide (q.tc < l) && decide (l ≤ q.tp) && !(slow && r.kind = .scrub) then .excess
  else .held

/-- The requester of a request of queue_135: a context, or the boot loader after CTX_63 (R179). -/
def Request.requester (r : Request) : Nat := match r.kind with
  | .boot _ => 64
  | _ => r.ctx.1

/-- Queue_135's next request (R179): the oldest of the next requester in the rotation, moved to the front. -/
def rotate (turn : Nat) (rs : List Request) : List Request :=
  let key (r : Request) := (r.requester + 65 - (turn + 1) % 65) % 65
  match rs.foldl (fun (b : Option Request) r => match b with
      | none => some r
      | some x => if key r < key x then some r else b) none with
  | none => []
  | some x => x :: rs.erase x

/-- Queue_132's next request (R208, R209): zeroing takes the grants that scrub and corrected write-backs leave, and scrub
that has slowed leaves those for which its committed tokens do not reach. -/
def upkeepFirst (slow : Bool) (q : Queue) : List Request :=
  let able (r : Request) : Bool := !(slow && r.kind = .scrub && decide (q.tc < r.len * 256))
  match q.reqs.find? fun r => able r && r.kind ≠ .zero with
  | some x => x :: q.reqs.erase x
  | none => match q.reqs.find? able with
    | some x => x :: q.reqs.erase x
    | none => q.reqs

/-- The requests of a queue in the order of grant: that of entry (R216) but for queue_135 (R179) and queue_132. -/
def arranged (n : QueueId) (turn : Nat) (slow : Bool) (q : Queue) : List Request :=
  if n = 135 then rotate turn q.reqs else if n = 132 then upkeepFirst slow q else q.reqs

/-- The requests of a sealed queue that its own tokens make committed class now, in order: each takes its tokens and its
release time at that instant, whatever is granted when (R227, R228, log 109). -/
def policeOwn (pol : Policer) (release : Nat) : List Request → Nat → Nat → List Request × Nat × Nat
  | [], c, p => ([], c, p)
  | r :: l, c, p =>
    let n := r.len * 256
    if r.release.isSome then
      let (l', x) := policeOwn pol release l c p
      (r :: l', x)
    else if pol.cir ≠ 0 ∧ pol.pir ≠ 0 ∧ n ≤ c ∧ n ≤ p then
      let (l', x) := policeOwn pol release l (c - n) (p - n)
      ({ r with release := some release } :: l', x)
    else (r :: l, c, p)

def Queue.police (isSealed : Bool) (fclk : Nat) (q : Queue) : Queue :=
  if isSealed then
    let (l, c, p) := policeOwn q.pol (fclk + 500 * q.ds) q.reqs q.ownC q.ownP
    { q with reqs := l, ownC := c, ownP := p }
  else q

/-- The entries that a queue's requests hold (R216): on a sealed queue those not yet committed class, so that a grant to
another queue frees none (R228, log 109). -/
def Queue.entries (isSealed : Bool) (q : Queue) : Nat :=
  if isSealed then (q.reqs.filter fun r => r.release.isNone).length else q.reqs.length

/-- A request for a layer's source bytes or palette. -/
def ReqKind.layer : ReqKind → Bool
  | .pixel .. | .palette .. => true
  | _ => false

/-- A waiting requester may enter: an entry is free (R216), and the queue holds no layer fetch where the request is a
command's read (R262, R304). -/
def Queue.takes (isSealed : Bool) (r : Request) (q : Queue) : Bool :=
  decide (q.entries isSealed < 32) && (r.kind.layer || !q.reqs.any fun x => x.kind.layer)

/-- Requesters that wait enter the queue as they may, oldest first; their requests' delay runs from here (10.8). -/
def Queue.fill (isSealed : Bool) (fclk : Nat) : List Request → Queue → Queue
  | [], q => { q.police isSealed fclk with waiting := [] }
  | r :: l, q =>
    let q := q.police isSealed fclk
    if q.takes isSealed r then Queue.fill isSealed fclk l { q with reqs := q.reqs ++ [{ r with entered := fclk }] }
    else
      let q := Queue.fill isSealed fclk l q
      { q with waiting := r :: q.waiting }

/-- A request that becomes the head of its queue gets its tags (R222); a head that was without a committed tag gets it as
soon as CIR is not 0. -/
def Queue.tagHead (vc ve : Nat) (l : List Request) (q : Queue) : Queue :=
  match l with
  | [] => { q with reqs := [], headFc := none, headFe := none }
  | r :: _ =>
    let same := q.reqs.head? = some r
    { q with
      reqs := l
      headFc := match (if same then q.headFc else none) with | some t => some t | none => tagC vc q r
      headFe := match (if same then q.headFe else none) with | some t => some t | none => some (tagE ve q r) }

/-- What follows whenever a queue or its tokens change: free entries are taken, the next request to grant comes to the
front, and a new head gets its tags. -/
def settle (n : QueueId) (s : State) : State :=
  let f := s.fetch
  let ecc := s.memc.ecc
  let isS := sealedQueue s n
  s.modQueue n fun q =>
    let q := Queue.fill isS f.fclk q.waiting q
    q.tagHead f.vc f.ve (arranged n f.turn (scrubSlow ecc n q.pol) q)

/-- A requester enters a request, or waits while the queue holds 32 (R216). -/
def enqueue (n : QueueId) (r : Request) (s : State) : State :=
  settle n (s.modQueue n fun q => { q with waiting := q.waiting ++ [r] })

/-- A request of at most 256 bytes, its length in whole bursts (R217, R218). -/
def mkRequest (s : State) (k : ReqKind) (c : CtxId) (a len : Nat) : Request where
  kind := k
  ctx := c
  epoch := s.ctx[c].epoch
  addr := a
  len := 32 * (ceilDiv (a % 32 + len) 32)
  entered := s.fetch.fclk
  release := none

/-- A byte range split into requests that lie within one aligned 256-byte block each (R217). -/
def splitRange : Nat → Nat → Nat → List (Nat × Nat)
  | 0, _, _ => []
  | f + 1, a, n => if n = 0 then [] else
      let k := Nat.min n (256 - a % 256)
      (a, k) :: splitRange f (a + k) (n - k)

/-- Enqueue every request of a byte range. -/
def enqueueRange (n : QueueId) (k : ReqKind) (c : CtxId) (a len : Nat) (s : State) : State :=
  forEach (splitRange (len / 256 + 2) a len) (fun p s => enqueue n (mkRequest s k c p.1 p.2) s) s

/-- The requests of an access that its row carries out whole (spec 95) enter their queue in that row; they are policed,
granted and returned as all others are, and their ECC is taken (log 83). -/
def access (n : QueueId) (write : Bool) (c : CtxId) (a len : Nat) (s : State) : State :=
  enqueueRange n (.access write) c a len s

/-- Remove ungranted requests: no debit, no virtual time (R233). On a sealed queue they give back what its own policer
took for them. -/
def removeRequests (n : QueueId) (p : Request → Bool) (s : State) : State :=
  settle n (s.modQueue n fun q =>
    let headGone := q.reqs.head?.any p
    let back := ((q.reqs.filter fun r => p r && r.release.isSome).map fun r => r.len * 256).sum
    { q with
      reqs := q.reqs.filter fun r => !p r, waiting := q.waiting.filter fun r => !p r
      ownC := Nat.min (q.pol.cbs * 64 * 256) (q.ownC + back), ownP := Nat.min (q.pol.pbs * 64 * 256) (q.ownP + back)
      headFc := if headGone then none else q.headFc
      headFe := if headGone then none else q.headFe })

/-- Set the policer of a queue: both buckets full (R219), the release offset recomputed on a sealed queue. -/
def setPolicer (n : QueueId) (p : Policer) (s : State) : State :=
  let isS := sealedQueue s n
  settle n (s.modQueue n fun q =>
    { q with
      pol := p, polNext := none, tc := p.cbs * 64 * 256, tp := p.pbs * 64 * 256
      ownC := p.cbs * 64 * 256, ownP := p.pbs * 64 * 256
      ds := if isS then releaseOffset p s.memc.deliverable else q.ds })

/-- The reset values of a queue at ATTACH (R232). -/
def resetQueue (n : QueueId) (s : State) : State :=
  let f := s.fetch
  s.modQueue n fun q => { Queue.fresh (Policer.reset n.1) f.vc f.ve with late := q.late }

/-- The release offsets of a sealed context's queue follow the present declaration (R227). -/
def recomputeDs (n : QueueId) (s : State) : State :=
  if sealedQueue s n then s.modQueue n fun q => { q with ds := releaseOffset q.pol s.memc.deliverable } else s

/-- A queue of a context that becomes sealed (R227): its release offset from this instant on, and the tokens of its own
policer as they stand. -/
def sealQueue (n : QueueId) (s : State) : State :=
  settle n (s.modQueue n fun q => { q with ds := releaseOffset q.pol s.memc.deliverable, ownC := q.tc, ownP := q.tp })

/-- The rate in force or accepted, the larger (R231). -/
def Queue.countedCir (q : Queue) : Nat := Nat.max q.pol.cir ((q.polNext.map fun p => p.cir).getD 0)

/-- The sum of the committed rates of queues 0 to 135 in 1/256 byte per µs, with one of them replaced. -/
def committedSum (s : State) (r : Option (QueueId × Nat)) : Nat :=
  (List.finRange 136).foldl (fun t q =>
    t + (match r with
      | some (q', c) =>
        if q' ≠ q then s.fetch.queue[q].countedCir else if sealedQueue s q then Nat.max c s.fetch.queue[q].pol.cir else c
      | none => s.fetch.queue[q].countedCir)) 0

/-- Credit of one µs to a pair of buckets (R219). -/
def credit (p : Policer) (tc tp : Nat) : Nat × Nat :=
  (Nat.min (p.cbs * 64 * 256) (tc + p.cir), Nat.min (p.pbs * 64 * 256) (tp + p.pir))

def creditQueue (n : QueueId) (s : State) : State :=
  settle n (s.modQueue n fun q =>
    let (tc, tp) := credit q.pol q.tc q.tp
    let (oc, op) := credit q.pol q.ownC q.ownP
    { q with tc := tc, tp := tp, ownC := oc, ownP := op })

/-- What a frame takes on the wire in bits: preamble and SFD 8 bytes, inter-frame gap 12 (R433, R450). -/
def frameBits (b : List Byte) : Nat := 8 * (b.length + 20)

/-- The frames that a number of bits send whole, those that stay, and the bits sent of the oldest of these. -/
def sendBits : Nat → List (List Byte) → List (List Byte) × List (List Byte) × Nat
  | _, [] => ([], [], 0)
  | n, b :: l =>
    if frameBits b ≤ n then
      let (sent, x) := sendBits (n - frameBits b) l
      (b :: sent, x)
    else ([], b :: l, n)

/-- The ETX queue sends for 1 µs at the speed of the link (log 123). -/
def Relay.drain (r : Relay) : Relay :=
  if !r.up then r
  else
    let (sent, rest, bits) := sendBits (r.etxBits + [10, 100, 1000].getD r.speed.1 0) r.etx
    { r with wire := r.wire ++ sent, etx := rest, etxBits := bits }

/-- TOKEN_CREDIT: 1 µs of FCLK time passes, and every fetch and egress queue's buckets are credited (R219, R433). Each
channel has taken what its request queue held (log 110), and the ETX queue sends. -/
def execTokenCredit (s : State) : Host.Outcome State Fault Refusal :=
  if !fabricOn s then .next s
  else
    let s := { s with fetch := { s.fetch with fclk := s.fetch.fclk + 500, chan := Vector.replicate 2 0, chanData := Vector.replicate 2 0 },
                          relay := s.relay.drain }
    let s := forEach (List.finRange 136) creditQueue s
    .next (forEach (List.finRange 16) (fun i s => s.modEgress i fun q =>
      let (tc, tp) := credit q.pol q.tc q.tp
      { q with tc := tc, tp := tp }) s)

/-! ## Zeroing of released granules (R175, R209) -/

/-- The next block to zero: the released extents are zeroed in the order of their release. -/
def dueZero (s : State) : Option Nat :=
  match s.memc.released with
  | r :: _ => guardSome (!r.waitA && !r.waitB && !r.waitE) (65536 * r.first + r.next)
  | [] => none

/-- A kind of request stands in queue_132. -/
def inQueue132 (s : State) (k : ReqKind) : Bool :=
  let q := s.fetch.queue[(132 : QueueId)]
  (q.reqs ++ q.waiting).any fun r => r.kind = k

/-- The next zeroing request enters queue_132, one at a time. -/
def kickZero (s : State) : State :=
  match dueZero s with
  | some a => if inQueue132 s .zero then s else enqueue 132 (mkRequest s .zero 0 a 256) s
  | none => s

/-- A block of the oldest released extent has been zeroed; source 189 as the last extent is done. -/
def zeroed (s : State) : State :=
  match s.memc.released with
  | [] => s
  | r :: rest =>
    if r.next + 256 < 65536 * r.count then
      kickZero { s with memc := { s.memc with released := { r with next := r.next + 256 } :: rest } }
    else
      let s := { s with memc := { s.memc with released := rest } }
      if rest.isEmpty then raise 189 s else kickZero s

/-- The boundary of a head, or a stop of it, or the canvas's composition, that the zeroing of released granules waits for
has come (Table 08-2, steps 7 and 8). -/
def zeroMay (f : Released → Released) (s : State) : State :=
  kickZero { s with memc := { s.memc with released := s.memc.released.map f } }

def ReqKind.isRead : ReqKind → Bool
  | .pixel .. | .palette .. | .flatten _ | .scrub | .scan .. | .copyRead .. | .commit .. => true
  | .correct | .zero | .copyWrite .. => false
  | .access w | .boot w => !w

/-- The channel's request queue has a free entry, with room for a write's data, or room kept for the data of a read (Table
03-2: 32 entries, 1 024 and 2 048 bytes). -/
def channelRoom (s : State) (r : Request) : Bool :=
  let ch := channelOf r.addr
  decide (s.fetch.chan[ch] < 32) &&
    (if r.kind.isRead then decide (((s.fetch.inflight[ch]).map fun p => p.2.len).sum + r.len ≤ 2048)
      else decide (s.fetch.chanData[ch] + r.len ≤ 1024))

/-- The class of the request at the head of a queue. -/
def classAt (s : State) (n : QueueId) (r : Request) : ReqClass :=
  let q := s.fetch.queue[n]
  q.classOf (sealedQueue s n) (scrubSlow s.memc.ecc n q.pol) r

/-- The head of a queue waits in a tier (R223): its tag, when it does. -/
def waitingTag (s : State) (n : QueueId) (cls : ReqClass) : Option Nat :=
  let q := s.fetch.queue[n]
  match q.reqs with
  | [] => none
  | r :: _ =>
    if classAt s n r = cls && channelRoom s r then
      (if cls = .committed then q.headFc else q.headFe)
    else none

/-- The waiting queue of a tier with the smallest tag, the lowest number on a tie (R223, R224). -/
def bestQueue (s : State) (cls : ReqClass) : Option (QueueId × Nat) :=
  (List.finRange 136).foldl (fun b n =>
    match waitingTag s n cls, b with
    | none, _ => b
    | some t, none => some (n, t)
    | some t, some (_, t') => if tagBefore t t' then some (n, t) else b) none

def maxOpt (a : Option Nat) (b : Nat) : Option Nat := some (match a with | some x => Nat.max x b | none => b)

/-- A tag that has fallen 2^46 behind its tier's virtual time stays there: every live tag keeps within 2^47 of it
(R224, log 111). -/
def keepNear (v t : Nat) : Nat :=
  let d := (v + 2 ^ 48 - t) % 2 ^ 48
  if 2 ^ 46 < d ∧ d < 2 ^ 47 then (v + 2 ^ 48 - 2 ^ 46) % 2 ^ 48 else t

/-- The tags of a queue after a grant has moved a virtual time. -/
def Queue.keepNear (vc ve : Nat) (q : Queue) : Queue := { q with
  fcPrev := Machine.keepNear vc q.fcPrev, fePrev := Machine.keepNear ve q.fePrev
  headFc := q.headFc.map (Machine.keepNear vc), headFe := q.headFe.map (Machine.keepNear ve) }

/-- Grant the head of a queue (R223): the debit, the virtual time, the next head, the place in its channel's request
queue, and a read's place among those whose data is still to be delivered in grant order (R216). -/
def grantHead (n : QueueId) (tag : Nat) (cls : ReqClass) (s : State) : State × Option Request :=
  let q := s.fetch.queue[n]
  match q.reqs with
  | [] => (s, none)
  | r :: rest =>
    let l := r.len * 256
    let wait := s.fetch.fclk - r.entered
    let isS := sealedQueue s n
    let ch := channelOf r.addr
    let f := s.fetch
    let vc := if cls = .committed then tag else f.vc
    let ve := if cls = .committed then f.ve else tag
    let q' := { q with
      tc := if cls = .committed then q.tc - l else q.tc
      tp := q.tp - l
      fcPrev := if cls = .committed then tag else q.fcPrev
      fePrev := if cls = .committed then q.fePrev else tag
      reqs := rest, headFc := none, headFe := none
      held := if r.kind.isRead then q.held ++ [{ req := r, data := none, due := false }] else q.held
      delay := if isS then q.delay else maxOpt q.delay wait
      rawDelay := maxOpt q.rawDelay wait }
    let f := { f with
      vc := vc, ve := ve
      queue := (f.queue.set n q').map fun q => q.keepNear vc ve
      chan := f.chan.set ch (f.chan[ch] + 1)
      chanData := if r.kind.isRead then f.chanData else f.chanData.set ch (f.chanData[ch] + r.len)
      inflight := if r.kind.isRead then f.inflight.set ch (f.inflight[ch] ++ [(n, r)]) else f.inflight
      turn := if n = 135 then r.requester else f.turn }
    (settle n { s with fetch := f }, some r)

/-- The scheduler may grant: memory answers, and is not about to enter self-refresh (R211, R212). -/
def mayGrant (s : State) : Bool := memAvail s && fabricOn s && !s.power.trans.any fun t => !t.exiting && decide (6 ≤ t.step)

/-- One cycle of the scheduler: the granted request with its queue. -/
def schedule (s : State) : State × Option (QueueId × Request) :=
  if !mayGrant s then (s, none)
  else match bestQueue s .committed with
    | some (n, t) => let (s, r) := grantHead n t .committed s; (s, r.map fun r => (n, r))
    | none => match bestQueue s .excess with
      | some (n, t) => let (s, r) := grantHead n t .excess s; (s, r.map fun r => (n, r))
      | none => (s, none)

/-- The depth of a queue (10.8): on a sealed queue a request counts until its release. -/
def depthOf (s : State) (n : QueueId) : Nat :=
  let q := s.fetch.queue[n]
  q.reqs.length + (q.held.filter fun x => x.req.release.isSome).length

/-- QUEUE_SAMPLE: the depth of every queue, the largest delays of the period and the DRAM latency are presented to the
monitors, and a new period begins (R234, Table 24-1). -/
def execQueueSample (s : State) : Host.Outcome State Fault Refusal :=
  if !fabricOn s then .next s
  else
    let s := forEach (List.finRange 136) (fun n s =>
      let q := s.fetch.queue[n]
      let s := sample 0x01 n.1 (depthOf s n) s
      let s := match q.delay with | some d => sample 0x02 n.1 d s | none => s
      let s := match q.rawDelay with | some d => (if n.1 < 128 then sample 0x03 n.1 d s else s) | none => s
      s.modQueue n fun q => { q with delay := none, rawDelay := none }) s
    let s := forEach [(0 : Channel), 1] (fun ch s =>
      if s.fetch.readIn[ch] then
        let s := sample 0x10 ch.1 (Config.latency s.free).toNat (bumpFree s)
        { s with fetch := { s.fetch with readIn := s.fetch.readIn.set ch false } }
      else s) s
    .next (forEach (List.finRange 16) (fun i s =>
      match s.relay.egress[i].delay with
      | some d => (sample 0x18 i.1 d s).modEgress i fun q => { q with delay := none }
      | none => s) s)

end Sys2Proof.Machine
end

