-- ==== Sys2Proof/Machine/Port.lean ====
section
/-! DEFINITION. The command port (chapter 06): issuing a command to a window's queue, taking the oldest one, the
checks before it acts and the resources it waits for. A command of one opcode is given by a check (none where it
passes), the resources it takes and its action. -/
namespace Sys2Proof.Machine

/-- How a check turns a command away: its code, its two result words, and the memory word whose uncorrectable error
its read met. -/
structure Verdict where
  code : Code
  q0 : Word
  q1 : Word
  ue : Option Nat := none
deriving DecidableEq, Repr

/-- The completion a verdict gives. -/
def turnAway (w : WinId) (v : Verdict) (s : State) : State := finish w v.code v.q0 v.q1 (logUe v.ue s)

/-- A block that holds an uncorrectable error: REJECTED with reason 0x41 (R198). -/
def badBlock (s : State) (c : CtxId) (off n : Nat) : Option Verdict :=
  (firstBad s (partBase s c + off) n).map fun w => { code := .rejected, q0 := 0x41, q1 := 0, ue := some w }

def fail (c : Code) : Option Verdict := some { code := c, q0 := 0, q1 := 0 }

/-- The first check of a list that turns the command away (R135: the checks stand in their order). -/
def firstFail (l : List (Bool × Code)) : Option Verdict :=
  match l.find? fun p => p.1 with
  | some p => fail p.2
  | none => none

/-- The first of several verdicts. -/
def orElse : List (Option Verdict) → Option Verdict
  | [] => none
  | some v :: _ => some v
  | none :: l => orElse l

/-- The parts of one opcode's meaning: `reads` gives the queue, address and length of each block it reads (R137), none
before steps 1 to 7 of R135 have passed. -/
structure Opcode where
  check : WinId → CtxId → Cmd → State → Option Verdict
  needs : CtxId → Cmd → State → List Resource
  act : WinId → CtxId → Cmd → State → State
  reads : WinId → CtxId → Cmd → State → List (QueueId × Nat × Nat) := fun _ _ _ _ => []

/-- The requests of the blocks that a command reads enter their queues. -/
def Opcode.fetch (o : Opcode) (w : WinId) (c : CtxId) (a : Cmd) (s : State) : State :=
  forEach (o.reads w c a s) (fun x s => access x.1 false c x.2.1 x.2.2 s) s

/-- Check a command and act on it, or complete it with the code of the failing check. -/
def Opcode.go (o : Opcode) (w : WinId) (c : CtxId) (a : Cmd) (s : State) : State :=
  match o.check w c a s with
  | some v => turnAway w v (o.fetch w c a s)
  | none => o.act w c a (o.fetch w c a s)

/-- Run a command that its window's executor has taken: the checks, the resources, the checks again in the state the
resources were granted in (R132, R139), the action. -/
def Opcode.run (o : Opcode) (w : WinId) (c : CtxId) (a : Cmd) (s : State) : State :=
  match o.check w c a s with
  | some v => turnAway w v (o.fetch w c a s)
  | none => acquire w (o.needs c a s) (o.go w c a) s

/-- An opcode that takes no resource beside its command slot. -/
def Opcode.simple (act : WinId → CtxId → Cmd → State → State) : Opcode where
  check := fun _ _ _ _ => none
  needs := fun _ _ _ => []
  act := act

/-- Registers and command executors answer: PD_HOST and PD_FABRIC are on and the register file is ready (R99, R101,
R536). -/
def portOpen (s : State) : Bool := pdOn .host s && pdOn .fabric s && s.boot.phase ≠ .reset

/-- The opcodes that execute between steps 2 and 6 of a start-up (R547), with those that R138 answers anyway. -/
def earlyOpcode (op : Nat) : Bool := decide (op ∈ [0x00, 0x51, 0x30, 0x31])

/-- The window's executor takes its oldest queued command when it has none in hand (R130) and runs it. -/
def startNext (w : WinId) (run : Byte → WinId → CtxId → Cmd → State → State) (s : State) : State :=
  let x := s.win[w]
  match x.exec, x.queue, winCtx s w with
  | none, e :: rest, some c =>
    let n := s.port.nextWait
    let s := { s with port := { s.port with nextWait := n + 1 } }
    let s := s.modWin w fun x => { x with
      queue := rest
      exec := some { entry := e, ctx := c, epoch := s.ctx[c].epoch, phase := .acquire [], discard := false, since := n } }
    run e.op w c e.cmd s
  | _, _, _ => s

/-- A command is issued in a window (R108): it enters the queue, or is refused when the occupancy is 16; an unbound
window ignores it (R83). -/
def issue (w : WinId) (op : Byte) (c : Cmd) (s : State) : State :=
  if !portOpen s || (winCtx s w).isNone then s
  else if 16 ≤ s.win[w].occupancy then s.modWin w fun x => { x with issueRefused := true }
  else
    let n := s.port.nextOrder
    let s := { s with port := { s.port with nextOrder := n + 1 } }
    s.modWin w fun x => { x with queue := x.queue ++ [{ op := op, cmd := c, order := n }], issued := x.issued + 1 }

/-- R547: until BOOT_DONE every command but NOP, MAQUETTE_SHORT, SCAN and SELFTEST completes BUSY; an opcode that is
not listed completes BAD_ARG (R138, log 20). -/
def bootGate (op : Byte) (run : WinId → CtxId → Cmd → State → State) (w : WinId) (c : CtxId) (a : Cmd) (s : State) :
    State :=
  if s.boot.doneFlag || earlyOpcode op.toNat then run w c a s else finish0 w .busy s

/-- A row of the command port: the command is issued in the window and, where it is then the oldest command of an idle
executor, taken and run in the same step; otherwise it waits (log 21). -/
def portRow (w : WinId) (op : Byte) (c : Cmd) (run : WinId → CtxId → Cmd → State → State) (s : State) : State :=
  let idle := s.win[w].exec.isNone && s.win[w].queue.isEmpty
  let s' := issue w op c s
  if idle then startNext w (fun op => bootGate op run) s' else s'

/-- The roles of R136. -/
def supervisor (c : CtxId) : Bool := c = 0

/-- "T self": CTX_0, or a tenant that names itself. -/
def selfOrSupervisor (c n : CtxId) : Bool := c = 0 || c = n

/-- Tell a device generation increment (R141) and complete OK. -/
def finishGen (w : WinId) (q0 q1 : Word) (s : State) : State := finish w .ok q0 q1 (bumpDevice s)

end Sys2Proof.Machine
end

