-- ==== Sys2Proof/Machine/Events.lean ====
section
/-! DEFINITION. The Event and Vector Unit (chapter 22): routing, EXTINT edges, vector ports, claims and the end of a
service, and the message of an unmasked vector. -/
namespace Sys2Proof.Machine

/-- A change that may alter the deliverable sets of a context's vectors, with the messages it causes (R484, R489). -/
def aroundCtx (c : CtxId) (f : State → State) (s : State) : State :=
  let t := f s
  (List.finRange 8).foldl (fun t v => msixNotify c v (vecLive s c v) t) t

/-- The best source of those that a test admits: the highest priority, then the lowest number. -/
def bestSource (s : State) (p : SourceId → Bool) : Option SourceId :=
  (List.finRange 288).foldl (fun b n =>
    if p n then
      match b with
      | none => some n
      | some m => if s.evu.src[m].prio.toNat < s.evu.src[n].prio.toNat then some n else b
    else b) none

/-- A source is in service at a target. -/
def inService (s : State) (n : SourceId) (t : Nat) : Bool := s.evu.src[n].service.getLsbD t

/-- The source is deliverable at VP_p (22.4, R483). -/
def deliverableAt (s : State) (p : PortId) (n : SourceId) : Bool :=
  let x := s.evu.src[n]
  x.pending && x.enable && !inService s n p.1 && x.owner = 0 && x.mask.getLsbD p.1 && s.evu.port[p].en && !s.evu.hold
    && decide (s.evu.port[p].thresh.toNat ≤ x.prio.toNat)
    && (List.finRange 288).all fun m => !inService s m p.1 || decide (s.evu.src[m].prio.toNat < x.prio.toNat)

/-- The offer of a vector port (22.5). -/
def offer (s : State) (p : PortId) : Option SourceId := bestSource s (deliverableAt s p)

/-- VP_REQ_p (R485, R493). -/
def vpReq (s : State) (p : PortId) : Bool :=
  fabricOn s && (offer s p).isSome && !(s.evu.vec.any fun v => v.1 = p)

/-- VP_WAKE_p (R491, R493): while PD_FABRIC is off, from the Drone-domain latches. -/
def vpWake (s : State) (p : PortId) : Bool :=
  (List.finRange 288).any fun n =>
    let x := s.evu.src[n]
    (if fabricOn s then x.pending else x.droneLatch) && x.enable && x.owner = 0 && x.mask.getLsbD p.1 && s.evu.port[p].en

/-- A claim places a source in service at a target and withdraws its pending bit (R485, R490). -/
def claim (n : SourceId) (t : Nat) (s : State) : State :=
  withSrc n (fun x => { x.withdraw with service := x.service ||| (1#5 <<< t) }) s

/-- The vector address of a number at a port, bits [17:2] (R115). -/
def vecAddr (s : State) (p : PortId) (m : Nat) : HalfWord :=
  let b := s.evu.port[p]
  BitVec.ofNat 16 ((b.base.toNat * 4 + m * (4 * 2 ^ b.stride.toNat)) % 2 ^ 18 / 4)

/-- The answer to an acknowledge: the offer is claimed and its vector driven, or that of 511 (R485). -/
def answer (p : PortId) (s : State) : State :=
  match offer s p with
  | some n =>
    let s := sample 0x20 p.1 (Config.latency s.free).toNat (bumpFree (claim n p.1 s))
    { s with evu := { s.evu with vec := some (p, vecAddr s p n.1) } }
  | none => { s with evu := { s.evu with vec := some (p, vecAddr s p 511) } }

def setWaiting (p : PortId) (b : Bool) (s : State) : State :=
  { s with evu := { s.evu with port := s.evu.port.set p { s.evu.port[p] with waiting := b } } }

/-- VP_ACK_RECOGNIZED: answered at once while VEC is free, else it waits (R486). -/
def execVpAckRecognized (p : PortId) (s : State) : Host.Outcome State Fault Refusal :=
  if !fabricOn s then .next s
  else match s.evu.vec with
    | none => .next (answer p s)
    | some v => if v.1 = p then .next s else .next (setWaiting p true s)

/-- VP_ACK_RELEASE: VEC is released, or a waiting acknowledge is dropped; then a waiting one is answered, the lowest
port first (R486, log 22). -/
def execVpAckRelease (p : PortId) (s : State) : Host.Outcome State Fault Refusal :=
  if !fabricOn s then .next s
  else if s.evu.vec.any fun v => v.1 = p then
    let s := { s with evu := { s.evu with vec := none } }
    match (List.finRange 4).find? fun q => s.evu.port[q].waiting with
    | some q => .next (answer q (setWaiting q false s))
    | none => .next s
  else .next (setWaiting p false s)

/-- A panel sequence drives the GPIO; an EXTINT pin that a sequence drives raises no edge (R482). EXTINT_n is GPIO_n (R346). -/
def pinDriven (s : State) (p : PinId) : Bool := s.pins.gpio[p] ≠ .highZ

/-- EXTINT_EDGE: a filtered rising edge raises source 248 + n, and may wake the device (R482, R537). -/
def execExtintEdge (p : PinId) (s : State) : Host.Outcome State Fault Refusal :=
  if pinDriven s p then .next s else .next (wakeRequest (.extint p) (raise (248 + p.1) s))

/-- The mask bit of a vector has cleared: a message that its set calls for is sent (R489). -/
def unmasked (f : FnId) (v : VectorId) (s : State) : State := if vecLive s f v then sendMsix f v s else clearPba f v s

/-- MSIX_VECTOR_UNMASK: the mask bit of a vector clears. -/
def execMsixVectorUnmask (f : FnId) (v : VectorId) (s : State) : Host.Outcome State Fault Refusal :=
  .next (unmasked f v (s.modFn f fun x => { x with msix := x.msix.set v { x.msix[v] with control := x.msix[v].control &&& ~~~1 } }))

/-- VEC_CLAIM (R116): the claimed source with its priority and merge counter, or 511. -/
def claimOf (s : State) (c : CtxId) : Option SourceId :=
  bestSource s fun n => let x := s.evu.src[n]; x.owner = c && x.pending && x.enable

def claimWord (s : State) (c : CtxId) : Word :=
  match claimOf s c with
  | some n => put n.1 0 9 ||| put s.evu.src[n].prio.toNat 12 4 ||| put s.evu.src[n].merge.toNat 16 8
  | none => 511

def claimOwn (c : CtxId) (s : State) : State :=
  match claimOf s c with
  | some n => claim n 4 s
  | none => s

/-- A VEC_DONE write of a context (Table 05-13, R487, R490). -/
def writeVecDone (c : CtxId) (v : Word) (s : State) : State :=
  let t := fld v 12 3
  if h : fld v 0 9 < 288 then
    let n : SourceId := ⟨fld v 0 9, h⟩
    let own := s.evu.src[n].owner = c
    if (t < 4 ∧ c = 0) ∨ (t = 4 ∧ own) then
      withSrc n (fun x => { x with service := x.service &&& ~~~(1#5 <<< t) }) s
    else s
  else s

/-- The source that bit b of the selected group stands for, where it exists (Table 05-9). -/
def groupSource (g : BitVec 4) (b : Nat) : Option SourceId :=
  if h : 32 * g.toNat + b < 288 then some ⟨32 * g.toNat + b, h⟩ else none

/-- A write of EVT_PEND: bits of 1 withdraw owned pending bits (R114, R480). -/
def writeEvtPend (c : CtxId) (g : BitVec 4) (v : Word) (s : State) : State :=
  forEach (List.range 32) (fun b s =>
    match groupSource g b with
    | some n => if v.getLsbD b && s.evu.src[n].owner = c && s.evu.src[n].pending then withSrc n Source.withdraw s else s
    | none => s) s

/-- A write of EVT_ENABLE (R114). -/
def writeEvtEnable (c : CtxId) (g : BitVec 4) (v : Word) (s : State) : State :=
  forEach (List.range 32) (fun b s =>
    match groupSource g b with
    | some n => if s.evu.src[n].owner = c then withSrc n (fun x => { x with enable := v.getLsbD b }) s else s
    | none => s) s

/-- One word of pending or enable bits of a group (R114). -/
def groupWord (s : State) (c : CtxId) (g : BitVec 4) (f : Source → Bool) : Word :=
  (List.range 32).foldl (fun v b =>
    match groupSource g b with
    | some n => v ||| putB (s.evu.src[n].owner = c && f s.evu.src[n]) b
    | none => v) 0

/-- EVT_CTL.MERGE_SEL as a source. -/
def mergeSource (m : BitVec 9) : Option SourceId := if h : m.toNat < 288 then some ⟨m.toNat, h⟩ else none

/-- EVT_CTL.MERGE_CLR on the selected source, where the context owns it. -/
def clearMerge (c : CtxId) (m : BitVec 9) (s : State) : State :=
  match mergeSource m with
  | some n => if s.evu.src[n].owner = c then s.modSrc n fun x => { x with merge := 0 } else s
  | none => s

/-- EVT_CTL.HOLD (R484): messages of CTX_0 stop, and are sent again for sets that are not empty when it clears. -/
def setHold (b : Bool) (s : State) : State :=
  aroundCtx 0 (fun s => { s with evu := { s.evu with hold := b } }) s

/-- A source changes owner (R478). -/
def Source.moveTo (x : Source) (c : CtxId) : Source :=
  { x with owner := c, pending := false, enable := false, merge := 0, service := 0 }

/-- Give a source to a context, with a priority and mask; a source that keeps its owner keeps its delivery state. -/
def routeSource (n : SourceId) (c : CtxId) (prio mask : BitVec 4) (s : State) : State :=
  let o := s.evu.src[n].owner
  aroundCtx o (fun s => s.modSrc n fun x =>
    { (if x.owner = c then x else x.moveTo c) with prio := prio, mask := mask }) s

/-- A source returns to CTX_0 as at cold reset (R476, Table 08-2, step 3). -/
def returnSource (n : SourceId) (s : State) : State := routeSource n 0 0 0 s

/-- The sources a tenant can own (R477). -/
def tenantSource (n : Nat) : Bool :=
  decide (n ∈ [128, 129, 130, 144, 145, 146] ∨ (216 ≤ n ∧ n ≤ 263))

/-- The timer channel of a source 216 to 247. -/
def sourceTimer (n : Nat) : Option TimerId :=
  if h : 216 ≤ n ∧ n ≤ 247 then some ⟨(n - 216) / 2, by omega⟩ else none

/-- The checks of EVT_ROUTE (R135, R477). A context that is detaching counts as unattached (log 23). -/
def checkEvtRoute (_ : WinId) (c : CtxId) (a : Cmd) (s : State) : Option Verdict :=
  let n := fld a.a0 0 9
  let o := argCtx a.a1
  firstFail [
    (!supervisor c, .denied),
    (!argBits a 0x1FF 0xF0F3F 0 0, .badArg),
    (decide (n < 128 ∨ 287 < n), .badArg),
    (!attached s o, .badArg),
    (decide (o ≠ 0 ∧ fld a.a1 8 4 ≠ 0), .badArg),
    (decide (o ≠ 0) && !tenantSource n, .badArg),
    ((sourceTimer n).any fun t => s.timer[t].owner ≠ o, .badArg)]

/-- EVT_ROUTE (R476 to R478). -/
def actEvtRoute (w : WinId) (_ : CtxId) (a : Cmd) (s : State) : State :=
  if h : fld a.a0 0 9 < 288 then
    finishGen w 0 0 (routeSource ⟨fld a.a0 0 9, h⟩ (argCtx a.a1) (a.a1.extractLsb' 16 4) (a.a1.extractLsb' 8 4) s)
  else finish0 w .badArg s

def opEvtRoute : Opcode := { check := checkEvtRoute, needs := fun _ _ _ => [], act := actEvtRoute }

/-- EVT_ROUTE (0x70). -/
def execEvtRoute (w : WinId) (c : Cmd) (s : State) : Host.Outcome State Fault Refusal :=
  .next (portRow w 0x70 c opEvtRoute.run s)

/-- TIM_SEL.OWNER changes: both sources of the channel move (R478). -/
def setTimerOwner (t : TimerId) (c : CtxId) (s : State) : State :=
  if s.timer[t].owner = c then s
  else
    let s := s.modTimer t fun x => { x with owner := c }
    let mv (k : Nat) (s : State) : State :=
      if h : 216 + 2 * t.1 + k < 288 then
        let n : SourceId := ⟨216 + 2 * t.1 + k, h⟩
        routeSource n c s.evu.src[n].prio s.evu.src[n].mask s
      else s
    mv 1 (mv 0 s)

/-- PD_FABRIC returns: each source the Drone domain latched becomes pending once (R493). -/
def injectLatches (s : State) : State :=
  forEach (List.finRange 288) (fun n s =>
    if s.evu.src[n].droneLatch then
      withSrc n (fun x =>
        let m := if x.pending then x.merge.toNat + x.droneCount.toNat else x.merge.toNat + x.droneCount.toNat - 1
        { x with pending := true, merge := BitVec.ofNat 8 (Nat.min 255 m), droneLatch := false, droneCount := 0 }) s
    else s) s

/-- The MERGE field of EVT_CTL for a context. -/
def mergeOf (s : State) (c : CtxId) (m : BitVec 9) : Nat :=
  match mergeSource m with
  | some n => if s.evu.src[n].owner = c then s.evu.src[n].merge.toNat else 0
  | none => 0

end Sys2Proof.Machine
end

