-- ==== Sys2Proof/Machine/Faults.lean ====
section
/-! DEFINITION. The fault log (chapter 27): its words, FAULT_CLEAR, and the entries held while PD_FABRIC is off. -/
namespace Sys2Proof.Machine

/-- The 16 bytes of an entry as four words (Table 27-1). -/
def FaultEntry.words (e : FaultEntry) : Vector Word 4 :=
  #v[e.time.setWidth 32, BitVec.ofNat 32 (e.time.toNat / 2 ^ 32),
     put e.code.toNat 0 8 ||| put e.unit_.toNat 8 8
       ||| (match e.ctx with | some c => put c.1 16 6 ||| putB true 22 | none => 0) ||| put e.cls.toNat 24 2,
     e.arg]

/-- The log is emptied (R569): OVERFLOW clears, every window's snapshot goes, the seen bits stay. -/
def clearFaults (s : State) : State :=
  { s with
    faults := { s.faults with entries := [], overflow := false }
    win := s.win.map fun x => { x with snapshot := none } }

def actFaultClear (w : WinId) (_ : CtxId) (_ : Cmd) (s : State) : State :=
  finish w .ok (put s.faults.entries.length 0 7) 0 (clearFaults s)

def opFaultClear : Opcode where
  check := fun _ c a _ => firstFail [(!supervisor c, .denied), (!argBits a 0 0 0 0, .badArg)]
  needs := fun _ _ _ => []
  act := actFaultClear

/-- FAULT_CLEAR (0x58, R569). -/
def execFaultClear (w : WinId) (c : Cmd) (s : State) : Host.Outcome State Fault Refusal :=
  .next (portRow w 0x58 c opFaultClear.run s)

/-- The entries the Drone domain holds enter the log as PD_FABRIC is restored (R568). -/
def restoreFaults (s : State) : State :=
  let held := s.faults.held
  let lostOne := s.faults.heldOverflow
  let s := { s with faults := { s.faults with held := [], heldOverflow := false } }
  let s := forEach held enterFault s
  if lostOne then { s with faults := { s.faults with overflow := true } } else s

end Sys2Proof.Machine
end

