-- ==== Sys2Proof/Machine/Timers.lean ====
section
/-! DEFINITION. Timers (chapter 23): the counting step, compares and outputs, starts and stops, and chaining. -/
namespace Sys2Proof.Machine

/-- What one counting step does: the count after it, its direction, the wrap it makes, the direction after it, and
whether it is the last step of a one-shot mode (Table 23-1). -/
structure CountStep where
  count : Word
  up : Bool
  ovf : Bool
  unf : Bool
  down : Bool
  last : Bool
deriving DecidableEq, Repr

/-- The counting step of a mode from a count (Table 23-1); none where the channel does not step. A count at or above
PERIOD in mode 2 counts down, and a count of 0 counts up (log 31). -/
def Timer.countStep (x : Timer) : Option CountStep :=
  let c := x.count
  match x.mode.toNat with
  | 0 =>
    let wrap := c = x.period ∨ c = 0xFFFFFFFF
    some { count := if wrap then 0 else c + 1, up := true, ovf := decide wrap, unf := false, down := false, last := false }
  | 1 =>
    some { count := if c = 0 then x.period else c - 1, up := false, ovf := false, unf := decide (c = 0), down := true, last := false }
  | 2 =>
    if x.period = 0 then none
    else
      let up := c.toNat < x.period.toNat ∧ (c = 0 ∨ x.down = false)
      if up then
        let turn := decide (c + 1 = x.period)
        some { count := c + 1, up := true, ovf := turn, unf := false, down := turn, last := false }
      else
        let turn := decide (c - 1 = 0)
        some { count := c - 1, up := false, ovf := false, unf := turn, down := !turn, last := false }
  | 3 =>
    let last := decide (x.period.toNat ≤ c.toNat + 1)
    some { count := if last then x.period else c + 1, up := true, ovf := last, unf := false, down := false, last := last }
  | 4 =>
    let last := decide (c.toNat ≤ 1)
    some { count := if last then 0 else c - 1, up := false, ovf := false, unf := last, down := true, last := last }
  | _ => none

/-- An action field: 1 drives high, 2 low, 3 toggles. -/
def timerAction (a : BitVec 2) (out : Bool) : Bool := if a = 1 then true else if a = 2 then false else if a = 3 then !out else out

/-- The first action that is not "none": compare B's, else compare A's, else the wrap's (R118). -/
def chooseAction (b a w : BitVec 2) : BitVec 2 := if b ≠ 0 then b else if a ≠ 0 then a else w

/-- The duty compare of a backlight channel: max(C_F, C_D) of R357 for a stored compare. -/
def effCompare (dim : Bool) (scale floor : Nat) (period cmpA : Word) : Word :=
  let cd := if dim then cmpA.toNat * scale / 256 else cmpA.toNat
  BitVec.ofNat 32 (max cd (ceilDiv (floor * period.toNat) 256))

/-- A channel after one counting step, whether it matched and whether it wrapped. `eff` gives the effective compare
from PERIOD and CMP_A at a turning point of a backlight channel. -/
def Timer.tick (x : Timer) (eff : Word → Word → Word) : Timer × Bool × Bool :=
  match x.countStep with
  | none => (x, false, false)
  | some k =>
    let ca := x.eff.getD x.cmpA
    let ma := decide (k.count = ca)
    let mb := decide (k.count = x.cmpB)
    let wrap := k.ovf || k.unf
    let act := chooseAction (if mb then (if k.up then x.bUp else x.bDown) else 0)
      (if ma then (if k.up then x.aUp else x.aDown) else 0)
      (if k.ovf then x.ovf else if k.unf then x.unf else 0)
    let st := x.status ||| (if ma then 1 else 0) ||| (if mb then 2 else 0) ||| (if k.ovf then 4 else 0) ||| (if k.unf then 8 else 0)
    let y := { x with count := k.count, down := k.down, status := st, out := timerAction act x.out }
    let y := if wrap then
        { y with
          period := y.heldPeriod.getD y.period, cmpA := y.heldA.getD y.cmpA, cmpB := y.heldB.getD y.cmpB
          heldPeriod := none, heldA := none, heldB := none }
      else y
    let y := if wrap then { y with eff := y.eff.map fun _ => eff y.period y.cmpA } else y
    let y := if k.last then { y with en := false, out := y.outInit } else y
    (y, ma || mb, wrap)

/-- The divisor of the prescaler, in 1/256 (R498). -/
def Timer.div (x : Timer) : Nat := x.int_.toNat * 256 + x.frac.toNat

/-- A start (R506): the accumulator is 0, the output takes OUT_INIT, the direction is that of the mode. -/
def Timer.start (x : Timer) : Timer :=
  { x with
    en := true, acc := 0, out := x.outInit
    down := match x.mode.toNat with
      | 1 | 4 => true
      | 2 => !decide (x.count.toNat < x.period.toNat)
      | _ => false }

/-- A stop (R506): the count and direction stay, the output takes OUT_INIT. -/
def Timer.stop (x : Timer) : Timer := { x with en := false, out := x.outInit }

/-- The head whose backlight channel a timer is (R354). -/
def backlightHead (s : State) (t : TimerId) : Option ContHead := conts.find? fun h => s.panel[h].backlight = some t

/-- The effective compare of a timer in the present mode and under the lock's floor (R357). -/
def effOf (s : State) (t : TimerId) (period cmpA : Word) : Word :=
  match backlightHead s t with
  | none => cmpA
  | some h => effCompare (s.power.mode = .dim) s.power.dimScale (if protLocked s h then s.prot[h].floor.toNat else 0) period cmpA

/-- The source selected by CLK gives edges to the channel (R117, R497). Chained channels take theirs from below. -/
def clkRuns (s : State) (t : TimerId) : Bool :=
  let headRuns (h : ContHead) := started s h && !s.head[h].gated
  match s.timer[t].clk.toNat with
  | 0 => decide (t.1 < 12) && fabricOn s
  | 1 => decide (12 ≤ t.1) || fabricOn s
  | 2 => s.drone.xtal32Ok && (decide (12 ≤ t.1) || fabricOn s)
  | 3 => decide (t.1 < 12) && headRuns 0
  | 4 => decide (t.1 < 12) && headRuns 1
  | 5 => decide (t.1 < 12) && headRuns 0
  | 6 | 7 | 8 | 9 => decide (t.1 < 12) && fabricOn s
  | _ => false

/-- The channel that a channel's wraps feed (R508): not across the Drone boundary. -/
def chainedAbove (t : TimerId) : Option TimerId :=
  if h : t.1 + 1 < 16 then (if t.1 + 1 = 12 then none else some ⟨t.1 + 1, h⟩) else none

/-- One counting step of a channel with its events (R513), and the edge its wrap gives to the channel above, through
the chain. -/
def timerStep : Nat → TimerId → State → State
  | 0, _, s => s
  | n + 1, t, s =>
    let (y, hit, wrap) := s.timer[t].tick (effOf s t)
    let s := s.modTimer t fun _ => y
    let s := if hit then raise (216 + 2 * t.1) s else s
    let s := if wrap then raise (217 + 2 * t.1) s else s
    let s := if h : (hit || wrap) ∧ 12 ≤ t.1 then wakeRequest (.timer ⟨t.1 - 12, by omega⟩) s else s
    if !wrap then s
    else match chainedAbove t with
      | none => s
      | some u =>
        let x := s.timer[u]
        if !(x.en && x.clk = 10) then s
        else if x.div ≤ x.acc + 256 then
          timerStep n u (s.modTimer u fun x => { x with acc := x.acc + 256 - x.div })
        else s.modTimer u fun x => { x with acc := x.acc + 256 }

/-- TIMER_TICK: the prescaler of a running channel reaches its divisor, and the channel takes one step. -/
def execTimerTick (t : TimerId) (s : State) : Host.Outcome State Fault Refusal :=
  let x := s.timer[t]
  if x.en && clkRuns s t then
    .next (timerStep 16 t (s.modTimer t fun x => { x with acc := x.acc + 256 * ceilDiv (x.div - x.acc) 256 - x.div }))
  else .next s

/-- A TIM_CTL write (R506, R117); TOUT is the supervisor's (R495). -/
def Timer.writeCtl (x : Timer) (sup : Bool) (v : Word) : Timer :=
  let mode : BitVec 3 := v.extractLsb' 1 3
  if 5 ≤ mode.toNat then x
  else
    let clk : BitVec 4 := v.extractLsb' 4 4
    let changed := mode ≠ x.mode ∨ clk ≠ x.clk
    let y := { x with
      mode := mode, clk := clk, aUp := v.extractLsb' 8 2, aDown := v.extractLsb' 10 2, bUp := v.extractLsb' 12 2
      bDown := v.extractLsb' 14 2, ovf := v.extractLsb' 16 2, unf := v.extractLsb' 18 2, preload := v.getLsbD 20
      outInit := v.getLsbD 21, tout := if sup then v.extractLsb' 24 4 else x.tout }
    match x.en, v.getLsbD 0 with
    | false, false => y.stop
    | true, false => y.stop
    | false, true => y.start
    | true, true => if changed then y.start else y

/-- TIM_CTL as it reads (Table 05-16). -/
def Timer.readCtl (x : Timer) : Word :=
  putB x.en 0 ||| put x.mode.toNat 1 3 ||| put x.clk.toNat 4 4 ||| put x.aUp.toNat 8 2 ||| put x.aDown.toNat 10 2
    ||| put x.bUp.toNat 12 2 ||| put x.bDown.toNat 14 2 ||| put x.ovf.toNat 16 2 ||| put x.unf.toNat 18 2
    ||| putB x.preload 20 ||| putB x.outInit 21 ||| putB x.out 22 ||| put x.tout.toNat 24 4

/-- A TIM_PERIOD, TIM_CMP_A or TIM_CMP_B write (R504): held while the channel runs with PRELOAD. -/
def Timer.writePeriod (x : Timer) (v : Word) : Timer :=
  if x.preload && x.en then { x with heldPeriod := some v } else { x with period := v }
def Timer.writeA (x : Timer) (v : Word) : Timer :=
  if x.preload && x.en then { x with heldA := some v } else { x with cmpA := v }
def Timer.writeB (x : Timer) (v : Word) : Timer :=
  if x.preload && x.en then { x with heldB := some v } else { x with cmpB := v }

/-- A TIM_COUNT write (R505). -/
def Timer.writeCount (x : Timer) (v : Word) : Timer := { x with count := v }

/-- A TIM_PRESCALE write: a written INT of 0 is stored as 1; the accumulator clears (R498). -/
def Timer.writePrescale (x : Timer) (v : Word) : Timer :=
  let i : HalfWord := v.extractLsb' 0 16
  { x with int_ := if i = 0 then 1 else i, frac := v.extractLsb' 16 8, acc := 0 }

def Timer.readPrescale (x : Timer) : Word := put x.int_.toNat 0 16 ||| put x.frac.toNat 16 8

/-- TIM_STATUS as it reads (Table 05-18). -/
def Timer.readStatus (x : Timer) : Word := put x.status.toNat 0 4 ||| putB x.en 4 ||| putB x.down 5

def Timer.clearStatus (x : Timer) (v : Word) : Timer := { x with status := x.status &&& ~~~(v.extractLsb' 0 4) }

/-- A start or stop by TIM_START (R119). -/
def Timer.startStop (x : Timer) (start stop : Bool) : Timer :=
  if stop then (if x.en then x.stop else x) else if start then (if x.en then x else x.start) else x

/-- A write of a timer register by offset, on the channel itself. -/
def Timer.writeReg (x : Timer) (sup : Bool) (off : Nat) (v : Word) : Timer :=
  match off with
  | 0x60 => x.writeCount v
  | 0x64 => x.writePeriod v
  | 0x68 => x.writeA v
  | 0x6C => x.writeB v
  | 0x70 => x.writeCtl sup v
  | 0x74 => x.writePrescale v
  | 0x7C => x.clearStatus v
  | _ => x

/-- A RESET_CTL reset of TIM_0 to TIM_11 (R512): every field but OWNER, and not a backlight channel. -/
def resetTimers (s : State) : State :=
  forEach ((List.finRange 16).filter fun t => t.1 < 12) (fun t s =>
    if (backlightHead s t).isSome then s else s.modTimer t fun x => { Timer.reset with owner := x.owner }) s

/-- The level a TOUT pin is driven to (R118, R503): the lowest-numbered channel routed to it, low with none. -/
def toutLevel (s : State) (p : Nat) : Bool :=
  match (List.finRange 16).find? fun t => s.timer[t].tout.toNat = p + 1 with
  | some t => s.timer[t].out
  | none => false

end Sys2Proof.Machine
end

