-- ==== Sys2Proof/Machine/Flags.lean ====
section
/-! DEFINITION. What every register reads as (chapter 05): the status words of the device and of each unit, for the
context that reads, before any side effect of the read. -/
namespace Sys2Proof.Machine

/-- CAPS (Table 05-3). An unbound window reads as a tenant's bank (log 24). -/
def capsWord (s : State) (sup : Bool) : Word :=
  putB s.memc.ecc 0 ||| putB s.pcie.linkUp 1 ||| putB s.boot.straps.flashBoot 2 ||| putB s.boot.straps.hbSync 3
    ||| (if sup then put (if s.memc.ready then s.memc.sizeCode else 0) 4 4 else 0) ||| put (if sup then 64 else 4) 16 8

/-- WIN_INFO (Table 05-4). -/
def winInfoWord (s : State) (w : WinId) : Word :=
  let x := s.win[w]
  let (path, num) := match winPath w with
    | .cs c => (0, c.1)
    | .fn f => if f = 0 then (1, 0) else (2, f.1)
  put ((winCtx s w).getD 0).1 0 6 ||| putB (winCtx s w).isSome 6 ||| putB x.halfErr 7 ||| put path 8 2 ||| put num 10 6
    ||| put x.mwStatus.toNat 16 3 ||| putB x.issueRefused 19

/-- The status codes of Table 06-1. -/
def Code.num : Code → Nat
  | .ok => 0 | .queued => 1 | .denied => 2 | .badArg => 3 | .outOfPartition => 4 | .rejected => 5 | .aborted => 6
  | .timeout => 7 | .stalled => 8 | .incomplete => 9 | .locked => 10 | .noResource => 11 | .busy => 12

/-- CMD_STATUS as a read returns it (Table 05-6, R109, R110): the counts are those after the read. A command that was
executing when its binding ended is no command of the new binding. -/
def cmdStatusWord (x : Window) : Word :=
  match x.done with
  | d :: rest =>
    let occ := x.occupancy - 1
    put d.tag.toNat 0 8 ||| put d.code.num 8 8 ||| putB true 16 ||| put occ 17 5 ||| put rest.length 22 5
  | [] =>
    let oldest := match x.exec with
      | some e => if e.discard then x.queue.head? else some e.entry
      | none => x.queue.head?
    (match oldest with
      | some e => put e.cmd.tag.toNat 0 8 ||| put Code.queued.num 8 8
      | none => 0)
      ||| put x.occupancy 17 5

/-- EVT_CTL (Table 05-10); HOLD reads 0 in a tenant's bank. -/
def evtCtlWord (s : State) (x : Window) (c : CtxId) : Word :=
  putB (supervisor c && s.evu.hold) 0 ||| put (mergeOf s c x.mergeSel) 8 8 ||| put x.mergeSel.toNat 16 9

/-- VEC_BASE of the selected port (Table 05-11). -/
def vecBaseWord (p : VPort) : Word :=
  put p.base.toNat 2 16 ||| put p.stride.toNat 18 2 ||| put p.thresh.toNat 20 4 ||| putB p.en 24

/-- The timer channel is visible to the context (Table 05-14). -/
def timVisible (s : State) (c : CtxId) (t : TimerId) : Bool := supervisor c || s.timer[t].owner = c

def timSelWord (s : State) (x : Window) (c : CtxId) : Word :=
  put x.timSel.1 0 4 ||| putB (timVisible s c x.timSel) 8 ||| putB (decide (12 ≤ x.timSel.1)) 9
    ||| (if timVisible s c x.timSel then put s.timer[x.timSel].owner.1 16 6 else 0)

/-- The Drone-domain channel of a number, none for TIM_0 to TIM_11. -/
def droneTimer (t : TimerId) : Option (Fin 4) := if 12 ≤ t.1 then some ⟨t.1 - 12, by omega⟩ else none

/-- What a write that waits does to its channel; `sup` is true, since the shadow holds TOUT as it is to be (R495). -/
def TimerWrite.apply (e : TimerWrite) (k : Fin 4) (x : Timer) : Timer :=
  match e with
  | .reg t off v => if t = k then x.writeReg true off v else x
  | .startStop a b => x.startStop (a.getLsbD k.1) (b.getLsbD k.1)

/-- The channel as its registers read: a value that waits for its handshake stands in for the field (R62); the status
and the output are those that the Drone domain last gave. -/
def timerView (s : State) (t : TimerId) : Timer :=
  let x := s.timer[t]
  match droneTimer t with
  | none => x
  | some k =>
    let y := s.timerShadow.foldl (fun y e => match e with
      | .reg .. => e.apply k y
      | .startStop .. => y) x
    { y with out := x.out, status := x.status }

/-- The timer window (Tables 05-15 to 05-18). PERIOD and the compares read the last written value. TOUT is a field marked S
and reads 0 for a tenant (R103), although 23.9 has a tenant's view show it (DESIGN CHOICE, log 125). -/
def timWord (s : State) (x : Window) (c : CtxId) (off : Nat) : Word :=
  let t := x.timSel
  let y := timerView s t
  if !timVisible s c t then 0
  else if off = 0x60 then y.count
  else if off = 0x64 then y.heldPeriod.getD y.period
  else if off = 0x68 then y.heldA.getD y.cmpA
  else if off = 0x6C then y.heldB.getD y.cmpB
  else if off = 0x70 then (if supervisor c then y.readCtl else y.readCtl &&& 0xF0FFFFFF)
  else if off = 0x74 then y.readPrescale
  else s.timer[t].readStatus

/-- The monitor channel is visible to the context (Table 05-19). -/
def monVisible (s : State) (c : CtxId) (m : MonId) : Bool := supervisor c || s.mon[m].bound = some c

def monSelWord (s : State) (x : Window) (c : CtxId) : Word :=
  put x.monSel.1 0 5 ||| putB (monVisible s c x.monSel) 8
    ||| (if monVisible s c x.monSel then put (s.mon[x.monSel].bound.getD 0).1 16 6 else 0)

/-- An item of MON_HIST_DATA (Table 05-20). -/
def Monitor.item (x : Monitor) (i : Nat) : Word :=
  if h : i < 16 then x.bins[i]
  else if i = 16 then x.count
  else if i = 17 then x.highMark
  else if i = 18 then x.lowMark
  else if i = 19 then put x.highCross.toNat 16 16 ||| put x.lowCross.toNat 0 16
  else if i = 20 then x.base
  else if i = 21 then x.width
  else 0

/-- MON_CTL (Table 05-21). -/
def Monitor.ctl (x : Monitor) : Word :=
  putB x.en 0 ||| putB x.log2 1 ||| putB x.freeze 3 ||| putB x.highSeen 4 ||| putB x.lowSeen 5 ||| putB x.highLive 6
    ||| putB x.lowLive 7 ||| put x.probe.toNat 16 8

/-- The monitor window. -/
def monWord (s : State) (x : Window) (c : CtxId) (off : Nat) : Word :=
  let y := s.mon[x.monSel]
  if off = 0x8C then put x.histItem.toNat 0 5 ||| putB x.histAuto 8
  else if !monVisible s c x.monSel then 0
  else if off = 0x84 then y.min
  else if off = 0x88 then y.max
  else if off = 0x90 then y.item x.histItem.toNat
  else y.ctl

/-- A head's bits of HEAD_STATUS (Table 05-22). -/
def headBits (s : State) (h : ContHead) : Nat :=
  let x := s.head[h]
  let y := s.syn[headId h]
  let b (v : Bool) (n : Nat) : Nat := if v then 2 ^ n else 0
  b x.started 0 + b x.link 1 + b x.gl.locked 2 + b s.prot[h].safeShowing 3 + b (protLocked s h) 4
    + b (y.bore = .locked && y.out = .running) 5

/-- The segment driver runs: its plate is driven (SEG_RUN). -/
def segRunning (s : State) : Bool := match s.seg.run with
  | .running | .stopping _ => true
  | _ => false

def headStatusWord (s : State) : Word :=
  put (headBits s 0) 0 6 ||| put (headBits s 1) 8 6 ||| putB (s.epd.run.any fun r => r.step ≠ .composeWait) 16 ||| putB s.epd.railsShown 17
    ||| putB (segRunning s) 18 ||| putB s.memc.ready 24 ||| putB s.boot.doneFlag 25 ||| putB s.drone.fallbackShown 26

/-- FRAME_COUNT_A and FRAME_COUNT_B (Table 05-23, R121). -/
def frameCountWord (x : Head) : Word := put (if x.started then x.line else 0) 0 13 ||| put x.frame.toNat 13 19

/-- COMMIT_STATUS (Table 05-24). -/
def commitStatusWord (s : State) (c : CtxId) : Word :=
  let x := s.ctx[c]
  let n := (s.commits.filter fun p => p.ctx = c).length
  put x.appliedId.toNat 0 16 ||| put x.appliedHead.toNat 16 2 ||| put (Nat.min 15 n) 20 4 ||| put x.appliedFrame.toNat 24 8

/-- FAULT_SUMMARY (Table 05-25). -/
def faultSummaryWord (s : State) (x : Window) (sup : Bool) : Word :=
  let f := s.faults
  let common := putB s.memc.ready 8 ||| putB s.boot.doneFlag 9
  if !sup then common
  else
    common ||| put x.cursor.toNat 0 8 ||| putB f.bootFault 10 ||| putB f.seen.shed 12 ||| putB f.seen.underrun 13
      ||| putB f.seen.mismatch 14 ||| putB f.seen.stall 15 ||| putB f.seen.clkLoss 16 ||| putB f.seen.ecc 17
      ||| putB f.seen.lapse 18 ||| putB f.seen.therm 19 ||| put f.entries.length 24 7 ||| putB f.overflow 31

/-- The entry number and word that FAULT_SUMMARY.CURSOR selects. -/
def cursorEntry (x : Window) : Nat := x.cursor.toNat / 4
def cursorWord (x : Window) : Nat := x.cursor.toNat % 4

/-- FAULT_LOG_DATA (R122): word 0 is live, words 1 to 3 come from the snapshot. -/
def faultDataWord (s : State) (x : Window) : Word :=
  if cursorWord x = 0 then
    match s.faults.entries[cursorEntry x]? with
    | some e => e.words[0]
    | none => 0
  else
    match x.snapshot with
    | some (n, v) => if n.toNat = cursorEntry x then v[cursorWord x]?.getD 0 else 0
    | none => 0

def Mode.num : Mode → Nat
  | .run => 0 | .dim => 1 | .hold => 2 | .off => 3

/-- POWER_STATE (Table 05-26); a tenant sees MODE. -/
def powerStateWord (s : State) (sup : Bool) : Word :=
  let p := s.power
  put p.mode.num 0 3 ||| (if sup then putB p.trans.isSome 3 ||| putB p.refused 4 ||| put p.domains.toNat 8 9 ||| put p.wake.toNat 20 3 else 0)

/-- TEMP (Table 05-28). -/
def tempWord (s : State) : Word := put s.power.die.toNat 0 16 ||| put s.power.therm.toNat 16 12 ||| putB s.power.thermValid 31

/-- CLK_STATUS (Table 05-29). -/
def clkStatusWord (s : State) : Word :=
  putB s.drone.xtalOk 0 ||| putB s.drone.xtal32Ok 1 ||| putB s.drone.pllLock 2 ||| putB s.pcie.refclk 3
    ||| putB (s.syn[0].bore = .locked) 4 ||| putB (s.syn[1].bore = .locked) 5 ||| putB (s.syn[2].bore = .locked) 6
    ||| putB s.relay.erx 7 ||| putB s.head[0].pll 8 ||| putB s.head[1].pll 9 ||| putB s.drone.xtalLost 16
    ||| putB s.syn[0].lost 17 ||| putB s.syn[1].lost 18 ||| putB s.syn[2].lost 19

/-- The Caliper unit is visible to the context (Table 05-30). -/
def calVisible (s : State) (c : CtxId) (u : CalId) : Bool := supervisor c || s.cal[u].owner = c

/-- The Caliper window (Table 05-31, R125). -/
def calWord (s : State) (x : Window) (c : CtxId) (off : Nat) : Word :=
  let y := s.cal[x.calSel]
  if !calVisible s c x.calSel || (x.calSel = 3 && cal3Reserved s && !supervisor c) then 0
  else if off = 0xC4 then
    putB y.op.isSome 0 ||| putB y.done 1 ||| putB y.match_ 2 ||| putB y.incomplete 3 ||| put y.feed.toNat 4 3
      ||| put y.yieldsShown.toNat 8 8 ||| put y.owner.1 16 6
  else if off = 0xC8 then y.value.setWidth 32
  else BitVec.ofNat 32 (y.value.toNat / 2 ^ 32)

/-- RELAY_STATUS (Table 05-32). -/
def relayStatusWord (s : State) : Word :=
  let r := s.relay
  let en := r.cfg.any fun c => c.en
  let bits (f : Ingest → Bool) (lo : Nat) : Word :=
    (List.finRange 8).foldl (fun v g => v ||| putB (f r.ingest[g]) (lo + g.1)) 0
  putB r.up 0 ||| put r.speed.1 1 2 ||| putB (en && (List.finRange 16).any fun i => r.stream[i].enabled) 3
    ||| putB (en && (List.finRange 8).any fun g => r.ingest[g].enabled) 4 ||| bits (fun g => g.live) 8
    ||| bits (fun g => g.stale) 16 ||| putB r.rxDrop 24 ||| putB r.txDrop 25

/-- PARTITION_INFO (Table 05-33). -/
def partitionInfoWord (s : State) (c : CtxId) : Word :=
  let x := s.ctx[c]
  put x.partSize 0 18 ||| putB (isSealed s c) 24 ||| putB x.guardA 25 ||| putB x.guardB 26 ||| putB (supervisor c) 27

/-- DOORBELL before the read clears it (Tables 05-35 and 05-36). -/
def doorbellWord (s : State) (c : CtxId) : Word :=
  if supervisor c then
    match s.port.doorQueue with
    | (t, code) :: _ => put code.toNat 0 8 ||| put t.1 8 6 ||| putB true 14
    | [] => 0
  else put s.ctx[c].doorIn.toNat 0 8

/-- The generation as a context sees it (R128). -/
def genOf (s : State) (c : CtxId) : DWord := if supervisor c then s.port.deviceGen else s.ctx[c].gen

/-- HEARTBEAT (Table 05-34), from the shadow for its written fields (R62). -/
def heartbeatWord (s : State) : Word :=
  put s.drone.hbTimeout 0 16 ||| put s.drone.hbFallback 16 14 ||| putB s.drone.armed 30 ||| putB s.drone.lapsed 31

def resetCtlWord (s : State) : Word := putB (s.seg.run = .stopping true) 24 ||| putB s.port.resetRefused 31

def winLockWord (s : State) : Word := put s.port.csLock.toNat 1 3 ||| putB s.port.freeze 31

/-- MEM_WIN_ADDR (Table 05-8): SPACE reads 0 in a tenant's bank. -/
def memWinAddrWord (x : Window) (sup : Bool) : Word := if sup then x.mwAddr else x.mwAddr &&& 0xFFFFFFFE

def summarySelWord (s : State) (x : Window) (c : CtxId) : Word :=
  put x.sumIndex.toNat 0 5 ||| putB x.sumAuto 8 ||| put s.ctx[c].captures.toNat 16 8

/-- The value of a register in a bound window, MEM_WIN_DATA apart. -/
def boundWord (s : State) (w : WinId) (c : CtxId) (off : Nat) : Word :=
  let x := s.win[w]
  let sup := supervisor c
  let sOnly (v : Word) : Word := if sup then v else 0
  match off with
  | 0x00 => 0x00A10640
  | 0x04 => capsWord s sup
  | 0x08 => winInfoWord s w
  | 0x0C => x.scratch
  | 0x10 => x.args[0]
  | 0x14 => x.args[1]
  | 0x18 => x.args[2]
  | 0x1C => x.args[3]
  | 0x24 => cmdStatusWord x
  | 0x28 => x.result0
  | 0x2C => x.result1
  | 0x30 => summarySelWord s x c
  | 0x34 => s.ctx[c].capture[x.sumIndex.toFin]
  | 0x38 => memWinAddrWord x sup
  | 0x40 => put x.evtGroup.toNat 0 4 ||| sOnly (put x.evtPort.toNat 8 2)
  | 0x44 => groupWord s c x.evtGroup fun y => y.pending
  | 0x48 => groupWord s c x.evtGroup fun y => y.enable
  | 0x4C => evtCtlWord s x c
  | 0x50 => sOnly (vecBaseWord s.evu.port[x.evtPort.toFin])
  | 0x54 => claimWord s c
  | 0x5C => timSelWord s x c
  | 0x60 => timWord s x c 0x60
  | 0x64 => timWord s x c 0x64
  | 0x68 => timWord s x c 0x68
  | 0x6C => timWord s x c 0x6C
  | 0x70 => timWord s x c 0x70
  | 0x74 => timWord s x c 0x74
  | 0x7C => timWord s x c 0x7C
  | 0x80 => monSelWord s x c
  | 0x84 => monWord s x c 0x84
  | 0x88 => monWord s x c 0x88
  | 0x8C => monWord s x c 0x8C
  | 0x90 => monWord s x c 0x90
  | 0x94 => monWord s x c 0x94
  | 0x98 => headStatusWord s
  | 0x9C => frameCountWord s.head[0]
  | 0xA0 => frameCountWord s.head[1]
  | 0xA4 => commitStatusWord s c
  | 0xA8 => faultSummaryWord s x sup
  | 0xAC => sOnly (faultDataWord s x)
  | 0xB0 => powerStateWord s sup
  | 0xB4 => sOnly s.power.reqShadow
  | 0xB8 => tempWord s
  | 0xBC => sOnly (heartbeatWord s)
  | 0xC0 => put x.calSel.1 0 2 ||| putB (calVisible s c x.calSel) 8 ||| putB (cal3Reserved s) 9
  | 0xC4 => calWord s x c 0xC4
  | 0xC8 => calWord s x c 0xC8
  | 0xCC => calWord s x c 0xCC
  | 0xD0 => sOnly (clkStatusWord s)
  | 0xD4 => sOnly (relayStatusWord s)
  | 0xD8 => partitionInfoWord s c
  | 0xDC => s.drone.time.setWidth 32
  | 0xE0 => BitVec.ofNat 32 (s.drone.time.toNat / 2 ^ 32)
  | 0xF0 => doorbellWord s c
  | 0xF4 => (genOf s c).setWidth 32
  | 0xF8 => sOnly (resetCtlWord s)
  | 0xFC => sOnly (winLockWord s)
  | _ => 0

/-- The value of a register through a window, MEM_WIN_DATA apart: an unbound window shows ID, CAPS and WIN_INFO only
(R83). -/
def regWord (s : State) (w : WinId) (off : Nat) : Word :=
  match winCtx s w with
  | some c => boundWord s w c off
  | none => if off = 0x00 then 0x00A10640 else if off = 0x04 then capsWord s false else if off = 0x08 then winInfoWord s w else 0

end Sys2Proof.Machine
end

