-- ==== Sys2Proof/Machine/Layers.lean ====
section
/-! DEFINITION. Layers, pixel formats and colour (chapter 11): the descriptor, the map from displayed to source pixels,
the bytes a line fetches, colour expansion and conversion, blending, and the head stages. -/
namespace Sys2Proof.Machine

/-! ## The descriptor (Tables 11-1 and 11-2) -/

def Format.ofCode : Nat → Option Format
  | 1 => some .argb8888 | 2 => some .xrgb8888 | 3 => some .rgb888 | 4 => some .rgb565 | 5 => some .argb4444
  | 6 => some .a8 | 7 => some .i8 | 0x10 => some .nv12 | 0x11 => some .ycbcr422
  | _ => none

def Format.code : Format → Nat
  | .argb8888 => 1 | .xrgb8888 => 2 | .rgb888 => 3 | .rgb565 => 4 | .argb4444 => 5 | .a8 => 6 | .i8 => 7
  | .nv12 => 0x10 | .ycbcr422 => 0x11

def Format.bpp : Format → Nat
  | .argb8888 | .xrgb8888 => 4
  | .rgb888 => 3
  | .rgb565 | .argb4444 | .ycbcr422 => 2
  | .a8 | .i8 | .nv12 => 1

def Format.tiledCapable : Format → Bool
  | .rgb888 | .nv12 | .ycbcr422 => false
  | _ => true

def Format.ycc : Format → Bool
  | .nv12 | .ycbcr422 => true
  | _ => false

/-- CSC is 0 or 5 for RGB formats and I8, 0 for A8, 1 to 5 for YCbCr formats (R241). -/
def Format.cscOk (f : Format) (c : Nat) : Bool :=
  if f.ycc then decide (1 ≤ c ∧ c ≤ 5) else if f = .a8 then c = 0 else c = 0 || c = 5

/-- What the OL640 knows of a relay stream's buffer (R442, R448): its size and stride. -/
structure RelayGeom where
  w : Nat
  h : Nat
  stride : Nat
deriving DecidableEq, Repr

/-- The fields of a descriptor's 64 bytes, valid or not (Table 11-1). Strides are in bytes, bases are byte offsets; a
relay layer takes its stream's format, size and stride (R242). -/
def readDesc (b : List Byte) (geom : IngestId → Option RelayGeom) (f : Format) : Desc :=
  let o := byteAt b 1
  let fl := byteAt b 3
  let s16 (k : Nat) := signed 16 (leAt b k 2)
  let g : IngestId := ⟨leAt b 8 4 % 8, Nat.mod_lt _ (by decide)⟩
  let r := if fl / 4 % 2 = 1 then geom g else none
  { format := f
    rot := ⟨o % 4, Nat.mod_lt _ (by decide)⟩
    hflip := o / 4 % 2 = 1, vflip := o / 8 % 2 = 1, tiled := o / 16 % 2 = 1
    csc := byteAt b 2, premult := fl % 2 = 1, static_ := fl / 2 % 2 = 1
    relay := if fl / 4 % 2 = 1 then some g else none
    boot := false
    constAlpha := byteAt b 4, shedRank := byteAt b 5
    slot := ⟨byteAt b 6 % 16, Nat.mod_lt _ (by decide)⟩
    base0 := if fl / 4 % 2 = 1 then 0 else 4 * leAt b 8 4
    base1 := 4 * leAt b 12 4
    stride0 := match r with | some x => x.stride | none => 32 * leAt b 0x10 2
    stride1 := 32 * leAt b 0x12 2
    srcW := match r with | some x => x.w | none => leAt b 0x14 2
    srcH := match r with | some x => x.h | none => leAt b 0x16 2
    srcX := leAt b 0x18 2, srcY := leAt b 0x1A 2, w := leAt b 0x1C 2, h := leAt b 0x1E 2
    dstX := s16 0x20, dstY := s16 0x22
    colour := BitVec.ofNat 32 (leAt b 0x24 4)
    m := Vector.ofFn fun i => s16 (0x28 + 2 * i.1)
    off := Vector.ofFn fun i => s16 (0x3A + 2 * i.1) }

/-- ⌈a / b⌉ × b. -/
def roundUp (a b : Nat) : Nat := ceilDiv a b * b

/-- The minimum strides (R245). -/
def Desc.strideOk (d : Desc) : Bool :=
  if d.tiled then decide (roundUp d.srcW 32 * d.format.bpp ≤ d.stride0)
  else match d.format with
    | .ycbcr422 => decide (4 * ceilDiv d.srcW 2 ≤ d.stride0)
    | .nv12 => decide (d.srcW ≤ d.stride0) && decide (2 * ceilDiv d.srcW 2 ≤ d.stride1)
    | f => decide (d.srcW * f.bpp ≤ d.stride0)

/-- The size of the source rectangle (Table 11-3). -/
def Desc.rectW (d : Desc) : Nat := if d.rot.1 % 2 = 0 then d.w else d.h
def Desc.rectH (d : Desc) : Nat := if d.rot.1 % 2 = 0 then d.h else d.w

/-- The source rectangle lies within the image (R247). -/
def Desc.rectOk (d : Desc) : Bool := decide (d.srcX + d.rectW ≤ d.srcW) && decide (d.srcY + d.rectH ≤ d.srcH)

/-- A size field lies from 1 to 8192. -/
def sizeOk (n : Nat) : Bool := decide (1 ≤ n ∧ n ≤ 8192)

/-- The rules of R241 and R242 on one descriptor, the rotation buffer apart: the decoded descriptor, none where it is
invalid. -/
def parseDesc (b : List Byte) (c : CtxId) (h : HeadId) (geom : IngestId → Option RelayGeom) : Option Desc :=
  match Format.ofCode (byteAt b 0) with
  | none => none
  | some f =>
    let d := readDesc b geom f
    let relay := d.relay.isSome
    let reserved := decide (byteAt b 1 < 32 ∧ byteAt b 3 < 8 ∧ byteAt b 6 < 16) && zeroAt b 7 1 && zeroAt b 0x27 1
    let two := f = .nv12 || f = .i8
    let geomOk :=
      if relay then
        c = 0 && decide (h.1 < 2) && f = .xrgb8888 && decide (leAt b 8 4 < 8) && zeroAt b 12 12
          && (d.relay.any fun g => (geom g).isSome)
      else
        decide (leAt b 8 4 % 8 = 0) && decide (1 ≤ leAt b 0x10 2)
          && (if two then decide (leAt b 12 4 % 8 = 0) else zeroAt b 12 4)
          && (if f = .nv12 then decide (1 ≤ leAt b 0x12 2) else zeroAt b 0x12 2)
          && sizeOk d.srcW && sizeOk d.srcH
    let ok := reserved && geomOk && sizeOk d.w && sizeOk d.h && decide (d.csc ≤ 5) && f.cscOk d.csc
      && (!d.tiled || f.tiledCapable) && (d.rot.1 % 2 = 0 || d.tiled)
      && (!d.premult || f = .argb8888 || f = .argb4444 || f = .i8) && d.strideOk && d.rectOk
    guardSome ok d

/-- The extents that R178 checks, as partition offset and length (R245). A relay layer and a layer of the boot image name no partition bytes. -/
def Desc.extents (d : Desc) : List (Nat × Nat) :=
  if d.relay.isSome || d.boot then []
  else
    let plane0 :=
      if d.tiled then (ceilDiv d.srcH 32 - 1) * 32 * d.stride0 + ceilDiv d.srcW 32 * 1024 * d.format.bpp
      else match d.format with
        | .ycbcr422 => (d.srcH - 1) * d.stride0 + 4 * ceilDiv d.srcW 2
        | f => (d.srcH - 1) * d.stride0 + d.srcW * f.bpp
    (d.base0, plane0) :: (match d.format with
      | .nv12 => [(d.base1, (ceilDiv d.srcH 2 - 1) * d.stride1 + 2 * ceilDiv d.srcW 2)]
      | .i8 => [(d.base1, 1024)]
      | _ => [])

/-- A descriptor of the boot image: its bases count from the start of its section, which stands at `off` in device space
(R556, R557). -/
def Desc.inBoot (d : Desc) (off : Option Nat) : Desc := match off with
  | some o => { d with boot := true, base0 := o + d.base0, base1 := o + d.base1 }
  | none => d

/-! ## Geometry (11.4) -/

/-- The source pixel of a displayed pixel (R246). -/
def Desc.source (d : Desc) (u v : Nat) : Nat × Nat :=
  let u := if d.hflip then d.w - 1 - u else u
  let v := if d.vflip then d.h - 1 - v else v
  match d.rot.1 with
  | 0 => (d.srcX + u, d.srcY + v)
  | 1 => (d.srcX + v, d.srcY + d.w - 1 - u)
  | 2 => (d.srcX + d.w - 1 - u, d.srcY + d.h - 1 - v)
  | _ => (d.srcX + d.h - 1 - v, d.srcY + u)

/-- The bytes of a source pixel: plane, offset in it and length (11.3). -/
def Desc.bytesAt (d : Desc) (sx sy : Nat) : List (Nat × Nat × Nat) :=
  let bpp := d.format.bpp
  if d.tiled then
    [(0, sy / 32 * 32 * d.stride0 + sx / 32 * 1024 * bpp + sy % 32 * 32 * bpp + sx % 32 * bpp, bpp)]
  else match d.format with
    | .nv12 => [(0, sy * d.stride0 + sx, 1), (1, sy / 2 * d.stride1 + sx / 2 * 2, 2)]
    | .ycbcr422 => [(0, sy * d.stride0 + sx / 2 * 4, 4)]
    | _ => [(0, sy * d.stride0 + sx * bpp, bpp)]

/-- A pixel of the head lies in a territory whose range includes the slot. -/
def Territory.holds (t : Territory) (z x y : Nat) : Bool :=
  decide (t.zlo ≤ z ∧ z ≤ t.zhi ∧ t.x ≤ x ∧ x < t.x + t.w ∧ t.y ≤ y ∧ y < t.y + t.h)

/-- The slot lies in the range of some territory (R185). -/
def Terrs.hasSlot (t : Terrs) (z : Nat) : Bool := t.toList.any fun o => o.any fun x => decide (x.zlo ≤ z ∧ z ≤ x.zhi)

/-- What visibility and fetch of a layer on a head depend on: the head's size, and the territories of its context. -/
structure Scene where
  hactive : Nat
  vactive : Nat
  vtotal : Nat
  terr : Terrs
  /-- Relief tiles that serve in the layer's place (R291): their pixels are not fetched. -/
  skip : List (Nat × Nat) := []
deriving DecidableEq, Repr

/-- A head pixel shows the layer (R249): the displayed pixel it is. -/
def Desc.displayed (d : Desc) (g : Scene) (x y : Nat) : Option (Nat × Nat) :=
  let u := (x : Int) - d.dstX
  let v := (y : Int) - d.dstY
  if 0 ≤ u ∧ u < d.w ∧ 0 ≤ v ∧ v < d.h ∧ x < g.hactive ∧ y < g.vactive
      ∧ (g.terr.toList.any fun o => o.any fun t => t.holds d.slot.1 x y) = true ∧ (x / 64, y / 64) ∉ g.skip then
    some (u.toNat, v.toNat)
  else none

/-- The columns of a line that the layer may cover. -/
def Desc.columns (d : Desc) (g : Scene) : List Nat :=
  let lo := d.dstX.toNat
  let hi := Nat.min g.hactive (d.dstX + d.w).toNat
  (List.range (hi - lo)).map (· + lo)

/-- The visible pixels of the layer on a line, in ascending column. -/
def Desc.visible (d : Desc) (g : Scene) (y : Nat) : List (Nat × Nat) :=
  if (y : Int) < d.dstY ∨ d.dstY + d.h ≤ y then [] else (d.columns g).filterMap fun x => d.displayed g x y

/-! ## Bytes fetched per line (11.5). A burst is plane and burst number in the plane. -/

/-- The bursts of one plane that hold a pixel's bytes. -/
def burstsOf (plane : Nat) (l : List (Nat × Nat × Nat)) : List (Nat × Nat) :=
  (l.filter fun p => p.1 = plane).flatMap fun (p, o, n) =>
    if o / 32 = (o + n - 1) / 32 then [(p, o / 32)] else [(p, o / 32), (p, (o + n - 1) / 32)]

/-- The bursts of a plane for the visible pixels of a line, each once. -/
def Desc.lineBursts (d : Desc) (g : Scene) (plane y : Nat) : List (Nat × Nat) :=
  ((d.visible g y).flatMap fun (u, v) => let (sx, sy) := d.source u v; burstsOf plane (d.bytesAt sx sy)).eraseDups

/-- The source row of a line, for a layer at 0° or 180°. -/
def Desc.rowOf (d : Desc) (y : Nat) : Nat := (d.source 0 ((y : Int) - d.dstY).toNat).2

/-- The lines that use the same chroma row as a line (R250). -/
def Desc.chromaLines (d : Desc) (g : Scene) (y : Nat) : List Nat :=
  [y - 1, y, y + 1].eraseDups.filter fun l => !(d.visible g l).isEmpty && d.rowOf l / 2 = d.rowOf y / 2

/-- k of 11.5: the source columns in one burst of a tile row. -/
def Desc.groupK (d : Desc) : Nat := 32 / d.format.bpp

/-- The lines on which a layer is visible. -/
def Desc.visibleLines (d : Desc) (g : Scene) : List Nat :=
  let lo := d.dstY.toNat
  let hi := Nat.min g.vactive (d.dstY + d.h).toNat
  ((List.range (hi - lo)).map (· + lo)).filter fun y => !(d.visible g y).isEmpty

/-- The burst column of a line, for a layer at 90° or 270°. -/
def Desc.burstColumn (d : Desc) (y : Nat) : Nat := (d.source 0 ((y : Int) - d.dstY).toNat).1 / d.groupK

/-- The groups of a rotated layer: runs of lines in one burst column. Lines that are not adjacent belong to two groups
(DESIGN CHOICE, log 112). -/
def Desc.groups (d : Desc) (g : Scene) : List (List Nat) :=
  (d.visibleLines g).splitBy fun a b => b = a + 1 && d.burstColumn a = d.burstColumn b

/-- The bursts of a group, in ascending u: the lines of a group read one burst for one u. -/
def Desc.groupBursts (d : Desc) (g : Scene) (l : List Nat) : List (Nat × Nat) :=
  ((d.columns g).flatMap fun x => match l.findSome? fun y => d.displayed g x y with
    | some (u, v) => let (sx, sy) := d.source u v; burstsOf 0 (d.bytesAt sx sy)
    | none => []).eraseDups

/-- The share of a group's bursts that the j-th of m lines fetches (R251): the first lines ⌈B / m⌉ each, until none is left
(DESIGN CHOICE, log 112). -/
def share (b : List (Nat × Nat)) (m j : Nat) : List (Nat × Nat) :=
  let c := ceilDiv b.length m
  (b.drop (j * c)).take c

/-- The fetch of a rotated layer on line time y of a frame (R251): the next group while one is shown, and the first
group in the lines before it, which wrap into the vertical blank of the frame before. -/
def Desc.rotatedFetch (d : Desc) (g : Scene) (y : Nat) : List ((Nat × Nat) × Nat × Nat) :=
  let gs := d.groups g
  let rng (l : List Nat) := (l.headD 0, l.getLastD 0)
  let next := (gs.zip (gs.drop 1)).flatMap fun (a, b) =>
    if y ∈ a then
      let (f, t) := rng b
      (share (d.groupBursts g b) a.length (a.idxOf y)).map fun x => (x, f, t)
    else []
  match gs with
  | [] => []
  | a :: _ =>
    let (f, t) := rng a
    let m := Nat.min d.groupK (f + (g.vtotal - g.vactive))
    let j := (y + g.vtotal + m - f) % g.vtotal
    if m ≠ 0 ∧ j < m then (share (d.groupBursts g a) m j).map (fun x => (x, f, t)) ++ next else next

/-- What a layer fetches on line time y: each burst with the first and the last display line that uses it. -/
def Desc.lineFetch (d : Desc) (g : Scene) (y : Nat) : List ((Nat × Nat) × Nat × Nat) :=
  if d.rot.1 % 2 = 1 then d.rotatedFetch g y
  else if g.vactive ≤ y then []
  else
    let p0 := (d.lineBursts g 0 y).map fun b => (b, y, y)
    if d.format = .nv12 then
      let ls := d.chromaLines g y
      if ls.head? = some y then
        p0 ++ ((ls.flatMap fun l => d.lineBursts g 1 l).eraseDups.map fun b => (b, y, ls.getLastD y))
      else p0
    else p0

/-- Line demand of one layer at a line time, in bytes (R268); a layer with no visible pixel has none (R249). -/
def Desc.demand (d : Desc) (g : Scene) (y : Nat) : Nat :=
  32 * (d.lineFetch g y).length + (if y = g.vactive && d.format = .i8 && !(d.visibleLines g).isEmpty then 1024 else 0)

/-! ## Colour (11.6) -/

/-- Expansion of an n-bit component to 12 bits (R252). -/
def expand8 (v : Nat) : Nat := v * 16 + v / 16
def expand5 (v : Nat) : Nat := v * 128 + v * 4 + v / 8
def expand6 (v : Nat) : Nat := v * 64 + v
def expand4 (v : Nat) : Nat := v * 0x111

/-- A source pixel: three 12-bit components and its alpha. -/
structure SrcPx where
  c0 : Nat
  c1 : Nat
  c2 : Nat
  a : Nat
deriving DecidableEq, Repr

/-- An ARGB8888 word as a source pixel. -/
def argbPx (v : Nat) (a : Nat) : SrcPx :=
  { c0 := expand8 (v / 65536 % 256), c1 := expand8 (v / 256 % 256), c2 := expand8 (v % 256), a := a }

/-- The source pixel from its bytes; `rd plane off` reads a byte of a plane, `pal` is the palette (R243, R252). -/
def Desc.pixel (d : Desc) (rd : Nat → Nat → Nat) (pal : List Byte) (sx sy : Nat) : SrcPx :=
  let word (n : Nat) : Nat := match d.bytesAt sx sy with
    | (p, o, _) :: _ => (List.range n).foldr (fun i acc => rd p (o + i) + 256 * acc) 0
    | [] => 0
  match d.format with
  | .argb8888 => let v := word 4; argbPx v (v / 2 ^ 24)
  | .xrgb8888 => argbPx (word 4) 255
  | .rgb888 => argbPx (word 3) 255
  | .rgb565 => let v := word 2; { c0 := expand5 (v / 2048), c1 := expand6 (v / 32 % 64), c2 := expand5 (v % 32), a := 255 }
  | .argb4444 =>
    let v := word 2
    { c0 := expand4 (v / 256 % 16), c1 := expand4 (v / 16 % 16), c2 := expand4 (v % 16), a := v / 4096 * 17 }
  | .a8 => argbPx d.colour.toNat (word 1)
  | .i8 => let v := leAt pal (4 * word 1) 4; argbPx v (v / 2 ^ 24)
  | .nv12 =>
    match d.bytesAt sx sy with
    | [(_, o, _), (_, c, _)] => { c0 := expand8 (rd 0 o), c1 := expand8 (rd 1 c), c2 := expand8 (rd 1 (c + 1)), a := 255 }
    | _ => { c0 := 0, c1 := 0, c2 := 0, a := 255 }
  | .ycbcr422 =>
    match d.bytesAt sx sy with
    | (_, o, _) :: _ =>
      { c0 := expand8 (rd 0 (o + 2 * (sx % 2))), c1 := expand8 (rd 0 (o + 1)), c2 := expand8 (rd 0 (o + 3)), a := 255 }
    | [] => { c0 := 0, c1 := 0, c2 := 0, a := 255 }

/-- A component clamped to 12 bits. -/
def clamp12 (v : Int) : Nat := Nat.min 4095 v.toNat

/-- The coefficients, input offsets and output offsets of a conversion (Table 11-4). -/
def Desc.csCoeffs (d : Desc) : List Int × List Int × List Int :=
  match d.csc with
  | 1 => ([4769, 0, 6537, 4769, -1605, -3330, 4769, 8263, 0], [256, 2048, 2048], [0, 0, 0])
  | 2 => ([4096, 0, 5743, 4096, -1410, -2925, 4096, 7258, 0], [0, 2048, 2048], [0, 0, 0])
  | 3 => ([4769, 0, 7343, 4769, -873, -2183, 4769, 8652, 0], [256, 2048, 2048], [0, 0, 0])
  | 4 => ([4096, 0, 6450, 4096, -767, -1917, 4096, 7601, 0], [0, 2048, 2048], [0, 0, 0])
  | _ => (d.m.toList, [0, 0, 0], d.off.toList)

/-- Colour conversion (R253). -/
def Desc.convert (d : Desc) (p : SrcPx) : Px :=
  if d.csc = 0 then { r := p.c0, g := p.c1, b := p.c2 }
  else
    let (m, io, of_) := d.csCoeffs
    let x : List Int := [(p.c0 : Int) - io.getD 0 0, (p.c1 : Int) - io.getD 1 0, (p.c2 : Int) - io.getD 2 0]
    let out (c : Nat) : Nat :=
      let sum := m.getD (3 * c) 0 * x.getD 0 0 + m.getD (3 * c + 1) 0 * x.getD 1 0 + m.getD (3 * c + 2) 0 * x.getD 2 0
      clamp12 ((sum + 2048).fdiv 4096 + of_.getD c 0)
    { r := out 0, g := out 1, b := out 2 }

/-! ## Blending (11.7) -/

/-- One component blended over a destination (R254). -/
def blend1 (premult : Bool) (k a c d : Nat) : Nat :=
  let al := (a * k + 127) / 255
  if premult then Nat.min 4095 ((c * k + d * (255 - al) + 127) / 255) else (c * al + d * (255 - al) + 127) / 255

/-- A layer pixel blended over a destination. -/
def blend (premult : Bool) (k a : Nat) (c d : Px) : Px :=
  { r := blend1 premult k a c.r d.r, g := blend1 premult k a c.g d.g, b := blend1 premult k a c.b d.b }

/-! ## Head stages (11.8) -/

/-- De-gamma of one component with its table, none where the stage is disabled (R256). -/
def degamma1 (t : Option (List Nat)) (b : Nat) : Nat :=
  match t with
  | none => b * 16 + b / 256
  | some l =>
    let i := b / 4
    let x := l.getD i 0
    let y := l.getD (Nat.min 1023 (i + 1)) 0
    ((x : Int) + (((y : Int) - x) * (b % 4 : Nat)).fdiv 4).toNat

/-- Gamma of one component (R257). -/
def gamma1 (t : Option (List Nat)) (v : Nat) : Nat :=
  match t with
  | none => v / 16
  | some l =>
    let i := v / 64
    let x := l.getD i 0
    let y := l.getD (Nat.min 1023 (i + 1)) 0
    ((x : Int) + (((y : Int) - x) * (v % 64 : Nat)).fdiv 64).toNat

/-- The three tables of an enabled LUT stage. -/
def lutOf (en : Bool) (t : List Nat) (c : Nat) : Option (List Nat) := guardSome en ((t.drop (1024 * c)).take 1024)

/-- The output tap value of a blended pixel (R256, R257). -/
def tapPx (v : HeadLive) (p : Px) : Px :=
  let f (c x : Nat) := gamma1 (lutOf v.gammaEn v.gamma c) (degamma1 (lutOf v.degammaEn v.degamma c) x)
  { r := f 0 p.r, g := f 1 p.g, b := f 2 p.b }

/-- The dither matrix T (R258). -/
def ditherT (row col : Nat) : Nat := [0, 8, 2, 10, 12, 4, 14, 6, 3, 11, 1, 9, 15, 7, 13, 5].getD (4 * row + col) 0

/-- The output depth in bits of the DEPTH code: 6, 8 or 10. -/
def depthBits (d : Fin 3) : Nat := 6 + 2 * d.1

/-- Dither of one component (R258): mode 0 is off, 1 spatial, 2 temporal. -/
def dither1 (mode : Fin 3) (n x y frame g : Nat) : Nat :=
  let d := 12 - n
  if mode = 0 then Nat.min (2 ^ n - 1) ((g + 2 ^ (d - 1)) / 2 ^ d)
  else
    let f := if mode = 2 then frame % 16 else 0
    let t := ditherT ((y + f / 4) % 4) ((x + f) % 4)
    Nat.min (2 ^ n - 1) ((g + t * 2 ^ d / 16) / 2 ^ d)

/-- The pixel that the link carries at a head position. -/
def linkPx (v : HeadLive) (x y frame : Nat) (p : Px) : Px :=
  let n := depthBits v.depth
  let f := dither1 v.dither n x y frame
  { r := f p.r, g := f p.g, b := f p.b }

end Sys2Proof.Machine
end

