-- ==== Sys2Proof/Machine/Admission.lean ====
section
/-! DEFINITION. Admission (chapter 12, 12.1 to 12.7): the states of a queue, line demand, the per-head and cross-head
checks, the checks of a commit list, and the boundaries at which parts apply. -/
namespace Sys2Proof.Machine

/-- Taps of the Bore in one µs times 2^16 times 10^6: a period in 16.16 taps and 10^-6 over this is a time in µs. -/
def tapScale : Nat := 65536 * 64000 * 1000000

/-- HTOTAL times the pixel period of a head, shortened by TRIM_LIMIT with genlock (R339), 0 where the head or its synthesizer is not configured:
t_line over `tapScale` (R268). -/
def lineTaps (s : State) (h : ContHead) (cfg : Option HeadCfg) : Nat :=
  match cfg, s.syn[headId h].cfg with
  | some c, some y => c.htotal * y.period.toNat * (1000000 - if c.genlock = .none then 0 else c.live.trimLimit)
  | _, _ => 0

/-- What a context's layers on a head are seen through. -/
def sceneOf (c : HeadCfg) (t : Terrs) : Scene := { hactive := c.hactive, vactive := c.vactive, vtotal := c.vtotal, terr := t }

/-- The layers of a context that a head applies, those of an earlier occupant of its number apart. -/
def appliedDescs (s : State) (c : CtxId) (h : HeadId) : List Desc :=
  slots.filterMap fun z => (s.slot[h][z]).bind fun l =>
    guardSome (l.ctx = c && !(contHead h).any fun k => z ∈ s.comp[k].gone) l.desc

/-- A set of layers with a slot's layer replaced or removed. -/
def putSlot (l : List Desc) (z : SlotId) (d : Option Desc) : List Desc := (l.filter fun x => x.slot ≠ z) ++ d.toList

def SlotOp.onto (o : SlotOp) (l : List Desc) : List Desc := match o with
  | .place z d _ => putSlot l z (some d)
  | .clear z => putSlot l z none

/-- The applied state of a context on a head and the state after each of its pending commits, in acceptance order. -/
def queueStates (s : State) (c : CtxId) (h : HeadId) : List (List Desc) :=
  let start := appliedDescs s c h
  let ops := (s.commits.filter fun p => p.ctx = c).flatMap fun p => p.parts.filter fun x => x.head = h
  (ops.foldl (fun (acc : List (List Desc)) x =>
    acc ++ [x.ops.foldl (fun l o => o.onto l) (acc.getLastD start)]) [start])

/-- d_q(y) and N_q(y) of a state (R268). -/
def lineDemand (l : List Desc) (g : Scene) (y : Nat) : Nat × Nat :=
  l.foldl (fun (d, n) x => let k := x.demand g y; (d + k, if k = 0 then n else n + 1)) (0, 0)

/-- The largest line demand of a state. -/
def maxDemand (l : List Desc) (g : Scene) : Nat :=
  (List.range g.vtotal).foldl (fun m y => Nat.max m (lineDemand l g y).1) 0

/-- The per-head check of one state (R269): the reason and the line that fail first. `dbound` is D_q in µs as a
fraction. -/
def headCheck (l : List Desc) (g : Scene) (pol : Policer) (dbound : Nat × Nat) (taps : Nat) : Option (Nat × Nat) :=
  let demands := (List.range g.vtotal).map fun y => (y, lineDemand l g y)
  let busy := demands.filter fun p => p.2.1 ≠ 0
  if busy.isEmpty then none
  else
    let (n, d) := dbound
    let tc := ceilDiv g.hactive 2
    if pol.cir = 0 || d = 0 || decide (2 * taps * 500 * d < (500 * n + tc * d) * tapScale) then some (0x02, 0)
    else busy.findSome? fun (y, dem, cnt) =>
      if pol.cbs * 64 < dem then some (0x03, y)
      else if pol.cir * taps < (dem + 256 * cnt) * 256 * tapScale then some (0x01, y)
      else none

/-- D_q of a queue with a given policer (12.5): the release offset for a sealed context. -/
def boundOf (s : State) (c : CtxId) (pol : Policer) : Nat × Nat :=
  if isSealed s c then (releaseOffset pol s.memc.deliverable, if pol.cir = 0 then 0 else 1)
  else delayBound pol s.memc.deliverable

/-- The per-head check of a context's states on a head. -/
def checkStates (s : State) (c : CtxId) (h : ContHead) (cfg : HeadCfg) (terr : Terrs) (pol : Policer)
    (states : List (List Desc)) : Option (Nat × Nat) :=
  states.findSome? fun l => headCheck l (sceneOf cfg terr) pol (boundOf s c pol) (lineTaps s h (some cfg))

/-- The states of a queue with the state a commit would add. -/
def statesWith (s : State) (c : CtxId) (h : HeadId) (extra : List (SlotId × Option Desc)) : List (List Desc) :=
  let st := queueStates s c h
  if extra.isEmpty then st
  else st ++ [extra.foldl (fun l p => putSlot l p.1 p.2) (st.getLastD [])]

/-- The shared demand of a head: the sum over shared contexts of the largest line demand of any of their states, with
a commit of one context added (R271). -/
def sharedDemand (s : State) (h : ContHead) (c : CtxId) (extra : List (SlotId × Option Desc)) (sl : Option CtxId)
    (terr : CtxId → Terrs) : Nat :=
  match s.head[h].cfg with
  | none => 0
  | some cfg =>
    ctxs.foldl (fun t n =>
      if s.ctx[n].st = .shared && sl ≠ some n then
        let st := statesWith s n (headId h) (if n = c then extra else [])
        t + st.foldl (fun m l => Nat.max m (maxDemand l (sceneOf cfg (terr n)))) 0
      else t) 0

/-- The cross-head check (R271): T ≤ A. `extra` is what a commit of context c adds per head; `sl` is the context
that a SEAL would seal. -/
def crossOk (s : State) (c : CtxId) (extra : ContHead → List (SlotId × Option Desc)) (sl : Option CtxId)
    (terr : ContHead → CtxId → Terrs) : Bool :=
  let sys := ((List.finRange 136).filter fun q => 128 ≤ q.1).foldl (fun t q => t + s.fetch.queue[q].countedCir) 0
  let sealed := ctxs.foldl (fun t n =>
    if isSealed s n || sl = some n then
      t + s.fetch.queue[layerQueue n 0].countedCir + s.fetch.queue[layerQueue n 1].countedCir
    else t) 0
  let d0 := sharedDemand s 0 c (extra 0) sl (terr 0)
  let d1 := sharedDemand s 1 c (extra 1) sl (terr 1)
  let x0 := lineTaps s 0 s.head[0].cfg
  let x1 := lineTaps s 1 s.head[1].cfg
  if (d0 ≠ 0 ∧ x0 = 0) ∨ (d1 ≠ 0 ∧ x1 = 0) then false
  else
    let x0 := Nat.max 1 x0
    let x1 := Nat.max 1 x1
    decide (100 * (sys + sealed) * x0 * x1 + 25600 * tapScale * (d0 * x1 + d1 * x0)
      ≤ 256 * admission100 s.memc.deliverable * x0 * x1)

/-- The territories admission uses: those set last (R186). -/
def admTerr (s : State) (h : ContHead) (n : CtxId) : Terrs := s.ctx[n].terr[headId h]

/-- The sum of W over the layers at 90° or 270° of a state of a head. -/
def rotatedWidth (l : List Desc) : Nat := (l.map fun d => if d.rot.1 % 2 = 1 then d.w else 0).sum

/-- The rotation buffer limit of a head holds in every state it passes through with a commit of a context added (R251):
the applied state of all contexts, and in acceptance order the state after each pending part and after the commit. A part
held for a stopped head that the commit replaces (R25) is not passed through. -/
def rotationOk (s : State) (h : ContHead) (c : CtxId) (extra : List (SlotId × Option Desc)) : Bool :=
  let start := slots.filterMap fun z => (s.slot[headId h][z]).map fun l => l.desc
  let parts := s.commits.flatMap fun p => p.parts.filter fun x => x.head = headId h && (started s h || p.ctx ≠ c)
  let states := parts.foldl (fun (acc : List (List Desc)) x => acc ++ [x.ops.foldl (fun l o => o.onto l) (acc.getLastD start)]) [start]
  let new := extra.foldl (fun l p => putSlot l p.1 p.2) (states.getLastD start)
  (states ++ [new]).all fun l => decide (rotatedWidth l ≤ 4096)

/-- The geometry of an ingest stream's buffer for a relay layer on a head (R448): none where the stream is disabled or
belongs to the other head. -/
def relayGeom (s : State) (h : HeadId) (g : IngestId) : Option RelayGeom :=
  let x := s.relay.ingest[g]
  match x.cfg with
  | some c => if x.enabled && decide (h.1 = if c.headB then 1 else 0) then
      some { w := c.w, h := c.h, stride := roundUp (4 * c.w) 32 } else none
  | none => none

/-- The cut-off line of a head (12.7). -/
def cutOff (c : HeadCfg) : Nat := c.vactive - c.live.commitLead

/-- A started head is before its cut-off. -/
def beforeCutOff (s : State) (h : ContHead) : Bool :=
  match s.head[h].cfg with
  | some c => decide (s.head[h].line < cutOff c)
  | none => true

/-- FRAME counts modulo 2^32 (Table 15-4, R157): boundary `f` of a head whose FRAME is `now` has come. Boundaries are fixed
at most a few frames ahead. -/
def frameDue (now : Word) (f : Nat) : Bool := decide ((now.toNat + 2 ^ 32 - f % 2 ^ 32) % 2 ^ 32 < 2 ^ 31)

/-- The boundary `n` frames on. -/
def frameAhead (now : Word) (n : Nat) : Nat := (now.toNat + n) % 2 ^ 32

/-- The later of two boundaries. -/
def laterFrame (a b : Nat) : Nat := if frameDue (BitVec.ofNat 32 a) b then a else b

/-- The boundary at which a part accepted now applies, none while the head is stopped (R272, R275). -/
def boundaryOf (s : State) (h : ContHead) : Option Nat :=
  if s.head[h].run ≠ .stopped then some (frameAhead s.head[h].frame (if beforeCutOff s h then 1 else 2)) else none

/-- The boundary of a commit's part: a fallback commit applies after any commit of CTX_0 accepted earlier for the head
(R162). -/
def boundaryFor (s : State) (h : ContHead) (c : CtxId) (fallback : Bool) : Option Nat :=
  (boundaryOf s h).map fun f =>
    if fallback then
      s.commits.foldl (fun f p => if p.ctx = c then
        p.parts.foldl (fun f x => if x.head = headId h then (x.boundary.map (laterFrame f)).getD f else f) f else f) f
    else f

/-- Both heads are started and genlocked to one another or both to FSYNC_IN (R274). -/
def jointOk (s : State) : Bool :=
  match s.head[0].cfg, s.head[1].cfg with
  | some a, some b =>
    started s 0 && started s 1 &&
      ((b.genlock = .headA && s.head[1].gl.locked) ||
        (a.genlock = .fsyncIn && b.genlock = .fsyncIn && s.head[0].gl.locked && s.head[1].gl.locked))
  | _, _ => false

/-- The first pair of coinciding boundaries that both cut-offs allow (R274). Two genlocked heads whose positions in
the frame differ by more than half a frame stand on the two sides of a coinciding boundary (log 26). -/
def jointBoundaries (s : State) : Nat × Nat :=
  match s.head[0].cfg, s.head[1].cfg with
  | some a, some b =>
    let la := 2 * s.head[0].line * b.vtotal
    let lb := 2 * s.head[1].line * a.vtotal
    let half := a.vtotal * b.vtotal
    let sa := if lb + half < la then 1 else 0
    let sb := if la + half < lb then 1 else 0
    let ka := if beforeCutOff s 0 then 1 else 2
    let kb := if beforeCutOff s 1 then 1 else 2
    let j := Nat.max (ka - sa) (kb - sb)
    (frameAhead s.head[0].frame (j + sa), frameAhead s.head[1].frame (j + sb))
  | _, _ => (0, 0)

/-- What the budget checker decides of a commit: the code of a failing check, a rejection, or the parts it accepts. -/
inductive Decision where
  | refuse (code : Code)
  | reject (reason head line : Nat)
  | accept (parts : List (HeadId × Option Nat × List (SlotId × Option Desc)))
deriving DecidableEq, Repr

/-- The entries of one head. -/
def entriesOf (l : List (HeadId × SlotId × Option Desc)) (h : HeadId) : List (SlotId × Option Desc) :=
  (l.filter fun e => e.1 = h).map fun e => e.2

/-- Descriptors pending for a slot (R237). -/
def pendingIn (s : State) (h : HeadId) (z : SlotId) : List Nat :=
  s.commits.flatMap fun p => (p.parts.filter fun x => x.head = h).flatMap fun x => x.ops.filterMap fun o => match o with
    | .place z' _ k => guardSome (z' = z) k
    | .clear _ => none

/-- Checks 4 to 10 of R266 and the limits of R237 and R264, in order, for a list that was read. In check 4 an entry of a head
whose rotation buffer limit would not hold counts as one that breaks R241 (log 113). A sealed context's commit always passes
check 10 (R271). -/
def decideCommit (s : State) (c : CtxId) (r : CommitReq) : Decision :=
  let parsed := r.list.map fun (h, z, b) => (h, z, b, b.map fun b => (parseDesc b c h (relayGeom s h)).map fun (d : Desc) => d.inBoot r.boot)
  let l := parsed.map fun (h, z, _, d) => (h, z, d.bind id)
  let names (h : HeadId) := l.any fun e => e.1 = h
  let ext (h : ContHead) := entriesOf l (headId h)
  match parsed.find? fun e => e.2.2.2 = some none || (contHead e.1).any fun h => !rotationOk s h c (ext h) with
  | some e => .reject 0x05 e.1.1 0
  | none =>
    if l.any fun e => e.2.2.any fun d => d.extents.any fun (o, n) => !inPart s c o n then .refuse .outOfPartition
    else match l.find? fun e => e.2.2.isSome && !(s.ctx[c].terr[e.1]).hasSlot e.2.1.1 with
      | some e => .reject 0x06 e.1.1 0
      | none => match conts.find? fun h => names (headId h) && s.head[h].cfg.isNone with
        | some h => .reject 0x09 h.1 0
        | none =>
          let both := names 0 && names 1
          if r.joint && both && !jointOk s then .reject 0x08 0 0
          else
            let per (h : ContHead) : Option (Nat × Nat) :=
              if names (headId h) then
                match s.head[h].cfg with
                | some cfg => checkStates s c h cfg (admTerr s h c) s.fetch.queue[layerQueue c h].pol
                    [(statesWith s c (headId h) (ext h)).getLastD []]
                | none => none
              else none
            match per 0 with
            | some (reason, y) => .reject reason 0 y
            | none => match per 1 with
              | some (reason, y) => .reject reason 1 y
              | none =>
                if (names 0 || names 1) && !isSealed s c && !crossOk s c ext none (admTerr s) then .reject 0x04 0 0
                else if l.any fun e => e.2.2.isSome && decide (20 ≤ (pendingIn s e.1 e.2.1).length) then .refuse .noResource
                else if 16 ≤ (s.commits.filter fun p => p.ctx = c).length then .refuse .noResource
                else
                  let jb := if r.joint && both then some (jointBoundaries s) else none
                  let bound (h : HeadId) : Option Nat := match contHead h, jb with
                    | some k, none => boundaryFor s k c r.fallback
                    | some k, some (fa, fb) => some (if k = 0 then fa else fb)
                    | none, _ => none
                  .accept ((heads3.filter names).map fun h => (h, bound h, entriesOf l h))

/-- Q1 of a COMMIT or COMMIT_CHECK (R272). -/
def framesWord (parts : List (HeadId × Option Nat × List (SlotId × Option Desc))) : Word :=
  let f (h : HeadId) : Nat := match parts.find? fun p => p.1 = h with
    | none => 0xFFFF
    | some (_, none, _) => 0xFFFE
    | some (_, some n, _) => n
  put (f 0) 0 16 ||| put (f 1) 16 16

end Sys2Proof.Machine
end

