-- ==== Sys2Proof/Machine/Commit.lean ====
section
/-! DEFINITION. Commits (chapter 12): COMMIT, COMMIT_CHECK, COMMIT_ABORT and SEAL, the budget checker's slots,
acceptance, and the application of parts. -/
namespace Sys2Proof.Machine

/-! ## Applying parts -/

/-- A canvas composition starts, or is due when the running bistable command ends (R276, R390). -/
def composeCanvas (s : State) : State :=
  if s.epd.cfg.isNone then s
  else if s.epd.run.any (fun r => r.step ≠ .composeWait) then { s with epd := { s.epd with composeDue := true } }
  else { s with epd := { s.epd with composing := true } }

/-- One entry of a part on a head: a clear entry removes only a layer of its own context (log 27). -/
def applyOp (h : HeadId) (c : CtxId) (id : BitVec 16) (o : SlotOp) (s : State) : State :=
  match o with
  | .place z d k => s.modSlot h z (some { desc := d, ctx := c, commitId := id, pool := k })
  | .clear z => if s.slot[h][z].any fun l => l.ctx = c then s.modSlot h z none else s

/-- A part of a commit applies to its head (R265, R273): the layers, COMMIT_STATUS, then the context's source. -/
def applyPart (p : PendingCommit) (x : CommitPart) (s : State) : State :=
  let s := forEach x.ops (applyOp x.head p.ctx p.id) s
  let f : Nat := match contHead x.head with | some h => s.head[h].frame.toNat | none => 0
  let s := s.modCtx p.ctx fun y => { y with
    appliedId := p.id
    appliedHead := BitVec.ofNat 2 x.head.1
    appliedFrame := BitVec.ofNat 8 f
    lastApplied := y.lastApplied.set x.head (some {
      id := p.id, frame := (contHead x.head).map fun _ => f, joint := p.joint, fallback := p.fallback
      listOff := p.listOff, entries := p.entries }) }
  raise (64 + p.ctx.1) s

/-- Drop the parts that a test names; a commit without parts leaves the list. -/
def dropParts (p : PendingCommit → CommitPart → Bool) (l : List PendingCommit) : List PendingCommit :=
  (l.map fun c => { c with parts := c.parts.filter fun x => !p c x }).filter fun c => !c.parts.isEmpty

/-! ## Acceptance -/

/-- The pool entries of a slot (R236). -/
def poolOf (h : HeadId) (z : SlotId) : List Nat := (List.range 21).map fun k => 21 * (16 * h.1 + z.1) + k

/-- A free pool entry of a slot: which one the OL640 takes is open (R236). -/
def pickPool (s : State) (h : HeadId) (z : SlotId) : Nat :=
  let used := pendingIn s h z ++ ((s.slot[h][z]).map fun l => l.pool).toList
  let free := (poolOf h z).filter fun k => k ∉ used
  free.getD (Config.poolChoice s.free % free.length) 0

/-- The entries of an accepted part with their pool entries. -/
def assignPools (h : HeadId) : List (SlotId × Option Desc) → State → List SlotOp × State
  | [], s => ([], s)
  | (z, none) :: l, s => let (r, s) := assignPools h l s; (.clear z :: r, s)
  | (z, some d) :: l, s =>
    let k := pickPool s h z
    let (r, s) := assignPools h l (bumpFree s)
    (.place z d k :: r, s)

def assignParts : List (HeadId × Option Nat × List (SlotId × Option Desc)) → State → List CommitPart × State
  | [], s => ([], s)
  | (h, b, l) :: rest, s =>
    let (ops, s) := assignPools h l s
    let (r, s) := assignParts rest s
    ({ head := h, boundary := b, ops := ops } :: r, s)

/-- A later part of the same context for a stopped head replaces the held one (R25), and the context's source tells. -/
def replaceHeld (c : CtxId) (parts : List (HeadId × Option Nat × List (SlotId × Option Desc))) (s : State) : State :=
  let stopped := parts.filterMap fun p => if p.2.1.isNone && (contHead p.1).isSome then some p.1 else none
  let hit (p : PendingCommit) (x : CommitPart) : Bool := p.ctx = c && x.head ∈ stopped
  let n := (s.commits.flatMap fun p => p.parts.filter (hit p)).length
  let s := { s with commits := dropParts hit s.commits }
  if n = 0 then s else raise (64 + c.1) s

/-- An accepted commit gets its ID and pool entries, its head E part applies at once, and the rest is pending (R263,
R272, R276). -/
def acceptCommit (c : CtxId) (r : CommitReq) (parts : List (HeadId × Option Nat × List (SlotId × Option Desc)))
    (s : State) : State :=
  let id := s.ctx[c].commitId
  let s := replaceHeld c parts s
  let (ps, s) := assignParts parts s
  let p : PendingCommit := {
    ctx := c, id := id, parts := ps.filter fun x => (contHead x.head).isSome, joint := r.joint, fallback := r.fallback
    listOff := r.listOff, entries := r.entries, acceptedAt := s.fetch.fclk }
  let s := { s with commits := if p.parts.isEmpty then s.commits else s.commits ++ [p] }
  let s := s.modCtx c fun x => { x with commitId := if id = 0xFFFF then 1 else id + 1 }
  let s := bumpDevice (bumpCtx c s)
  let e := ps.filter fun x => x.head = 2
  if e.isEmpty then s else composeCanvas (forEach e (applyPart p) s)

/-! ## Reading a list -/

/-- One list entry as it stands in memory (Table 12-1). -/
structure RawEntry where
  head : Nat
  clear : Bool
  slot : Nat
  reserved : Bool
  desc : Nat
deriving DecidableEq, Repr

def rawEntry (b : List Byte) : RawEntry where
  head := byteAt b 0 % 4
  clear := byteAt b 0 / 4 % 2 = 1
  slot := byteAt b 1 % 16
  reserved := decide (8 ≤ byteAt b 0) || decide (16 ≤ byteAt b 1) || !zeroAt b 2 2
  desc := leAt b 4 4

def rawList (s : State) (c : CtxId) (a : Cmd) : List RawEntry :=
  (List.range (fld a.a1 0 7)).map fun i => rawEntry (readPart s c (woff a.a0 + 8 * i) 8)

/-- The rules of R261 without the SLOT comparison. -/
def listBad (l : List RawEntry) : Bool :=
  l.any (fun e => e.reserved || e.head = 3 || (if e.clear then e.desc ≠ 0 else e.desc % 16 ≠ 0))
    || !(l.map fun e => (e.head, e.slot)).Nodup

/-- An entry for the budget checker, with the bytes of its descriptor. -/
def readEntry (s : State) (c : CtxId) (e : RawEntry) : HeadId × SlotId × Option (List Byte) :=
  (⟨e.head % 3, Nat.mod_lt _ (by decide)⟩, ⟨e.slot % 16, Nat.mod_lt _ (by decide)⟩,
    if e.clear then none else some (readPart s c (4 * e.desc) 64))

/-! ## COMMIT and COMMIT_CHECK -/

/-- The checks of R135 for COMMIT and COMMIT_CHECK (R260). -/
def checkCommit (w : WinId) (c : CtxId) (a : Cmd) (s : State) : Option Verdict :=
  firstFail [
    (!argBits a wholeWord 0x1007F 0 0 || decide (fld a.a1 0 7 = 0 ∨ 64 < fld a.a1 0 7) || decide (a.a0.toNat % 2 ≠ 0), .badArg),
    (!inPart s c (woff a.a0) (8 * fld a.a1 0 7), .outOfPartition),
    (!cmdMem s w, .noResource)]

/-- The commit gates of the heads that the list names, then the context's descriptor set (Table 06-4). -/
def needsCommit (c : CtxId) (a : Cmd) (s : State) : List Resource :=
  let l := rawList s c a
  ((heads3.filter fun h => l.any fun e => e.head = h.1).map fun h => Resource.gate h) ++ [.ctxSet c]

/-- A rejected COMMIT raises its context's source; a COMMIT_CHECK raises none (R265). -/
def rejectCommit (w : WinId) (c : CtxId) (isCheck : Bool) (reason head line : Nat) (s : State) : State :=
  let s := reject w reason head line s
  if isCheck then s else raise (64 + c.1) s

/-- The queue through which a commit list is read (R262). -/
def listQueue (s : State) (c : CtxId) : QueueId :=
  if s.fetch.queue[layerQueue c 1].pol.cir ≤ s.fetch.queue[layerQueue c 0].pol.cir then layerQueue c 0 else layerQueue c 1

/-- The queue through which a head's descriptors are read (R235, R262). -/
def descQueue (c : CtxId) (head : Nat) : QueueId := if head = 0 then layerQueue c 0 else if head = 1 then layerQueue c 1 else 130

/-- The reads of a list and of descriptors enter their queues (R262); the request is ready once they are complete (R143,
log 83). -/
def askCommit (w : WinId) (c : CtxId) (a : Cmd) (descs : List RawEntry) (s : State) : State :=
  match s.win[w].exec with
  | none => s
  | some e =>
    let k : ReqKind := .commit w e.entry.order
    let b := partBase s c
    forEach descs (fun e => enqueueRange (descQueue c e.head) k c (b + 4 * e.desc) 64)
      (enqueueRange (listQueue s c) k c (b + woff a.a0) (8 * fld a.a1 0 7) s)

/-- The list and its descriptors are read and checked up to check 3 of R266; the request waits for its slot. -/
def readCommit (isCheck : Bool) (w : WinId) (c : CtxId) (a : Cmd) (s : State) : State :=
  let off := woff a.a0
  let n := fld a.a1 0 7
  let l := rawList s c a
  let places := l.filter fun e => !e.clear
  let asked := askCommit w c a
  if badPart s c off (8 * n) then rejectCommit w c isCheck 0x41 0 0 (logUePart c off (8 * n) (asked [] s))
  else if listBad l then rejectCommit w c isCheck 0x07 0 0 (asked [] s)
  else if places.any fun e => !inPart s c (4 * e.desc) 64 then finish0 w .outOfPartition (asked [] s)
  else if places.any fun e => badPart s c (4 * e.desc) 64 then
    rejectCommit w c isCheck 0x41 0 0 (logUe (places.findSome? fun e => firstBad s (partBase s c + 4 * e.desc) 64) (asked places s))
  else if places.any fun e => byteAt (readPart s c (4 * e.desc) 64) 6 % 16 ≠ e.slot then
    rejectCommit w c isCheck 0x07 0 0 (asked places s)
  else setPhase w (.budget {
    check := isCheck, joint := a.a1.getLsbD 16, fallback := false, listOff := off, entries := n
    list := l.map (readEntry s c), boot := none }) (asked places s)

def opCommit : Opcode := { check := checkCommit, needs := needsCommit, act := readCommit false }
def opCommitCheck : Opcode := { check := checkCommit, needs := fun c _ _ => [.ctxSet c], act := readCommit true }

/-- COMMIT (0x10, R266). -/
def execCommit (w : WinId) (c : Cmd) (s : State) : Host.Outcome State Fault Refusal := .next (portRow w 0x10 c opCommit.run s)

/-- COMMIT_CHECK (0x12, R277). -/
def execCommitCheck (w : WinId) (c : Cmd) (s : State) : Host.Outcome State Fault Refusal :=
  .next (portRow w 0x12 c opCommitCheck.run s)

/-! ## COMMIT_ABORT -/

def findCommit (s : State) (c : CtxId) (id : Nat) : Option PendingCommit :=
  s.commits.find? fun p => p.ctx = c && p.id.toNat = id

def checkCommitAbort (_ : WinId) (_ : CtxId) (a : Cmd) (_ : State) : Option Verdict :=
  firstFail [(!argBits a 0xFFFF 0 0 0, .badArg)]

def needsCommitAbort (c : CtxId) (a : Cmd) (s : State) : List Resource :=
  match findCommit s c (fld a.a0 0 16) with
  | some p => ((heads3.filter fun h => p.parts.any fun x => x.head = h).map fun h => Resource.gate h) ++ [.ctxSet c]
  | none => [.ctxSet c]

/-- A pending part's head is before the cut-off for the part's boundary (R139). -/
def partBeforeCutOff (s : State) (x : CommitPart) : Bool :=
  match contHead x.head, x.boundary with
  | some h, some f => !started s h || !frameDue (s.head[h].frame + 1) f || beforeCutOff s h
  | _, _ => true

/-- COMMIT_ABORT (R139): all pending parts go, or none. -/
def actCommitAbort (w : WinId) (c : CtxId) (a : Cmd) (s : State) : State :=
  match findCommit s c (fld a.a0 0 16) with
  | none => finish0 w .badArg s
  | some p =>
    if p.parts.all (partBeforeCutOff s) then
      finish0 w .ok (raise (64 + c.1) { s with commits := s.commits.filter fun q => !(q.ctx = c && q.id = p.id) })
    else finish0 w .busy s

def opCommitAbort : Opcode := { check := checkCommitAbort, needs := needsCommitAbort, act := actCommitAbort }

/-- COMMIT_ABORT (0x11, R139). -/
def execCommitAbort (w : WinId) (c : Cmd) (s : State) : Host.Outcome State Fault Refusal :=
  .next (portRow w 0x11 c opCommitAbort.run s)

/-! ## SEAL -/

def checkSeal (_ : WinId) (c : CtxId) (a : Cmd) (_ : State) : Option Verdict :=
  let n := argCtx a.a0
  firstFail [
    (!selfOrSupervisor c n, .denied),
    (!argBits a 0x3F 0 0 0 || n = 0, .badArg)]

/-- The state of the context that a command names, as it stands once its descriptor set is held (R139). -/
def namedState (s : State) (n : CtxId) : List (Bool × Code) :=
  [(s.ctx[n].st = .unattached, .badArg), (s.ctx[n].st = .detaching, .busy)]

/-- SEAL's action: it waits for its context's slot. -/
def actSeal (w : WinId) (_ : CtxId) (a : Cmd) (s : State) : State :=
  match firstFail (namedState s (argCtx a.a0)) with
  | some v => turnAway w v s
  | none => setPhase w .budgetSeal s

def opSeal : Opcode where
  check := checkSeal
  needs := fun _ a _ => [.ctxSet (argCtx a.a0)]
  act := actSeal

/-- SEAL (0x03, R168). -/
def execSeal (w : WinId) (c : Cmd) (s : State) : Host.Outcome State Fault Refusal := .next (portRow w 0x03 c opSeal.run s)

/-- The context becomes sealed: no excess class, and release offsets from this instant (R168, R227). -/
def sealCtx (n : CtxId) (s : State) : State :=
  let s := s.modCtx n fun c => { c with st := .sealed }
  forEach conts (fun h s => sealQueue (layerQueue n h) s) s

/-- A SEAL is decided in its slot (R143, R168); the context may have gone, or be draining, since it began to wait (R139). -/
def decideSeal (w : WinId) (n : CtxId) (s : State) : State :=
  if s.ctx[n].st = .unattached then finish0 w .badArg s
  else if s.ctx[n].st = .detaching then finish0 w .busy s
  else if isSealed s n then finish0 w .ok s
  else if crossOk s n (fun _ => []) (some n) (admTerr s) then finishGen w 0 0 (sealCtx n s)
  else reject w 0x04 0 0 s

/-! ## The budget checker (R143) -/

/-- Reads for the list or a descriptor of a command are outstanding (R143, R262). -/
def readsOut (s : State) (c : CtxId) (w : WinId) (order : Nat) : Bool :=
  [layerQueue c 0, layerQueue c 1, 130].any fun n =>
    let q := s.fetch.queue[n]
    (q.reqs ++ q.waiting ++ q.held.map fun x => x.req).any fun r => r.kind = .commit w order

/-- The command of a window that waits for its slot, with its age: its reads are complete. -/
def readyOf (s : State) (c : CtxId) (w : WinId) : Option (WinId × Exec) :=
  (s.win[w].exec).bind fun e => match e.phase with
    | .budget _ | .budgetSeal => guardSome (e.ctx = c && !readsOut s c w e.entry.order) (w, e)
    | _ => none

/-- The oldest of a context's ready requests, in CMD_ISSUE order. -/
def oldestReady (s : State) (c : CtxId) : Option (WinId × Exec) :=
  wins.foldl (fun b w => match readyOf s c w, b with
    | some x, some y => if x.2.entry.order < y.2.entry.order then some x else some y
    | some x, none => some x
    | none, b => b) none

/-- A COMMIT or COMMIT_CHECK is decided. -/
def decideRequest (w : WinId) (c : CtxId) (r : CommitReq) (s : State) : State :=
  match decideCommit s c r with
  | .refuse code => finish0 w code s
  | .reject reason head line => rejectCommit w c r.check reason head line s
  | .accept parts =>
    if r.check then finish w .ok 0 (framesWord parts) s
    else
      let id := s.ctx[c].commitId
      finish w .ok (put id.toNat 0 16) (framesWord parts) (acceptCommit c r parts s)

/-- A commit of the fallback set is decided (R50): a rejection is logged with its reason, another failure with its status
code (log 28); CTX_0's source tells of either (R162). -/
def decideFallback (i : Nat) (r : CommitReq) (s : State) : State :=
  match decideCommit s 0 r with
  | .refuse code => raise 64 (logFault 0x34 i (BitVec.ofNat 32 code.ctorIdx) s (some 0))
  | .reject reason _ _ => raise 64 (logFault 0x34 i (BitVec.ofNat 32 reason) s (some 0))
  | .accept parts => acceptCommit 0 r parts s

/-- BUDGET_CHECKER_SLOT: the slot of the next context in the rotation (R143). -/
def execBudgetCheckerSlot (s : State) : Host.Outcome State Fault Refusal :=
  if !fabricOn s then .next s
  else
    let c := s.port.budgetCtx
    let s := { s with port := { s.port with budgetCtx := c + 1 } }
    match (if c = 0 then s.port.fallbackQueue else []) with
    | (i, r) :: rest => .next (decideFallback i r { s with port := { s.port with fallbackQueue := rest } })
    | [] =>
      match oldestReady s c with
      | some (w, e) =>
        match e.phase with
        | .budget r => .next (decideRequest w c r s)
        | .budgetSeal => .next (decideSeal w (argCtx e.entry.cmd.a0) s)
        | _ => .next s
      | none => .next s

end Sys2Proof.Machine
end

