-- ==== Sys2Proof/Machine/Relief.lean ====
section
/-! DEFINITION. Relief, the flattening cache (chapter 13): static runs, flattening, residence, dirty tracking and
RELIEF_FLUSH. A tile that is being flattened waits for its members' bytes; it is composed in one step (log 29). -/
namespace Sys2Proof.Machine

/-- The layer in a slot is eligible (13.1). -/
def eligible (s : State) (h : ContHead) (z : SlotId) : Bool :=
  (s.slot[headId h][z]).any fun l => l.desc.static_ && l.desc.relay.isNone && !isSealed s l.ctx

/-- Where the planes of an applied layer stand in memory; a relay layer's are given by its shown buffer (R446). -/
def layerBase (s : State) (l : Layer) (plane : Nat) : Nat :=
  match l.desc.relay with
  | some g =>
    let x := s.relay.ingest[g]
    match x.cfg, x.shown with
    | some c, some k =>
      let u := ceilDiv (roundUp (4 * c.w) 32 * c.h) 65536
      deviceBase s + 0x08000000 + 65536 * (c.unit_ + k.1 * u)
    | _, _ => deviceBase s + 0x08000000
  | none => (if l.desc.boot then deviceBase s else partBase s l.ctx) + (if plane = 0 then l.desc.base0 else l.desc.base1)

/-- The byte at an offset of a plane of a layer, from memory. -/
def layerByte (s : State) (l : Layer) (plane off : Nat) : Nat := (readCell s.mem (layerBase s l plane + off)).toNat

/-- The scene of a layer on a head: the territories in force for composition (R186). -/
def layerScene (s : State) (h : ContHead) (cfg : HeadCfg) (l : Layer) : Scene :=
  sceneOf cfg (s.ctx[l.ctx].terrShown[headId h])

/-- The bursts a layer fetches per frame (R250, R251), with the lines that use them. -/
def Desc.frameFetch (d : Desc) (g : Scene) : List ((Nat × Nat) × Nat × Nat) := (List.range g.vtotal).flatMap (d.lineFetch g)

/-- Bytes a layer fetches per frame. -/
def Desc.frameBytes (d : Desc) (g : Scene) : Nat := 32 * (d.frameFetch g).length

/-- Bursts joined into requests within one aligned 256-byte block each (R217): address, length, and the lines served. -/
def joinBursts (base : Nat → Nat) : List ((Nat × Nat) × Nat × Nat) → List (Nat × Nat × Nat × Nat)
  | [] => []
  | ((p, b), f, t) :: rest =>
    let a := base p + 32 * b
    match joinBursts base rest with
    | (o, n, f', t') :: more =>
      if f = f' ∧ t = t' ∧ o = a + 32 ∧ a / 256 = o / 256 then (a, n + 32, f, t) :: more
      else (a, 32, f, t) :: (o, n, f', t') :: more
    | [] => [(a, 32, f, t)]

/-- A scene cut down to one tile. -/
def Scene.clip (g : Scene) (tx ty : Nat) : Scene :=
  { g with terr := g.terr.map fun o => o.map fun t =>
      let x0 := Nat.max t.x (64 * tx)
      let y0 := Nat.max t.y (64 * ty)
      let x1 := Nat.min (t.x + t.w) (64 * tx + 64)
      let y1 := Nat.min (t.y + t.h) (64 * ty + 64)
      { t with x := x0, y := y0, w := x1 - x0, h := y1 - y0 } }

def memberLayers (s : State) (h : ContHead) (r : List SlotId) : List Layer := r.filterMap fun z => s.slot[headId h][z]

/-- The saving of a tile (R290). -/
def tileSaving (s : State) (h : ContHead) (cfg : HeadCfg) (members : List SlotId) (tx ty : Nat) : Nat :=
  (memberLayers s h members).foldl (fun t l => t + l.desc.frameBytes ((layerScene s h cfg l).clip tx ty)) 0

/-! ## Runs -/

/-- Maximal sequences of eligible slots with no ineligible occupied slot between (R282). -/
def sequences (s : State) (h : ContHead) : List (List SlotId) :=
  let occupied := slots.filter fun z => (s.slot[headId h][z]).isSome
  ((occupied.splitBy fun a b => eligible s h a && eligible s h b).filter fun l => l.all (eligible s h)).filter fun l => 2 ≤ l.length

/-- The 8 sequences of most bytes, the lower first slot on a tie, in slot order (R282). -/
def chooseRuns (s : State) (h : ContHead) (cfg : HeadCfg) : List (List SlotId) :=
  let sq := sequences s h
  if sq.length ≤ 8 then sq
  else
    let weight (l : List SlotId) : Nat := (memberLayers s h l).foldl (fun t x => t + x.desc.frameBytes (layerScene s h cfg x)) 0
    let first (l : List SlotId) : Nat := (l.headD 0).1
    sq.filter fun l => (sq.filter fun k => decide (weight l < weight k) || (weight l = weight k && decide (first k < first l))).length < 8

/-- The tiles that hold a visible pixel of a member, in ascending ty, then tx. -/
def runTiles (s : State) (h : ContHead) (cfg : HeadCfg) (members : List SlotId) : List Tile :=
  let ls := memberLayers s h members
  (List.range (ceilDiv cfg.vactive 64)).flatMap fun ty =>
    (List.range (ceilDiv cfg.hactive 64)).filterMap fun tx =>
      guardSome (ls.any fun l => !(l.desc.visibleLines ((layerScene s h cfg l).clip tx ty)).isEmpty)
        { tx := tx, ty := ty, st := .dirty }

/-- The on-chip slots in use: those of clean tiles, and those that a decided line will still read (R291). -/
def chipSlots (s : State) : List Nat :=
  conts.flatMap fun h => (s.relief.runs[h].flatMap fun r => r.tiles.filterMap fun t => match t.st with
    | .chip k => some k
    | _ => none) ++ s.comp[h].served.map fun x => x.chip

def spillSlots (s : State) : List Nat :=
  conts.flatMap fun h => s.relief.runs[h].flatMap fun r => r.tiles.filterMap fun t => match t.st with
    | .spill k => some k
    | _ => none

def setRuns (h : ContHead) (l : List Run) (s : State) : State := { s with relief := { s.relief with runs := s.relief.runs.set h l } }

/-- Contents of on-chip slots that are not in use any more go. -/
def pruneChip (s : State) : State :=
  let used := chipSlots s
  { s with relief := { s.relief with chip := s.relief.chip.filter fun p => p.1 ∈ used } }

/-- Where a spill slot stands in memory (R286). -/
def spillAddr (s : State) (k : Nat) : Nat := deviceBase s + 0x0C000000 + 24576 * k

/-- The stored bytes of a clean tile. -/
def tileBytes (s : State) (t : Tile) : List Byte :=
  match t.st with
  | .chip k => match s.relief.chip.find? fun p => p.1 = k with
    | some p => p.2
    | none => []
  | .spill k => s.read (spillAddr s k) 24576
  | _ => []

/-- A tile of a run takes another state. -/
def setTile (h : ContHead) (members : List SlotId) (tx ty : Nat) (st : TileState) (s : State) : State :=
  setRuns h (s.relief.runs[h].map fun r =>
    if r.members = members then
      { r with tiles := r.tiles.map fun t => if t.tx = tx ∧ t.ty = ty then { t with st := st } else t }
    else r) s

/-- The clean tiles of one part, with what ranks them (R290). -/
def cleanTiles (s : State) (chip : Bool) : List (ContHead × List SlotId × Tile × Nat) :=
  conts.flatMap fun h => match s.head[h].cfg with
    | none => []
    | some cfg => s.relief.runs[h].flatMap fun r => r.tiles.filterMap fun t => match t.st, chip with
      | .chip _, true | .spill _, false => some (h, r.members, t, tileSaving s h cfg r.members t.tx t.ty)
      | _, _ => none

/-- One tile has residence before another: more saving, then head A, lower ty, lower tx. -/
def residesBefore (a b : ContHead × List SlotId × Tile × Nat) : Bool :=
  let (ha, _, ta, sa) := a
  let (hb, _, tb, sb) := b
  decide (sb < sa) || (sa = sb && (decide (ha < hb) || (ha = hb && (decide (ta.ty < tb.ty) || (ta.ty = tb.ty && decide (ta.tx < tb.tx))))))

def bestTile (l : List (ContHead × List SlotId × Tile × Nat)) : Option (ContHead × List SlotId × Tile × Nat) :=
  l.foldl (fun b x => match b with
    | none => some x
    | some y => if residesBefore x y then some x else some y) none

def worstTile (l : List (ContHead × List SlotId × Tile × Nat)) : Option (ContHead × List SlotId × Tile × Nat) :=
  l.foldl (fun b x => match b with
    | none => some x
    | some y => if residesBefore y x then some x else some y) none

/-- The lowest free slot of a part. -/
def freeSlot (n : Nat) (used : List Nat) : Option Nat := (List.range n).find? fun k => k ∉ used

/-- Put bytes into an on-chip slot. -/
def putChip (k : Nat) (b : List Byte) (s : State) : State :=
  { s with relief := { s.relief with chip := (k, b) :: s.relief.chip.filter fun p => p.1 ≠ k } }

/-- Bytes move to or from a spill slot through queue_128 (R290). -/
def accessSpill (write : Bool) (k : Nat) (s : State) : State := access 128 write 0 (spillAddr s k) 24576 s

/-- A clean tile is written into a spill slot. -/
def spillTile (h : ContHead) (m : List SlotId) (t : Tile) (b : List Byte) (k : Nat) (s : State) : State :=
  setTile h m t.tx t.ty (.spill k) (accessSpill true k (s.write (spillAddr s k) b))

/-- While an on-chip slot is free, the best spill tile moves into it; one with an uncorrectable error becomes DIRTY
(Table 13-2). -/
def promote : Nat → State → State
  | 0, s => s
  | n + 1, s =>
    match freeSlot 170 (chipSlots s), bestTile (cleanTiles s false) with
    | some k, some (h, m, t, _) =>
      match t.st with
      | .spill j =>
        let a := spillAddr s j
        let bad := firstBad s a 24576
        let s' := accessSpill false j s
        promote n (if bad.isSome then setTile h m t.tx t.ty .dirty (logUe bad s')
          else setTile h m t.tx t.ty (.chip k) (putChip k (tileBytes s t) s'))
      | _ => s
    | _, _ => s

/-- Slots that nothing holds any more are free, and residence is evaluated again (R290, R291). -/
def freeSlots (s : State) : State := promote 170 (pruneChip s)

/-- The worst on-chip tile goes to a free spill slot where the given tile has residence before it. -/
def demote (x : ContHead × List SlotId × Tile × Nat) (s : State) : State :=
  match freeSlot 2048 (spillSlots s), worstTile (cleanTiles s true) with
  | some k, some (h, m, t, sv) =>
    if residesBefore x (h, m, t, sv) then pruneChip (spillTile h m t (tileBytes s t) k s) else s
  | _, _ => s

/-- A usable tile takes a free slot (R288, R290): on chip where it has residence there, else spilled; none free in either
part leaves it DIRTY. -/
def storeTile (h : ContHead) (m : List SlotId) (t : Tile) (saving : Nat) (b : List Byte) (s : State) : State :=
  match freeSlot 170 (chipSlots s) with
  | some k => setTile h m t.tx t.ty (.chip k) (putChip k b s)
  | none =>
    let s := demote (h, m, t, saving) s
    match freeSlot 170 (chipSlots s), freeSlot 2048 (spillSlots s) with
    | some k, _ => setTile h m t.tx t.ty (.chip k) (putChip k b s)
    | none, some k => spillTile h m t b k s
    | none, none => setTile h m t.tx t.ty .dirty s

/-- The tile that CP_E is flattening, with its head and run. -/
def flattening (s : State) : Option (ContHead × Run × Tile) :=
  conts.findSome? fun h => s.relief.runs[h].findSome? fun r =>
    (r.tiles.find? fun t => t.st = .flattening).map fun t => (h, r, t)

def ReqKind.isFlatten : ReqKind → Bool
  | .flatten _ => true
  | _ => false

/-- Where a flattening has been ended, its ungranted reads leave queue_128 (R289). -/
def endFlatten (s : State) : State :=
  let q := s.fetch.queue[(128 : QueueId)]
  if (flattening s).isNone && (q.reqs ++ q.waiting).any (fun r => r.kind.isFlatten) then
    removeRequests 128 (fun r => r.kind.isFlatten) s
  else s

/-- The runs that a test names become DIRTY and have to settle again (Table 13-2). -/
def dirtyRuns (h : ContHead) (p : Run → Bool) (s : State) : State :=
  if s.relief.runs[h].any p then
    freeSlots (endFlatten (setRuns h (s.relief.runs[h].map fun r =>
      if p r then { r with settle := 0, tiles := r.tiles.map fun t => { t with st := .dirty } } else r) s))
  else s

/-- The runs of a head are dropped (Table 13-2). -/
def dropRuns (h : ContHead) (s : State) : State := freeSlots (endFlatten (setRuns h [] s))

/-- At a frame boundary the runs are formed anew: a run whose members, descriptors and territories are unchanged keeps
its tiles (R282, Table 13-2). -/
def formRuns (h : ContHead) (changed : SlotId → Bool) (s : State) : State :=
  match s.head[h].cfg with
  | none => dropRuns h s
  | some cfg =>
    let old := s.relief.runs[h]
    let new := (chooseRuns s h cfg).map fun m =>
      match old.find? fun r => r.members = m && r.serving && !m.any changed with
      | some r => { r with settle := r.settle + 1 }
      | none => { members := m, settle := 0, serving := true, tiles := runTiles s h cfg m }
    freeSlots (endFlatten (setRuns h new s))

/-- The run's tiles may serve lines and be flattened: no member's context is detached or sealed (R297, R298). -/
def Run.serves (s : State) (h : ContHead) (r : Run) : Bool :=
  r.serving && !(memberLayers s h r.members).any fun l => isSealed s l.ctx

/-- The runs with a layer of a context stop serving (R297). -/
def stopServing (c : CtxId) (s : State) : State :=
  endFlatten (forEach conts (fun h s => setRuns h (s.relief.runs[h].map fun r =>
    if r.members.any fun z => (s.slot[headId h][z]).any fun l => l.ctx = c then
      { r with serving := false, tiles := r.tiles.map fun t => if t.st = .flattening then { t with st := .dirty } else t }
    else r) s) s)

/-- A write granted in queue_134 or queue_135 is snooped against the members' extents (R293). -/
def snoop (a n : Nat) (s : State) : State :=
  forEach conts (fun h s => dirtyRuns h (fun r => (memberLayers s h r.members).any fun l =>
    l.desc.extents.any fun (o, k) => decide (partBase s l.ctx + o < a + n ∧ a < partBase s l.ctx + o + k)) s) s

/-! ## Flattening -/

/-- The kind of a run's pixel and its value over any D (13.2): none is mixed. -/
inductive TilePx where
  | transparent | resolved (p : Px) | mixed
deriving DecidableEq, Repr

/-- A member's pixel at a head position: its colour, alpha and its blend, none where it is invisible. -/
def memberPx (s : State) (g : Scene) (l : Layer) (x y : Nat) : Option (Px × Nat) :=
  (l.desc.displayed g x y).map fun (u, v) =>
    let (sx, sy) := l.desc.source u v
    let pal := if l.desc.format = .i8 then s.read (layerBase s l 1) 1024 else []
    let p := l.desc.pixel (layerByte s l) pal sx sy
    (l.desc.convert p, p.a)

/-- The member leaves every D unchanged (R254). -/
def leavesD (d : Desc) (p : Px × Nat) : Bool :=
  let al := (p.2 * d.constAlpha + 127) / 255
  al = 0 && (!d.premult || [p.1.r, p.1.g, p.1.b].all fun c => decide (c * d.constAlpha + 127 < 255))

/-- What a run's members make of one head pixel. -/
def flattenPx (s : State) (h : ContHead) (cfg : HeadCfg) (ls : List Layer) (x y : Nat) : TilePx :=
  let ps := ls.filterMap fun l => (memberPx s (layerScene s h cfg l) l x y).map fun p => (l.desc, p)
  if ps.all fun q => leavesD q.1 q.2 then .transparent
  else if ps.any fun q => (q.2.2 * q.1.constAlpha + 127) / 255 = 255 then
    .resolved (ps.foldl (fun d q => blend q.1.premult q.1.constAlpha q.2.2 q.2.1 d) { r := 0, g := 0, b := 0 })
  else .mixed

/-- The 48-bit value of a stored pixel (R285). -/
def tilePxBytes : TilePx → List Byte
  | .resolved p => toLe 6 (p.b + 4096 * p.g + 2 ^ 24 * p.r + 2 ^ 36)
  | _ => toLe 6 0

/-- The pixels of a tile, row by row. -/
def flattenTile (s : State) (h : ContHead) (cfg : HeadCfg) (members : List SlotId) (tx ty : Nat) : List TilePx :=
  let ls := memberLayers s h members
  (List.range 64).flatMap fun r => (List.range 64).map fun c => flattenPx s h cfg ls (64 * tx + c) (64 * ty + r)

/-- The reads of a member's bytes for a tile's visible pixels: address and length (R288). -/
def memberReads (s : State) (h : ContHead) (cfg : HeadCfg) (l : Layer) (tx ty : Nat) : List (Nat × Nat) :=
  let bursts := ((l.desc.frameFetch ((layerScene s h cfg l).clip tx ty)).map fun x => x.1).eraseDups
  let pal := if l.desc.format = .i8 && !bursts.isEmpty then splitRange 6 (layerBase s l 1) 1024 else []
  (joinBursts (layerBase s l) (bursts.map fun b => (b, 0, 0))).map (fun x => (x.1, x.2.1)) ++ pal

/-- An uncorrectable error lies in a member's bytes for the tile. -/
def tileBad (s : State) (h : ContHead) (cfg : HeadCfg) (members : List SlotId) (tx ty : Nat) : Option Nat :=
  if s.memc.badWords.isEmpty then none
  else (memberLayers s h members).findSome? fun l => (memberReads s h cfg l tx ty).findSome? fun x => firstBad s x.1 x.2

/-- SETTLE: 8 in RUN, 1 in DIM (13.3). -/
def settleCount (s : State) : Nat := if s.power.mode = .dim then 1 else 8

/-- A read of the flattening under way has not come. -/
def flattenWaits (s : State) : Bool :=
  let q := s.fetch.queue[(128 : QueueId)]
  (q.reqs ++ q.waiting ++ q.held.map fun x => x.req).any fun r => r.kind = .flatten s.relief.begun

/-- The tile on a head whose flattening can be finished: its members' bytes have been read. -/
def nextTile (s : State) (h : ContHead) : Option (Run × Tile) :=
  match flattening s with
  | some (k, r, t) => guardSome (k = h && !flattenWaits s) (r, t)
  | none => none

/-- The next tile to flatten on a head: the first DIRTY tile of a settled run, but for one whose members' bytes are known
to hold an uncorrectable error. -/
def dirtyTile (s : State) (h : ContHead) (cfg : HeadCfg) : Option (Run × Tile) :=
  (s.relief.runs[h].filter fun r => decide (settleCount s ≤ r.settle) && r.serves s h).findSome? fun r =>
    (r.tiles.find? fun t => t.st = .dirty && (tileBad s h cfg r.members t.tx t.ty).isNone).map fun t => (r, t)

/-- CP_E starts a tile (R288): its members' bytes are asked for through queue_128, each request with its member's epoch. -/
def startTile (h : ContHead) (cfg : HeadCfg) (r : Run) (t : Tile) (s : State) : State :=
  let n := s.relief.begun + 1
  let s := setTile h r.members t.tx t.ty .flattening { s with relief := { s.relief with begun := n } }
  forEach (memberLayers s h r.members) (fun l s =>
    forEach (memberReads s h cfg l t.tx t.ty) (fun x s => enqueue 128 (mkRequest s (.flatten n) l.ctx x.1 x.2) s) s) s

/-- CP_E takes the next tile where it flattens none: not while the E canvas is to be composed (R289), and not while no slot
is free (R288). Head A comes first (DESIGN CHOICE, log 29). -/
def kickFlatten (s : State) : State :=
  let free := (freeSlot 170 (chipSlots s)).isSome || (freeSlot 2048 (spillSlots s)).isSome
  if (flattening s).isSome || s.epd.composing || !memAvail s || !free then s
  else match conts.findSome? fun h => (s.head[h].cfg).bind fun cfg => (dirtyTile s h cfg).map fun x => (h, cfg, x) with
    | some (h, cfg, r, t) => startTile h cfg r t s
    | none => s

/-- An uncorrectable error in a member's bytes ends the flattening; the tile stays DIRTY (R198). -/
def failFlatten (n : Nat) (s : State) : State :=
  match flattening s with
  | some (h, r, t) => if n = s.relief.begun then kickFlatten (endFlatten (setTile h r.members t.tx t.ty .dirty s)) else s
  | none => s

/-- The tile in FLATTENING is composed (R288). -/
def finishTile (h : ContHead) (cfg : HeadCfg) (r : Run) (t : Tile) (s : State) : State :=
  if (tileBad s h cfg r.members t.tx t.ty).isSome then setTile h r.members t.tx t.ty .dirty s
  else
    let px := flattenTile s h cfg r.members t.tx t.ty
    if px.any (· = .mixed) then setTile h r.members t.tx t.ty .unusable s
    else storeTile h r.members t (tileSaving s h cfg r.members t.tx t.ty) (px.flatMap tilePxBytes) s

/-- TILE_FLATTEN: CP_E finishes the tile it flattens (R288) and takes the next one. -/
def execTileFlatten (h : ContHead) (s : State) : Host.Outcome State Fault Refusal :=
  if !memAvail s then .next s
  else match s.head[h].cfg, nextTile s h with
    | some cfg, some (r, t) => .next (kickFlatten (finishTile h cfg r t s))
    | _, _ => .next (kickFlatten s)

/-! ## RELIEF_FLUSH -/

def checkReliefFlush (_ : WinId) (_ : CtxId) (a : Cmd) (_ : State) : Option Verdict :=
  firstFail [(!argBits a 0x10300 0 0 0 || (!a.a0.getLsbD 16 && (argCont a.a0).isNone), .badArg)]

/-- The heads a RELIEF_FLUSH names. -/
def flushHeads (a : Cmd) : List ContHead := if a.a0.getLsbD 16 then conts else (argCont a.a0).toList

/-- Tiles with visible pixels of a context's own STATIC layers on a head (R294). -/
def ownTiles (s : State) (c : CtxId) (h : ContHead) : Nat :=
  match s.head[h].cfg with
  | none => 0
  | some cfg =>
    let own := slots.filter fun z => (s.slot[headId h][z]).any fun l => l.ctx = c && l.desc.static_
    (runTiles s h cfg own).length

/-- RELIEF_FLUSH (R294): the caller's runs, every run for CTX_0. -/
def actReliefFlush (w : WinId) (c : CtxId) (a : Cmd) (s : State) : State :=
  let hs := flushHeads a
  let mine (h : ContHead) (r : Run) : Bool := c = 0 || (memberLayers s h r.members).any fun l => l.ctx = c
  let marked := hs.foldl (fun t h => t + ((s.relief.runs[h].filter (mine h)).flatMap fun r => r.tiles.filter fun t => t.st ≠ .dirty).length) 0
  let own := hs.foldl (fun t h => t + ownTiles s c h) 0
  let s := forEach hs (fun h s => dirtyRuns h (mine h) s) s
  finish w .ok (BitVec.ofNat 32 (if c = 0 then marked else own)) 0 s

def opReliefFlush : Opcode where
  check := checkReliefFlush
  needs := fun _ a _ => (flushHeads a).map fun h => .gate (headId h)
  act := actReliefFlush

/-- RELIEF_FLUSH (0x13). -/
def execReliefFlush (w : WinId) (c : Cmd) (s : State) : Host.Outcome State Fault Refusal :=
  .next (portRow w 0x13 c opReliefFlush.run s)

end Sys2Proof.Machine
end

