-- ==== Sys2Proof/Machine/Caliper.lean ====
section
/-! DEFINITION. The Caliper check-value units (chapter 21): SCAN, SELFTEST, folding, the feeds, and how an operation
ends. -/
namespace Sys2Proof.Machine

/-! ## Folding and feeding -/

/-- The fold bytes ahead of a block (R459): `a` is the address of the block's first byte. -/
def CalRun.foldBytes (r : CalRun) (a : Nat) : List Byte :=
  if r.crc.fold = 1 then toLe 5 a
  else if r.crc.fold = 2 then toLe 4 (r.crc.seq + r.blocks)
  else []

/-- A byte string fed into the operation's CRC register (R457). -/
def CalRun.crcIn (r : CalRun) (bs : List Byte) : CalRun :=
  { r with reg := BitVec.ofNat 64 (crcFeed r.crc.width r.crc.poly.toNat r.crc.refin r.reg.toNat bs) }

/-- One data byte of the current row; the fold bytes precede the first byte of each block (R459). -/
def CalRun.byte (r : CalRun) (a : Nat) (b : Byte) : CalRun :=
  let r := if r.rowPos % r.crc.block = 0 then { r.crcIn (r.foldBytes a) with blocks := r.blocks + 1 } else r
  { r.crcIn [b] with rowPos := r.rowPos + 1 }

/-- Consecutive bytes of the current row, the first at address `a`. -/
def CalRun.feed (r : CalRun) (a : Nat) : List Byte → CalRun
  | [] => r
  | b :: bs => (r.byte a b).feed (a + 1) bs

/-- The row ends. -/
def CalRun.endRow (r : CalRun) : CalRun := { r with rowPos := 0, row := r.row + 1 }

/-- The result over the bytes fed so far, with REFOUT and XOROUT applied (R457, Table 21-4). -/
def CalRun.result (r : CalRun) : DWord :=
  match r.op with
  | .selftest _ _ f => f.setWidth 64
  | _ => BitVec.ofNat 64 (crcEnd r.crc.width r.crc.refout r.crc.xorout.toNat r.reg.toNat)

/-- CAL_STATUS.FEED of an operation (Table 05-31). -/
def CalOp.feed : CalOp → BitVec 3
  | .memory .. | .canvas | .bootImage => 1
  | .tap h .. => if h = 0 then 2 else 3
  | .ingest _ => 4
  | .selftest .. => 5

def CalOp.isSelftest : CalOp → Bool
  | .selftest .. => true
  | _ => false

/-- The CRC-32C of the internal checks, without folding. -/
def CrcCfg.crc32c : CrcCfg where
  width := 32
  poly := 0x1EDC6F41
  init := 0xFFFFFFFF
  xorout := 0xFFFFFFFF
  refin := true
  refout := true
  fold := 0
  block := 4096
  seq := 0
  expect := none

/-! ## Starting and ending an operation -/

/-- An operation starts on a unit; earlier read data of the unit is stale from here on. -/
def startCal (u : CalId) (op : CalOp) (w : Option WinId) (c : CtxId) (crc : CrcCfg) (s : State) : State :=
  s.modCal u fun x => { x with
    epoch := x.epoch + 1, yields := 0
    op := some {
      op := op, byWindow := w, ctx := c, crc := crc, reg := crc.init, rowPos := 0, row := 0, blocks := 0, asked := 0
      failed := false, since := s.drone.time.toNat } }

/-- The result registers at the end of an operation (R470, Table 21-4). -/
def Cal.showEnd (x : Cal) (r : CalRun) (code : Code) : Cal :=
  let v : DWord := if code = .ok ∨ code = .incomplete then r.result else 0
  { x with
    done := true
    value := v
    match_ := code = .ok && r.crc.expect = some v
    incomplete := code = .incomplete
    feed := r.op.feed
    yieldsShown := if r.op.isSelftest then BitVec.ofNat 8 (Nat.min 255 x.yields) else 0
    owner := r.ctx }

/-- The sources of Table 21-5 at the end of an operation. -/
def calEvents (u : CalId) (r : CalRun) (code : Code) (s : State) : State :=
  let s := raise (200 + u.1) s
  let s := if code = .ok && r.crc.expect.any (· ≠ r.result) then raise (204 + u.1) s else s
  if r.op.isSelftest then raise 208 s else s

/-- The unit's operation ends with a code: the results (unless the operation's context is being detached, R473), the
events, and the end of its requests. -/
def stopCal (u : CalId) (code : Code) (keep : Bool) (s : State) : State :=
  match s.cal[u].op with
  | none => s
  | some r =>
    let s := s.modCal u fun x =>
      let y : Cal := if keep then x else x.showEnd r code
      { y with op := none }
    let s := removeRequests 131 (fun q => match q.kind with | .scan v _ => v = u | _ => false) s
    calEvents u r code s

/-- The result words of the command whose operation ended (Table 06-3). -/
def CalRun.words (r : CalRun) (yields : Nat) (code : Code) : Word × Word :=
  if code = .ok ∨ code = .incomplete then
    match r.op with
    | .selftest _ _ f => (f, BitVec.ofNat 32 (Nat.min 65535 yields))
    | _ => (r.result.setWidth 32, BitVec.ofNat 32 (r.result.toNat / 2 ^ 32))
  else if code = .rejected then (0x41, 0)
  else (0, 0)

/-- The unit's operation ends, and with it the SCAN or SELFTEST that started it. -/
def endCal (u : CalId) (code : Code) (s : State) : State :=
  match s.cal[u].op with
  | none => s
  | some r =>
    let n := s.cal[u].yields
    let s := stopCal u code false s
    match r.byWindow with
    | none => s
    | some w => let q := r.words n code; finish w code q.1 q.2 s

/-- A yielded self-test of the unit ends. -/
def endYielded (u : CalId) (code : Code) (s : State) : State :=
  match s.cal[u].yielded with
  | none => s
  | some r =>
    let n := s.cal[u].yields
    let s := s.modCal u fun x => { x.showEnd r code with yielded := none }
    let s := calEvents u r code s
    match r.byWindow with
    | none => s
    | some w => let q := r.words n code; finish w code q.1 q.2 s

/-- A SCAN that runs on a unit is ended INCOMPLETE by a PROTECT_LOCK (Table 06-5); a self-test is not. -/
def preemptScan (u : CalId) (s : State) : State :=
  match s.cal[u].op with
  | some { op := .memory .., .. } | some { op := .tap .., .. } | some { op := .ingest _, .. } => endCal u .incomplete s
  | _ => s

/-- RESET_CTL reset of a unit (R472). -/
def resetCalUnit (u : CalId) (s : State) : State :=
  let s := endYielded u .aborted (endCal u .aborted s)
  s.modCal u fun x => { Cal.reset with epoch := x.epoch + 1 }

/-! ## SCAN -/

/-- A range of device space lies within one readable region of Table 09-2. -/
def deviceReadable (a n : Nat) : Bool :=
  let within (lo hi : Nat) : Bool := decide (lo ≤ a ∧ a + n ≤ hi)
  within 0 0x04000000 || within 0x04000000 0x08000000 || within 0x08000000 0x0B000000 || within 0x0B000000 0x0B400000

/-- The parameters of a scan descriptor (Table 21-2). -/
def scanCrc (b : List Byte) : CrcCfg :=
  let flags := byteAt b 2
  { width := byteAt b 1
    poly := BitVec.ofNat 64 (leAt b 8 8)
    init := BitVec.ofNat 64 (leAt b 0x10 8)
    xorout := BitVec.ofNat 64 (leAt b 0x18 8)
    refin := flags % 2 = 1
    refout := flags / 2 % 2 = 1
    fold := ⟨flags / 4 % 4 % 3, Nat.mod_lt _ (by decide)⟩
    block := leAt b 4 2
    seq := leAt b 0x28 4
    expect := guardSome (flags / 32 % 2 = 1) (BitVec.ofNat 64 (leAt b 0x20 8)) }

/-- SPACE of a scan descriptor. -/
def scanDevice (b : List Byte) : Bool := byteAt b 2 / 16 % 2 = 1

/-- The unit and the head or stream a scan names. -/
def scanUnit (a : Cmd) : CalId := ⟨fld a.a0 0 2, Nat.mod_lt _ (by decide)⟩
def scanHead (b : List Byte) : ContHead := if byteAt b 0 = 2 then 0 else 1
def scanStream (b : List Byte) : IngestId := ⟨byteAt b 0x30 % 8, Nat.mod_lt _ (by decide)⟩

/-- The tap rectangle of a descriptor: X, Y, W, H. -/
def scanRect (b : List Byte) : Nat × Nat × Nat × Nat := (leAt b 0x30 2, leAt b 0x32 2, leAt b 0x34 2, leAt b 0x36 2)

/-- Every field of the descriptor that all feeds share is in range (R458 to R460). -/
def scanCommonOk (b : List Byte) : Bool :=
  let w := byteAt b 1
  let blk := leAt b 4 2
  let fold := byteAt b 2 / 4 % 4
  decide (1 ≤ w ∧ w ≤ 64) && decide (byteAt b 2 < 64) && zeroAt b 3 1 && decide (16 ≤ blk ∧ blk ≤ 4096 ∧ blk % 4 = 0)
    && decide (fold < 3) && [8, 0x10, 0x18, 0x20].all (fun o => decide (leAt b o 8 < 2 ^ w))
    && (fold = 2 || zeroAt b 0x28 4) && zeroAt b 0x3C 4

/-- The fields of each feed are in range (Table 21-2, R461 step 2). -/
def scanFeedOk (b : List Byte) (s : State) : Bool :=
  let fold := byteAt b 2 / 4 % 4
  match byteAt b 0 with
  | 1 =>
    let rows := leAt b 6 2
    let len := leAt b 0x2C 4
    let stride := leAt b 0x38 4
    decide (1 ≤ rows) && decide (4 ≤ len ∧ len ≤ 0x01000000 ∧ len % 4 = 0) && decide (leAt b 0x30 8 % 4 = 0)
      && decide (stride % 4 = 0) && decide (rows = 1 ∨ len ≤ stride)
  | 2 | 3 =>
    let (x, y, w, h) := scanRect b
    fold ≠ 1 && !scanDevice b && zeroAt b 6 2 && zeroAt b 0x2C 4 && zeroAt b 0x38 4 && decide (1 ≤ w ∧ 1 ≤ h)
      && (match s.head[scanHead b].cfg with
        | some c => decide (x + w ≤ c.hactive ∧ y + h ≤ c.vactive)
        | none => true)
  | 4 =>
    fold ≠ 1 && !scanDevice b && zeroAt b 6 2 && zeroAt b 0x2C 4 && zeroAt b 0x38 4 && decide (byteAt b 0x30 < 8)
      && zeroAt b 0x31 7
  | _ => false

/-- The checks of R461 on a descriptor. -/
def scanChecks (w : WinId) (c : CtxId) (a : Cmd) (b : List Byte) (s : State) : Option Verdict :=
  let u := scanUnit a
  let feed := byteAt b 0
  let ext := (leAt b 6 2 - 1) * leAt b 0x38 4 + leAt b 0x2C 4
  let start := leAt b 0x30 8
  firstFail [
    (!supervisor c && (feed ≠ 1 || scanDevice b), .denied),
    (!scanCommonOk b || !scanFeedOk b s, .badArg),
    (feed = 1 && !(if scanDevice b then deviceReadable start ext else inPart s c start ext), .outOfPartition),
    ((feed = 2 || feed = 3) && !started s (scanHead b), .noResource),
    (feed = 4 && !s.relay.ingest[scanStream b].enabled, .noResource),
    (!cmdMem s w, .noResource),
    (u = 3 && cal3Reserved s, .locked),
    (u = 0 && !s.boot.doneFlag, .busy),
    ((s.cal[u].op.any fun r => !r.op.isSelftest), .busy)]

/-- R135 on SCAN's arguments. -/
def scanArgs (w : WinId) (c : CtxId) (a : Cmd) (s : State) : Option Verdict :=
  firstFail [
    (!argBits a 0x3 wholeWord 0 0 || decide (a.a1.toNat % 2 = 1), .badArg),
    (!inPart s c (woff a.a1) 64, .outOfPartition),
    (!cmdMem s w, .noResource)]

/-- SCAN's checks (R135 on the arguments, then R461). -/
def checkScan (w : WinId) (c : CtxId) (a : Cmd) (s : State) : Option Verdict :=
  let off := woff a.a1
  orElse [
    scanArgs w c a s,
    badBlock s c off 64,
    scanChecks w c a (readPart s c off 64) s]

/-- The address base of a memory scan: the caller's partition, or device space. -/
def CalOp.of (s : State) (c : CtxId) (b : List Byte) : CalOp :=
  match byteAt b 0 with
  | 1 => .memory (if scanDevice b then deviceBase s else partBase s c) (leAt b 0x30 8) (leAt b 6 2) (leAt b 0x2C 4)
      (leAt b 0x38 4)
  | 4 => .ingest (scanStream b)
  | _ => let (x, y, w, h) := scanRect b; .tap (scanHead b) x y w h false

/-- The next request of a memory scan: the rest of the row, cut at the next 256-byte block (R462, R217). One request
is outstanding at a time (log 32). -/
def askScan (u : CalId) (s : State) : State :=
  match s.cal[u].op with
  | some r => match r.op with
    | .memory base start rows len stride =>
      if rows ≤ r.row then s
      else
        let a := base + start + r.row * stride + r.rowPos
        let k := Nat.min (len - r.rowPos) (256 - a % 256)
        let s := s.modCal u fun x => { x with op := some { r with asked := k } }
        enqueue 131 (mkRequest s (.scan u s.cal[u].epoch) r.ctx a k) s
    | _ => s
  | none => s

/-- SCAN's action: the operation starts on the unit. -/
def actScan (w : WinId) (c : CtxId) (a : Cmd) (s : State) : State :=
  let u := scanUnit a
  let b := readPart s c (woff a.a1) 64
  let s := setPhase w (.caliper u) (startCal u (CalOp.of s c b) (some w) c (scanCrc b) s)
  askScan u s

/-- The descriptor is read through queue_131 (R461). -/
def readsScan (w : WinId) (c : CtxId) (a : Cmd) (s : State) : List (QueueId × Nat × Nat) :=
  if (scanArgs w c a s).isSome then [] else [(131, partBase s c + woff a.a1, 64)]

def opScan : Opcode where
  check := checkScan
  needs := fun _ a _ => [.cal (scanUnit a)]
  act := actScan
  reads := readsScan

/-- SCAN (0x30). -/
def execScan (w : WinId) (c : Cmd) (s : State) : Host.Outcome State Fault Refusal := .next (portRow w 0x30 c opScan.run s)

/-- Read data of a memory scan returns: it is fed in address order and the next request is made (R462); an
uncorrectable error ends the scan (R463). -/
def scanReturn (u : CalId) (epoch : Nat) (data : List Byte) (bad : Bool) (s : State) : State :=
  match s.cal[u].op with
  | some r => match r.op with
    | .memory _ start rows len stride =>
      if epoch ≠ s.cal[u].epoch || r.asked = 0 then s
      else if bad then s.modCal u fun x => { x with op := some { r with failed := true, asked := 0 } }
      else
        let r' := r.feed (start + r.row * stride + r.rowPos) (data.take r.asked)
        let r' := if len ≤ r'.rowPos then r'.endRow else r'
        let s := s.modCal u fun x => { x with op := some { r' with asked := 0 } }
        if r'.row < rows then askScan u s else s
    | _ => s
  | none => s

/-- A tap scan begins at a frame boundary of its head (R464). -/
def tapBegin (h : ContHead) (s : State) : State :=
  forEach cals (fun u s => s.modCal u fun x => { x with
    op := x.op.map fun r => match r.op with
      | .tap k x y w g false => if k = h then { r with op := .tap k x y w g true } else r
      | _ => r }) s

/-- A scanned line of tap values reaches the tap scans of the head (R464). -/
def tapFeed (h : ContHead) (y : Nat) (line : List (List Byte)) (s : State) : State :=
  forEach cals (fun u s => s.modCal u fun x => { x with
    op := x.op.map fun r => match r.op with
      | .tap k x0 y0 w g true =>
        if k = h ∧ y0 ≤ y ∧ y < y0 + g then
          let r := ((line.drop x0).take w).foldl (fun r rec => r.feed 0 rec) r
          { r with row := r.row + 1 }
        else r
      | _ => r }) s

/-- A tap scan whose frame is cut short completes INCOMPLETE (R465). -/
def tapCut (h : ContHead) (s : State) : State :=
  forEach cals (fun u s => match s.cal[u].op with
    | some { op := .tap k _ _ _ _ _, .. } => if k = h then endCal u .incomplete s else s
    | _ => s) s

/-- A complete ingest frame is read through queue_133 and fed row by row to the scans that wait for one of its stream
(R466). -/
def ingestFeed (g : IngestId) (base stride w hgt : Nat) (s : State) : State :=
  forEach cals (fun u s => match s.cal[u].op with
    | some r => match r.op with
      | .ingest k =>
        if k = g && decide (r.row = 0) then
          let bad := badRange s base (stride * hgt)
          let s := forEach (List.range hgt) (fun row s => access 133 false 0 (base + row * stride) (4 * w) s) s
          let r := (List.range hgt).foldl (fun r row =>
            ((List.range w).foldl (fun r i =>
              r.feed 0 (s.read (base + row * stride + 4 * i) 3 ++ [0])) r).endRow) r
          logUeIn base (stride * hgt) (s.modCal u fun x => { x with op := some { r with failed := bad } })
        else s
      | _ => s
    | none => s) s

/-- The scans of a stream that is disabled or goes stale end INCOMPLETE, but for one whose frame is fed (R466). -/
def ingestCut (g : IngestId) (s : State) : State :=
  forEach cals (fun u s => match s.cal[u].op with
    | some { op := .ingest k, row := 0, .. } => if k = g then endCal u .incomplete s else s
    | _ => s) s

/-- The last byte of the operation has been fed. -/
def CalRun.fed (r : CalRun) : Bool :=
  match r.op with
  | .memory _ _ rows _ _ => decide (rows ≤ r.row)
  | .tap _ _ _ _ g begun => begun && decide (g ≤ r.row)
  | .ingest _ => decide (0 < r.row)
  | .canvas | .bootImage => true
  | .selftest .. => false

/-! ## SELFTEST -/

/-- TARGET names a unit's datapath or an SRAM block (Table 21-3). -/
def selftestTarget (a : Cmd) : Nat := fld a.a0 0 8

/-- The lowest unit that is free and not reserved. -/
def freeCal (s : State) : Option CalId := cals.find? fun u => !resHeld s (.cal u) && !(u = 3 && cal3Reserved s) && !resWanted s (.cal u)

/-- The unit a window's command holds. -/
def heldCal (s : State) (w : WinId) : Option CalId :=
  cals.find? fun u => s.port.held.any fun p => p.1 = .cal u && p.2 = .window w

/-- The domains that hold a target are on (R147, Table 25-1): line stores of both heads, the bistable caches. -/
def selftestPower (s : State) (t : Nat) : Bool :=
  if t = 0x12 then pdOn .headA s && pdOn .headB s else if t = 0x13 then pdOn .epd s else true

def checkSelftest (_ : WinId) (c : CtxId) (a : Cmd) (s : State) : Option Verdict :=
  let t := selftestTarget a
  firstFail [
    (!supervisor c, .denied),
    (!argBits a 0xFF 0 0 0 || !(decide (t < 4) || decide (0x10 ≤ t ∧ t ≤ 0x15)), .badArg),
    (t = 3 && cal3Reserved s, .locked),
    (!selftestPower s t, .noResource)]

/-- The test starts on the unit the command holds. -/
def startSelftest (w : WinId) (t : Nat) (s : State) : State :=
  match heldCal s w with
  | none => s
  | some u => setPhase w (.caliper u) (startCal u (.selftest t 0 0) (some w) 0 CrcCfg.crc32c s)

/-- SELFTEST's action. Without a free unit it waits for the first that becomes free (R467, R144). -/
def actSelftest (w : WinId) (_ : CtxId) (a : Cmd) (s : State) : State :=
  let t := selftestTarget a
  if t < 4 then startSelftest w t s
  else match heldCal s w, freeCal s with
    | some _, _ => startSelftest w t s
    | none, some u => startSelftest w t (take (.window w) (.cal u) s)
    | none, none => setPhase w .anyCal s

def opSelftest : Opcode where
  check := checkSelftest
  needs := fun _ a _ => if h : selftestTarget a < 4 then [.cal ⟨selftestTarget a, h⟩] else []
  act := actSelftest

/-- SELFTEST (0x31). -/
def execSelftest (w : WinId) (c : Cmd) (s : State) : Host.Outcome State Fault Refusal :=
  .next (portRow w 0x31 c opSelftest.run s)

/-- The chunks of a target (Table 21-3, R301, R286); where the spec gives no size the count is open (log 33). -/
def selftestChunks (t : Nat) : Nat :=
  if t < 4 then 8
  else if t = 0x10 then 2 * 1024 * 1024 / 256
  else if t = 0x11 then 4 * 1024 * 1024 / 256
  else 1 + Config.selftestChunks t % 8192

/-- The failures after a chunk: the vector's bit for a datapath, a saturating count of words for an SRAM. -/
def addFailures (t chunk : Nat) (f new : Word) : Word :=
  if t < 4 then (if new = 0 then f else f ||| put 1 chunk 1)
  else BitVec.ofNat 32 (Nat.min 0xFFFF (f.toNat + new.toNat))

/-- The end of a self-test (R469): a fault found is logged. -/
def endSelftest (u : CalId) (t : Nat) (f : Word) (s : State) : State :=
  let s := endCal u .ok s
  if f = 0 then s else logFault 0x35 t f s

/-- A command waits for the unit, so the self-test on it yields (R468). -/
def calWanted (s : State) (u : CalId) : Bool :=
  wins.any fun w => match s.win[w].exec with
    | some { phase := .acquire (.cal v :: _), .. } => v = u
    | some { phase := .anyCal, entry := e, .. } => e.op ≠ 0x31 && !(u = 3 && cal3Reserved s)
    | _ => false

/-- The self-test gives its unit up (R468) and goes on when the unit is free again. -/
def yieldSelftest (u : CalId) (r : CalRun) (s : State) : State :=
  let s := s.modCal u fun x => { x with op := none, yielded := some r, yields := x.yields + 1 }
  { s with port := { s.port with held := s.port.held.filter fun p => ¬ (p.1 = .cal u ∧ some p.2 = r.byWindow.map .window) } }

/-- SELFTEST_CHUNK: a chunk ends (R468, R469). -/
def execSelftestChunk (u : CalId) (k : ChunkResult) (s : State) : Host.Outcome State Fault Refusal :=
  let late (r : CalRun) : Bool := decide (r.since + 10000 ≤ s.drone.time.toNat)
  match s.cal[u].op, s.cal[u].yielded with
  | some r, _ => match r.op with
    | .selftest t n f =>
      let f := addFailures t n f k.failures
      let r := { r with op := .selftest t (n + 1) f }
      let put := s.modCal u fun x => { x with op := some r }
      if selftestChunks t ≤ n + 1 then .next (endSelftest u t f put)
      else if late r then .next (endCal u .incomplete put)
      else if calWanted s u then
        let s := yieldSelftest u r put
        .next (if 64 < s.cal[u].yields then endYielded u .incomplete s else s)
      else if k.foreground then
        let s := put.modCal u fun x => { x with yields := x.yields + 1 }
        .next (if 64 < s.cal[u].yields then endCal u .incomplete s else s)
      else .next put
    | _ => .next s
  | none, some r =>
    if late r then .next (endYielded u .incomplete s)
    else if resHeld s (.cal u) || resWanted s (.cal u) || (u = 3 && cal3Reserved s) then .next s
    else match r.byWindow with
      | none => .next s
      | some w => .next (take (.window w) (.cal u) (s.modCal u fun x => { x with op := some r, yielded := none }))
  | none, none => .next s

end Sys2Proof.Machine
end

