-- ==== Sys2Proof/Machine/Synth.lean ====
section
/-! DEFINITION. The pixel clock synthesizers (chapter 17): CLOCK_CONFIG, PHASE_STEP, the modulator of R368, starts,
stops and gates of an output. -/
namespace Sys2Proof.Machine

/-- The head a synthesizer feeds; SYN_E feeds the bistable engine. -/
def synHead (y : SynId) : Option ContHead := contHead y

/-- The synthesizer of a head. -/
def headSyn (h : ContHead) : SynId := headId h

/-- The synthesizer feeds a head whose protected layer is locked (R44, R377). -/
def synLocked (s : State) (y : SynId) : Bool := (synHead y).any (protLocked s)

/-! ## The period modulator (R368) -/

/-- One step of the 16-bit LFSR. -/
def lfsrStep (v : HalfWord) : HalfWord := if v.getLsbD 0 then (v >>> 1) ^^^ 0xB400 else v >>> 1

/-- The seed that CLOCK_CONFIG loads. -/
def seedOf (c : SynCfg) : HalfWord := if c.seed = 0 then 0xACE1 else c.seed

/-- The modulator as CLOCK_CONFIG sets it. -/
def Syn.load (x : Syn) (c : SynCfg) : Syn :=
  { x with cfg := some c, e1 := 0, e2 := 0, rPrev := 0, lfsr := seedOf c, x := c.period.toNat }

/-- One output period: its length in taps without a phase step, and the modulator after it. -/
def Syn.period (x : Syn) (ditherOff : Bool) : Int × Syn :=
  let l := lfsrStep x.lfsr
  let r := l.toInt
  let d : Int := if ditherOff then 0 else r - x.rPrev
  let v := x.x + d - 2 * x.e1 + x.e2
  let n := v.fdiv 65536
  let y := if ditherOff then x else { x with lfsr := l, rPrev := r }
  (n, { y with e2 := x.e1, e1 := n * 65536 - v })

/-- The period that begins at a rising edge with a phase step (R368, R375, log 129): its high phase, its low phase and the
modulator after it. `since`: the periods since the last step taken; an earlier step waits (R379). -/
def Syn.edge (x : Syn) (ditherOff : Bool) (step : Int) (since : Nat) : (Int × Int) × Syn :=
  let p := x.period ditherOff
  let n := if 16 ≤ since then p.1 + step else p.1
  ((n.fdiv 2, n - n.fdiv 2), p.2)

/-! ## Checks and actions -/

def argSyn (a : Cmd) : Option SynId := if h : fld a.a0 0 2 < 3 then some ⟨fld a.a0 0 2, h⟩ else none

/-- The configuration a CLOCK_CONFIG names. -/
def argSynCfg (a : Cmd) : SynCfg where
  period := a.a1
  w := fld a.a2 0 3
  log2n := fld a.a2 3 4
  ditherOff := a.a2.getLsbD 16
  autoResume := a.a2.getLsbD 17
  seed := a.a3.extractLsb' 0 16

/-- The head that the synthesizer's output is connected to is started (R139). -/
def synBusy (s : State) (y : SynId) : Bool :=
  match synHead y with
  | some h => s.syn[y].connected && s.head[h].run ≠ .stopped
  | none => s.epd.run.isSome

/-- The exception of R371: the values in force named again for an output that is gated after a loss, or off after a
TIMEOUT. -/
def isRepeat (x : Syn) (c : SynCfg) : Bool :=
  (x.out = .gated || (x.out = .off && x.timedOut)) && x.cfg.map (fun k => { k with autoResume := c.autoResume }) = some c

def checkClockConfig (_ : WinId) (c : CtxId) (a : Cmd) (s : State) : Option Verdict :=
  let k := argSynCfg a
  orElse [
    firstFail [
      (!supervisor c, .denied),
      (!argBits a 0x3 wholeWord 0x3007F 0xFFFF || (argSyn a).isNone || decide (k.period.toNat < 0x006AAAAB ∨ 0x3E800000 < k.period.toNat)
        || k.w = 0 || decide (k.log2n < 4 ∨ 12 < k.log2n), .badArg)],
    match argSyn a with
    | none => fail .badArg
    | some y =>
      let x := s.syn[y]
      if isRepeat x k then
        firstFail [(synLocked s y && x.cfg.any (fun j => j.autoResume ≠ k.autoResume), .locked)]
      else firstFail [(synLocked s y, .locked), (synBusy s y, .busy)]]

/-- A configuration is loaded (R372): the output stops and the Bore starts toward lock. `starts`: the output starts at
lock though no command waits for it. -/
def loadSyn (y : SynId) (c : SynCfg) (starts : Bool) (s : State) : State :=
  s.modSyn y fun x => { x.load c with bore := .locking, out := .off, net := 0, steps := 0, timedOut := false, wasRunning := starts }

def actClockConfig (w : WinId) (_ : CtxId) (a : Cmd) (s : State) : State :=
  match argSyn a with
  | none => s
  | some y => setPhase w (.clockLock y) (loadSyn y (argSynCfg a) false s)

def opClockConfig : Opcode where
  check := checkClockConfig
  needs := fun _ a _ => ((argSyn a).map Resource.syn).toList
  act := actClockConfig

/-- CLOCK_CONFIG (0x68). -/
def execClockConfig (w : WinId) (c : Cmd) (s : State) : Host.Outcome State Fault Refusal :=
  .next (portRow w 0x68 c opClockConfig.run s)

/-- STEPS of PHASE_STEP. -/
def argSteps (a : Cmd) : Int := signed 16 (fld a.a1 0 16)

/-- The synthesizer feeds a started head with GENLOCK set (R341). -/
def genlockedHead (s : State) (y : SynId) : Bool :=
  match synHead y with
  | none => false
  | some h => s.head[h].run ≠ .stopped && s.head[h].cfg.any fun c => c.genlock ≠ .none

def checkPhaseStep (_ : WinId) (c : CtxId) (a : Cmd) (s : State) : Option Verdict :=
  orElse [
    firstFail [
      (!supervisor c, .denied),
      (!argBits a 0x3 0xFFFF 0 0 || (argSyn a).isNone || argSteps a = 0, .badArg)],
    match argSyn a with
    | none => fail .badArg
    | some y => firstFail [
        (synLocked s y, .locked),
        (s.syn[y].cfg.isNone, .noResource),
        (s.syn[y].out ≠ .running || genlockedHead s y, .busy)]]

def actPhaseStep (w : WinId) (_ : CtxId) (a : Cmd) (s : State) : State :=
  match argSyn a with
  | none => s
  | some y => setPhase w (.phaseSteps y) (s.modSyn y fun x => { x with steps := argSteps a, taken := 0 })

def opPhaseStep : Opcode where
  check := checkPhaseStep
  needs := fun _ a _ => ((argSyn a).map Resource.syn).toList
  act := actPhaseStep

/-- PHASE_STEP (0x69). -/
def execPhaseStep (w : WinId) (c : Cmd) (s : State) : Host.Outcome State Fault Refusal :=
  .next (portRow w 0x69 c opPhaseStep.run s)

/-- The window whose command is in a phase that a test names. -/
def windowIn (s : State) (p : Phase → Bool) : Option WinId :=
  wins.find? fun w => match s.win[w].exec with
    | some e => p e.phase
    | none => false

/-- LAST_PHASE_STEP_TAKEN (R380, R381): every step is taken and counted in the net count. -/
def execLastPhaseStepTaken (y : SynId) (s : State) : Host.Outcome State Fault Refusal :=
  match windowIn s (fun p => p = .phaseSteps y) with
  | none => .next s
  | some w =>
    let n := s.syn[y].steps
    let s := s.modSyn y fun x => { x with steps := 0, taken := 0, net := x.net + BitVec.ofInt 16 n }
    .next (finish w .ok (BitVec.ofNat 32 n.natAbs) 0 s)

/-- The output gates during a PHASE_STEP: INCOMPLETE, with the steps taken before the gate (R380, log 34). -/
def cutPhaseStep (y : SynId) (s : State) : State :=
  match windowIn s (fun p => p = .phaseSteps y) with
  | none => s
  | some w =>
    let n := s.syn[y].steps
    let k := Config.stepsTaken s.free % (if n = 0 then 1 else n.natAbs)
    let s := (bumpFree s).modSyn y fun x => { x with
      steps := 0, taken := 0, net := x.net + (if 0 ≤ n then BitVec.ofNat 16 k else 0#16 - BitVec.ofNat 16 k) }
    finish w .incomplete (BitVec.ofNat 32 k) 0 s

/-- The clock-lost and clock-relocked sources of a synthesizer (Table 17-1). -/
def synSource (y : SynId) (relocked : Bool) : Nat := 140 + 16 * y.1 + if relocked then 1 else 0

/-- An output starts (R375); a restart under R376 resets the modulator and raises its source. -/
def startOutput (y : SynId) (byRelock : Bool) (s : State) : State :=
  let s := s.modSyn y fun x => { (match x.cfg with | some c => x.load c | none => x) with
    out := .running, timedOut := false, wasRunning := false }
  if byRelock then raise (synSource y true) s else s

end Sys2Proof.Machine
end

