-- ==== Sys2Proof/Machine/Epd.lean ====
section
/-! DEFINITION. The bistable engine (chapter 18): the head E configuration block, the canvas, the waveform table, the
rails, EPD_UPDATE and EPD_CLEAR, the ledger; and CALIPER_OPERATION_END, which its canvas scan continues from. -/
namespace Sys2Proof.Machine

/-! ## Regions (R384, R385) -/

def canvasBase (s : State) : Nat := deviceBase s + 0x0B000000
def imageBase (s : State) : Nat := deviceBase s + 0x0B400000
def ledgerBase (s : State) : Nat := deviceBase s + 0x0B800000
def waveBase (s : State) : Nat := deviceBase s + 0x0BC00000

/-- ESTRIDE. -/
def EpdCfg.stride (c : EpdCfg) : Nat := roundUp c.width 32

/-- The offset of a pixel in each region. -/
def EpdCfg.at_ (c : EpdCfg) (x y : Nat) : Nat := y * c.stride + x

/-- The bytes of a region of the panel's size. -/
def EpdCfg.bytes (c : EpdCfg) : Nat := c.height * c.stride

def EpdCfg.blocks (c : EpdCfg) : Nat := ceilDiv c.height 16

/-- The rows of a ledger block: those of its 16 that exist. -/
def EpdCfg.blockRows (c : EpdCfg) (k : Nat) : Nat := Nat.min 16 (c.height - 16 * k)

def canvasLevel (s : State) (c : EpdCfg) (x y : Nat) : Nat := (readCell s.mem (canvasBase s + c.at_ x y)).toNat % 16
def panelLevel (s : State) (c : EpdCfg) (x y : Nat) : Nat := (readCell s.mem (imageBase s + c.at_ x y)).toNat % 16
def panelUnsure (s : State) (c : EpdCfg) (x y : Nat) : Bool := (readCell s.mem (imageBase s + c.at_ x y)).getLsbD 4
def ledgerAt (s : State) (c : EpdCfg) (x y : Nat) : Int := (readCell s.mem (ledgerBase s + c.at_ x y)).toInt

/-- A panel image byte. -/
def imageByte (level : Nat) (unsure : Bool) : Byte := BitVec.ofNat 8 (level % 16 + if unsure then 16 else 0)

/-- The engine's accesses to its regions go through queue_130 (R17). -/
def epdAccess (write : Bool) (a n : Nat) (s : State) : State := access 130 write 0 a n s

/-- Rows written to a region, each padded to ESTRIDE with zeros. -/
def writeRows (base : Nat) (c : EpdCfg) (f : Nat → Nat → Byte) (s : State) : State :=
  forEach (List.range c.height) (fun y s =>
    s.write (base + y * c.stride) ((List.range c.width).map (fun x => f x y) ++ List.replicate (c.stride - c.width) 0)) s

/-- The check value of a ledger block as its bytes stand. -/
def blockCrc (s : State) (c : EpdCfg) (k : Nat) : Nat :=
  crc32c (s.read (ledgerBase s + 16 * k * c.stride) (c.blockRows k * c.stride))

def crcAddr (s : State) (k : Nat) : Nat := ledgerBase s + 0x3E8000 + 4 * k

def writeCrc (c : EpdCfg) (k : Nat) (s : State) : State := s.write (crcAddr s k) (toLe 4 (blockCrc s c k))

def writeCrcs (c : EpdCfg) (s : State) : State :=
  epdAccess true (crcAddr s 0) (4 * c.blocks) (forEach (List.range c.blocks) (writeCrc c) s)

/-- The panel image and the ledger as a whole are written. -/
def accessPanel (c : EpdCfg) (s : State) : State :=
  epdAccess true (ledgerBase s) c.bytes (epdAccess true (imageBase s) c.bytes s)

/-- R386: every pixel at LEVEL 0 and UNSURE, an empty ledger. -/
def initPanel (c : EpdCfg) (s : State) : State :=
  writeCrcs c (accessPanel c (writeRows (ledgerBase s) c (fun _ _ => 0) (writeRows (imageBase s) c (fun _ _ => imageByte 0 true) s)))

/-! ## The waveform table (18.4), read by a function of its offset -/

def wf16 (t : Nat → Nat) (o : Nat) : Nat := t o + 256 * t (o + 1)
def wf32 (t : Nat → Nat) (o : Nat) : Nat := wf16 t o + 65536 * wf16 t (o + 2)

def wfPhaseUs (t : Nat → Nat) (m : Nat) : Nat := wf32 t (4 + 4 * m)
def wfThresh (t : Nat → Nat) (i : Nat) : Int := signed 16 (wf16 t (0x20 + 2 * i))
def wfPhases (t : Nat → Nat) (m b : Nat) : Nat := t (0x40 + 16 * m + b)

/-- The code of a phase of an entry (R392). -/
def wfCode (t : Nat → Nat) (m b f dst p : Nat) : Nat :=
  t (0x100 + (((m * 16 + b) * 16 + f) * 16 + dst) * 64 + p / 4) / 4 ^ (p % 4) % 4

/-- The ledger weight of a code (Table 18-2). -/
def codeWeight (code : Nat) : Int := if code = 1 then 1 else if code = 2 then -1 else 0

/-- A used entry is valid: no code 3, nothing after its phases, balanced, partial sums within ±127 (R393). -/
def entryOk (t : Nat → Nat) (m b f dst : Nat) : Bool :=
  let n := wfPhases t m b
  let codes := (List.range n).map (wfCode t m b f dst)
  let sums := codes.scanl (fun a c => a + codeWeight c) (0 : Int)
  codes.all (fun c => c ≠ 3) && sums.all (fun v => decide (-127 ≤ v ∧ v ≤ 127)) && sums.getLastD 0 = 0
    && (List.range (256 - n)).all fun i => wfCode t m b f dst (n + i) = 0

/-- The mode is present. -/
def modePresent (t : Nat → Nat) (m : Nat) : Bool := wfPhaseUs t m ≠ 0

/-- The table is valid (R393). -/
def tableOk (t : Nat → Nat) : Bool :=
  let zeros (lo n : Nat) : Bool := (List.range n).all fun i => t (lo + i) = 0
  t 0 = 1 && zeros 1 3 && zeros 0x14 12 && zeros 0x3E 2 && zeros 0x80 128
    && (List.range 14).all (fun i => decide (wfThresh t i ≤ wfThresh t (i + 1)))
    && (List.range 4).all (fun m =>
      if modePresent t m then
        decide (11765 ≤ wfPhaseUs t m ∧ wfPhaseUs t m ≤ 1000000) && (List.range 16).all fun b => wfPhases t m b ≠ 0
      else (List.range 16).all fun b => wfPhases t m b = 0)
    && modePresent t 3
    && (List.range 4).all (fun m => !modePresent t m || (List.range 16).all fun b => (List.range 16).all fun f =>
      if m = 3 then entryOk t 3 b f 15 else (List.range 16).all fun dst => entryOk t m b f dst)

/-- The band of a temperature sample (R394). -/
def wfBand (t : Nat → Nat) (v : Int) : Nat := ((List.range 15).filter fun i => decide (wfThresh t i ≤ v)).length

/-- The table in the region. -/
def waveTable (s : State) (o : Nat) : Nat := (readCell s.mem (waveBase s + o)).toNat

/-! ## HEAD_CONFIG of head E (18.2) -/

def parseRail (b : List Byte) (o : Nat) : RailCfg :=
  { gapUp := byteAt b o, pgTo := byteAt b (o + 1), gapDown := byteAt b (o + 2), disch := byteAt b (o + 3) }

/-- The block of Table 18-1, none where a field is out of range or a reserved field is nonzero (R388). -/
def parseEpd (b : List Byte) : Option EpdCfg :=
  let w := leAt b 0 2
  let h := leAt b 2 2
  let le_ := byteAt b 6
  let flags := byteAt b 8
  let bg := leAt b 0x10 8
  let rail (i : Nat) : RailCfg := parseRail b (0x18 + 4 * i)
  guardSome (decide (64 ≤ w ∧ w ≤ 2560 ∧ 64 ≤ h ∧ h ≤ 1600) && decide (ceilDiv w 8 + le_ + 20 ≤ leAt b 4 2)
      && decide (1 ≤ le_ ∧ le_ ≤ 15) && decide (flags < 8) && zeroAt b 9 1 && decide (30 ≤ leAt b 0x0A 2 ∧ leAt b 0x0A 2 ≤ 300)
      && (decide (flags / 4 % 2 = 1) || zeroAt b 0x0C 4) && decide (bg < 2 ^ 36)
      && (List.range 5).all (fun i => (rail i).pgTo ≠ 0 && (rail i).disch ≠ 0) && zeroAt b 0x2C 20)
    { width := w, height := h, rowClks := leAt b 4 2, leW := le_, fbRows := byteAt b 7
      split := flags % 2 = 1, tempTherm := flags / 2 % 2 = 1, vcom := leAt b 0x0A 2
      background := { b := bg % 4096, g := bg / 4096 % 4096, r := bg / 2 ^ 24 % 4096 }
      rails := Vector.ofFn fun i => rail i.1 }

def epdLoads (b : List Byte) : Bool := byteAt b 8 / 4 % 2 = 1
def epdWaveOff (b : List Byte) : Nat := 4 * leAt b 0x0C 4
def waveBytes : Nat := 0x100100

/-- The table that will be in force: the one the block names, or the one in the region. -/
def epdTable (s : State) (b : List Byte) : Nat → Nat :=
  if epdLoads b then fun o => (readCell s.mem (partBase s 0 + epdWaveOff b + o)).toNat else waveTable s

/-- The scan time of a phase lies within a phase period in µs, at a SYN_E period in 1/65536 tap of 15.625 ps. -/
def scanFits (c : EpdCfg) (period us : Nat) : Bool :=
  decide ((c.height + c.fbRows) * c.rowClks * period ≤ us * 64000 * 65536)

/-- The outcomes of R388 in their order, for a block that has been read. -/
def checkHeadE (s : State) (b : List Byte) : Option Verdict :=
  match s.syn[2].cfg with
  | none => fail .noResource
  | some y =>
    orElse [
      firstFail [(s.epd.run.isSome, .busy)],
      match parseEpd b with
      | none => fail .badArg
      | some c =>
        orElse [
          firstFail [
            (decide (y.period.toNat < 1280 * 65536), .badArg),
            (epdLoads b && !inPart s 0 (epdWaveOff b) waveBytes, .outOfPartition)],
          if epdLoads b then badBlock s 0 (epdWaveOff b) waveBytes else none,
          firstFail [
            (!tableOk (epdTable s b), .badArg),
            ((List.range 4).any fun m => modePresent (epdTable s b) m && !scanFits c y.period.toNat (wfPhaseUs (epdTable s b) m),
              .badArg)]]]

/-- What HEAD_CONFIG of head E reads of tables, through queue_130 (R388). -/
def readsHeadE (s : State) (b : List Byte) : List (QueueId × Nat × Nat) :=
  if !epdLoads b then [(130, waveBase s, waveBytes)]
  else if inPart s 0 (epdWaveOff b) waveBytes then [(130, partBase s 0 + epdWaveOff b, waveBytes)]
  else []

/-- A PCLK frequency in kHz, to the nearest, from a period. -/
def kHz (period : Nat) : Nat := (2 * 64000000 * 65536 + period) / (2 * period)

/-- The frequency of a synthesizer in kHz, 0 while it is unconfigured. -/
def synKHz (s : State) (y : SynId) : Nat := (s.syn[y].cfg.map fun c => kHz c.period.toNat).getD 0

/-- A head E configuration that passed its checks: the block on chip, the table, R386, the composition (R388). -/
def takeHeadE (b : List Byte) (s : State) : State :=
  match parseEpd b with
  | some c =>
    let old := s.epd.cfg
    let table := s.read (partBase s 0 + epdWaveOff b) waveBytes
    let s := if epdLoads b then epdAccess true (waveBase s) waveBytes (s.write (waveBase s) table) else s
    let resized := !old.any fun o => o.width = c.width && o.height = c.height
    let s := if resized then initPanel c s else s
    let s := { s with epd := { s.epd with cfg := some c } }
    if resized || !old.any (fun o => o.background = c.background) then composeCanvas s else s
  | none => s

/-! ## The canvas (18.3) -/

/-- What the visibility of a layer on head E depends on: a territory of head E is in force for composition from the next
canvas composition on (R186; head E has no frame boundary: DESIGN CHOICE, log 122). -/
def epdScene (s : State) (c : EpdCfg) (l : Layer) : Scene :=
  { hactive := c.width, vactive := c.height, vtotal := c.height, terr := s.ctx[l.ctx].terr[2] }

/-- The layers of head E that compose: those of attached contexts (Table 08-2, step 2). -/
def epdLayers (s : State) : List Layer := slots.filterMap fun z => match s.slot[2][z] with
  | some l => guardSome (attached s l.ctx) l
  | none => none

/-- The bytes of a layer's pixel, and its palette's, as physical address and length. -/
def pixelRanges (s : State) (l : Layer) (u v : Nat) : List (Nat × Nat) :=
  let (sx, sy) := l.desc.source u v
  (l.desc.bytesAt sx sy).map (fun (p, o, n) => (layerBase s l p + o, n))
    ++ (if l.desc.format = .i8 then [(layerBase s l 1, 1024)] else [])

/-- The bytes may be read for a layer: those of a context's layer lie in its partition (R178), those of the boot image in
device space (R557). -/
def layerMay (s : State) (l : Layer) (r : Nat × Nat) : Bool :=
  l.desc.boot || decide (r.1 + r.2 ≤ partBase s l.ctx + partBytes s l.ctx)

/-- The composed colour of a canvas pixel (11.6, 11.7), from BACKGROUND as D. Bytes outside the partition are
transparent (R178). -/
def canvasPx (s : State) (c : EpdCfg) (ls : List Layer) (x y : Nat) : Px :=
  ls.foldl (fun d l =>
    match l.desc.displayed (epdScene s c l) x y, memberPx s (epdScene s c l) l x y with
    | some (u, v), some (p, a) =>
      if (pixelRanges s l u v).all (layerMay s l) then
        blend l.desc.premult l.desc.constAlpha a p d
      else d
    | _, _ => d) c.background

/-- The level of a composed colour (R389). -/
def levelOf (p : Px) : Nat :=
  let y := (1225 * p.r + 2404 * p.g + 467 * p.b + 2048) / 4096
  (15 * y + 2048) / 4096

/-- The first word with an uncorrectable error that a canvas pixel would be composed from. -/
def canvasBad (s : State) (c : EpdCfg) (ls : List Layer) (x y : Nat) : Option Nat :=
  ls.findSome? fun l => (l.desc.displayed (epdScene s c l) x y).bind fun (u, v) =>
    (pixelRanges s l u v).findSome? fun r => firstBad s r.1 r.2

/-- A canvas pixel as it is written; from erroneous data its level is open. -/
def canvasByte (s : State) (c : EpdCfg) (ls : List Layer) (x y : Nat) : Byte :=
  if !s.memc.badWords.isEmpty && (canvasBad s c ls x y).isSome then
    BitVec.ofNat 8 (Config.canvasLevel s.free (c.at_ x y) % 16)
  else BitVec.ofNat 8 (levelOf (canvasPx s c ls x y))

/-- The canvas check value over rows of WIDTH bytes (R389). -/
def canvasCheck (s : State) (c : EpdCfg) : Nat :=
  crcFin ((List.range c.height).foldl (fun r y => crcC r (s.read (canvasBase s + y * c.stride) c.width)) crcInit)

/-- The reads of a canvas composition: the bursts of each layer as a line time would fetch them, and the palettes
(R250, R251). -/
def accessLayers (c : EpdCfg) (s : State) : State :=
  forEach (epdLayers s) (fun l s =>
    let g := epdScene s c l
    let pal := if l.desc.format = .i8 && !(l.desc.visibleLines g).isEmpty then [(layerBase s l 1, 1024)] else []
    let parts := (joinBursts (layerBase s l) (l.desc.frameFetch g)).map fun x => (x.1, x.2.1)
    forEach ((parts ++ pal).filter (layerMay s l)) (fun r s => access 130 false l.ctx r.1 r.2 s) s) s

/-- CP_E finishes the canvas. -/
def writeCanvas (c : EpdCfg) (s : State) : State :=
  let ls := epdLayers s
  let bad := if s.memc.badWords.isEmpty then none else (List.range c.height).findSome? fun y => (List.range c.width).findSome? (canvasBad s c ls · y)
  let s' := logUe bad (bumpFree (writeRows (canvasBase s) c (canvasByte s c ls) s))
  let s' := epdAccess true (canvasBase s) c.bytes (accessLayers c s')
  raise 160 { s' with epd := { s'.epd with composing := false, check := some (BitVec.ofNat 32 (canvasCheck s' c)) } }

/-! ## An update (18.7): what is played to a pixel -/

def EpdRun.inRegion (r : EpdRun) (x y : Nat) : Bool :=
  r.clear || r.w = 0 || decide (r.x ≤ x ∧ x < r.x + r.w ∧ r.y ≤ y ∧ y < r.y + r.h)

/-- The target level by mode. -/
def targetLevel (mode l : Nat) : Nat :=
  if mode = 3 then 15 else if mode = 1 then 5 * ((l + 2) / 5) else if mode = 2 then (if 8 ≤ l then 15 else 0) else l

def EpdRun.target (r : EpdRun) (s : State) (c : EpdCfg) (x y : Nat) : Nat := targetLevel r.mode.1 (canvasLevel s c x y)

/-- The pixel is driven: every pixel of an EPD_CLEAR, and those of 18.7 in an EPD_UPDATE. -/
def EpdRun.driven (r : EpdRun) (s : State) (c : EpdCfg) (x y : Nat) : Bool :=
  r.inRegion x y && (r.clear || r.mode = 0 || r.target s c x y ≠ panelLevel s c x y || panelUnsure s c x y)

/-- The code of phase i for a pixel (R402), where no error holds it. -/
def EpdRun.codeFree (r : EpdRun) (s : State) (c : EpdCfg) (x y i : Nat) : Nat :=
  if i < r.b then
    let l := ledgerAt s c x y
    if i < l.natAbs then (if l < 0 then 1 else 2) else 0
  else if r.driven s c x y then
    wfCode (waveTable s) r.mode.1 r.band (panelLevel s c x y) (r.target s c x y) (i - r.b)
  else 0

/-- The phase from which a pixel holds under R405. -/
def EpdRun.heldFrom (r : EpdRun) (c : EpdCfg) (x y : Nat) : Option Nat := (r.stuck.find? fun p => p.1 = y * c.width + x).map Prod.snd

/-- The code of phase i for a pixel. -/
def EpdRun.code (r : EpdRun) (s : State) (c : EpdCfg) (x y i : Nat) : Nat :=
  if (r.heldFrom c x y).any fun p => decide (p ≤ i) then 0 else r.codeFree s c x y i

/-- The phases whose code has been played to the pixels of a row (R403). -/
def EpdRun.played (r : EpdRun) (y : Nat) : Nat := r.phase - (if y < r.row then 0 else 1)

/-- A pixel's L after the codes played to it. -/
def EpdRun.ledgerAfter (r : EpdRun) (s : State) (c : EpdCfg) (x y : Nat) : Int :=
  (List.range (r.played y)).foldl (fun a i => a + codeWeight (r.code s c x y i)) (ledgerAt s c x y)

/-- The panel image byte of a pixel after the drive (R402, R403, R405). -/
def EpdRun.imageAfter (r : EpdRun) (s : State) (c : EpdCfg) (x y : Nat) : Byte :=
  let l := panelLevel s c x y
  if (r.heldFrom c x y).isSome then imageByte l true
  else if r.driven s c x y && decide (r.b < r.played y) then
    if r.b + r.p ≤ r.played y then imageByte (r.target s c x y) false else imageByte l true
  else imageByte l (panelUnsure s c x y)

/-- Step 8: the panel image, the ledger and the CRCs by the codes played. -/
def writePanel (r : EpdRun) (c : EpdCfg) (s : State) : State :=
  let s' := writeRows (ledgerBase s) c (fun x y => BitVec.ofInt 8 (r.ledgerAfter s c x y)) s
  writeCrcs c (accessPanel c (writeRows (imageBase s) c (r.imageAfter s c) s'))

/-! ## Steps and ends of an update -/

def setRun (r : EpdRun) (s : State) : State := { s with epd := { s.epd with run := some r } }

/-- The ADC hold of the power sequencer ends (R420). -/
def releaseAdc (s : State) : State := { s with adc := { s.adc with hold := none } }

/-- The command completes: its source, PD_EPD off, and the composition that fell due (R390, Table 18-6). -/
def endEpd (r : EpdRun) (code : Code) (q0 : Nat) (s : State) : State :=
  let s := releaseAdc { s with epd := { s.epd with run := none } }
  let s := setPd .epd false { s with adc := { s.adc with bistableLate := false } }
  let s := raise (if code = .ok then 162 else 163) s
  let s := if code = .rejected then reject r.byWindow 0x40 2 0 s else finish r.byWindow code (BitVec.ofNat 32 q0) 0 s
  if s.epd.composeDue then { s with epd := { s.epd with composeDue := false, composing := true } } else s

/-- Power-down begins, and the command completes with the given code when the rails are down (R399). -/
def railsFall (r : EpdRun) (code : Code) (q0 : Nat) (s : State) : State :=
  setRun { r with step := .railsDown, outcome := code, q0 := q0 }
    { s with epd := { s.epd with rails := .falling, lastRow := none } }

/-- The update is ended by an interruption, a reset or a wait (R403, R404). Power-down already begun runs to its
end. -/
def interruptEpd (code : Code) (s : State) : State :=
  match s.epd.run, s.epd.cfg with
  | some r, some c =>
    match r.step with
    | .composeWait | .sample => endEpd r code 0 s
    | .canvasScan => endEpd r code 0 (match r.cal with | some u => stopCal u .aborted false s | none => s)
    | .railsUp => railsFall r code 0 s
    | .drive => railsFall r code r.phase (writePanel r c s)
    | .railsDown => s
  | _, _ => s

/-- Step 3: the unit scans the canvas, through queue_131 (18.1). -/
def scanCanvas (r : EpdRun) (s : State) : State :=
  match r.cal, s.epd.cfg with
  | some u, some c =>
    setRun { r with step := .canvasScan }
      (startCal u .canvas none 0 { CrcCfg.crc32c with expect := s.epd.check.map (·.setWidth 64) } (access 131 false 0 (canvasBase s) c.bytes s))
  | _, _ => s

/-- The canvas fed row by row, padding excluded. -/
def feedCanvas (s : State) (c : EpdCfg) (r : CalRun) : CalRun :=
  (List.range c.height).foldl (fun r y =>
    let a := 0x0B000000 + y * c.stride
    (r.feed a (s.read (canvasBase s + y * c.stride) c.width)).endRow) r

/-- The canvas scan ends: the update goes on with its temperature sample, or is rejected (Table 18-5, R405). -/
def canvasScanned (u : CalId) (s : State) : State :=
  match s.epd.run, s.epd.cfg, s.cal[u].op with
  | some r, some c, some k =>
    if r.cal ≠ some u || r.step ≠ .canvasScan then s
    else match firstBad s (canvasBase s) c.bytes with
      | some x => endEpd r .rejected 0 (raise 167 (logUe (some x) (stopCal u .rejected false s)))
      | none =>
        let k := feedCanvas s c k
        let s := stopCal u .ok false (s.modCal u fun x => { x with op := some k })
        if s.epd.check.map (·.setWidth 64) = some k.result then setRun { r with step := .sample } s
        else endEpd r .rejected 0 (raise 167 s)
  | _, _, _ => s

/-- CALIPER_OPERATION_END (R470): the operation's last byte has been fed, or a memory error ended it. -/
def execCaliperOperationEnd (u : CalId) (s : State) : Host.Outcome State Fault Refusal :=
  match s.cal[u].op with
  | none => .next s
  | some r => match r.op with
    | .canvas => .next (canvasScanned u s)
    | _ =>
      if r.failed then .next (endCal u .rejected s)
      else if r.fed then .next (endCal u .ok s)
      else .next s

/-- A reset of the unit that scans the canvas ends the update ABORTED (Table 06-5). -/
def epdCalReset (u : CalId) (s : State) : State :=
  match s.epd.run with
  | some r => if r.step = .canvasScan ∧ r.cal = some u then endEpd r .aborted 0 s else s
  | none => s

/-- CANVAS_COMPOSED (R389): the canvas is written, and an update that waited for it goes on. -/
def execCanvasComposed (s : State) : Host.Outcome State Fault Refusal :=
  match s.epd.cfg with
  | none => .next s
  | some c =>
    if !s.epd.composing || !memAvail s then .next s
    else
      let s := kickFlatten (zeroMay (fun r => { r with waitE := false }) (writeCanvas c s))
      match s.epd.run with
      | some r => .next (if r.step = .composeWait then scanCanvas r s else s)
      | none => .next s

/-! ## The ledger (R385, R406) -/

/-- A block whose CRC does not match, or that holds a memory error. -/
def blockFails (s : State) (c : EpdCfg) (k : Nat) : Bool :=
  le (s.read (crcAddr s k) 4) ≠ blockCrc s c k || badRange s (ledgerBase s + 16 * k * c.stride) (c.blockRows k * c.stride)
    || badRange s (crcAddr s k) 4

/-- Repair of a block (R406). -/
def repairBlock (c : EpdCfg) (k : Nat) (s : State) : State :=
  let n := c.blockRows k
  let s := epdAccess true (ledgerBase s + 16 * k * c.stride) (n * c.stride)
    (s.write (ledgerBase s + 16 * k * c.stride) (List.replicate (n * c.stride) 0))
  let s := epdAccess true (crcAddr s k) 4 (writeCrc c k s)
  let s := forEach (List.range n) (fun i s =>
    let y := 16 * k + i
    s.write (imageBase s + y * c.stride)
      ((List.range c.width).map (fun x => imageByte (panelLevel s c x y) true) ++ List.replicate (c.stride - c.width) 0)) s
  let s := epdAccess true (imageBase s + 16 * k * c.stride) (n * c.stride) s
  raise 168 (logFault 0x23 0 (BitVec.ofNat 32 k) s)

/-- Every block CRC is checked and a failing block repaired. -/
def checkLedger (c : EpdCfg) (s : State) : State :=
  let s := epdAccess false (crcAddr s 0) (4 * c.blocks) (epdAccess false (ledgerBase s) c.bytes s)
  forEach (List.range c.blocks) (fun k s => if blockFails s c k then repairBlock c k s else s) s

/-- LEDGER_CHECK (R406): configured, idle, in RUN or DIM. -/
def execLedgerCheck (s : State) : Host.Outcome State Fault Refusal :=
  match s.epd.cfg with
  | none => .next s
  | some c =>
    if s.epd.run.isSome || !(s.power.mode = .run || s.power.mode = .dim) || !memAvail s then .next s
    else .next (checkLedger c (logUeIn (ledgerBase s) c.bytes s))

/-! ## Temperature and rails -/

/-- A 12-bit sample in the units of TEMP_SRC: the raw THERM code, or the die temperature in 1/16 °C as two's
complement. -/
def sampleValue (therm : Bool) (code : BitVec 12) : Int := if therm then code.toNat else code.toInt

/-- The first word with an error in what an update reads before it drives: canvas, panel image, ledger (R405), and of the
waveform table the header and the entries of its mode and band (R198, log 121). -/
def updateBad (s : State) (c : EpdCfg) (r : EpdRun) : Option Nat :=
  [(canvasBase s, c.bytes), (imageBase s, c.bytes), (ledgerBase s, c.bytes), (waveBase s, 0x100),
    (waveBase s + 0x100 + (r.mode.1 * 16 + r.band) * 16384, 16384)].findSome? fun x => firstBad s x.1 x.2

/-- BISTABLE_TEMPERATURE_SAMPLE (R420): the band is taken, the memory of the update is verified, and the rails rise
(Table 18-5, steps 4 to 6). The sample waits while the power sequencer holds the ADC. -/
def execBistableTemperatureSample (code : BitVec 12) (s : State) : Host.Outcome State Fault Refusal :=
  match s.epd.run, s.epd.cfg with
  | some r, some c =>
    if r.step ≠ .sample || s.adc.hold.isSome then .next s
    else
      let s := { s with adc := { s.adc with bistableLate := false } }
      let r := { r with band := wfBand (waveTable s) (sampleValue c.tempTherm code) }
      let s := epdAccess false (waveBase s) 0x100 s
      match updateBad s c r with
      | some x => .next (endEpd r .rejected 0 (logUe (some x) s))
      | none =>
        let s := checkLedger c s
        .next (setRun { r with step := .railsUp } { s with epd := { s.epd with rails := .rising 0 } })
  | _, _ => .next s

/-- The largest |L| of the panel: B of R402. -/
def balancePhases (s : State) (c : EpdCfg) : Nat :=
  (List.range c.height).foldl (fun m y => (List.range c.width).foldl (fun m x => Nat.max m (ledgerAt s c x y).natAbs) m) 0

/-- Step 7 begins: B and P are fixed and drive started is raised. -/
def startDrive (r : EpdRun) (c : EpdCfg) (s : State) : State :=
  raise 161 (setRun { r with
    step := .drive, b := balancePhases s c, p := wfPhases (waveTable s) r.mode.1 r.band, phase := 0, row := 0 } s)

/-- RAIL_POWER_GOOD (R398): the next rail is enabled; after VCOM the rails are up. -/
def execRailPowerGood (k : RailId) (s : State) : Host.Outcome State Fault Refusal :=
  if s.epd.rails ≠ .rising k then .next s
  else match s.epd.run, s.epd.cfg with
    | some r, some c =>
      if h : k.1 + 1 < 5 then .next { s with epd := { s.epd with rails := .rising ⟨k.1 + 1, h⟩ } }
      else
        let s := raise 164 (releaseAdc { s with epd := { s.epd with rails := .up, railsShown := true } })
        .next (startDrive r c s)
    | _, _ => .next s

/-- A rail fault's entry and source: ARG 0 at power-up, 1 when a rail left power-good (R400). -/
def reportRail (k : RailId) (arg : Word) (s : State) : State := raise 166 (logFault 0x22 k.1 arg s)

/-- RAIL_PG_TIMEOUT: the power-up fails and the rails are powered down (Table 18-5, step 6). -/
def execRailPgTimeout (k : RailId) (s : State) : Host.Outcome State Fault Refusal :=
  if s.epd.rails ≠ .rising k then .next s
  else match s.epd.run with
    | some r => .next (railsFall r .timeout 0 (reportRail k 0 s))
    | none => .next s

/-- RAIL_FAULT (R400): from rails-up until power-down begins; the drive is interrupted. -/
def execRailFault (k : RailId) (s : State) : Host.Outcome State Fault Refusal :=
  if s.epd.rails ≠ .up then .next s else .next (interruptEpd .aborted (reportRail k 1 s))

/-- RAILS_DOWN (R399): E_RAILS clears, and the command that was running completes (Table 18-5, step 9). -/
def execRailsDown (s : State) : Host.Outcome State Fault Refusal :=
  if s.epd.rails ≠ .falling then .next s
  else
    let s := raise 165 { s with epd := { s.epd with rails := .down, railsShown := false } }
    match s.epd.run with
    | some r => .next (endEpd r r.outcome r.q0 s)
    | none => .next s

/-! ## Drive -/

/-- The last phase's last row has been driven: step 8 (R405 gives INCOMPLETE). -/
def finishDrive (r : EpdRun) (c : EpdCfg) (s : State) : State :=
  railsFall r (if r.stuck.isEmpty then .ok else .incomplete) (r.b + r.p) (writePanel r c s)

/-- PCLK_E runs. -/
def pclkE (s : State) : Bool := s.syn[2].out = .running

/-- EPD_PHASE_START (R397): the next phase begins once every row of the last one is driven. -/
def execEpdPhaseStart (s : State) : Host.Outcome State Fault Refusal :=
  match s.epd.run, s.epd.cfg with
  | some r, some c =>
    if r.step ≠ .drive || !pclkE s || decide (r.b + r.p ≤ r.phase) || (r.phase ≠ 0 && r.row < c.height) then .next s
    else .next (setRun { r with phase := r.phase + 1, row := 0, began := s.drone.time.toNat } s)
  | _, _ => .next s

/-- The word of the waveform table that gives a pixel its code in the phase in hand, where it holds an error. -/
def waveBad (r : EpdRun) (s : State) (c : EpdCfg) (x y : Nat) : Option Nat :=
  let i := r.phase - 1
  if i < r.b || !r.driven s c x y then none
  else firstBad s (waveBase s + 0x100 + (((r.mode.1 * 16 + r.band) * 16 + panelLevel s c x y) * 16 + r.target s c x y) * 64 + (i - r.b) / 4) 1

/-- Pixels of a row whose canvas, panel image or ledger byte, or whose code (log 121), holds an uncorrectable error, with the
word. -/
def rowErrors (r : EpdRun) (s : State) (c : EpdCfg) (y : Nat) : List (Nat × Nat) :=
  if s.memc.badWords.isEmpty then []
  else (List.range c.width).filterMap fun x =>
    let o := c.at_ x y
    ((firstBad s (canvasBase s + o) 1).orElse fun _ => (firstBad s (imageBase s + o) 1).orElse fun _ =>
      (firstBad s (ledgerBase s + o) 1).orElse fun _ => waveBad r s c x y).map fun w => (x, w)

/-- What a row period reads (18.7): the canvas and the panel image, in a balance phase the ledger too. -/
def accessRow (r : EpdRun) (c : EpdCfg) (s : State) : State :=
  let row (base : Nat) (s : State) : State := epdAccess false (base + r.row * c.stride) c.stride s
  let s := row (imageBase s) (row (canvasBase s) s)
  if r.phase ≤ r.b then row (ledgerBase s) s else s

/-- R405 during step 7: the affected pixels hold from this phase on, and ECC_UE is logged. -/
def holdErrors (r : EpdRun) (c : EpdCfg) (s : State) : EpdRun × State :=
  (rowErrors r s c r.row).foldl (fun (r, s) (x, w) =>
    if (r.heldFrom c x r.row).isSome then (r, s)
    else ({ r with stuck := r.stuck ++ [(r.row * c.width + x, r.phase - 1)] }, logUe (some w) s)) (r, s)

/-- The words of a row and the chip enables beside them (R395). -/
def rowWords (r : EpdRun) (s : State) (c : EpdCfg) : List (HalfWord × BitVec 2) :=
  let w8 := ceilDiv c.width 8
  (List.range w8).map fun j =>
    let code (k : Nat) : Nat := if 8 * j + k < c.width then r.code s c (8 * j + k) r.row (r.phase - 1) else 0
    let v := (List.range 8).foldl (fun a k => a + code k * 4 ^ k) 0
    (BitVec.ofNat 16 v, if !c.split || decide (j < ceilDiv w8 2) then 2#2 else 1#2)

/-- EPD_ROW_PERIOD (R396): a row of the phase in hand is shifted, latched and driven. After the last row of a phase the
overrun source is raised where the phase took longer than PHASE_US; after that of the last phase the drive ends. -/
def execEpdRowPeriod (s : State) : Host.Outcome State Fault Refusal :=
  match s.epd.run, s.epd.cfg with
  | some r, some c =>
    if r.step ≠ .drive || !pclkE s || r.phase = 0 || decide (c.height ≤ r.row) then .next s
    else
      let (r, s) := holdErrors r c (accessRow r c s)
      let out : EpdRow := { row := r.row, words := rowWords r s c, gdsp := r.row = 0, drive := c.rowClks - ceilDiv c.width 8 - c.leW - 4 }
      let s := { s with epd := { s.epd with lastRow := some out } }
      let r := { r with row := r.row + 1 }
      let last := decide (c.height ≤ r.row)
      let late := last && decide (r.began + wfPhaseUs (waveTable s) r.mode.1 < s.drone.time.toNat)
      let s := if late then raise 169 s else s
      if last && decide (r.b + r.p ≤ r.phase) then .next (finishDrive r c s) else .next (setRun r s)
  | _, _ => .next s

/-! ## EPD_UPDATE and EPD_CLEAR -/

def updateRegion (a : Cmd) : Nat × Nat × Nat × Nat := (fld a.a1 0 16, fld a.a1 16 16, fld a.a2 0 16, fld a.a2 16 16)

/-- The engine's table header cannot be read: the update is refused as for a canvas mismatch (R198). -/
def badHeader (s : State) : Option Verdict :=
  (firstBad s (waveBase s) 0x100).map fun w => { code := .rejected, q0 := put 0x40 0 8 ||| put 2 8 2, q1 := 0, ue := some w }

def checkEpdUpdate (v : WinId) (c : CtxId) (a : Cmd) (s : State) : Option Verdict :=
  let (x, y, w, h) := updateRegion a
  let m := fld a.a0 0 2
  orElse [
    firstFail [
      (!supervisor c, .denied),
      (!argBits a 3 wholeWord wholeWord 0 || m = 3 || (w = 0 && !(x = 0 && y = 0 && h = 0)) || (w ≠ 0 && h = 0), .badArg),
      (s.epd.cfg.any fun k => decide (k.width < x + w ∨ k.height < y + h), .badArg),
      (!cmdMem s v, .noResource),
      (s.epd.cfg.isNone, .noResource)],
    badHeader s,
    firstFail [(!modePresent (waveTable s) m, .badArg)]]

/-- A command as it starts. -/
def newRun (w : WinId) (clear : Bool) (mode : Fin 4) (region : Nat × Nat × Nat × Nat) (u : Option CalId) : EpdRun where
  byWindow := w
  clear := clear
  mode := mode
  x := region.1
  y := region.2.1
  w := region.2.2.1
  h := region.2.2.2
  step := .sample
  cal := u
  band := 0
  b := 0
  p := 0
  phase := 0
  began := 0
  row := 0
  stuck := []
  outcome := .ok
  q0 := 0

/-- The power sequencer brings PD_EPD up, and may hold the ADC until the rails are up (27.4, R420). -/
def powerEpd (s : State) : State :=
  let n := s.port.nextWait
  let s' := setPd .epd true (bumpFree s)
  if Config.adcHold s.free then
    { s' with adc := { s'.adc with hold := some n }, port := { s'.port with nextWait := n + 1 } }
  else s'

/-- An EPD_UPDATE with its resources: it waits for a composition in progress, or scans the canvas at once. -/
def startUpdate (w : WinId) (a : Cmd) (u : CalId) (s : State) : State :=
  let m : Fin 4 := ⟨fld a.a0 0 2, Nat.mod_lt _ (by decide)⟩
  let r := newRun w false m (updateRegion a) (some u)
  let s := setPhase w .epd (powerEpd s)
  if s.epd.composing then setRun { r with step := .composeWait } s else scanCanvas r s

/-- EPD_UPDATE's action: with the lowest free Caliper unit, or the first that becomes free (Table 18-5, step 1). -/
def actEpdUpdate (w : WinId) (_ : CtxId) (a : Cmd) (s : State) : State :=
  match heldCal s w, freeCal s with
  | some u, _ => startUpdate w a u s
  | none, some u => startUpdate w a u (take (.window w) (.cal u) s)
  | none, none => setPhase w .anyCal s

def opEpdUpdate : Opcode := { check := checkEpdUpdate, needs := fun _ _ _ => [.power, .syn 2], act := actEpdUpdate }

/-- EPD_UPDATE (0x28). -/
def execEpdUpdate (w : WinId) (c : Cmd) (s : State) : Host.Outcome State Fault Refusal :=
  .next (portRow w 0x28 c opEpdUpdate.run s)

def checkEpdClear (w : WinId) (c : CtxId) (a : Cmd) (s : State) : Option Verdict :=
  firstFail [(!supervisor c, .denied), (!argBits a 0 0 0 0, .badArg), (!cmdMem s w, .noResource), (s.epd.cfg.isNone, .noResource)]

/-- EPD_CLEAR's action (R407): without steps 2 and 3. A composition in progress is due when it completes (R390). -/
def actEpdClear (w : WinId) (_ : CtxId) (_ : Cmd) (s : State) : State :=
  let s := if s.epd.composing then { s with epd := { s.epd with composing := false, composeDue := true } } else s
  setRun (newRun w true 3 (0, 0, 0, 0) none) (setPhase w .epd (powerEpd s))

def opEpdClear : Opcode := { check := checkEpdClear, needs := fun _ _ _ => [.power, .syn 2], act := actEpdClear }

/-- EPD_CLEAR (0x29). -/
def execEpdClear (w : WinId) (c : Cmd) (s : State) : Host.Outcome State Fault Refusal :=
  .next (portRow w 0x29 c opEpdClear.run s)

end Sys2Proof.Machine
end

