-- ==== Sys2Proof/Machine/Links.lean ====
section
/-! DEFINITION. What the panel links of heads A and B carry: the sync levels of R324, FSYNC_OUT, the pairs of Table 15-1,
the LVDS slots of Table 15-5, and the eDP main stream with its attributes. These are functions of the state; of what the
pairs have sent, the model keeps the attributes of the last vertical blank. -/
namespace Sys2Proof.Machine

/-- Horizontal sync is active at a pixel of a line (R324). -/
def HeadCfg.hsync (c : HeadCfg) (x : Nat) : Bool := decide (c.hsyncStart ≤ x ∧ x < c.hsyncEnd)

/-- Vertical sync is active at a pixel of a line; line VTOTAL is line 0 of the next frame. -/
def HeadCfg.vsync (c : HeadCfg) (x y : Nat) : Bool :=
  decide ((c.vsyncStart < y ∨ (c.vsyncStart = y ∧ c.hsyncStart ≤ x)) ∧ (y < c.vsyncEnd ∨ (y = c.vsyncEnd ∧ x < c.hsyncStart)))
    || decide (c.vsyncEnd = c.vtotal ∧ y = 0 ∧ x < c.hsyncStart)

/-- The levels of horizontal and vertical sync, by HS_POL and VS_POL. -/
def HeadCfg.hsLevel (c : HeadCfg) (x : Nat) : Bool := c.hsync x = c.hsPol
def HeadCfg.vsLevel (c : HeadCfg) (x y : Nat) : Bool := c.vsync x y = c.vsPol

/-- A pixel clock of an active pixel. -/
def HeadCfg.active (c : HeadCfg) (x y : Nat) : Bool := decide (x < c.hactive ∧ y < c.vactive)

/-- The level of FSYNC_OUT at a pixel of the present line of the head that drives it: head A where it sets
FSYNC_OUT_EN, else head B, else low (R324). -/
def fsyncOut (s : State) (x : Nat) : Bool :=
  let drives (h : ContHead) : Bool := s.head[h].cfg.any fun c => c.live.fsyncOut
  let level (h : ContHead) : Bool := match s.head[h].cfg with
    | some c => if s.head[h].started && !s.head[h].gated then c.vsLevel x s.head[h].line else !c.vsPol
    | none => false
  if drives 0 then level 0 else if drives 1 then level 1 else false

/-- The names of the bits of an LVDS slot: a component's bit, the control signals, and zero. -/
inductive LvdsBit where
  | r (k : Nat) | g (k : Nat) | b (k : Nat) | de | vs | hs | zero
deriving DecidableEq, Repr

/-- A row of Table 15-5, slot 6 first. -/
def lvdsVesa : List (List LvdsBit) := [
  [.g 0, .r 5, .r 4, .r 3, .r 2, .r 1, .r 0],
  [.b 1, .b 0, .g 5, .g 4, .g 3, .g 2, .g 1],
  [.de, .vs, .hs, .b 5, .b 4, .b 3, .b 2],
  [.zero, .b 7, .b 6, .g 7, .g 6, .r 7, .r 6],
  [.zero, .b 9, .b 8, .g 9, .g 8, .r 9, .r 8]]

def lvdsJeida : List (List LvdsBit) := [
  [.g 2, .r 7, .r 6, .r 5, .r 4, .r 3, .r 2],
  [.b 3, .b 2, .g 7, .g 6, .g 5, .g 4, .g 3],
  [.de, .vs, .hs, .b 7, .b 6, .b 5, .b 4],
  [.zero, .b 1, .b 0, .g 1, .g 0, .r 1, .r 0],
  [.zero, .b 1, .b 0, .g 1, .g 0, .r 1, .r 0]]

/-- The rows a depth uses (R331): `up` is added to the bit numbers of rows 0 to 3 in the JEIDA map at depth 10. -/
def lvdsRows (depth : Fin 3) (jeida five : Bool) : List (List LvdsBit × Nat) :=
  let none_ : List LvdsBit := List.replicate 7 .zero
  let t := if jeida && depth ≠ 0 then lvdsJeida else lvdsVesa
  let row (i : Nat) : List LvdsBit := t.getD i none_
  let up := if jeida && depth = 2 then 2 else 0
  [(row 0, up), (row 1, up), (row 2, up), (if depth = 0 then none_ else row 3, up)]
    ++ (if five then [(if depth = 2 then row 4 else none_, 0)] else [])

/-- The value of a bit for a pixel and its control signals. -/
def LvdsBit.value (p : Px) (de vs hs : Bool) (up : Nat) : LvdsBit → Bool
  | .r k => p.r.testBit (k + up)
  | .g k => p.g.testBit (k + up)
  | .b k => p.b.testBit (k + up)
  | .de => de
  | .vs => vs
  | .hs => hs
  | .zero => false

/-- The slots of every data pair of one LVDS link for one pixel, slot 6 first. -/
def lvdsSlots (depth : Fin 3) (jeida five : Bool) (p : Px) (de vs hs : Bool) : List (List Bool) :=
  (lvdsRows depth jeida five).map fun (row, up) => row.map (LvdsBit.value p de vs hs up)

/-- The clock pair, slot 6 first. -/
def lvdsClock : List Bool := [true, true, false, false, false, true, true]

/-- The LVDS link, 1 or 2, that carries a pixel of a line (R332). -/
def lvdsLink (dual swap : Bool) (x : Nat) : Nat := if !dual then 1 else if (x % 2 = 0) = swap then 2 else 1

/-- The pixels of a line that an LVDS link carries in its link clock `i`: one of each pixel clock, or of each two (R332). -/
def lvdsPixelAt (dual swap : Bool) (link i : Nat) : Nat :=
  if !dual then i else if lvdsLink true swap (2 * i) = link then 2 * i else 2 * i + 1

/-- The slots of the data pairs of an LVDS link in its link clock `i` of a line: the pixel it carries, DE on active pixels
and the sync levels. In dual link both links carry the DE, HS and VS of the clock's even pixel (R331, R332). -/
def lvdsClockAt (c : HeadCfg) (dual five jeida swap : Bool) (link i y : Nat) (px : Nat → Px) : List (List Bool) :=
  let x := if dual then 2 * i else i
  lvdsSlots c.live.depth jeida five (px (lvdsPixelAt dual swap link i)) (c.active x y) (c.vsLevel x y) (c.hsLevel x)

/-! ## The eDP stream -/

/-- The symbol clock of a lane in MHz: a tenth of its rate. -/
def edpSymbolClock (rate : Fin 3) : Nat := if rate = 0 then 162 else if rate = 1 then 270 else 540

/-- The main stream attributes of an eDP configuration whose synthesizer realises a pixel period (R328): Mvid to Nvid as the
pixel clock, 64 000 × 65 536 over the period, to the symbol clock. -/
def HeadCfg.msa (c : HeadCfg) (rate : Fin 3) (period : Nat) : Msa where
  htotal := c.htotal
  vtotal := c.vtotal
  hstart := c.htotal - c.hsyncStart
  vstart := c.vtotal - c.vsyncStart
  hsyncWidth := c.hsyncEnd - c.hsyncStart
  vsyncWidth := c.vsyncEnd - c.vsyncStart
  hwidth := c.hactive
  vheight := c.vactive
  hsPol := c.hsPol
  vsPol := c.vsPol
  depth := c.live.depth
  mvid := 64000 * 65536
  nvid := edpSymbolClock rate * period

/-- The attributes are sent in a vertical blank: those of the frame that follows it, so that a change under R323 first
appears in the blank before its boundary. -/
def sendMsa (h : ContHead) (next : HeadCfg) (s : State) : State :=
  match next.link, s.syn[headSyn h].cfg with
  | .edp _ rate, some y =>
    if s.head[h].edp.stream then s.modHead h fun x => { x with edp := { x.edp with msa := some (next.msa rate y.period.toNat) } } else s
  | _, _ => s

/-- The training patterns of an attempt: for clock recovery, and for equalisation (Table 15-4). -/
inductive TrainingPattern where
  | tps1 | tps2 | tps3
deriving DecidableEq, Repr

def trainingPatterns (rate : Fin 3) : List TrainingPattern := [.tps1, if rate = 2 then .tps3 else .tps2]

/-- What an eDP link uses of Table 15-4: its lanes and rate, its coding, the scrambler's seed and down-spread as the DPCD
reports them. Enhanced framing is always on. -/
structure EdpMode where
  lanes : Nat
  rate : Fin 3
  enhancedFraming : Bool
  altSeed : Bool
  downSpread : Bool
deriving DecidableEq, Repr

def edpMode (s : State) (h : ContHead) : Option EdpMode :=
  s.head[h].cfg.bind fun c => match c.link with
    | .edp lanes rate => some {
        lanes := lanes, rate := rate, enhancedFraming := true, altSeed := s.head[h].edp.altSeed, downSpread := s.head[h].edp.downSpread }
    | .lvds .. => none

/-! ## The pins of a link PHY (15.1) -/

/-- What a pair is for in a link mode (Table 15-1). -/
inductive PairRole where
  | lane (k : Nat)
  | data (link k : Nat)
  | clock (link : Nat)
deriving DecidableEq, Repr

def pairRole (l : Link) (p : Fin 12) : Option PairRole :=
  match l with
  | .edp lanes _ => guardSome (decide (p.1 < lanes)) (.lane p.1)
  | .lvds dual five .. =>
    if p.1 < 4 ∨ (p.1 = 4 ∧ five) then some (.data 1 p.1)
    else if p.1 = 5 then some (.clock 1)
    else if dual ∧ 6 ≤ p.1 ∧ (p.1 < 10 ∨ (p.1 = 10 ∧ five)) then some (.data 2 (p.1 - 6))
    else if dual ∧ p.1 = 11 then some (.clock 2)
    else none

/-- The state of a pair's two pins. -/
inductive PairState where
  | highZ
  | electricalIdle
  /-- The link carries nothing while the pixel clock is gated (R342). -/
  | nothing
  /-- Idle patterns of an untrained link, the patterns of a training attempt, and what the pair is for. -/
  | idlePattern
  | training
  | carries (r : PairRole)
deriving DecidableEq, Repr

/-- A pair of a head's link PHY (R320, R329, R330, R333 to R335): high-impedance while PD_HEAD_x is off; a pair that the mode
does not list in electrical idle, and so every pair of an unconfigured head (log 119). -/
def pairState (s : State) (h : ContHead) (p : Fin 12) : PairState :=
  let x := s.head[h]
  if !pdOn (headPd h) s then .highZ
  else match x.cfg with
    | none => .electricalIdle
    | some c => match pairRole c.link p, c.link with
      | none, _ => .electricalIdle
      | some r, .lvds .. => if x.run = .stopped || !x.link then .highZ else if x.gated then .nothing else .carries r
      | some r, .edp .. =>
        if x.run = .stopped || !x.pll then .electricalIdle
        else if x.gated then .nothing
        else if x.training then .training
        else if x.link && x.edp.stream then .carries r
        else .idlePattern

/-- The AUX pair is used in eDP mode only, for training and link status (R320, R326, R335). -/
def auxUsed (s : State) (h : ContHead) : Bool :=
  pdOn (headPd h) s && s.head[h].cfg.any fun c => match c.link with
    | .edp .. => true
    | .lvds .. => false

end Sys2Proof.Machine
end

