-- ==== Sys2Proof/Machine/Protected.lean ====
section
/-! DEFINITION. The protected layer (chapter 14): PROTECT_LOAD, PROTECT_LOCK, PROTECT_RELEASE, the expected value, the
check of every frame, and what a mismatch triggers. -/
namespace Sys2Proof.Machine

/-! ## Images -/

/-- The bytes of the store that an image uses (R302). -/
def Image.use (i : Image) : Nat := roundUp (i.pixels.length + i.palette.length) 64

/-- A pixel of an image (R310, Table 14-2). -/
def Image.px (i : Image) (c r : Nat) : SrcPx :=
  let k := r * i.w + c
  match i.format with
  | .argb8888 => let v := leAt i.pixels (4 * k) 4; argbPx v (v / 2 ^ 24)
  | .argb4444 =>
    let v := leAt i.pixels (2 * k) 2
    { c0 := expand4 (v / 256 % 16), c1 := expand4 (v / 16 % 16), c2 := expand4 (v % 16), a := v / 4096 * 17 }
  | .a8 => argbPx i.colour.toNat (byteAt i.pixels k)
  | _ => let v := leAt i.palette (4 * byteAt i.pixels k) 4; argbPx v (v / 2 ^ 24)

/-- The bytes per pixel and the number of a pixel's 32-byte SRAM words with an error (R316). -/
def Image.wordOf (i : Image) (c r : Nat) : Nat := (i.palette.length + (r * i.w + c) * i.format.bpp) / 32

/-- An 8-byte record of a covered pixel (R311). -/
def tapRecord (p : Px) (x y : Nat) : List Byte := toLe 8 (p.b + 2 ^ 12 * p.g + 2 ^ 24 * p.r + 2 ^ 36 * x + 2 ^ 49 * y)

/-- The expected value of an image at a position under a head's LUTs (R307). -/
def expectedValue (v : HeadLive) (i : Image) (x y : Nat) : Nat :=
  crcFin ((List.range i.h).foldl (fun reg r => (List.range i.w).foldl (fun reg c =>
    let p := i.px c r
    if p.a = 255 then crcC reg (tapRecord (tapPx v { r := p.c0, g := p.c1, b := p.c2 }) (x + c) (y + r)) else reg) reg) crcInit)

/-- The protected layer over a pixel of its head (R310); a pixel of a word in error is transparent (R316). -/
def protOver (p : Prot) (x y : Nat) (d : Px) : Px :=
  match p.live with
  | none => d
  | some i =>
    if p.x ≤ x ∧ x < p.x + i.w ∧ p.y ≤ y ∧ y < p.y + i.h then
      let c := x - p.x
      let r := y - p.y
      if i.wordOf c r ∈ p.badWords then d
      else let q := i.px c r; blend i.premult 255 q.a { r := q.c0, g := q.c1, b := q.c2 } d
    else d

/-- A line of tap values is fed to the head's accumulator (R311, R312). -/
def protFeed (h : ContHead) (y : Nat) (line : List Px) (s : State) : State :=
  s.modProt h fun p =>
    match p.live with
    | none => p
    | some i =>
      if p.y ≤ y ∧ y < p.y + i.h then
        let reg := (List.range i.w).foldl (fun reg c =>
          if (i.px c (y - p.y)).a = 255 then
            crcC reg (tapRecord (line.getD (p.x + c) { r := 0, g := 0, b := 0 }) (p.x + c) y) else reg) p.acc.toNat
        { p with acc := BitVec.ofNat 32 reg }
      else p

/-! ## PROTECT_LOAD -/

/-- The caller is a tenant that guards the head it names (R136). -/
def isGuardian (s : State) (c : CtxId) (a : Cmd) : Bool := c ≠ 0 && (argCont a.a0).any fun h => guards s c h

/-- The head named, where the guardian check has passed. -/
def namedHead (a : Cmd) : ContHead := (argCont a.a0).getD 0

/-- The image in a content block (Table 14-2), none where a field breaks R304. -/
def parseImage (b : List Byte) : Option Image :=
  match Format.ofCode (byteAt b 0) with
  | none => none
  | some f =>
    let w := leAt b 4 2
    let hh := leAt b 6 2
    let pal := if f = .i8 then 1024 else 0
    let premult := byteAt b 1 = 1
    let ok := (f = .argb8888 || f = .argb4444 || f = .a8 || f = .i8) && decide (byteAt b 1 ≤ 1) && (!premult || f ≠ .a8)
      && zeroAt b 2 2 && sizeOk w && sizeOk hh && zeroAt b 12 4 && (if f = .a8 then zeroAt b 11 1 else zeroAt b 8 4)
      && decide (b.length = 16 + pal + w * hh * f.bpp)
    guardSome ok { format := f, premult := premult, w := w, h := hh, colour := BitVec.ofNat 32 (leAt b 8 4),
                   palette := (b.drop 16).take pal, pixels := b.drop (16 + pal) }

def checkProtectLoad (w : WinId) (c : CtxId) (a : Cmd) (s : State) : Option Verdict :=
  firstFail [
    (!isGuardian s c a, .denied),
    (!argBits a 0x300 wholeWord 0x3FFFFF 0, .badArg),
    (!inPart s c (woff a.a1) a.a2.toNat, .outOfPartition),
    (!cmdMem s w, .noResource)]

/-- The use of the live image and of one held apart for a pending lock or relock (R302, R304). -/
def heldUse (p : Prot) : Nat :=
  (p.live.map Image.use).getD 0 + ((p.lock.bind fun l => guardSome l.loaded l.image).map Image.use).getD 0

/-- A head's allotment in bytes. -/
def allotBytes (p : Prot) : Nat := p.allot * 65536

/-- PROTECT_LOAD's action (R304, R305): the header's fields, the space, and then the content. -/
def actProtectLoad (w : WinId) (c : CtxId) (a : Cmd) (s : State) : State :=
  let h := namedHead a
  let off := woff a.a1
  let n := a.a2.toNat
  let p := s.prot[h]
  if badPart s c off 16 then reject w 0x41 0 0 (logUePart c off 16 s)
  else match parseImage (readPart s c off n) with
    | none => finish0 w .badArg s
    | some i =>
      if allotBytes p < heldUse p + i.use then finish w .noResource (BitVec.ofNat 32 i.use) 0 s
      else if badPart s c off n then reject w 0x41 0 0 (logUePart c off n s)
      else finish w .ok (BitVec.ofNat 32 i.use) 0 (s.modProt h fun p => { p with shadow := some i })

/-- The block is read through the guardian's queue for the head: the header, and the content once the checks of R304 have
passed. -/
def readsProtectLoad (w : WinId) (c : CtxId) (a : Cmd) (s : State) : List (QueueId × Nat × Nat) :=
  let off := woff a.a1
  let n := a.a2.toNat
  let q := layerQueue c (namedHead a)
  if (checkProtectLoad w c a s).isSome then []
  else match parseImage (readPart s c off n) with
    | some i =>
      if allotBytes s.prot[namedHead a] < heldUse s.prot[namedHead a] + i.use then [(q, partBase s c + off, 16)]
      else [(q, partBase s c + off, n)]
    | none => [(q, partBase s c + off, 16)]

def opProtectLoad : Opcode := { check := checkProtectLoad, needs := fun _ _ _ => [], act := actProtectLoad, reads := readsProtectLoad }

/-- PROTECT_LOAD (0x18). -/
def execProtectLoad (w : WinId) (c : Cmd) (s : State) : Host.Outcome State Fault Refusal :=
  .next (portRow w 0x18 c opProtectLoad.run s)

/-! ## PROTECT_LOCK -/

def checkProtectLock (_ : WinId) (c : CtxId) (a : Cmd) (s : State) : Option Verdict :=
  let h := namedHead a
  let p := s.prot[h]
  let x := fld a.a1 0 16
  let y := fld a.a1 16 16
  let same := p.x = x && p.y = y && p.safe = a.a0.getLsbD 16 && p.floor.toNat = fld a.a2 0 8
  let img := match p.shadow with | some i => some i | none => p.live
  orElse [
    firstFail [(!isGuardian s c a, .denied), (!onlyBits a.a0 0x10300 || a.a3 ≠ 0, .badArg)],
    match s.head[h].cfg with
    | none => fail .noResource
    | some cfg => firstFail [
        (img.isNone || (p.shadow.isNone && same), .badArg),
        (img.any fun i => decide (cfg.hactive < x + i.w ∨ cfg.vactive < y + i.h), .badArg),
        (!onlyBits a.a2 0xFF, .badArg),
        ((s.panel[h].run.any fun r => r.powerOff) || entering s, .busy)]]

/-- The image is held apart for the lock, and its expected value is computed (R307). -/
def holdImage (w : WinId) (a : Cmd) (s : State) : State :=
  let h := namedHead a
  let p := s.prot[h]
  match (match p.shadow with | some i => some i | none => p.live) with
  | none => finish0 w .badArg s
  | some i =>
    let l : LockReq := {
      image := i, loaded := p.shadow.isSome, x := fld a.a1 0 16, y := fld a.a1 16 16, safe := a.a0.getLsbD 16
      floor := a.a2.extractLsb' 0 8, expected := none }
    setPhase w (.lockExpected h) (s.modProt h fun p => { p with lock := some l, shadow := none })

/-- PROTECT_LOCK with its gate and CAL_3: the checks once more, since it may have waited. -/
def lockHeld (w : WinId) (c : CtxId) (a : Cmd) (s : State) : State :=
  match checkProtectLock w c a s with
  | some v => turnAway w v s
  | none => holdImage w a s

/-- PROTECT_LOCK with its gate (R306): a SCAN that runs on CAL_3 is ended INCOMPLETE (Table 06-5), and CAL_3 is taken. -/
def actProtectLock (w : WinId) (c : CtxId) (a : Cmd) (s : State) : State :=
  if (.cal 3, .window w) ∈ s.port.held then lockHeld w c a s
  else acquire w [.cal 3] (lockHeld w c a) (preemptScan 3 s)

def opProtectLock : Opcode where
  check := checkProtectLock
  needs := fun _ a _ => [.gate (headId (namedHead a))]
  act := actProtectLock

/-- PROTECT_LOCK (0x19). -/
def execProtectLock (w : WinId) (c : Cmd) (s : State) : Host.Outcome State Fault Refusal :=
  .next (portRow w 0x19 c opProtectLock.run s)

def lockPhase (h : ContHead) : Phase → Bool
  | .lockExpected k => k = h
  | .lockBoundary k _ => k = h
  | _ => false

def releasePhase (h : ContHead) : Phase → Bool
  | .releaseBoundary k _ => k = h
  | _ => false

/-- The lock takes effect (R308): the new image is live, its CAL_3 check starts with this frame, and the command
completes. -/
def takeLock (h : ContHead) (s : State) : State :=
  match s.prot[h].lock, windowIn s (lockPhase h) with
  | some l, some w =>
    let c := (s.win[w].exec.map fun e => e.ctx).getD 0
    let ev := l.expected.getD 0
    let s := s.modProt h fun p => { p with
      live := some l.image, lock := none, x := l.x, y := l.y, safe := l.safe, floor := l.floor, expected := ev
      guardian := some c, orphaned := false, safeShowing := false, safeNext := false
      badWords := if l.loaded then [] else p.badWords, acc := 0xFFFFFFFF, checked := false }
    finishGen w (ev.setWidth 32) 0 s
  | _, _ => s

/-- EXPECTED_VALUE_COMPLETE: the lock takes effect at once on a stopped head, else at the first boundary whose cut-off
the head still reaches (R308). -/
def execExpectedValueComplete (h : ContHead) (s : State) : Host.Outcome State Fault Refusal :=
  match windowIn s (fun p => p = .lockExpected h), s.prot[h].lock, s.head[h].cfg with
  | some w, some l, some cfg =>
    let ev := BitVec.ofNat 64 (expectedValue cfg.live l.image l.x l.y)
    let s := s.modProt h fun p => { p with lock := some { l with expected := some ev } }
    match boundaryOf s h with
    | none => .next (takeLock h s)
    | some f => .next (setPhase w (.lockBoundary h f) s)
  | _, _, _ => .next s

/-- A lock that ends without effect gives its image back as the shadow image, unless a later one was loaded (log 30). -/
def cancelLock (h : ContHead) (s : State) : State :=
  s.modProt h fun p =>
    match p.lock with
    | none => p
    | some l =>
      let back := guardSome l.loaded l.image
      { p with lock := none, shadow := match p.shadow with | some i => some i | none => back }

/-! ## PROTECT_RELEASE -/

def checkProtectRelease (_ : WinId) (c : CtxId) (a : Cmd) (s : State) : Option Verdict :=
  firstFail [
    (!isGuardian s c a, .denied),
    (!argBits a 0x300 0 0 0, .badArg),
    (!protLocked s (namedHead a), .badArg)]

/-- The locked layer is removed (R317). -/
def takeRelease (h : ContHead) (s : State) : State :=
  s.modProt h fun p => { p with
    live := none, safe := false, floor := 0, safeShowing := false, safeNext := false, badWords := [], guardian := none
    orphaned := false }

def actProtectRelease (w : WinId) (_ : CtxId) (a : Cmd) (s : State) : State :=
  let h := namedHead a
  match boundaryOf s h with
  | none => finishGen w 0 0 (takeRelease h s)
  | some f => setPhase w (.releaseBoundary h f) s

def opProtectRelease : Opcode where
  check := checkProtectRelease
  needs := fun _ a _ => [.gate (headId (namedHead a))]
  act := actProtectRelease

/-- PROTECT_RELEASE (0x1A). -/
def execProtectRelease (w : WinId) (c : Cmd) (s : State) : Host.Outcome State Fault Refusal :=
  .next (portRow w 0x1A c opProtectRelease.run s)

/-- At a frame boundary of a head, or when the head stops, the waiting lock and release take effect (R308, R317).
`all` takes those that wait for a later boundary too. -/
def protBoundary (h : ContHead) (all : Bool) (s : State) : State :=
  let due (p : Phase) : Bool := match p with
    | .lockBoundary k g | .releaseBoundary k g => k = h && (all || frameDue s.head[h].frame g)
    | _ => false
  match windowIn s due with
  | none => s
  | some w => match s.win[w].exec with
    | some e => match e.phase with
      | .lockBoundary .. => takeLock h s
      | .releaseBoundary .. => finishGen w 0 0 (takeRelease h s)
      | _ => s
    | none => s

/-! ## Verification -/

/-- What a mismatch triggers (R314, R315). -/
def mismatch (h : ContHead) (s : State) : State :=
  let p := s.prot[h]
  let n := satInc p.mismatch
  let due := match p.lastLog with
    | some t => decide (t + 1000000 ≤ s.drone.time.toNat)
    | none => true
  let s := s.modProt h fun p => { p with
    mismatch := n, safeNext := p.safeNext || p.safe, lastLog := if due then some s.drone.time.toNat else p.lastLog }
  let s := { s with faults := { s.faults with seen := { s.faults.seen with mismatch := true } } }
  let s := if due then logFault 0x14 h.1 n s else s
  let s := raise 283 s
  match p.guardian with
  | some g => if p.orphaned then s else raise g.1 s
  | none => s

end Sys2Proof.Machine
end

