-- ==== Sys2Proof/Machine/Scan.lean ====
section
/-! DEFINITION. Composition and scan of heads A and B: what applies at a frame boundary, the requests of a line, the
composition of a line, shedding, the scan of a line with its taps and writeback, and the events of a line. A line is
composed and emitted in one step each (log 84). -/
namespace Sys2Proof.Machine

/-! ## What applies at a frame boundary (12.7) -/

/-- The next boundary has arrived for something fixed for boundary `b`. -/
def dueAt (s : State) (h : ContHead) (b : Option Nat) : Bool := b.any fun f => frameDue s.head[h].frame f

/-- Live changes whose boundary has come take effect (R323). -/
def applyLive (h : ContHead) (s : State) : State :=
  s.modHead h fun x => match (x.next.filter fun p => frameDue x.frame p.2).getLast? with
    | some (l, _) => { x with next := x.next.filter fun p => !frameDue x.frame p.2, cfg := x.cfg.map fun c => { c with live := l } }
    | none => x

/-- Layers of contexts that were detached leave the head (Table 08-2, step 7); those of a context that still drains
stay transparent. -/
def removeGone (h : ContHead) (s : State) : State :=
  let gone := s.comp[h].gone
  let drains (z : SlotId) : Bool := (s.slot[headId h][z]).any fun l => s.ctx[l.ctx].st = .detaching
  let s := forEach gone (fun z s => if drains z then s else s.modSlot (headId h) z none) s
  let s := s.modComp h fun c => { c with gone := gone.filter drains }
  zeroMay (fun r => if h = 0 then { r with waitA := false } else { r with waitB := false }) s

/-- Territories whose boundary has come are in force for composition (R186). -/
def applyTerrs (h : ContHead) (s : State) : State :=
  forEach ctxs (fun n s =>
    let q := s.ctx[n].terrNext[headId h]
    if q.isEmpty then s
    else
      let due := q.filter fun p => dueAt s h p.1
      match due.getLast? with
      | none => s
      | some (_, t) => s.modCtx n fun c => { c with
          terrShown := c.terrShown.set (headId h) t
          terrNext := c.terrNext.set (headId h) (q.filter fun p => !dueAt s h p.1) }) s

/-- Parts of commits whose boundary has come apply in acceptance order (R273, R275), with the probe of their latency
and the JOINT_SPLIT entry of 12.10. Each part follows its own boundary: a later commit of a context whose boundary comes
before that of its earlier JOINT commit applies first (DESIGN CHOICE, log 115). -/
def applyDue (h : ContHead) (s : State) : State :=
  let due (x : CommitPart) : Bool := x.head = headId h && dueAt s h x.boundary
  let l := s.commits
  let s := forEach l (fun p s => match p.parts.find? due with
    | none => s
    | some x =>
      let other := p.parts.any fun y => !due y && y.head ≠ headId h && (contHead y.head).isSome
      let s := if p.joint && other && !jointOk s then logFault 0x13 0 (p.id.setWidth 32) s (some p.ctx) else s
      let s := applyPart p x s
      sample 0x09 (2 * p.ctx.1 + h.1) (ceilDiv (s.fetch.fclk - p.acceptedAt) 500) s) s
  { s with commits := dropParts (fun _ x => due x) l }

/-- Safe frames start at the boundary after a mismatch (R315). -/
def applySafe (h : ContHead) (s : State) : State :=
  let p := s.prot[h]
  if p.safeNext then
    let s := s.modProt h fun p => { p with safeNext := false, safeShowing := true }
    if p.safeShowing then s else raiseHead h 11 s
  else s

/-- Ready ingest buffers become shown, and each relay layer's state is decided for the frame (R446, R449). -/
def applyIngest (h : ContHead) (s : State) : State :=
  forEach (List.finRange 8) (fun g s =>
    if s.relay.ingest[g].cfg.any fun c => decide (h.1 = if c.headB then 1 else 0) then
      s.modIngest g fun x => { x with
        shown := if x.ready.isSome then x.ready else x.shown
        ready := none
        showNow := x.enabled && x.live && !x.stale }
    else s) s

/-- Policers accepted for a sealed queue of the head take effect, and the release offsets follow (R41, R227). -/
def applyPolicers (h : ContHead) (s : State) : State :=
  forEach ctxs (fun n s =>
    let q := layerQueue n h
    match s.fetch.queue[q].polNext with
    | some p => setPolicer q p s
    | none => recomputeDs q s) s

/-- The count of clear or discharge frames (R353, R359). -/
def FrameShow.advance : FrameShow → FrameShow
  | .normal => .normal
  | .clear n _ => if n ≤ 1 then .normal else .clear (n - 1) true
  | .discharge k n _ => if n ≤ 1 then .normal else .discharge k (n - 1) true

/-- Everything that applies together at a frame boundary, in the state of the new frame. The line store's lines of the
new frame are composed from the same state ahead of time (R272). -/
def applyBoundary (h : ContHead) (s : State) : State :=
  let before := s
  let s := s.modHead h fun x => { x with frame := x.frame + 1, line := 0, frames := x.frames.advance }
  let s := applyIngest h (applySafe h (protBoundary h false (applyPolicers h (applyDue h (applyTerrs h (removeGone h (applyLive h s)))))))
  formRuns h (fun z => before.slot[headId h][z] ≠ s.slot[headId h][z] ||
    (s.slot[headId h][z]).any fun l => before.ctx[l.ctx].terrShown[headId h] ≠ s.ctx[l.ctx].terrShown[headId h]) s

/-! ## What a frame shows -/

/-- The applied layers are neither composed nor fetched: safe, clear and discharge frames. -/
def layersOff (s : State) (h : ContHead) : Bool :=
  s.prot[h].safeShowing || match s.head[h].frames with
    | .clear _ b | .discharge _ _ b => b
    | .normal => false

/-- Every active pixel leaves the dither stage as 0 (R359, kinds 0 and 2). -/
def blackFrame (s : State) (h : ContHead) : Bool := match s.head[h].frames with
  | .discharge k _ true => k ≠ 1
  | _ => false

/-- The layers that a frame composes: with their slots, those not shed and not gone, relay layers only while their
stream is live (R449). -/
def frameLayers (s : State) (h : ContHead) (shed : List SlotId) : List (SlotId × Layer) :=
  if layersOff s h then []
  else slots.filterMap fun z => match s.slot[headId h][z] with
    | none => none
    | some l =>
      let live := match l.desc.relay with | some g => s.relay.ingest[g].showNow | none => true
      guardSome (live && z ∉ shed && z ∉ s.comp[h].gone && s.ctx[l.ctx].st ≠ .detaching && s.ctx[l.ctx].st ≠ .unattached) (z, l)

/-- The sheds that hold for a line of the present or the next frame. -/
def shedOf (s : State) (h : ContHead) (next : Bool) : List SlotId := if next then s.comp[h].shedNext else s.comp[h].shed

/-- The state that a line is composed in: that of its own frame. -/
def viewOf (s : State) (h : ContHead) (next : Bool) : State := if next then applyBoundary h s else s

/-! ## Where composition stands (12.9) -/

/-- The head emits pixels: it runs and its pixel clock is not gated. -/
def scanning (s : State) (h : ContHead) : Bool := started s h && !s.head[h].gated

/-- The head waits for a frame boundary with the line store filled ahead of it: its clock is gated (R72), or it has not
shown its first frame. -/
def filling (s : State) (h : ContHead) : Bool :=
  (started s h && s.head[h].gated) || s.head[h].run = .starting .firstBoundary

/-- The line being scanned; a head that waits for a boundary stands before line 0. -/
def scanPos (s : State) (h : ContHead) (cfg : HeadCfg) : Nat := if scanning s h then s.head[h].line else cfg.vtotal - 1

/-- A line that is stored, or that is to be composed, lies in the next frame. -/
def lineAhead (s : State) (h : ContHead) (cfg : HeadCfg) (y : Nat) : Bool := decide (y ≤ scanPos s h cfg)

/-- The line to compose next lies in the next frame. -/
def nextWraps (s : State) (h : ContHead) (cfg : HeadCfg) : Bool := lineAhead s h cfg s.comp[h].nextLine

/-- How many lines the line to compose lies ahead of the scan. -/
def leadOf (s : State) (h : ContHead) (cfg : HeadCfg) : Nat :=
  if nextWraps s h cfg then s.comp[h].nextLine + cfg.vtotal - scanPos s h cfg else s.comp[h].nextLine - scanPos s h cfg

/-- FRAME of the present or the next frame. -/
def frameOf (s : State) (h : ContHead) (next : Bool) : Nat := (if next then s.head[h].frame + 1 else s.head[h].frame).toNat

/-! ## Requests of a line (R279, R250, R251, R291) -/

/-- The clean on-chip tiles of a head that serve a line, with their runs and slots (R291, R298). -/
def servingTiles (s : State) (h : ContHead) (y : Nat) : List (List SlotId × Tile × Nat) :=
  (s.relief.runs[h].filter fun r => r.serves s h).flatMap fun r => r.tiles.filterMap fun t => match t.st with
    | .chip k => guardSome (t.ty = y / 64) (r.members, t, k)
    | _ => none

/-- A layer's scene without the pixels of some tiles. -/
def Scene.without (g : Scene) (tiles : List (Nat × Nat)) : Scene := { g with skip := tiles }

/-- The bursts of a layer for the visible pixels of a line. -/
def Desc.needs (d : Desc) (g : Scene) (y : Nat) : List (Nat × Nat) :=
  ((d.visible g y).flatMap fun (u, v) =>
    let (sx, sy) := d.source u v
    burstsOf 0 (d.bytesAt sx sy) ++ burstsOf 1 (d.bytesAt sx sy)).eraseDups

/-- The fetch of a layer on a line time, without what only pixels that tiles serve would use; `tiles` are those that serve
a line as far as it is known. -/
def layerFetch (d : Desc) (g : Scene) (y : Nat) (tiles : Nat → List (Nat × Nat)) : List ((Nat × Nat) × Nat × Nat) :=
  (d.lineFetch g y).filter fun (b, f, t) =>
    (List.range (t + 1 - f)).any fun i => (tiles (f + i)).isEmpty || b ∈ d.needs (g.without (tiles (f + i))) (f + i)

/-- The bursts that a line needs and that are neither fetched nor asked for: they are asked for with the line (log 116). -/
def lateFetch (s : State) (h : ContHead) (frame : Nat) (z : SlotId) (l : Layer) (base : Nat → Nat) (g : Scene) (y : Nat)
    (asked : List (Nat × Nat)) : List ((Nat × Nat) × Nat × Nat) :=
  let q := s.fetch.queue[layerQueue l.ctx h]
  let covers (f t a n x : Nat) : Bool := decide (f ≤ y ∧ y ≤ t ∧ a ≤ x ∧ x < a + n)
  let held (x : Nat) : Bool :=
    (s.comp[h].bursts.any fun b => b.slot = z && b.frame = frame && covers b.first b.last b.addr b.bytes.length x) ||
    (q.reqs ++ q.waiting ++ q.held.map fun x => x.req).any fun r => match r.kind with
      | .pixel k z' fr f t => k = h && z' = z && fr = frame && covers f t r.addr r.len x
      | _ => false
  ((l.desc.needs g y).filter fun b => b ∉ asked && !held (base b.1 + 32 * b.2)).map fun b => (b, y, y)

/-- The bytes lie in the context's partition, where they are partition bytes (R178). -/
def inExtent (v : State) (l : Layer) (a n : Nat) : Bool :=
  l.desc.relay.isSome || l.desc.boot || decide (a + n ≤ partBase v l.ctx + partBytes v l.ctx)

/-- A fetch outside the partition is not made; it is logged once per frame (R178). -/
def logExtent (h : ContHead) (z : SlotId) (l : Layer) (s : State) : State :=
  if z ∈ s.comp[h].extent then s
  else logFault 0x07 h.1 (BitVec.ofNat 32 z.1) (s.modComp h fun c => { c with extent := c.extent ++ [z] }) (some l.ctx)

/-- One request of a layer's source bytes. -/
def requestRange (h : ContHead) (frame : Nat) (z : SlotId) (l : Layer) (v : State) (x : Nat × Nat × Nat × Nat) (s : State) : State :=
  let (a, n, f, t) := x
  if inExtent v l a n then
    let s := s.modComp h fun c => { c with missing := c.missing ++ [(z, f, t)] }
    enqueue (layerQueue l.ctx h) (mkRequest s (.pixel h z frame f t) l.ctx a n) s
  else logExtent h z l s

/-- The requests of a line time of the present or the next frame enter the queues (R279), and what serves the line is
decided (R291). -/
def requestLine (h : ContHead) (y : Nat) (next : Bool) (s : State) : State :=
  let v := viewOf s h next
  match v.head[h].cfg with
  | none => s
  | some cfg =>
    let frame := frameOf s h next
    let shown := decide (y < cfg.vactive)
    let tiles := if shown then servingTiles v h y else []
    let s := s.modComp h fun c => { c with
      decided := if shown then c.decided ++ [y] else c.decided
      served := c.served ++ tiles.map fun (m, t, k) => { line := y, members := m, tx := t.tx, ty := t.ty, chip := k, bytes := tileBytes v t } }
    forEach (frameLayers v h (shedOf s h next)) (fun (z, l) s =>
      let g := layerScene v h cfg l
      let served (k : Nat) : List (Nat × Nat) := ((servingTiles v h k).filter fun p => z ∈ p.1).map fun p => (p.2.1.tx, p.2.1.ty)
      let fetch := layerFetch l.desc g y served
      let late := if shown then lateFetch s h frame z l (layerBase v l) (g.without (served y)) y (fetch.map fun x => x.1) else []
      forEach (joinBursts (layerBase v l) (fetch ++ late)) (requestRange h frame z l v) s) s

/-! ## Composition of a line -/

/-- Where a byte stands for a comparison with fetched bytes: for a relay layer, in a buffer of its stream, whichever of them
the frame shows (log 117). -/
def bytePos (v : State) (l : Layer) (a : Nat) : Nat :=
  match l.desc.relay.bind fun g => v.relay.ingest[g].cfg with
  | some c => (a - (deviceBase v + 0x08000000 + 65536 * c.unit_)) % (65536 * ceilDiv (roundUp (4 * c.w) 32 * c.h) 65536)
  | none => a

/-- A byte of a layer's plane from the bursts fetched for a line. -/
def fetchedByte (v : State) (bursts : List Burst) (z : SlotId) (l : Layer) (plane off : Nat) : Option Byte :=
  let a := bytePos v l (layerBase v l plane + off)
  (bursts.find? fun b => b.slot = z && decide (bytePos v l b.addr ≤ a ∧ a < bytePos v l b.addr + b.bytes.length)).bind fun b =>
    b.bytes[a - bytePos v l b.addr]?

/-- A layer over a pixel (R254); a pixel whose bytes were not fetched is transparent (R178). -/
def layerOver (v : State) (h : ContHead) (cfg : HeadCfg) (bursts : List Burst) (x y : Nat) (d : Px) (q : SlotId × Layer) : Px :=
  let (z, l) := q
  match l.desc.displayed (layerScene v h cfg l) x y with
  | none => d
  | some (u, w) =>
    let (sx, sy) := l.desc.source u w
    let byte := fetchedByte v bursts z l
    if (l.desc.bytesAt sx sy).all fun (p, o, n) => (List.range n).all fun i => (byte p (o + i)).isSome then
      let p := l.desc.pixel (fun p o => ((byte p o).getD 0).toNat) v.comp[h].palette[z] sx sy
      blend l.desc.premult l.desc.constAlpha p.a (l.desc.convert p) d
    else d

/-- A served pixel of a run over a pixel (R285, R292). -/
def tileOver (bytes : List Byte) (x y : Nat) (d : Px) : Px :=
  let v := leAt bytes (384 * (y % 64) + 6 * (x % 64)) 6
  if v / 2 ^ 36 % 2 = 1 then { r := v / 2 ^ 24 % 4096, g := v / 4096 % 4096, b := v % 4096 } else d

/-- What a line of the present or the next frame is composed from. -/
def lineInputs (s : State) (h : ContHead) (next : Bool) (y : Nat) : Stored :=
  let frame := frameOf s h next
  let c := s.comp[h]
  { line := y, px := [], shed := shedOf s h next
    blank := (c.blank.filter fun b => b.1 = y).flatMap fun b => b.2
    served := c.served.filter fun t => t.line = y
    bursts := c.bursts.filter fun b => b.frame = frame && decide (b.first ≤ y ∧ y ≤ b.last) }

/-- The layers of a line. -/
def lineLayers (v : State) (h : ContHead) (i : Stored) : List (SlotId × Layer) :=
  (frameLayers v h i.shed).filter fun q => q.1 ∉ i.blank

/-- One pixel of a head from background and layers in ascending slots (R11); the protected layer, above them all, joins it
as the line is emitted. -/
def composePx (v : State) (h : ContHead) (cfg : HeadCfg) (i : Stored) (x : Nat) : Px :=
  let ls := lineLayers v h i
  let tiles := i.served.filter fun t => t.tx = x / 64
  ls.foldl (fun d q =>
    match tiles.find? fun t => q.1 ∈ t.members with
    | some t => if t.members.head? = some q.1 then tileOver t.bytes x i.line d else d
    | none => layerOver v h cfg i.bursts x i.line d q) cfg.live.background

/-- A line composed from its inputs, in the state of its frame. -/
def composeFrom (s : State) (h : ContHead) (cfg : HeadCfg) (next : Bool) (i : Stored) : Stored :=
  let v := viewOf s h next
  let cfg := v.head[h].cfg.getD cfg
  { i with px := (List.range cfg.hactive).map (composePx v h cfg i) }

/-- A composed line. -/
def composeLine (s : State) (h : ContHead) (cfg : HeadCfg) (y : Nat) (next : Bool) : Stored :=
  composeFrom s h cfg next (lineInputs s h next y)

/-- The tiles that serve a layer on a line. -/
def servedAt (s : State) (h : ContHead) (z : SlotId) (y : Nat) : List (Nat × Nat) :=
  (s.comp[h].served.filter fun t => t.line = y && z ∈ t.members).map fun t => (t.tx, t.ty)

/-- The layers whose data a line waits for: source bytes, or the palette of an I8 layer that it shows. -/
def awaitedAt (s : State) (h : ContHead) (cfg : HeadCfg) (next : Bool) (y : Nat) : List (SlotId × Layer) :=
  let v := viewOf s h next
  (lineLayers v h (lineInputs s h next y)).filter fun (z, l) =>
    s.comp[h].missing.any (fun (k, f, t) => k = z && decide (f ≤ y ∧ y ≤ t)) ||
      (l.desc.format = .i8 && decide (s.comp[h].palMissing[z] ≠ 0) &&
        !(l.desc.visible ((layerScene v h cfg l).without (servedAt s h z y)) y).isEmpty)

/-- The layers whose data the next line waits for. -/
def awaited (s : State) (h : ContHead) (cfg : HeadCfg) : List (SlotId × Layer) :=
  awaitedAt s h cfg (nextWraps s h cfg) s.comp[h].nextLine

/-- A line is done with: what was held for it goes, and the slots it would have read are free (R291). -/
def passLine (h : ContHead) (cfg : HeadCfg) (next : Bool) (y : Nat) (s : State) : State :=
  let frame := frameOf s h next
  let s' := s.modComp h fun c => { c with
    nextLine := if y + 1 < cfg.vactive then y + 1 else 0
    decided := c.decided.filter fun k => k ≠ y
    bursts := c.bursts.filter fun b => if b.frame = frame then decide (y < b.last) else !next
    served := c.served.filter fun t => t.line ≠ y
    blank := c.blank.filter fun b => b.1 ≠ y }
  if s.comp[h].served.isEmpty then s' else freeSlots s'

/-- The next line enters the line store. -/
def storeLine (h : ContHead) (cfg : HeadCfg) (s : State) : State :=
  let y := s.comp[h].nextLine
  let next := nextWraps s h cfg
  let e := composeLine s h cfg y next
  passLine h cfg next y (s.modComp h fun c => { c with store := c.store ++ [e], composed := c.composed + 1 })

/-- The stored lines are composed again from what each was composed from, as the layers of its frame have become: without
those that a detach made transparent (Table 08-2, step 2), or without any before safe and discharge frames. -/
def recompose (h : ContHead) (s : State) : State :=
  match s.head[h].cfg with
  | none => s
  | some cfg => s.modComp h fun c => { c with store := c.store.map fun e => composeFrom s h cfg (lineAhead s h cfg e.line) e }

/-- A due calibration may run: memory answers, and every head that scans is in vertical blank (R203). -/
def calQualifies (s : State) : Bool :=
  memAvail s && conts.all fun h => !scanning s h || s.head[h].cfg.any fun c => decide (c.vactive ≤ s.head[h].line)

/-- A calibration runs: the due one is done, and the count of forced ones is presented (Table 24-1). -/
def calibrate (s : State) : State := sample 0x11 0 s.memc.forcedCount.toNat { s with memc := { s.memc with calDue := false } }

/-- A calibration that is due runs at the first qualifying instant (R203). -/
def tryCal (s : State) : State := if s.memc.calDue && calQualifies s then calibrate s else s

/-! ## The lines ahead of a frame boundary -/

/-- The palettes of a frame's I8 layers are requested (R239); one outside the partition is not, and its layer is transparent
(R178). -/
def loadPalettes (h : ContHead) (cfg : HeadCfg) (next : Bool) (s : State) : State :=
  let v := viewOf s h next
  let frame := frameOf s h next
  let s := s.modComp h fun c => { c with palMissing := Vector.replicate 16 0 }
  forEach (frameLayers v h (shedOf s h next)) (fun (z, l) s =>
    if l.desc.format = .i8 && !(l.desc.visibleLines (layerScene v h cfg l)).isEmpty then
      let a := layerBase v l 1
      if inExtent v l a 1024 then
        let parts := splitRange 6 a 1024
        let s := s.modComp h fun c => { c with palMissing := c.palMissing.set z parts.length, palette := c.palette.set z (List.replicate 1024 0) }
        forEach parts (fun p s => enqueue (layerQueue l.ctx h) (mkRequest s (.palette h z frame (p.1 - a)) l.ctx p.1 p.2) s) s
      else logExtent h z l (s.modComp h fun c => { c with palette := c.palette.set z [] })
    else s) s

/-- A request for source bytes or a palette of a head. -/
def ReqKind.layerOf (h : ContHead) : ReqKind → Bool
  | .pixel k .. => k = h
  | .palette k .. => k = h
  | _ => false

/-- Data that a granted read of a head's layers still brings is discarded. -/
def Request.discard (h : ContHead) (r : Request) : Request := if r.kind.layerOf h then { r with kind := .access false } else r

/-- The ungranted layer-fetch and palette requests of a head leave its queues (R233), and what granted ones bring is
discarded. -/
def dropLayerRequests (h : ContHead) (s : State) : State :=
  let s := forEach ctxs (fun n s => removeRequests (layerQueue n h) (fun r => r.kind.layerOf h) s) s
  let s := forEach ctxs (fun n s => s.modQueue (layerQueue n h) fun q => { q with
    held := q.held.map fun x => { x with req := x.req.discard h } }) s
  { s with fetch := { s.fetch with inflight := s.fetch.inflight.map fun l => l.map fun p => (p.1, p.2.discard h) } }

/-- The composition pipeline of a head is empty; its counters stay (R281), and so does what is gone. -/
def Comp.clear (c : Comp) : Comp :=
  { Comp.reset with gone := c.gone, shedCount := c.shedCount, underrun := c.underrun, wbDrop := c.wbDrop }

/-- What the first lines of the next frame would be composed from. -/
def openingOf (s : State) (h : ContHead) (cfg : HeadCfg) : Opening :=
  let v := viewOf s h true
  { layers := (frameLayers v h []).map fun (z, l) => (z, l, v.ctx[l.ctx].terrShown[headId h])
    background := (v.head[h].cfg.getD cfg).live.background }

/-- The pipeline starts anew with a frame: its palettes and the requests of its lines 0 to 3. -/
def openFrame (h : ContHead) (cfg : HeadCfg) (next : Bool) (s : State) : State :=
  let s := freeSlots ((dropLayerRequests h s).modComp h Comp.clear)
  forEach (List.range 4) (fun y s => requestLine h y next s) (loadPalettes h cfg next s)

/-- The next lines that wait for no data are composed, three at most. -/
def composeReady (h : ContHead) (cfg : HeadCfg) : Nat → State → State
  | 0, s => s
  | n + 1, s => if (awaited s h cfg).isEmpty && decide (leadOf s h cfg ≤ 3) then composeReady h cfg n (storeLine h cfg s) else s

/-- The line store of a head that waits for a boundary is filled with the lines of the frame that will begin there (R72,
R343, log 36). -/
def fillStore (h : ContHead) (s : State) : State :=
  match s.head[h].cfg with
  | none => s
  | some cfg => (openFrame h cfg true s).modComp h fun c => { c with opening := some (openingOf s h cfg) }

/-- LINE_COMPOSED: the composition of the next line completes (R279). While a head waits for a boundary, a change of what
will apply there starts its lines anew. -/
def execLineComposed (h : ContHead) (s : State) : Host.Outcome State Fault Refusal :=
  match s.head[h].cfg with
  | none => .next s
  | some cfg =>
    if filling s h && s.comp[h].opening ≠ some (openingOf s h cfg) then .next (fillStore h s)
    else if !(scanning s h || filling s h) || decide (3 < leadOf s h cfg) || !(awaited s h cfg).isEmpty then .next s
    else .next (storeLine h cfg s)

/-! ## Shedding (12.9) -/

/-- Slots are shed: each counts, the first of a frame raises the shed source (R30, R281). -/
def shedSlots (h : ContHead) (zs : List SlotId) (next : Bool) (s : State) : State :=
  let zs := zs.filter fun z => z ∉ shedOf s h next
  if zs.isEmpty then s
  else
    let first := (shedOf s h next).isEmpty
    let s := s.modComp h fun c => { c with
      shed := if next then c.shed else c.shed ++ zs
      shedNext := if next then c.shedNext ++ zs else c.shedNext
      missing := c.missing.filter fun m => m.1 ∉ zs
      shedCount := zs.foldl (fun n _ => satInc n) c.shedCount }
    let s := { s with faults := { s.faults with seen := { s.faults.seen with shed := true } } }
    if first then raiseHead h 3 s else s

/-- A layer is shed, and with a member its whole run (R296; so too where R31 or R239 sheds the member, DESIGN CHOICE, log
118). -/
def shedWithRun (h : ContHead) (z : SlotId) (next : Bool) (v s : State) : State :=
  match v.relief.runs[h].find? fun r => z ∈ r.members with
  | some r => shedSlots h r.members next s
  | none => shedSlots h [z] next s

/-- An awaited layer whose palette is not complete as its first visible line is reached (R239, log 114). -/
def latePalette (s : State) (h : ContHead) (cfg : HeadCfg) : Option SlotId :=
  let v := viewOf s h (nextWraps s h cfg)
  ((awaited s h cfg).find? fun (z, l) => l.desc.format = .i8 && decide (s.comp[h].palMissing[z] ≠ 0) &&
    (l.desc.visibleLines (layerScene v h cfg l)).head? = some s.comp[h].nextLine).map fun q => q.1

/-- The layer to shed: one whose palette is late, else the lowest-ranked candidate of R280. -/
def shedChoice (s : State) (h : ContHead) (cfg : HeadCfg) : Option SlotId :=
  let v := viewOf s h (nextWraps s h cfg)
  let y := s.comp[h].nextLine
  let cand := (lineLayers v h (lineInputs s h (nextWraps s h cfg) y)).filter fun (_, l) =>
    (l.desc.visibleLines (layerScene v h cfg l)).any fun k => decide (y ≤ k)
  (latePalette s h cfg).orElse fun _ =>
    (cand.foldl (fun (b : Option (SlotId × Layer)) q => match b with
      | none => some q
      | some p => if q.2.desc.shedRank < p.2.desc.shedRank then some q else b) none).map fun p => p.1

/-- SHED: the lead is below one line and the line being composed waits for data (R280). -/
def execShed (h : ContHead) (s : State) : Host.Outcome State Fault Refusal :=
  match s.head[h].cfg with
  | none => .next s
  | some cfg =>
    if !scanning s h || decide (2 < leadOf s h cfg) || (awaited s h cfg).isEmpty then .next s
    else match shedChoice s h cfg with
      | none => .next s
      | some z => .next (shedWithRun h z (nextWraps s h cfg) (viewOf s h (nextWraps s h cfg)) s)

/-! ## Writeback (15.7) -/

/-- Where a head's writeback buffer starts in memory (R337). -/
def wbBase (s : State) (h : ContHead) (k : Fin 2) : Nat := deviceBase s + h.1 * 0x04000000 + k.1 * 0x02000000

/-- A pixel of depth n as an XRGB8888 component (R336). -/
def wbComp (n v : Nat) : Nat := if n = 6 then v * 4 + v / 16 else if n = 10 then v / 4 else v

def wbPixel (n : Nat) (p : Px) : List Byte := toLe 4 (wbComp n p.b + 256 * wbComp n p.g + 65536 * wbComp n p.r)

/-- The frame record (Table 15-6). -/
def wbRecord (s : State) (h : ContHead) (cfg : HeadCfg) (state : Nat) : List Byte :=
  toLe 4 s.head[h].wb.frame.toNat ++ toLe 1 state ++ toLe 1 (if s.prot[h].safeShowing then 1 else 0) ++ toLe 2 0
    ++ toLe 8 s.head[h].frameTime.toNat ++ toLe 2 cfg.hactive ++ toLe 2 cfg.vactive ++ toLe 1 cfg.live.depth.1 ++ toLe 11 0

/-- Writeback's bytes go to memory through queue_129 (R337). -/
def wbWrite (a : Nat) (b : List Byte) (s : State) : State :=
  if memAvail s then access 129 true 0 a b.length (s.write a b) else s

/-- The record of the frame being written takes a state. -/
def writeRecord (h : ContHead) (state : Nat) (s : State) : State :=
  match s.head[h].cfg, s.head[h].wb.writing with
  | some cfg, some k => wbWrite (wbBase s h k + 0x01FFFFE0) (wbRecord s h cfg state) s
  | _, _ => s

/-- A relay stream or a Caliper scan reads the buffer (R14). -/
def wbRead (s : State) (h : ContHead) (k : Fin 2) : Bool :=
  let lo := wbBase s h k
  ((List.finRange 16).any fun i => match s.relay.stream[i].sending with
    | some f => f.buffer = k && decide (h.1 = if f.cfg.headB then 1 else 0)
    | none => false) ||
  cals.any fun u => match s.cal[u].op with
    | some { op := .memory base start rows len stride, .. } =>
      decide (base + start < lo + 0x02000000 ∧ lo < base + start + (rows - 1) * stride + len)
    | _ => false

/-- One writeback drop (R14, R73). -/
def wbDropOne (h : ContHead) (s : State) : State := raiseHead h 10 (s.modComp h fun c => { c with wbDrop := satInc c.wbDrop })

/-- A frame's writeback begins at its boundary, unless its buffer is being read (R14, R337). -/
def beginWriteback (h : ContHead) (s : State) : State :=
  match s.head[h].cfg with
  | none => s
  | some cfg =>
    let s := s.modHead h fun x => { x with wb := { x.wb with writing := none, rows := 0 } }
    if !cfg.live.wbEn || !memAvail s then s
    else
      let k : Fin 2 := match s.head[h].wb.last with | some j => 1 - j | none => 0
      if wbRead s h k then wbDropOne h s
      else writeRecord h 0 (s.modHead h fun x => { x with wb := { x.wb with writing := some k, frame := x.frame } })

/-- A row of the frame is written. -/
def writeRow (h : ContHead) (cfg : HeadCfg) (y : Nat) (px : List Px) (s : State) : State :=
  match s.head[h].wb.writing with
  | none => s
  | some k =>
    if s.head[h].wb.rows ≠ y then s
    else
      let row := px.flatMap (wbPixel (depthBits cfg.live.depth))
      (wbWrite (wbBase s h k + 15360 * y) row s).modHead h fun x => { x with wb := { x.wb with rows := y + 1 } }

/-- The frame in progress is abandoned (R73, R343). -/
def abandonWriteback (h : ContHead) (s : State) : State :=
  if s.head[h].wb.writing.isNone then s
  else (writeRecord h 2 s).modHead h fun x => { x with wb := { x.wb with writing := none, rows := 0 } }

/-- WRITEBACK_ABANDON: the writeback queue is full when a pixel must enter it (R73). -/
def execWritebackAbandon (h : ContHead) (s : State) : Host.Outcome State Fault Refusal :=
  if s.head[h].wb.writing.isNone then .next s else .next (wbDropOne h (abandonWriteback h s))

/-! ## Scanning a line -/

/-- The palette of an I8 layer has not come when its first visible line is reached: it is shed (R239). -/
def shedLatePalettes (h : ContHead) (cfg : HeadCfg) (y : Nat) (s : State) : State :=
  forEach (frameLayers s h s.comp[h].shed) (fun (z, l) s =>
    if l.desc.format = .i8 && decide (s.comp[h].palMissing[z] ≠ 0) && (l.desc.visibleLines (layerScene s h cfg l)).head? = some y then
      shedWithRun h z false s s
    else s) s

/-- The pixels at the start of a line that are composed when its scan begins before its composition is complete (R32): none
unless it is the line in composition, and none from the first pixel on whose data is missing. -/
def partLine (s : State) (h : ContHead) (cfg : HeadCfg) (y : Nat) : List Px :=
  let waits := awaitedAt s h cfg false y
  let shows (x : Nat) (q : SlotId × Layer) : Bool :=
    (q.2.desc.displayed ((layerScene s h cfg q.2).without (servedAt s h q.1 y)) x y).isSome
  if s.comp[h].nextLine ≠ y then []
  else
    let k := Nat.min (Config.pixelsReady s.free) cfg.hactive
    ((List.range k).takeWhile fun x => !waits.any (shows x)).map (composePx s h cfg (lineInputs s h false y))

/-- The scan of an active line: the stored line, or on an underrun what is composed of it and then the background (R32),
below the protected layer; the taps; the dither stage and writeback. -/
def scanLine (h : ContHead) (cfg : HeadCfg) (y : Nat) (s : State) : State :=
  let (px, s) := match s.comp[h].store.find? fun e => e.line = y with
    | some e => (e.px, s.modComp h fun c => { c with store := c.store.filter fun e => e.line ≠ y })
    | none =>
      let px := partLine s h cfg y
      let px := px ++ List.replicate (cfg.hactive - px.length) cfg.live.background
      let s := passLine h cfg false y (bumpFree (s.modComp h fun c => { c with underrun := satInc c.underrun }))
      (px, raiseHead h 4 (logFault 0x01 h.1 (BitVec.ofNat 32 y) s))
  let px := (List.range px.length).zipWith (fun x p => protOver s.prot[h] x y p) px
  let tap := px.map (tapPx cfg.live)
  let s := tapFeed h y ((List.range tap.length).zipWith (fun x p => tapRecord p x y) tap) (protFeed h y tap s)
  let link := (List.range tap.length).zipWith (fun x p =>
    if blackFrame s h then { r := 0, g := 0, b := 0 } else linkPx cfg.live x y s.head[h].frame.toNat p) tap
  writeRow h cfg y link s

/-- The lowest line lead of the line that ends where line `y` begins, in 1/256 line (R279, Table 24-1): a line that was
completed in it raised the lead (log 76). -/
def lowestLead (s : State) (h : ContHead) (cfg : HeadCfg) (y : Nat) : Nat :=
  let ahead := (s.comp[h].nextLine + cfg.vtotal - y) % cfg.vtotal
  Nat.min 1024 (256 * (ahead - 1) - Config.lineLead s.free % (256 * s.comp[h].composed + 1))

/-- What happens at the start of a line of a running head: the events, the scan, and the requests of the line four
further on (R279). -/
def lineWork (h : ContHead) (cfg : HeadCfg) (y : Nat) (s : State) : State :=
  let s := s.modHead h fun x => { x with line := y }
  let s := if y = cfg.live.lineEvt then raiseHead h 2 s else s
  let s := (bumpFree (sample 0x08 h.1 (lowestLead s h cfg y) s)).modComp h fun c => { c with composed := 0 }
  let s := if y < cfg.vactive then scanLine h cfg y (shedLatePalettes h cfg y s) else s
  let t := y + 4
  if t < cfg.vtotal then requestLine h t (decide (cfg.vactive ≤ t)) s else requestLine h (t - cfg.vtotal) true s

/-- LINE_START: the next line of the frame begins; line 0 begins at the frame boundary. -/
def execLineStart (h : ContHead) (s : State) : Host.Outcome State Fault Refusal :=
  match s.head[h].cfg with
  | none => .next s
  | some cfg =>
    let y := s.head[h].line + 1
    if scanning s h && decide (y < cfg.vtotal) then .next (lineWork h cfg y s) else .next s

/-- VERTICAL_BLANK: the first pixel of line VACTIVE (R239, R325, R328). -/
def execVerticalBlank (h : ContHead) (s : State) : Host.Outcome State Fault Refusal :=
  match s.head[h].cfg with
  | none => .next s
  | some cfg =>
    if scanning s h && s.head[h].line = cfg.vactive then
      .next (tryCal (loadPalettes h cfg true (sendMsa h (((viewOf s h true).head[h].cfg).getD cfg) (raiseHead h 1 s))))
    else .next s

/-- PROTECTED_CHECK: the tap has passed the last line of the rectangle; once in a frame (R312, R313, R316). The lines that
are stored ahead for safe frames are composed without the layers (R315). -/
def execProtectedCheck (h : ContHead) (s : State) : Host.Outcome State Fault Refusal :=
  let p := s.prot[h]
  match p.live with
  | none => .next s
  | some i =>
    if !scanning s h || p.checked || decide (s.head[h].line + 1 < p.y + i.h) then .next s
    else
      let v := crcFin p.acc.toNat
      let ok := v = p.expected.toNat && p.badWords.isEmpty
      let s := s.modProt h fun p => { p with checked := true }
      let s := s.modCal 3 fun u => { u with feed := BitVec.ofNat 3 (2 + h.1), value := BitVec.ofNat 64 v, match_ := ok }
      .next (if ok then s else recompose h (mismatch h s))

end Sys2Proof.Machine
end

