-- ==== Sys2Proof/Machine/Panel.lean ====
section
/-! DEFINITION. Stopping a head (R334), and panel power, clearing and discharge (chapter 16): the sequence table, the
panel states, the steps of a sequence, the backlight program and reversal. -/
namespace Sys2Proof.Machine

/-! ## The head stops (R334) -/

/-- The effects that wait for a boundary of a head that has stopped come at once, and what applied commits wait for
the next HEAD_START (R275). -/
def settleStopped (h : ContHead) (s : State) : State :=
  let s := s.modHead h fun x => match x.next.getLast? with
    | some (l, _) => { x with next := [], cfg := x.cfg.map fun c => { c with live := l } }
    | none => x
  let s := removeGone h s
  let s := forEach ctxs (fun n s =>
    let s := match (s.ctx[n].terrNext[headId h]).getLast? with
      | some (_, t) => s.modCtx n fun c => { c with
          terrShown := c.terrShown.set (headId h) t, terrNext := c.terrNext.set (headId h) [] }
      | none => s
    match s.fetch.queue[layerQueue n h].polNext with
    | some p => setPolicer (layerQueue n h) p s
    | none => recomputeDs (layerQueue n h) s) s
  protBoundary h true { s with commits := s.commits.map fun p => { p with
    parts := p.parts.map fun x => if x.head = headId h then { x with boundary := none } else x } }

/-- Every row of the frame has been written back. -/
def allRows (s : State) (h : ContHead) : Bool := s.head[h].cfg.any fun c => decide (c.vactive ≤ s.head[h].wb.rows)

/-- The timing generator of a head stops: its link and synthesizer are disconnected, its tap scans and writeback end,
its runs are dropped, and a HEAD_STOP that waits completes (R334). -/
def haltHead (h : ContHead) (s : State) : State :=
  if s.head[h].run = .stopped then s
  else
    let s := tapCut h (if allRows s h then s else abandonWriteback h s)
    let s := s.modHead h fun x => { x with
      run := .stopped, frames := .normal, line := 0, gated := false, link := false, training := false
      pll := false, edp := { x.edp with stream := false }, gl := GenlockState.reset }
    let s := s.modSyn (headSyn h) fun x => { x with connected := false, x := (x.cfg.map fun c => (c.period.toNat : Int)).getD 0 }
    let s := (dropLayerRequests h s).modComp h Comp.clear
    let s := dropRuns h (settleStopped h s)
    let s := tryCal (raiseHead h 15 s)
    match windowIn s (fun p => p = .headStop h) with
    | some w => if s.panel[h].run.any fun r => r.byWindow = some w then s else finishGen w 0 0 s
    | none => s

/-! ## The sequence table (16.2) -/

def SeqOp.ofCode : Nat → Option SeqOp
  | 1 => some .assert
  | 2 => some .deassert
  | 3 => some .waitPin
  | 4 => some .delay
  | 5 => some .frames
  | 6 => some .pwmStart
  | 7 => some .pwmStop
  | _ => none

/-- TARGET: VDD_EN, BL_EN or a GPIO. -/
def targetOk (t : Nat) : Bool := decide (t = 0 ∨ t = 1 ∨ (16 ≤ t ∧ t ≤ 31))

/-- A step of 8 bytes (Table 16-2), none where a field is out of range. -/
def parseStep (b : List Byte) : Option SeqStep :=
  match SeqOp.ofCode (byteAt b 0) with
  | none => none
  | some op =>
    let t := byteAt b 1
    let pin := op = .assert || op = .deassert || op = .waitPin
    let ok := (if pin then targetOk t else t = 0) && (if op = .waitPin then decide (byteAt b 2 ≤ 1) else zeroAt b 2 1) && zeroAt b 3 1
      && (if op = .waitPin then !zeroAt b 6 2 else zeroAt b 6 2)
    guardSome ok { op := op, target := t, level := byteAt b 2 = 1, delay := leAt b 4 2, timeout := leAt b 6 2 }

/-- Consecutive steps; none where one of them is invalid. -/
def parseSteps (b : List Byte) : Nat → Option (List SeqStep)
  | 0 => some []
  | n + 1 => match parseStep b, parseSteps (b.drop 8) n with
    | some x, some l => some (x :: l)
    | _, _ => none

/-- BL_EN, PWM_START and PWM_STOP (16.2). -/
def SeqStep.backlight (x : SeqStep) : Bool :=
  x.op = .pwmStart || x.op = .pwmStop || ((x.op = .assert || x.op = .deassert) && x.target = 1)

/-- The first and the second phase of a sequence. -/
def phase1 (l : List SeqStep) : List SeqStep := l.takeWhile fun x => x.op ≠ .frames
def phase2 (l : List SeqStep) : List SeqStep := l.dropWhile fun x => x.op ≠ .frames

/-- A sequence table (Tables 16-1 and 16-2), none where it breaks R349; `other` is the backlight channel of the other
head. -/
def parsePanelTable (b : List Byte) (other : Option TimerId) : Option PanelTable :=
  let nOn := byteAt b 1
  let nOff := byteAt b 2
  let kind := byteAt b 6
  let period := leAt b 0x10 4
  match parseSteps (b.drop 0x20) nOn, parseSteps (b.drop (0x20 + 8 * nOn)) nOff with
  | some on, some off =>
    let one (l : List SeqStep) : Bool := (l.filter fun x => x.op = .frames).length = 1
    let gate := byteAt b 7
    let ok := byteAt b 0 = 1 && decide (1 ≤ nOn ∧ nOn ≤ 16 ∧ 1 ≤ nOff ∧ nOff ≤ 16) && decide (byteAt b 3 < 8) && decide (kind ≤ 2)
      && (if kind = 2 then decide (gate ≤ 15) else gate = 0) && decide (byteAt b 8 ≤ 11) && zeroAt b 9 3 && zeroAt b 0xF 1
      && decide (2 ≤ period) && decide (leAt b 0x14 4 ≤ period) && zeroAt b 0x18 8 && one on && one off
      && !((phase1 on).any SeqStep.backlight)
      && !(kind = 2 && (on ++ off).any fun x => x.op = .waitPin && x.target = 16 + gate)
      && !(other.any fun t => t.1 = byteAt b 8)
    guardSome ok {
      polVdd := byteAt b 3 % 2 = 1, polBl := byteAt b 3 / 2 % 2 = 1, polPwm := byteAt b 3 / 4 % 2 = 1
      clearFrames := byteAt b 4, dischargeFrames := byteAt b 5, dischargeKind := kind
      gateGpio := ⟨gate % 16, Nat.mod_lt _ (by decide)⟩, blChannel := ⟨byteAt b 8 % 16, Nat.mod_lt _ (by decide)⟩
      pwmPrescale := BitVec.ofNat 32 (leAt b 0xC 4), pwmPeriod := BitVec.ofNat 32 period
      pwmInit := BitVec.ofNat 32 (leAt b 0x14 4), on := on, off := off }
  | _, _ => none

/-! ## Pins and the backlight program -/

/-- The level of a pin driven at or away from its active level. -/
def drive (pol active : Bool) : PinDrive := if pol = active then .high else .low

/-- Drive a TARGET at its active or inactive level (R345, R346, Table 16-3). -/
def driveTarget (h : ContHead) (t : PanelTable) (target : Nat) (active : Bool) (s : State) : State :=
  if target = 0 then s.modPanel h fun p => { p with vddEn := drive t.polVdd active }
  else if target = 1 then s.modPanel h fun p => { p with blEn := drive t.polBl active }
  else if hh : 16 ≤ target ∧ target < 32 then
    { s with pins := { s.pins with gpio := s.pins.gpio.set (target - 16) (drive true active) (by omega) } }
  else s

/-- PWM_START (R354). -/
def pwmStart (h : ContHead) (t : PanelTable) (s : State) : State :=
  let s := s.modPanel h fun p => { p with backlight := some t.blChannel, blPwm := drive t.polPwm true }
  s.modTimer t.blChannel fun x =>
    let y := { ({ x with count := 0 }).writePrescale t.pwmPrescale with
      period := t.pwmPeriod, cmpA := t.pwmInit, heldPeriod := none, heldA := none, heldB := none
      mode := 2, clk := 0, preload := true, outInit := t.polPwm
      aUp := if t.polPwm then 2 else 1, aDown := if t.polPwm then 1 else 2
      bUp := 0, bDown := 0, ovf := 0, unf := 0
      eff := some (effOf s t.blChannel t.pwmPeriod t.pwmInit) }
    y.start

/-- The backlight program stops; BL_PWM_x is driven inactive. -/
def pwmStop (h : ContHead) (pol : Bool) (s : State) : State :=
  match s.panel[h].backlight with
  | none => s.modPanel h fun p => { p with blPwm := drive pol false }
  | some t =>
    let s := s.modPanel h fun p => { p with backlight := none, blPwm := drive pol false }
    s.modTimer t fun x => { x.stop with eff := none }

/-! ## Commands without a window (R538, R561) -/

/-- The command without a window that runs on a head. -/
def autoRuns (s : State) (h : ContHead) (start : Bool) : Option Auto :=
  match s.port.auto with
  | a :: _ => guardSome (a.head = h && a.start = start && a.phase = .running) a
  | [] => none

/-- The first command without a window ends: what it holds is released, a code other than OK writes AUTO_CMD, and an
OK of a wake counts in the device generation (R141; the boot loader's do not, R549). -/
def dropAuto (a : Auto) (code : Code) (s : State) : State :=
  let n := s.port.nextWait
  let rest := match s.port.auto.drop 1 with
    | b :: l => { b with since := n } :: l
    | [] => []
  let s := releaseHolder (.headSeq a.head) { s with port := { s.port with auto := rest, nextWait := n + 1 } }
  if code = .ok then (if a.wake then bumpDevice s else s)
  else logFault 0x27 a.head.1 (put (if a.start then 0x21 else 0x23) 0 8 ||| put code.ctorIdx 8 8 ||| putB a.wake 16) s

/-- The command without a window that runs on a head ends. -/
def autoDone (h : ContHead) (start : Bool) (code : Code) (s : State) : State :=
  match autoRuns s h start with
  | some a => dropAuto a code s
  | none => s

/-! ## The steps of a sequence -/

/-- A sequence fails (R361, R362): its pins are deasserted in reverse order, the backlight program is stopped, and
PANEL_SEQ is written. The reversal is one step of the model (log 37). -/
def failSequence (h : ContHead) (r : PanelRun) (s : State) : State :=
  match s.panel[h].table with
  | none => s
  | some t =>
    let second := !r.powerOff && r.byWindow.isNone && !r.auto
    let pins := r.asserted ++ (if second then s.panel[h].firstAsserted else [])
    let s := forEach pins (fun p s => driveTarget h t p false s) s
    let s := if r.pwmStarted then pwmStop h t.polPwm s else s
    let s := logFault 0x20 h.1 (BitVec.ofNat 32 (r.stepNo + if r.powerOff then 256 else 0)) s
    let s := s.modPanel h fun p => { p with
      run := none, armed := none, firstAsserted := [], st := if r.powerOff then .discharged else .off }
    match r.byWindow with
    | some w => finish0 w .timeout s
    | none => if r.auto then autoDone h false .timeout s else s

/-- The end of a sequence: the panel state, an armed second phase, and the PANEL_POWER that ran it. -/
def endSequence (h : ContHead) (r : PanelRun) (s : State) : State :=
  let s := s.modPanel h fun p => { p with
    run := none, st := r.final
    armed := if r.arm then p.table else none
    firstAsserted := if r.arm then r.asserted else [] }
  match r.byWindow with
  | some w => finishGen w 0 0 s
  | none => if r.auto then autoDone h false .ok s else s

/-- The next step of the sequence is taken (R348): FRAMES steps are left out where the run skips them. -/
def nextStep (h : ContHead) : Nat → PanelRun → State → State
  | 0, _, s => s
  | k + 1, r, s =>
    match r.steps, s.panel[h].table with
    | [], _ => endSequence h r s
    | _, none => s
    | x :: rest, some t =>
      let r := { r with steps := rest, stepNo := r.stepNo + 1 }
      let go (r : PanelRun) (s : State) : State := s.modPanel h fun p => { p with run := some r }
      match x.op with
      | .assert => go { r with wait := .delay, asserted := x.target :: r.asserted } (driveTarget h t x.target true s)
      | .deassert => go { r with wait := .delay } (driveTarget h t x.target false s)
      | .waitPin => go { r with wait := .pin } s
      | .delay => go { r with wait := .delay } s
      | .pwmStop => go { r with wait := .delay } (pwmStop h t.polPwm s)
      | .pwmStart =>
        if s.timer[t.blChannel].owner ≠ 0 then failSequence h r s
        else go { r with wait := .delay, pwmStarted := true } (pwmStart h t s)
      | .frames =>
        if r.skipFrames then nextStep h k r s
        else if r.powerOff then
          if scanning s h then
            go { r with wait := .frames }
              (recompose h (s.modHead h fun y => { y with frames := .discharge t.dischargeKind (t.dischargeFrames + 1) false }))
          else
            let s := logFault 0x21 h.1 0 s
            nextStep h k r (if r.stopAfter then haltHead h s else s)
        else if t.clearFrames = 0 then go { r with wait := .delay } s
        else go { r with wait := .frames } (recompose h (s.modHead h fun y => { y with frames := .clear t.clearFrames false }))

/-- A sequence starts with the given steps. -/
def startSequence (h : ContHead) (t : PanelTable) (r : PanelRun) (s : State) : State :=
  nextStep h 40 r (s.modPanel h fun p => { p with table := some t })

/-- A run at its first step. -/
def PanelRun.fresh (powerOff : Bool) (steps : List SeqStep) (stepNo : Nat) (final : PanelState) (w : Option WinId) : PanelRun where
  powerOff := powerOff
  steps := steps
  stepNo := stepNo
  wait := .delay
  skipFrames := false
  final := final
  arm := false
  stopAfter := false
  asserted := []
  pwmStarted := false
  byWindow := w
  auto := false

/-- PANEL_SEQUENCE_STEP: a step's DELAY ends (R348). -/
def execPanelSequenceStep (h : ContHead) (s : State) : Host.Outcome State Fault Refusal :=
  match s.panel[h].run with
  | some r => .next (if r.wait = .delay then nextStep h 40 r s else s)
  | none => .next s

/-- WAIT_PIN_LEVEL: the awaited pin is at its level, and the step's DELAY begins. -/
def execWaitPinLevel (h : ContHead) (s : State) : Host.Outcome State Fault Refusal :=
  match s.panel[h].run with
  | some r => .next (if r.wait = .pin then s.modPanel h fun p => { p with run := some { r with wait := .delay } } else s)
  | none => .next s

/-- WAIT_PIN_TIMEOUT: the awaited pin did not reach its level in time (R361, R362). -/
def execWaitPinTimeout (h : ContHead) (s : State) : Host.Outcome State Fault Refusal :=
  match s.panel[h].run with
  | some r => .next (if r.wait = .pin then failSequence h r s else s)
  | none => .next s

/-- At a frame boundary the GATE pin of kind 2 follows the discharge frames (R359). -/
def gatePin (h : ContHead) (before after : FrameShow) (s : State) : State :=
  match s.panel[h].table with
  | none => s
  | some t => match before, after with
    | .discharge 2 _ _, .normal => driveTarget h t (16 + t.gateGpio.1) false s
    | _, .discharge 2 _ true => driveTarget h t (16 + t.gateGpio.1) true s
    | _, _ => s

/-- The FRAMES step of the running sequence is done: its DELAY begins. -/
def framesDone (h : ContHead) (s : State) : State :=
  match s.panel[h].run with
  | some r => if r.wait = .frames then s.modPanel h fun p => { p with run := some { r with wait := .delay } } else s
  | none => s

/-- The head stops while a sequence waits for its frames: the FRAMES step of a power-off is skipped (R334). -/
def framesCut (h : ContHead) (s : State) : State :=
  match s.panel[h].run with
  | some r =>
    if r.wait = .frames then
      let s := s.modPanel h fun p => { p with run := some { r with wait := .delay } }
      if r.powerOff then logFault 0x21 h.1 0 s else s
    else s
  | none => s

/-- The head sequencer runs the armed second phase after the first boundary (R351). -/
def runSecondPhase (h : ContHead) (s : State) : State :=
  match s.panel[h].armed with
  | none => s
  | some t =>
    startSequence h t (PanelRun.fresh false (phase2 t.on) (phase1 t.on).length .on none) (s.modPanel h fun p => { p with armed := none })

/-- One backlight step undone (R351). -/
def undoStep (h : ContHead) (t : PanelTable) (x : SeqStep) (s : State) : State :=
  match x.op with
  | .assert => if x.target = 1 then driveTarget h t 1 false s else s
  | .deassert => if x.target = 1 then driveTarget h t 1 true s else s
  | .pwmStart => pwmStop h t.polPwm s
  | .pwmStop => pwmStart h t s
  | _ => s

/-- A second phase that the head sequencer runs ends where it stands and is armed again (R351). -/
def endSecondPhase (h : ContHead) (s : State) : State :=
  match s.panel[h].run, s.panel[h].table with
  | some r, some t =>
    if r.powerOff || r.byWindow.isSome || r.auto then s
    else
      let taken := (t.on.take r.stepNo).drop (phase1 t.on).length
      let s := forEach taken.reverse (fun x s => undoStep h t x s) s
      (s.modHead h fun x => { x with frames := .normal }).modPanel h fun p => { p with run := none, st := .powered, armed := some t }
  | _, _ => s

/-- RESET_CTL reset of the head (R352): no sequence runs. -/
def resetPanel (h : ContHead) (s : State) : State :=
  let w := s.panel[h].run.bind fun r => r.byWindow
  let auto := s.panel[h].run.any fun r => r.auto
  let s := match s.panel[h].table with
    | some t => driveTarget h t 1 false (pwmStop h t.polPwm s)
    | none => s
  let s := s.modPanel h fun p => { p with
    run := none, st := if p.st = .on ∨ p.st = .discharged then .powered else p.st }
  match w with
  | some w => finish0 w .aborted s
  | none => if auto then autoDone h false .aborted s else s

/-! ## PANEL_POWER -/

/-- The bytes of the sequence table that PANEL_POWER names. -/
def tableLen (s : State) (a : Cmd) : Nat :=
  let hd := readPart s 0 (woff a.a1) 3
  32 + 8 * (byteAt hd 1 + byteAt hd 2)

/-- The other head. -/
def otherHead (h : ContHead) : ContHead := if h = 0 then 1 else 0

/-- The table of a PANEL_POWER: from the caller's partition, or from the boot image. -/
def panelTable (s : State) (h : ContHead) (a : Cmd) : Option PanelTable :=
  if a.a0.getLsbD 17 then s.panel[h].boot
  else parsePanelTable (readPart s 0 (woff a.a1) (tableLen s a)) s.panel[otherHead h].backlight

/-- Steps 1 to 7 of R135 for PANEL_POWER: of the table's extent, that of its header. -/
def panelSteps (w : WinId) (c : CtxId) (h : ContHead) (a : Cmd) (s : State) : Option Verdict :=
  let boot := a.a0.getLsbD 17
  firstFail [
    (!supervisor c, .denied),
    (!argBits a 0x30300 wholeWord 0 0, .badArg),
    (!boot && !inPart s 0 (woff a.a1) 32, .outOfPartition),
    (!a.a0.getLsbD 16 && protLocked s h, .locked),
    (!boot && !cmdMem s w, .noResource)]

/-- The header of the table is read, and then the table (R137, R349). -/
def checkPanelPower (w : WinId) (c : CtxId) (a : Cmd) (s : State) : Option Verdict :=
  match argCont a.a0 with
  | none => firstFail [(!supervisor c, .denied), (true, .badArg)]
  | some h =>
    let boot := a.a0.getLsbD 17
    let off := woff a.a1
    orElse [
      panelSteps w c h a s,
      if boot then none else orElse [
        badBlock s 0 off 32,
        firstFail [(!inPart s 0 off (tableLen s a), .outOfPartition)],
        badBlock s 0 off (tableLen s a)],
      match panelTable s h a with
        | none => fail (if boot then .noResource else .badArg)
        | some t => firstFail [
            (s.panel[otherHead h].backlight = some t.blChannel, .badArg),
            (t.on.any (fun x => x.op = .pwmStart) && s.timer[t.blChannel].owner ≠ 0, .busy)]]

/-- What PANEL_POWER reads through queue_135. -/
def readsPanelPower (w : WinId) (c : CtxId) (a : Cmd) (s : State) : List (QueueId × Nat × Nat) :=
  match argCont a.a0 with
  | none => []
  | some h =>
    let off := woff a.a1
    if a.a0.getLsbD 17 || (panelSteps w c h a s).isSome then []
    else if badPart s 0 off 32 || !inPart s 0 off (tableLen s a) then [(135, partBase s 0 + off, 32)]
    else [(135, partBase s 0 + off, tableLen s a)]

/-- The head's domain is powered for a sequence (R147). -/
def powerHead (h : ContHead) (s : State) : State := setPd (headPd h) true s

/-- PANEL_POWER's action by the panel state (Table 16-4). -/
def actPanelPower (w : WinId) (_ : CtxId) (a : Cmd) (s : State) : State :=
  match argCont a.a0 with
  | none => s
  | some h => match panelTable s h a with
    | none => s
    | some t =>
      let p := s.panel[h]
      let run (r : PanelRun) (s : State) : State := startSequence h t r (setPhase w (.panel h) (powerHead h s))
      if a.a0.getLsbD 16 then
        match p.st with
        | .off =>
          if started s h then run (PanelRun.fresh false t.on 0 .on (some w)) s
          else run { PanelRun.fresh false (phase1 t.on) 0 .powered (some w) with arm := true } s
        | .powered | .on => finish0 w .ok s
        | .discharged => finishGen w 0 0 (s.modPanel h fun p => { p with st := .powered, table := some t, armed := some t })
      else
        match p.st with
        | .off => finish0 w .ok s
        | .powered => run { PanelRun.fresh true t.off 0 .off (some w) with skipFrames := true } (endSecondPhase h s)
        | .on =>
          if started s h then run { PanelRun.fresh true t.off 0 .off (some w) with stopAfter := true } s
          else run { PanelRun.fresh true t.off 0 .off (some w) with skipFrames := true } (logFault 0x21 h.1 0 s)
        | .discharged =>
          run { PanelRun.fresh true (phase2 t.off) (phase1 t.off).length .off (some w) with skipFrames := true } s

def opPanelPower : Opcode where
  check := checkPanelPower
  needs := fun _ _ _ => [.power]
  act := actPanelPower
  reads := readsPanelPower

/-- PANEL_POWER (0x23). -/
def execPanelPower (w : WinId) (c : Cmd) (s : State) : Host.Outcome State Fault Refusal :=
  .next (portRow w 0x23 c opPanelPower.run s)

end Sys2Proof.Machine
end

