-- ==== Sys2Proof/Machine/Genlock.lean ====
section
/-! DEFINITION. Genlock (15.8): reference events and the correction of each frame. Times are in ns on a clock that
reads 1000 × Drone time, so that a frame boundary is placed to 1 µs (log 38). -/
namespace Sys2Proof.Machine

/-- The time of the present instant in ns. -/
def nowNs (s : State) : Int := 1000 * s.drone.time.toNat

/-- A reference event of a head (R338). -/
def refEvent (h : ContHead) (t : Int) (s : State) : State :=
  s.modHead h fun x => { x with gl := { x.gl with
    lastRef := some t
    refPeriod := match x.gl.lastRef with | some u => some (t - u) | none => none
    refs := x.gl.refs + 1, missed := 0 } }

/-- The genlock source of a head's configuration. -/
def glSource (s : State) (h : ContHead) : Genlock := match s.head[h].cfg with | some c => c.genlock | none => .none

/-- FSYNC_IN_EDGE: the chosen edge is a reference event of each head that follows FSYNC_IN (R338). -/
def execFsyncInEdge (t : Nat) (s : State) : Host.Outcome State Fault Refusal :=
  .next (forEach conts (fun h s => if glSource s h = .fsyncIn && s.head[h].run ≠ .stopped then refEvent h t s else s) s)

/-- A frame marker of an ingest stream (R451). -/
def marker (g : IngestId) (t : Int) (s : State) : State :=
  forEach conts (fun h s =>
    if glSource s h = .relay && s.head[h].run ≠ .stopped && s.head[h].cfg.any (fun c => c.glStream = g) then refEvent h t s else s) s

/-- A number reduced modulo P into (−P/2, P/2]. -/
def centred (e p : Int) : Int :=
  let r := e % p
  if p < 2 * r then r - p else r

def clampInt (lo hi v : Int) : Int := if v < lo then lo else if hi < v then hi else v

/-- The nominal frame period in ns, rounded down. -/
def framePeriod (c : HeadCfg) (y : SynCfg) : Int := c.htotal * c.vtotal * y.period.toNat / (65536 * 64)

/-- HEAD_STATUS.GENLOCK changes, with its source (R340). -/
def setGenlocked (h : ContHead) (v : Bool) (s : State) : State :=
  if s.head[h].gl.locked = v then s
  else raiseHead h (if v then 7 else 8) (s.modHead h fun x => { x with gl := { x.gl with locked := v } })

/-- The correction at a frame boundary of a genlocked head (R339, R340): the trim, the phase steps, and the lock
decision. The trim is kept in 1/1000 ppm (log 38). -/
def genlockStep (h : ContHead) (s : State) : State :=
  match s.head[h].cfg, s.syn[headSyn h].cfg with
  | some c, some y =>
    if c.genlock = .none then s
    else
      let s := s.modHead h fun x => { x with gl := { x.gl with missed := x.gl.missed + 1 } }
      let g := s.head[h].gl
      match g.lastRef, g.refPeriod with
      | some t, some p =>
        if 3 ≤ g.missed ∨ p ≤ 0 then
          setGenlocked h false (s.modHead h fun x => { x with gl := { x.gl with holdover := true, inCount := 0, outCount := 0 } })
        else
          let v := c.live
          let e := centred (nowNs s - t - v.glOffset) p
          let lim : Int := v.trimLimit * 1000
          let trim := clampInt (-lim) lim (g.trim + (e * 1000000000).fdiv (16 * p))
          let m : Int := c.htotal * c.vtotal / 16
          let steps := clampInt (-m) m (64 * e)
          let inside := decide (e.natAbs ≤ 10 * v.glWindow)
          let s := s.modHead h fun x => { x with gl := { x.gl with
            trim := trim, holdover := false
            inCount := if inside then x.gl.inCount + 1 else 0
            outCount := if inside then 0 else x.gl.outCount + 1 } }
          let s := s.modSyn (headSyn h) fun z => { z with
            x := (y.period.toNat * (1000000000 + trim) + 500000000).fdiv 1000000000
            net := z.net - BitVec.ofInt 16 steps }
          let fp := framePeriod c y
          let near := decide (((p - fp) * 1000000).natAbs ≤ v.trimLimit * fp.natAbs)
          if near && decide (8 ≤ s.head[h].gl.inCount) then setGenlocked h true s
          else if 2 ≤ s.head[h].gl.outCount then setGenlocked h false s
          else s
      | _, _ =>
        if 3 ≤ g.missed then
          setGenlocked h false (s.modHead h fun x => { x with gl := { x.gl with holdover := true, inCount := 0, outCount := 0 } })
        else s
  | _, _ => s

/-- Head A's frame boundary is head B's reference event where B follows it. -/
def refToOther (h : ContHead) (s : State) : State :=
  if h = 0 && glSource s 1 = .headA && s.head[1].run ≠ .stopped then refEvent 1 (nowNs s) s else s

end Sys2Proof.Machine
end

