-- ==== Sys2Proof/Machine/Relay.lean ====
section
/-! DEFINITION. The relay port (chapter 20): the port, stream and ingest blocks, the link, egress of writeback frames as
slices, ingest of slices, and the port's reset. -/
namespace Sys2Proof.Machine

/-! ## The port block -/

/-- The first byte of an address is of a multicast address. -/
def multicast (m : List Byte) : Bool := byteAt m 0 % 2 = 1

/-- The port block (Table 20-1), none where it breaks R430. -/
def parsePort (b : List Byte) : Option RelayCfg :=
  let fl := byteAt b 0
  let mac := (b.drop 4).take 6
  let group := (b.drop 0x10).take 6
  let tci := leAt b 0xC 2
  let tag := fl / 2 % 2 = 1
  let ok := decide (fl < 32) && decide (byteAt b 1 ≤ 2) && decide (byteAt b 2 ≤ 31) && zeroAt b 3 1 && decide (0x600 ≤ leAt b 0xA 2)
    && !multicast mac && (zeroAt b 0x10 6 || multicast group) && !(tag && tci % 4096 = 0xFFF)
    && zeroAt b 0xE 2 && zeroAt b 0x16 2 && zeroAt b 0x1C 4
  guardSome ok {
    en := fl % 2 = 1, tag := tag, autoneg := fl / 4 % 2 = 1, txDelay := fl / 8 % 2 = 1, rxDelay := fl / 16 % 2 = 1
    speed := byteAt b 1, phyAddr := byteAt b 2, mac := mac, ethertype := leAt b 0xA 2, tci := tci, group := group
    linkDelay := leAt b 0x18 4 }

/-- The port is enabled (R437, R443). -/
def portEnabled (s : State) : Bool := s.relay.cfg.any fun c => c.en

/-- Some relay stream or ingest stream is enabled. -/
def relayBusy (s : State) : Bool :=
  ((List.finRange 16).any fun i => s.relay.stream[i].enabled) || (List.finRange 8).any fun g => s.relay.ingest[g].enabled

/-! ## Egress -/

/-- Where a region pixel lies in the last complete writeback frame. -/
def regionPixel (s : State) (f : Sending) (row px : Nat) : Nat :=
  wbBase s (if f.cfg.headB then 1 else 0) f.buffer + 15360 * (f.cfg.y + row) + 4 * (f.cfg.x + px)

/-- The three payload bytes B, G, R of a region pixel (R440); free values where its word has an uncorrectable error, of
which no data is delivered (R198, log 124). -/
def wbTriple (s : State) (f : Sending) (row px : Nat) : List Byte :=
  let a := regionPixel s f row px
  if badRange s a 3 then (List.range 3).map fun k => Config.relayByte s.free (3 * px + k) else s.read a 3

/-- Greedy run-length tokens of a list of pixels (R440): runs of at most 129, literals of at most 128. `lit` holds the
literal pixels not yet emitted. -/
def rleTokens : Nat → List (List Byte) → List (List Byte) → List (List (List Byte) × Bool)
  | 0, _, _ => []
  | _ + 1, lit, [] => if lit.isEmpty then [] else [(lit, false)]
  | n + 1, lit, p :: rest =>
    let run := Nat.min 129 (1 + (rest.takeWhile fun q => q = p).length)
    if 2 ≤ run then
      (if lit.isEmpty then [] else [(lit, false)]) ++ (List.replicate run p, true) :: rleTokens n [] (rest.drop (run - 1))
    else if lit.length = 127 then (lit ++ [p], false) :: rleTokens n [] rest
    else rleTokens n (lit ++ [p]) rest

/-- The bytes of a token. -/
def tokenBytes (t : List (List Byte) × Bool) : List Byte :=
  if t.2 then BitVec.ofNat 8 (t.1.length + 0x7E) :: t.1.headD [] else BitVec.ofNat 8 (t.1.length - 1) :: t.1.flatten

/-- The tokens of a slice: those whose bytes fit 1 464. Answers the payload and the pixels it carries. -/
def takeTokens : List (List (List Byte) × Bool) → List Byte → Nat → List Byte × Nat
  | [], b, n => (b, n)
  | t :: ts, b, n =>
    let k := tokenBytes t
    if 1464 < b.length + k.length then (b, n) else takeTokens ts (b ++ k) (n + t.1.length)

/-- The payload of the next slice and its pixel count (R440). -/
def slicePayload (s : State) (f : Sending) : List Byte × Nat :=
  let n := Nat.min f.cfg.span (f.cfg.w - f.px)
  let px := (List.range n).map fun i => wbTriple s f f.row (f.px + i)
  if f.cfg.rle then takeTokens (rleTokens (2 * n + 1) [] px) [] 0 else (px.flatten, n)

/-- The slice header with TX_OFFSET zero (Table 20-3). -/
def sliceHeader (i : StreamId) (x : Stream) (f : Sending) (first last : Bool) (len count : Nat) : List Byte :=
  toLe 1 1 ++ toLe 1 i.1
    ++ toLe 1 ((if first then 1 else 0) + (if last then 2 else 0) + (if f.cfg.rle then 4 else 0) + (if f.safe then 8 else 0))
    ++ toLe 1 f.depth ++ toLe 4 x.seq.toNat ++ toLe 4 f.frame.toNat ++ toLe 2 f.row ++ toLe 2 f.px ++ toLe 2 count ++ toLe 2 len
    ++ toLe 2 f.cfg.w ++ toLe 2 f.cfg.h ++ toLe 4 0 ++ toLe 2 f.cfg.everyN ++ toLe 2 x.session.toNat

/-- The frame on the wire (20.5): addresses, tag, slice header with its TX_OFFSET, payload, slice CRC, padding, FCS. -/
def wireFrame (c : RelayCfg) (x : Slice) (txOffset : Word) : List Byte :=
  let hdr := x.header.take 0x18 ++ (if x.first then wordBytes txOffset else toLe 4 0) ++ x.header.drop 0x1C
  let crc := crc32c ((x.header.drop 4).take 4 ++ hdr ++ x.payload)
  let body := x.dst ++ c.mac ++ (if c.tag then toBe 2 0x8100 ++ toBe 2 c.tci else []) ++ toBe 2 c.ethertype ++ hdr ++ x.payload ++ toLe 4 crc
  let body := body ++ List.replicate (60 - body.length) 0
  body ++ toLe 4 (crcEnd 32 true 0xFFFFFFFF (crcFeed 32 0x04C11DB7 true 0xFFFFFFFF body))

/-- L of an assembled slice (R433). -/
def sliceLen (s : State) (x : Slice) : Nat := match s.relay.cfg with
  | some c => (wireFrame c x 0).length
  | none => 0

/-- Tags for a new head of an egress queue (R222, R433). -/
def settleEgress (i : StreamId) (s : State) : State :=
  let r := s.relay
  match r.egress[i].frames with
  | [] => s.modEgress i fun q => { q with headFc := none, headFe := none }
  | x :: _ =>
    let l := sliceLen s x
    s.modEgress i fun q => { q with
      headFc := match q.headFc with
        | some t => some t
        | none => if q.pol.cir = 0 then none else some ((tagMax r.vc q.fcPrev + ceilDiv (l * 2 ^ 24) q.pol.cir) % 2 ^ 48)
      headFe := match q.headFe with
        | some t => some t
        | none => some ((tagMax r.ve q.fePrev + ceilDiv (l * 65536) q.pol.weight) % 2 ^ 48) }

/-- The next slice of a frame in sending is assembled while the queue is empty (log 39). -/
def assemble (i : StreamId) (s : State) : State :=
  let x := s.relay.stream[i]
  match x.sending with
  | none => s
  | some f =>
    if !s.relay.egress[i].frames.isEmpty || decide (f.cfg.h ≤ f.row) then s
    else
      let (pay, n) := slicePayload s f
      let first := decide (f.row = 0 ∧ f.px = 0)
      let endRow := decide (f.cfg.w ≤ f.px + n)
      let last := endRow && decide (f.cfg.h ≤ f.row + 1)
      let sl : Slice := { entered := s.fetch.fclk, dst := f.cfg.dst, first := first, last := last,
                          header := sliceHeader i x f first last pay.length n, payload := pay }
      let a := regionPixel s f f.row f.px
      let s := if badRange s a (4 * n) then logUeIn a (4 * n) (bumpFree s) else s
      let s := access 133 false 0 a (4 * n) s
      let s := s.modStream i fun x => { x with
        seq := x.seq + 1
        sending := some { f with row := if endRow then f.row + 1 else f.row, px := if endRow then 0 else f.px + n } }
      settleEgress i (s.modEgress i fun q => { q with frames := q.frames ++ [sl] })

/-- A stream begins a source frame (R438). -/
def beginStream (i : StreamId) (h : ContHead) (s : State) : State :=
  let x := s.relay.stream[i]
  match x.cfg, s.head[h].wb.last with
  | some c, some k =>
    let f := s.head[h].wb.frame
    let dueN := match x.lastBegun with
      | none => true
      | some g => decide (c.everyN ≤ (f - g).toNat)
    if !x.enabled || x.sending.isSome || !s.relay.up || (c.headB != decide (h = 1)) || !dueN then s
    else
      let rd := s.read (wbBase s h k + 0x01FFFFE0) 32
      assemble i (s.modStream i fun x => { x with
        lastBegun := some f
        sending := some { frame := f, buffer := k, depth := byteAt rd 0x14, safe := byteAt rd 5 % 2 = 1, row := 0, px := 0, cfg := c } })
  | _, _ => s

/-- The last row of the frame is in memory (R337): its record is complete, and the streams of the head may begin it. -/
def completeWriteback (h : ContHead) (s : State) : State :=
  match s.head[h].cfg, s.head[h].wb.writing with
  | some cfg, some k =>
    if s.head[h].wb.rows < cfg.vactive then s
    else
      let s := (writeRecord h 1 s).modHead h fun x => { x with wb := { x.wb with last := some k, writing := none } }
      forEach (List.finRange 16) (fun i s => beginStream i h s) (raiseHead h 9 s)
  | _, _ => s

/-- WRITEBACK_FRAME_COMPLETE. -/
def execWritebackFrameComplete (h : ContHead) (s : State) : Host.Outcome State Fault Refusal := .next (completeWriteback h s)

/-- The frame in sending is abandoned (R438); its assembled slice is dropped. -/
def abandonStream (i : StreamId) (s : State) : State :=
  if s.relay.stream[i].sending.isNone then s
  else
    let s := s.modStream i fun x => { x with sending := none, dropped := x.dropped + 1 }
    settleEgress i (s.modEgress i fun q => { q with frames := [], headFc := none, headFe := none })

/-- A number of Ethernet frames is dropped (R432). -/
def dropFrames (n : Nat) (s : State) : State :=
  forEach (List.range n) (fun _ s =>
    raise 269 { s with relay := { s.relay with dropCount := s.relay.dropCount + 1, txDrop := true } }) s

/-- Frames in the egress queues and in the ETX queue are dropped while the link is down (R432). -/
def dropEgress (s : State) : State :=
  let s := dropFrames s.relay.etx.length s
  let s := { s with relay := { s.relay with etx := [], etxBits := 0 } }
  forEach (List.finRange 16) (fun i s =>
    let s := abandonStream i (dropFrames s.relay.egress[i].frames.length s)
    s.modEgress i fun q => { q with frames := [], headFc := none, headFe := none }) s

/-- The link goes down (R432). -/
def linkDown (s : State) : State :=
  if !s.relay.up then s
  else
    let s := raise 265 { s with relay := { s.relay with up := false } }
    forEach (List.finRange 8) (fun g s => s.modIngest g fun x => { x with filling := false, buf := none }) (dropEgress s)

/-- The ETX queue of 4 KiB has room for all of a frame (R433); a FIRST slice needs it empty (R450). -/
def etxTakes (s : State) (x : Slice) : Bool :=
  decide ((s.relay.etx.map List.length).sum + sliceLen s x ≤ 4096) && (!x.first || s.relay.etx.isEmpty)

/-- The tag of the slice at the head of an egress queue that waits in a tier. -/
def egressTag (s : State) (i : StreamId) (cls : ReqClass) : Option Nat :=
  let q := s.relay.egress[i]
  match q.frames with
  | [] => none
  | x :: _ =>
    let l := sliceLen s x * 256
    if !etxTakes s x then none
    else if cls = .committed then (if decide (l ≤ q.tc) && decide (l ≤ q.tp) then q.headFc else none)
    else if decide (q.tc < l) && decide (l ≤ q.tp) then q.headFe else none

def bestEgress (s : State) (cls : ReqClass) : Option (StreamId × Nat) :=
  (List.finRange 16).foldl (fun b i =>
    match egressTag s i cls, b with
    | none, _ => b
    | some t, none => some (i, t)
    | some t, some (_, t') => if tagBefore t t' then some (i, t) else b) none

/-- A slice is released to the ETX queue (R433, R450). -/
def releaseSlice (i : StreamId) (tag : Nat) (cls : ReqClass) (s : State) : State :=
  let q := s.relay.egress[i]
  match q.frames, s.relay.cfg with
  | x :: rest, some c =>
    let l := sliceLen s x * 256
    let bytes := wireFrame c x (Config.txOffset s.free)
    let s := bumpFree s
    let r := s.relay
    let s := { s with relay := { r with
      etx := r.etx ++ [bytes]
      vc := if cls = ReqClass.committed then tag else r.vc
      ve := if cls = ReqClass.committed then r.ve else tag } }
    let s := s.modEgress i fun q => { q with
      frames := rest, headFc := none, headFe := none
      tc := if cls = ReqClass.committed then q.tc - l else q.tc
      tp := q.tp - l
      fcPrev := if cls = ReqClass.committed then tag else q.fcPrev
      fePrev := if cls = ReqClass.committed then q.fePrev else tag
      delay := maxOpt q.delay (s.fetch.fclk - x.entered) }
    let s := settleEgress i s
    if x.last then raise 270 (s.modStream i fun y => { y with sending := none, sent := y.sent + 1 }) else assemble i s
  | _, _ => s

/-- EGRESS_FRAME_RELEASE: the egress scheduler grants one slice (R433). -/
def execEgressFrameRelease (s : State) : Host.Outcome State Fault Refusal :=
  if !s.relay.up || !pdOn .link s then .next s
  else match bestEgress s .committed with
    | some (i, t) => .next (releaseSlice i t .committed s)
    | none => match bestEgress s .excess with
      | some (i, t) => .next (releaseSlice i t .excess s)
      | none => .next s

/-! ## RELAY_CONFIG and RELAY_STREAM -/

/-- A block of the supervisor's partition can be read (R135, steps 5 and 7), and holds no memory error (R198). -/
def blockVerdict (s : State) (w : WinId) (c : CtxId) (off len : Nat) : Option Verdict :=
  orElse [
    firstFail [(!inPart s c off len, .outOfPartition), (!cmdMem s w, .noResource)],
    badBlock s c off len]

/-- The block a relay command reads through queue_135, once steps 1 to 7 of R135 have passed. -/
def readsRelay (w : WinId) (a : Cmd) (ok : Bool) (s : State) : List (QueueId × Nat × Nat) :=
  let off := woff a.a1
  if ok && inPart s 0 off 32 && cmdMem s w then [(135, partBase s 0 + off, 32)] else []

def checkRelayConfig (w : WinId) (c : CtxId) (a : Cmd) (s : State) : Option Verdict :=
  let off := woff a.a1
  orElse [
    firstFail [(!supervisor c, .denied), (!argBits a 0 wholeWord 0 0, .badArg)],
    blockVerdict s w 0 off 32,
    match parsePort (readPart s 0 off 32) with
    | none => fail .badArg
    | some k => firstFail [
        (relayBusy s && s.relay.cfg.map (fun j => { j with linkDelay := k.linkDelay }) ≠ some k, .busy)]]

/-- The port is powered and started, or stopped (R430). A block that changes LINK_DELAY alone leaves the link as it
is. -/
def actRelayConfig (w : WinId) (_ : CtxId) (a : Cmd) (s : State) : State :=
  match parsePort (readPart s 0 (woff a.a1) 32) with
  | none => s
  | some k =>
    let same := s.relay.cfg.map (fun j => { j with linkDelay := k.linkDelay }) = some k
    let s := if same && k.en then s else linkDown s
    let s := if k.en then setPd .link true s else s
    finishGen w 0 0 { s with relay := { s.relay with cfg := some k, duplexFault := if same then s.relay.duplexFault else false } }

def opRelayConfig : Opcode where
  check := checkRelayConfig
  needs := fun _ _ _ => [.power]
  act := actRelayConfig
  reads := fun w c a s => readsRelay w a (supervisor c && argBits a 0 wholeWord 0 0) s

/-- RELAY_CONFIG (0x40). -/
def execRelayConfig (w : WinId) (c : Cmd) (s : State) : Host.Outcome State Fault Refusal :=
  .next (portRow w 0x40 c opRelayConfig.run s)

/-- The stream block (Table 20-2), none where a field is out of range. -/
def parseStream (b : List Byte) : Option StreamCfg :=
  let ok := decide (byteAt b 0 ≤ 1) && decide (byteAt b 1 ≤ 1) && !zeroAt b 2 1 && zeroAt b 3 1 && !zeroAt b 8 2 && !zeroAt b 0xA 2
    && decide (1 ≤ leAt b 0x12 2 ∧ leAt b 0x12 2 ≤ 488) && zeroAt b 0x14 12
  guardSome ok {
    headB := byteAt b 0 = 1, rle := byteAt b 1 = 1, everyN := byteAt b 2, x := leAt b 4 2, y := leAt b 6 2, w := leAt b 8 2
    h := leAt b 0xA 2, dst := (b.drop 0xC).take 6, span := leAt b 0x12 2 }

def argStream (a : Cmd) : StreamId := ⟨fld a.a0 0 4, Nat.mod_lt _ (by decide)⟩

def checkRelayStream (w : WinId) (c : CtxId) (a : Cmd) (s : State) : Option Verdict :=
  let off := woff a.a1
  orElse [
    firstFail [(!supervisor c, .denied), (!argBits a 0x1000F wholeWord 0 0, .badArg)],
    if !a.a0.getLsbD 16 then none
    else orElse [
      blockVerdict s w 0 off 32,
      (let b := readPart s 0 off 32
       let h : ContHead := if byteAt b 0 = 1 then 1 else 0
       match s.head[h].cfg, parseStream b with
       | none, _ => fail .noResource
       | some k, p => firstFail [
           (!portEnabled s, .noResource),
           (match p with
            | none => true
            | some f => decide (k.hactive < f.x + f.w ∨ k.vactive < f.y + f.h), .badArg)])]]

/-- A new SESSION (R437). -/
def drawSession (s : State) (i : StreamId) : HalfWord :=
  let v : HalfWord := s.drone.time.setWidth 16
  if v = s.relay.stream[i].session then v + 1 else v

def actRelayStream (w : WinId) (_ : CtxId) (a : Cmd) (s : State) : State :=
  let i := argStream a
  if !a.a0.getLsbD 16 then finishGen w 0 0 ((abandonStream i s).modStream i fun x => { x with enabled := false })
  else match parseStream (readPart s 0 (woff a.a1) 32) with
    | none => s
    | some k =>
      if s.relay.stream[i].enabled then finishGen w 0 0 (s.modStream i fun x => { x with cfg := some k })
      else
        let v := drawSession s i
        finishGen w 0 0 (s.modStream i fun x => { x with cfg := some k, enabled := true, session := v, seq := 0, lastBegun := none })

def opRelayStream : Opcode where
  check := checkRelayStream
  needs := fun _ _ _ => []
  act := actRelayStream
  reads := fun w c a s => readsRelay w a (supervisor c && argBits a 0x1000F wholeWord 0 0 && a.a0.getLsbD 16) s

/-- RELAY_STREAM (0x41). -/
def execRelayStream (w : WinId) (c : Cmd) (s : State) : Host.Outcome State Fault Refusal :=
  .next (portRow w 0x41 c opRelayStream.run s)

/-! ## RELAY_INGEST -/

/-- U of an ingest stream, in 64 KiB units. -/
def IngestCfg.units (c : IngestCfg) : Nat := ceilDiv (roundUp (4 * c.w) 32 * c.h) 65536

def parseIngest (b : List Byte) : Option IngestCfg :=
  let w := leAt b 0xA 2
  let h := leAt b 0xC 2
  let c : IngestCfg := {
    headB := byteAt b 0 = 1, src := byteAt b 1, srcMac := (b.drop 4).take 6, w := w, h := h, unit_ := leAt b 0xE 2
    staleMs := leAt b 0x10 2 }
  let ok := decide (byteAt b 0 ≤ 1) && decide (byteAt b 1 ≤ 15) && zeroAt b 2 2 && decide (1 ≤ w ∧ w ≤ 3840 ∧ 1 ≤ h ∧ h ≤ 2160)
    && decide (c.unit_ ≤ 767) && decide (1 ≤ c.staleMs) && zeroAt b 0x12 14 && decide (c.unit_ + 3 * c.units ≤ 768)
  guardSome ok c

def argIngest (a : Cmd) : IngestId := ⟨fld a.a0 0 3, Nat.mod_lt _ (by decide)⟩

/-- The relay layers, applied or pending, that name an ingest stream, with their heads. -/
def relayLayers (s : State) (g : IngestId) : List (HeadId × Desc) :=
  let applied := heads3.flatMap fun h => slots.filterMap fun z => (s.slot[h][z]).map fun l => (h, l.desc)
  let pend := s.commits.flatMap fun p => p.parts.flatMap fun x => x.ops.filterMap fun o => match o with
    | .place _ d _ => some (x.head, d)
    | .clear _ => none
  (applied ++ pend).filter fun p => p.2.relay = some g

def checkRelayIngest (w : WinId) (c : CtxId) (a : Cmd) (s : State) : Option Verdict :=
  let off := woff a.a1
  let g := argIngest a
  let named := relayLayers s g
  orElse [
    firstFail [(!supervisor c, .denied), (!argBits a 0x10007 wholeWord 0 0, .badArg)],
    if !a.a0.getLsbD 16 then firstFail [(!named.isEmpty, .busy)]
    else orElse [
      blockVerdict s w 0 off 32,
      firstFail [(!portEnabled s, .noResource)],
      match parseIngest (readPart s 0 off 32) with
      | none => fail .badArg
      | some k =>
        let others := ((List.finRange 8).filter fun j => j ≠ g).filterMap fun j =>
          if s.relay.ingest[j].enabled then s.relay.ingest[j].cfg else none
        firstFail [
          (others.any fun o => o.srcMac = k.srcMac && o.src = k.src, .badArg),
          (others.any fun o => decide (o.unit_ < k.unit_ + 3 * k.units ∧ k.unit_ < o.unit_ + 3 * o.units), .noResource),
          (named.any fun p => p.2.srcW ≠ k.w || p.2.srcH ≠ k.h || decide (p.1.1 ≠ if k.headB then 1 else 0), .busy)]]]

/-- The stream is enabled with no complete frame, or disabled at once (R443). -/
def actRelayIngest (w : WinId) (_ : CtxId) (a : Cmd) (s : State) : State :=
  let g := argIngest a
  let clean (x : Ingest) : Ingest := { x with
    session := none, expect := 0, filling := false, buf := none, shown := none, ready := none, live := false, stale := false
    showNow := false, lossRun := false }
  if !a.a0.getLsbD 16 then finishGen w 0 0 ((ingestCut g s).modIngest g fun x => { clean x with enabled := false })
  else match parseIngest (readPart s 0 (woff a.a1) 32) with
    | none => s
    | some k => finishGen w 0 0 (s.modIngest g fun x => { clean x with cfg := some k, enabled := true })

def opRelayIngest : Opcode where
  check := checkRelayIngest
  needs := fun _ _ _ => []
  act := actRelayIngest
  reads := fun w c a s => readsRelay w a (supervisor c && argBits a 0x10007 wholeWord 0 0 && a.a0.getLsbD 16) s

/-- RELAY_INGEST (0x42). -/
def execRelayIngest (w : WinId) (c : Cmd) (s : State) : Host.Outcome State Fault Refusal :=
  .next (portRow w 0x42 c opRelayIngest.run s)

/-! ## Link polling -/

/-- PHY_POLL (R427, R431). -/
def execPhyPoll (r : PhyStatus) (s : State) : Host.Outcome State Fault Refusal :=
  if !portEnabled s || !pdOn .link s then .next s
  else
    let half := r.up && !r.fullDuplex
    let s := if half && !s.relay.duplexFault then logFault 0x25 0 0 s else s
    let s := { s with relay := { s.relay with duplexFault := r.up && (half || s.relay.duplexFault) } }
    if r.up && r.fullDuplex then
      let was := s.relay.up
      let s := { s with relay := { s.relay with up := true, speed := r.speed } }
      .next (if was then s else wakeRequest .relayLink (raise 264 s))
    else .next (linkDown s)

/-! ## Ingest -/

/-- A received slice. -/
structure RxSlice where
  src : List Byte
  stream : Nat
  version : Nat
  crcOk : Bool
  first : Bool
  last : Bool
  rle : Bool
  seq : Word
  frame : Word
  line : Nat
  x : Nat
  count : Nat
  payload : List Byte
  payloadWhole : Bool
  regionW : Nat
  regionH : Nat
  txOffset : Nat
  everyN : Nat
  session : HalfWord
deriving DecidableEq, Repr

/-- The 802.1Q tag matches and the frame is addressed to the port (R444): the bytes after the EtherType. -/
def frameBody (c : RelayCfg) (b : List Byte) : Option (List Byte) :=
  let dst := b.take 6
  let toUs := dst = c.mac || (!zeroAt c.group 0 6 && dst = c.group)
  let o := if c.tag then 16 else 12
  let tagOk := if c.tag then decide (beAt b 12 2 = 0x8100) && decide (beAt b 14 2 % 4096 = c.tci % 4096) else true
  guardSome (toUs && tagOk && decide (beAt b o 2 = c.ethertype) && decide (b.length + 4 ≤ if c.tag then 1522 else 1518)) (b.drop (o + 2))

/-- The slice fields of a frame (Table 20-3). -/
def readSlice (b body : List Byte) : RxSlice :=
  let len := leAt body 0x12 2
  { src := (b.drop 6).take 6, stream := byteAt body 1, version := byteAt body 0
    crcOk := leAt body (0x20 + len) 4 = crc32c ((body.drop 4).take 4 ++ body.take (0x20 + len))
    first := byteAt body 2 % 2 = 1, last := byteAt body 2 / 2 % 2 = 1, rle := byteAt body 2 / 4 % 2 = 1
    seq := BitVec.ofNat 32 (leAt body 4 4), frame := BitVec.ofNat 32 (leAt body 8 4), line := leAt body 0xC 2, x := leAt body 0xE 2
    count := leAt body 0x10 2, payload := (body.drop 0x20).take len, payloadWhole := decide (0x24 + len ≤ body.length)
    regionW := leAt body 0x14 2, regionH := leAt body 0x16 2, txOffset := leAt body 0x18 4, everyN := leAt body 0x1C 2
    session := BitVec.ofNat 16 (leAt body 0x1E 2) }

/-- The pixels of a run-length payload (R440), none where a token is cut short. -/
def rleDecode : Nat → List Byte → Option (List (List Byte))
  | 0, _ => none
  | _ + 1, [] => some []
  | n + 1, c :: rest =>
    let (k, lit) := if c.toNat < 0x80 then (c.toNat + 1, true) else (c.toNat - 0x7E, false)
    let need := if lit then 3 * k else 3
    if rest.length < need then none
    else
      let px := if lit then (List.range k).map fun i => (rest.drop (3 * i)).take 3 else List.replicate k (rest.take 3)
      (rleDecode n (rest.drop need)).map fun l => px ++ l

/-- The pixels of a slice. -/
def RxSlice.pixels (x : RxSlice) : Option (List (List Byte)) :=
  let l := if x.rle then rleDecode (x.payload.length + 1) x.payload
    else if x.payload.length % 3 = 0 then some ((List.range (x.payload.length / 3)).map fun i => (x.payload.drop (3 * i)).take 3)
    else none
  match l with
  | some l => guardSome (decide (l.length = x.count)) l
  | none => none

/-- The later checks of R444. -/
def RxSlice.valid (x : RxSlice) (c : IngestCfg) : Bool :=
  x.version = 1 && x.payloadWhole && x.crcOk && x.regionW = c.w && x.regionH = c.h && x.pixels.isSome && decide (1 ≤ x.count ∧ x.count ≤ 488)
    && decide (x.x + x.count ≤ c.w ∧ x.line < c.h)

/-- The ingest stream that a frame belongs to. -/
def ingestOf (s : State) (x : RxSlice) : Option (IngestId × IngestCfg) :=
  (List.finRange 8).findSome? fun g =>
    let y := s.relay.ingest[g]
    match y.cfg with
    | some c => guardSome (y.enabled && c.srcMac = x.src && c.src = x.stream) (g, c)
    | none => none

/-- Slices are counted lost; the source is raised once per run (R445, Table 20-5). -/
def countLost (g : IngestId) (n : Word) (s : State) : State :=
  let was := s.relay.ingest[g].lossRun
  let s := s.modIngest g fun x => { x with lost := x.lost + n, lossRun := true }
  if was then s else raise 268 s

/-- start_frame: a buffer that is neither shown nor ready is filled (R446). -/
def startFrame (g : IngestId) (x : RxSlice) (s : State) : State :=
  s.modIngest g fun y => { y with
    curFrame := x.frame, filling := true
    buf := [(0 : Fin 3), 1, 2].find? fun k => y.shown ≠ some k && y.ready ≠ some k }

/-- Where a buffer of an ingest stream starts in memory (R442). -/
def ingestBase (s : State) (c : IngestCfg) (k : Fin 3) : Nat := deviceBase s + 0x08000000 + 65536 * (c.unit_ + k.1 * c.units)

/-- The slice's pixels go into the filling buffer as XRGB8888. -/
def writePixels (g : IngestId) (c : IngestCfg) (x : RxSlice) (s : State) : State :=
  match s.relay.ingest[g].buf, x.pixels with
  | some k, some l =>
    let a := ingestBase s c k + x.line * roundUp (4 * c.w) 32 + 4 * x.x
    access 133 true 0 a (4 * l.length) (s.write a (l.flatMap fun p => p ++ [0]))
  | _, _ => s

/-- frame_complete (R446, R447, R466). -/
def frameComplete (g : IngestId) (c : IngestCfg) (s : State) : State :=
  match s.relay.ingest[g].buf with
  | none => s
  | some k =>
    let y := s.relay.ingest[g]
    let s := s.modIngest g fun y => { y with
      ready := some k, buf := none, filling := false, frames := y.frames + 1, live := true, stale := false }
    let s := if !y.live || y.stale then raise 266 s else s
    ingestFeed g (ingestBase s c k) (roundUp (4 * c.w) 32) c.w c.h s

/-- The sequence check of an accepted slice (R445). -/
def acceptSlice (g : IngestId) (c : IngestCfg) (x : RxSlice) (s : State) : State :=
  let y := s.relay.ingest[g]
  let done (s : State) : State := if x.last then frameComplete g c s else s
  if y.session ≠ some x.session then
    if !x.first then s
    else
      let s := (startFrame g x s).modIngest g fun y => { y with
        session := some x.session, expect := x.seq + 1, lastSeq := x.seq, lossRun := false }
      done (writePixels g c x s)
  else
    let d := x.seq - y.expect
    if 0x80000000 ≤ d.toNat then s
    else
      let s := if d = 0 then s else (countLost g d s).modIngest g fun y => { y with filling := false }
      let s := s.modIngest g fun y => { y with expect := x.seq + 1, lastSeq := x.seq, lossRun := false }
      if x.first then done (writePixels g c x (startFrame g x s))
      else if !s.relay.ingest[g].filling || x.frame ≠ s.relay.ingest[g].curFrame then s
      else done (writePixels g c x s)

/-- ETHERNET_FRAME_RECEIVED (R444, R445, R451, R454). -/
def execEthernetFrameReceived (f : RxFrame) (s : State) : Host.Outcome State Fault Refusal :=
  match s.relay.cfg with
  | none => .next s
  | some c =>
    if !c.en || !s.relay.up || !pdOn .link s then .next s
    else if f.queueFull then .next (raise 271 { s with relay := { s.relay with rxDrop := true, rxDropCount := s.relay.rxDropCount + 1 } })
    else if !f.fcsOk then .next s
    else match frameBody c f.bytes with
      | none => .next s
      | some body =>
        let x := readSlice f.bytes body
        match ingestOf s x with
        | none => .next s
        | some (g, k) =>
          if !x.valid k then .next (countLost g 1 s)
          else
            let s := wakeRequest .relayLink s
            if !memAvail s then .next s
            else
              let s := if x.first && x.everyN = 1 then marker g ((f.time : Int) - x.txOffset - c.linkDelay) s else s
              .next (acceptSlice g k x s)

/-- INGEST_STALE: STALE_MS pass without a complete frame (R447). -/
def execIngestStale (g : IngestId) (s : State) : Host.Outcome State Fault Refusal :=
  let x := s.relay.ingest[g]
  if !x.enabled || x.stale then .next s
  else .next (ingestCut g (raise 267 (s.modIngest g fun x => { x with stale := true })))

/-! ## Reset -/

/-- A reset of the port, or PD_LINK going off (R453, R435). Counters and status bits stay (log 40). -/
def resetRelay (s : State) : State :=
  let s := linkDown (dropEgress s)
  let s := forEach (List.finRange 8) (fun g s => ingestCut g s) s
  let r := s.relay
  { s with relay := { Relay.reset with
      vc := r.vc, ve := r.ve, erx := r.erx, wire := r.wire, rxDrop := r.rxDrop, txDrop := r.txDrop, dropCount := r.dropCount
      rxDropCount := r.rxDropCount
      stream := r.stream.map fun x => { Stream.reset with session := x.session, sent := x.sent, dropped := x.dropped }
      ingest := r.ingest.map fun x => { Ingest.reset with frames := x.frames, lost := x.lost } } }

end Sys2Proof.Machine
end

