-- ==== Sys2Proof/Machine/Heads.lean ====
section
/-! DEFINITION. Heads A and B: HEAD_CONFIG, HEAD_START and HEAD_STOP, frame boundaries, links, and what the loss and
lock of a synthesizer do to its head (chapters 15 and 17). -/
namespace Sys2Proof.Machine

/-! ## The head configuration block (Table 15-2) -/

/-- The link of LINK_TYPE and LINK_PARAM, none for a reserved code or bit. -/
def parseLink (b : List Byte) : Option Link :=
  let p := byteAt b 1
  match byteAt b 0 with
  | 0 =>
    let rate : Fin 3 := ⟨p / 4 % 4 % 3, Nat.mod_lt _ (by decide)⟩
    guardSome (decide (p < 16) && decide (p % 4 < 3) && decide (p / 4 < 3)) (.edp (2 ^ (p % 4)) rate)
  | 1 => guardSome (decide (p < 4)) (.lvds false (p % 2 = 1) (p / 2 % 2 = 1) false)
  | 2 => guardSome (decide (p < 8)) (.lvds true (p % 2 = 1) (p / 2 % 2 = 1) (p / 4 = 1))
  | _ => none

def Link.dual : Link → Bool
  | .lvds d _ _ _ => d
  | .edp .. => false

def Link.isEdp : Link → Bool
  | .edp .. => true
  | .lvds .. => false

def parseGenlock (v : Nat) : Genlock := if v = 0 then .none else if v = 1 then .headA else if v = 2 then .fsyncIn else .relay

/-- The 3 072 entries of a LUT block, each cut to its width. -/
def parseLut (bits : Nat) (b : List Byte) : List Nat := (List.range 3072).map fun i => leAt b (2 * i) 2 % 2 ^ bits

/-- The live fields of a block with the contents of its LUTs. -/
def parseLive (b degamma gamma : List Byte) : HeadLive :=
  let out := byteAt b 2
  let bg := leAt b 0x18 8
  { depth := ⟨out % 4 % 3, Nat.mod_lt _ (by decide)⟩, dither := ⟨out / 4 % 4 % 3, Nat.mod_lt _ (by decide)⟩
    degammaEn := out / 16 % 2 = 1, gammaEn := out / 32 % 2 = 1, wbEn := out / 64 % 2 = 1, fsyncOut := out / 128 = 1
    background := { b := bg % 4096, g := bg / 4096 % 4096, r := bg / 2 ^ 24 % 4096 }
    lineEvt := leAt b 0x16 2, commitLead := byteAt b 0x14, glOffset := signed 32 (leAt b 0x28 4), glWindow := leAt b 0x2C 2
    trimLimit := leAt b 0x2E 2, degammaOff := leAt b 0x20 4, gammaOff := leAt b 0x24 4
    degamma := if out / 16 % 2 = 1 then parseLut 16 degamma else []
    gamma := if out / 32 % 2 = 1 then parseLut 12 gamma else [] }

/-- A block with the link read from it; the second item of R322 is `codesOk`, the third `rangesOk`. -/
def parseHead (b : List Byte) (link : Link) (live : HeadLive) : HeadCfg :=
  let sync := byteAt b 3
  { link := link, hsPol := sync % 2 = 1, vsPol := sync / 2 % 2 = 1, genlock := parseGenlock (sync / 4 % 4)
    glStream := ⟨sync / 16 % 8, Nat.mod_lt _ (by decide)⟩, fsyncFall := sync / 128 = 1
    hactive := leAt b 4 2, vactive := leAt b 6 2, htotal := leAt b 8 2, vtotal := leAt b 0xA 2
    hsyncStart := leAt b 0xC 2, hsyncEnd := leAt b 0xE 2, vsyncStart := leAt b 0x10 2, vsyncEnd := leAt b 0x12 2, live := live }

/-- No reserved field is nonzero and no code is reserved (R322, second item). -/
def codesOk (h : ContHead) (b : List Byte) : Bool :=
  let out := byteAt b 2
  match parseLink b with
  | none => false
  | some link =>
    let tight := match link with
      | .lvds _ five _ _ => out % 4 = 2 && !five
      | .edp .. => false
    decide (out % 4 < 3) && decide (out / 4 % 4 < 3) && !tight && !(h = 0 && byteAt b 3 / 4 % 4 = 1)
      && decide (leAt b 0x18 8 < 2 ^ 36) && (decide (out / 16 % 2 = 1) || zeroAt b 0x20 4)
      && (decide (out / 32 % 2 = 1) || zeroAt b 0x24 4) && zeroAt b 0x30 16

def protUnits (b : List Byte) : Nat := byteAt b 0x15

/-- The ranges of R322, third item. -/
def rangesOk (s : State) (h : ContHead) (b : List Byte) (c : HeadCfg) : Bool :=
  decide (64 ≤ c.hactive ∧ c.hactive ≤ 3840 ∧ 64 ≤ c.vactive ∧ c.vactive ≤ 2160)
    && decide (c.htotal ≤ 8192 ∧ c.hactive + 32 ≤ c.htotal ∧ c.vtotal ≤ 8192 ∧ c.vactive + 2 ≤ c.vtotal)
    && decide (c.hactive ≤ c.hsyncStart ∧ c.hsyncStart < c.hsyncEnd ∧ c.hsyncEnd ≤ c.htotal)
    && decide (c.vactive ≤ c.vsyncStart ∧ c.vsyncStart < c.vsyncEnd ∧ c.vsyncEnd ≤ c.vtotal)
    && decide (1 ≤ c.live.commitLead ∧ c.live.commitLead ≤ 64 ∧ c.live.commitLead < c.vactive)
    && (!c.link.dual || decide (c.hactive % 2 = 0 ∧ c.htotal % 2 = 0 ∧ c.hsyncStart % 2 = 0 ∧ c.hsyncEnd % 2 = 0))
    && decide (protUnits b + s.prot[otherHead h].allot ≤ 32)
    && (c.genlock = .none || decide (1 ≤ c.live.glWindow ∧ c.live.trimLimit ≤ 1000))

/-- The link carries the stream at a pixel period (R327, R332). The pixel clock in MHz is 64 000 × 65 536 over the
period. -/
def linkCarries (c : HeadCfg) (period : Nat) : Bool :=
  let f := 64000 * 65536
  match c.link with
  | .edp lanes rate =>
    decide (f * 3 * depthBits c.live.depth * 1000 ≤ lanes * edpSymbolClock rate * 8 * 995 * period)
  | .lvds dual .. =>
    let k := if dual then 2 else 1
    decide (20 * period * k ≤ f ∧ f ≤ 112 * period * k)

/-- The latest accepted configuration of a head, with the live changes that still wait. -/
def acceptedCfg (x : Head) : Option HeadCfg := x.cfg.map fun c => match x.next.getLast? with
  | some (l, _) => { c with live := l }
  | none => c

/-- The block changes a field that is not live (R323). -/
def changesFixed (old new : HeadCfg) : Bool := { new with live := old.live } ≠ old

/-- The block changes a covered value: anything but background, dither mode and depth (R319). -/
def changesCovered (old new : HeadCfg) : Bool :=
  { new with live := { new.live with background := old.live.background, dither := old.live.dither, depth := old.live.depth } } ≠ old

/-- The timing fields of a configuration. -/
def HeadCfg.timing (c : HeadCfg) : List Nat :=
  [c.hactive, c.vactive, c.htotal, c.vtotal, c.hsyncStart, c.hsyncEnd, c.vsyncStart, c.vsyncEnd]

/-- The re-check of R278 for every context queue of the head: the first failing reason and its line. -/
def recheckHead (s : State) (h : ContHead) (c : HeadCfg) : Option (Nat × Nat) :=
  ctxs.findSome? fun n => checkStates s n h c (admTerr s h n) s.fetch.queue[layerQueue n h].pol (queueStates s n (headId h))

/-- Byte offsets of the LUTs that a block names in the supervisor's partition. -/
def degammaAt (b : List Byte) : Nat := 4 * leAt b 0x20 4
def gammaAt (b : List Byte) : Nat := 4 * leAt b 0x24 4

/-- The configuration a block names, with its LUTs: the boot image's, or those in the supervisor's partition. -/
def readHead (s : State) (b : List Byte) (link : Link) (luts : Option (List Byte × List Byte)) : HeadCfg :=
  let (dg, gm) := luts.getD (readPart s 0 (degammaAt b) 6144, readPart s 0 (gammaAt b) 6144)
  parseHead b link (parseLive b dg gm)

/-- The LUTs that a block names in memory can be read (R135, step 5, R198). -/
def lutVerdict (s : State) (b : List Byte) : Option Verdict :=
  let dg := byteAt b 2 / 16 % 2 = 1
  let gm := byteAt b 2 / 32 % 2 = 1
  orElse [
    firstFail [
      (dg && !inPart s 0 (degammaAt b) 6144, .outOfPartition),
      (gm && !inPart s 0 (gammaAt b) 6144, .outOfPartition)],
    if dg then badBlock s 0 (degammaAt b) 6144 else none,
    if gm then badBlock s 0 (gammaAt b) 6144 else none]

/-- The outcomes of R322 in their order, for a block that has been read. -/
def checkHead (s : State) (h : ContHead) (b : List Byte) (luts : Option (List Byte × List Byte)) : Option Verdict :=
  match s.syn[headSyn h].cfg, parseLink b with
  | none, _ => fail .noResource
  | some _, none => fail .badArg
  | some y, some link =>
    let c := readHead s b link luts
    let units := protUnits b
    let old := acceptedCfg s.head[h]
    orElse [
      firstFail [
        (!codesOk h b, .badArg),
        (!rangesOk s h b c, .badArg),
        (!linkCarries c y.period.toNat, .badArg)],
      if luts.isSome then none else lutVerdict s b,
      firstFail [
        (protLocked s h && old.any fun o => changesCovered o c, .locked),
        (anyLocked s && decide (units ≠ s.prot[h].allot), .locked),
        (s.head[h].run ≠ .stopped && (units ≠ s.prot[h].allot || old.any fun o => changesFixed o c), .busy),
        (decide (65536 * units < (s.prot[h].shadow.map Image.use).getD 0), .busy)],
      if s.head[h].run = .stopped && old.map HeadCfg.timing ≠ some c.timing then
        (recheckHead s h c).map fun (r, line) => { code := .rejected, q0 := put r 0 8 ||| put h.1 8 2, q1 := put line 0 13 }
      else none]

/-- A configuration that passed: on a started head it waits for its boundary (R323). -/
def takeHead (h : ContHead) (b : List Byte) (luts : Option (List Byte × List Byte)) (s : State) : State :=
  match parseLink b with
  | some link =>
    let c := readHead s b link luts
    let s := s.modProt h fun p => { p with allot := protUnits b }
    match s.head[h].cfg, boundaryOf s h with
      | some _, some f => s.modHead h fun x => { x with next := (x.next.filter fun p => p.2 ≠ f) ++ [(c.live, f)] }
      | _, _ => s.modHead h fun x => { x with cfg := some c, next := [] }
  | none => s

/-! ## HEAD_CONFIG -/

def checkHeadConfig (w : WinId) (c : CtxId) (a : Cmd) (s : State) : Option Verdict :=
  let off := woff a.a1
  orElse [
    firstFail [
      (!supervisor c, .denied),
      (!argBits a 0x300 wholeWord 0 0 || (argHead a.a0).isNone, .badArg),
      (!inPart s 0 off 64, .outOfPartition),
      (!cmdMem s w, .noResource)],
    badBlock s 0 off 64,
    match argCont a.a0 with
    | some h => checkHead s h (readPart s 0 off 64) none
    | none => checkHeadE s (readPart s 0 off 64)]

def actHeadConfig (w : WinId) (_ : CtxId) (a : Cmd) (s : State) : State :=
  let b := readPart s 0 (woff a.a1) 64
  let rate (y : SynId) : Word := BitVec.ofNat 32 (synKHz s y)
  match argCont a.a0 with
  | some h => finishGen w (rate (headSyn h)) 0 (takeHead h b none s)
  | none => finishGen w (rate 2) 0 (takeHeadE b s)

/-- What HEAD_CONFIG reads: its block, then the LUTs in the partition that a block with good fields names, through
queue_135; for head E the table headers. -/
def readsHeadConfig (w : WinId) (c : CtxId) (a : Cmd) (s : State) : List (QueueId × Nat × Nat) :=
  let off := woff a.a1
  let b := readPart s 0 off 64
  if !(supervisor c && argBits a 0x300 wholeWord 0 0 && (argHead a.a0).isSome && inPart s 0 off 64 && cmdMem s w) then []
  else
    (135, partBase s 0 + off, 64) :: (if badPart s 0 off 64 then [] else match argCont a.a0 with
      | none => readsHeadE s b
      | some h => match s.syn[headSyn h].cfg, parseLink b with
        | some y, some link =>
          let k := readHead s b link none
          if codesOk h b && rangesOk s h b k && linkCarries k y.period.toNat then
            [(k.live.degammaEn, degammaAt b), (k.live.gammaEn, gammaAt b)].filterMap fun p =>
              guardSome (p.1 && inPart s 0 p.2 6144) (135, partBase s 0 + p.2, 6144)
          else []
        | _, _ => [])

def opHeadConfig : Opcode where
  check := checkHeadConfig
  needs := fun _ a _ => ((argHead a.a0).map Resource.gate).toList
  act := actHeadConfig
  reads := readsHeadConfig

/-- HEAD_CONFIG (0x20). -/
def execHeadConfig (w : WinId) (c : Cmd) (s : State) : Host.Outcome State Fault Refusal :=
  .next (portRow w 0x20 c opHeadConfig.run s)

/-! ## Frame boundaries -/

/-- Everything of a frame boundary but what stops the head: what applies together, the events, the writeback of the new
frame, genlock, and line 0. `prime` is a start or a restart: lines that were asked for with something else than what has
applied are asked for again (log 36). -/
def newFrame (h : ContHead) (prime : Bool) (s : State) : State :=
  let s := completeWriteback h s
  let s := if allRows s h then s else abandonWriteback h s
  let before := s.head[h].frames
  let anew := prime && s.head[h].cfg.any fun cfg => s.comp[h].opening ≠ some (openingOf s h cfg)
  let s := kickFlatten (applyBoundary h s)
  let s := s.modComp h fun c => { c with shed := c.shedNext, shedNext := [], extent := [], opening := none }
  let s := s.modHead h fun x => { x with frameTime := s.drone.time, edp := { x.edp with stream := x.link } }
  let s := raiseHead h 0 s
  let s := s.modProt h fun p => { p with acc := 0xFFFFFFFF, checked := false }
  let s := tapBegin h (beginWriteback h s)
  let s := refToOther h (genlockStep h s)
  let s := gatePin h before s.head[h].frames s
  let s := if before ≠ .normal ∧ s.head[h].frames = .normal then framesDone h s else s
  match s.head[h].cfg with
  | none => s
  | some cfg => lineWork h cfg 0 (if anew then composeReady h cfg 3 (openFrame h cfg false s) else s)

/-- The parts that were held while the head was stopped apply at its first boundary (R275). -/
def fixParts (h : ContHead) (s : State) : State :=
  let f := frameAhead s.head[h].frame 1
  { s with commits := s.commits.map fun p => { p with
      parts := p.parts.map fun x => if x.head = headId h ∧ x.boundary = none then { x with boundary := some f } else x } }

/-- The armed second phase runs from the first boundary: its clear frames begin with this frame (R350, 16.5). -/
def armedPhase (h : ContHead) (s : State) : State :=
  let s := if s.panel[h].st = .powered then runSecondPhase h s else s
  s.modHead h fun x => { x with frames := match x.frames with
    | .clear n _ => .clear (n + 1) true
    | f => f }

/-- HEAD_START completes (R333). -/
def startDone (h : ContHead) (s : State) : State :=
  let s := autoDone h true .ok (raiseHead h 14 s)
  match windowIn s (fun p => p = .headStart h) with
  | some w => finishGen w (if s.head[h].link then 1 else 0) 0 s
  | none => s

/-- The first frame boundary of a head (R333). -/
def firstBoundary (h : ContHead) (s : State) : State :=
  let s := fixParts h (s.modHead h fun x => { x with run := .running })
  startDone h (newFrame h true (armedPhase h s))

/-- The head has everything but its first boundary; with genlock a reference event has been seen (R338). -/
def firstReady (s : State) (h : ContHead) : Bool :=
  s.head[h].run = .starting .firstBoundary && !s.head[h].gated && s.syn[headSyn h].out = .running
    && (glSource s h = .none || decide (1 ≤ s.head[h].gl.refs))

/-- A power-off sequence stops the head after its FRAMES step, whose last frame ends here (R360). -/
def stopsHere (s : State) (h : ContHead) : Bool :=
  s.head[h].frames.advance = .normal && s.panel[h].run.any fun r => r.stopAfter && r.wait = .frames

/-- The boundary at which the head stops instead of beginning a frame (R334, R360). -/
def lastBoundary (h : ContHead) (s : State) : State :=
  let s := completeWriteback h s
  let s := gatePin h s.head[h].frames .normal s
  haltHead h (framesDone h s)

/-- FRAME_BOUNDARY (R273): the end of line VTOTAL − 1, or the first boundary of a starting head. -/
def execFrameBoundary (h : ContHead) (s : State) : Host.Outcome State Fault Refusal :=
  match s.head[h].cfg with
  | none => .next s
  | some cfg =>
    if firstReady s h then .next (firstBoundary h s)
    else if !scanning s h || decide (s.head[h].line + 1 < cfg.vtotal) then .next s
    else if s.head[h].run = .stopping || stopsHere s h then .next (lastBoundary h s)
    else .next (newFrame h false s)

/-! ## HEAD_START (R333) -/

/-- Step 3 begins: the output is connected and the link PLL starts. -/
def connectHead (h : ContHead) (s : State) : State :=
  (s.modSyn (headSyn h) fun y => { y with connected := true }).modHead h fun x => { x with run := .starting .pll }

/-- Steps 1 and 2: the domain, and the synthesizer's lock. -/
def beginStart (h : ContHead) (s : State) : State :=
  let s := powerHead h (fixParts h s)
  let s := s.modHead h fun x => { x with
    run := .starting .synth, link := false, training := false, pll := false, gated := false, edp := { x.edp with stream := false } }
  if s.syn[headSyn h].out = .running then connectHead h s else s

def checkHeadStart (_ : WinId) (c : CtxId) (a : Cmd) (s : State) : Option Verdict :=
  orElse [
    firstFail [
      (!supervisor c, .denied),
      (!argBits a 0x300 0 0 0 || (argCont a.a0).isNone, .badArg)],
    match argCont a.a0 with
    | none => fail .badArg
    | some h => firstFail [(s.head[h].cfg.isNone || s.syn[headSyn h].cfg.isNone, .noResource)]]

/-- The resources of HEAD_START and HEAD_STOP (Table 06-4). -/
def needsHead (a : Cmd) : List Resource :=
  match argCont a.a0 with
  | some h => [.power, .syn (headSyn h), .gate (headId h)]
  | none => []

def actHeadStart (w : WinId) (_ : CtxId) (a : Cmd) (s : State) : State :=
  match argCont a.a0 with
  | none => s
  | some h =>
    if s.head[h].run ≠ .stopped then finish0 w .ok s else beginStart h (setPhase w (.headStart h) s)

def opHeadStart : Opcode := { check := checkHeadStart, needs := fun _ a _ => needsHead a, act := actHeadStart }

/-- HEAD_START (0x21). -/
def execHeadStart (w : WinId) (c : Cmd) (s : State) : Host.Outcome State Fault Refusal :=
  .next (portRow w 0x21 c opHeadStart.run s)

/-- The head waits for its first boundary: reference events count from here (R338), and its line store is filled. -/
def awaitBoundary (h : ContHead) (s : State) : State :=
  fillStore h (s.modHead h fun x => { x with run := .starting .firstBoundary, gl := GenlockState.reset })

/-- The link comes up (Table 15-3). -/
def linkUp (h : ContHead) (s : State) : State := raiseHead h 5 (s.modHead h fun x => { x with link := true, training := false })

def isEdp (s : State) (h : ContHead) : Bool := s.head[h].cfg.any fun c => c.link.isEdp

/-- LINK_PLL_LOCK: in a start the serializer is enabled, or HPD is awaited for training; an LVDS PLL relocks after a
gate (R333, step 3). -/
def execLinkPllLock (h : ContHead) (s : State) : Host.Outcome State Fault Refusal :=
  let x := s.head[h]
  if x.pll || x.gated then .next s
  else if x.run = .starting .pll then
    let s := s.modHead h fun x => { x with pll := true }
    if isEdp s h then .next (s.modHead h fun x => { x with run := .starting .hpd }) else .next (awaitBoundary h (linkUp h s))
  else if x.run ≠ .stopped && !isEdp s h && s.syn[headSyn h].connected then .next (s.modHead h fun x => { x with pll := true })
  else .next s

/-- A starting head waits for HPD or for its training. -/
def startTrains (x : Head) : Bool := x.run = .starting .hpd || x.run = .starting .training

/-- An attempt succeeds when both its phases do (R329). -/
def trainingOk (r : TrainingEnd) : Bool := r.clockRecovered && r.equalised

/-- What an attempt has applied: the swing and pre-emphasis that the panel requests, up to level 3 and level 2, and what its
DPCD reports (R326, R329). -/
def trainWith (h : ContHead) (r : TrainingEnd) (s : State) : State :=
  s.modHead h fun x => { x with edp := { x.edp with
    hpd := true, swing := r.swing, preEmphasis := if p : r.preEmphasis.1 < 3 then ⟨r.preEmphasis.1, p⟩ else 2, altSeed := r.altSeed, downSpread := r.downSpread } }

/-- LINK_TRAINING_END (R329, R330). -/
def execLinkTrainingEnd (h : ContHead) (r : TrainingEnd) (s : State) : Host.Outcome State Fault Refusal :=
  let x := s.head[h]
  if startTrains x then
    let s := trainWith h r s
    .next (awaitBoundary h (if trainingOk r then linkUp h s else s))
  else if x.training then
    let s := trainWith h r s
    .next (if trainingOk r then linkUp h s else s.modHead h fun x => { x with training := false })
  else .next s

/-- HPD_WAIT_TIMEOUT: HEAD_START goes on without a link (R333, step 3). -/
def execHpdWaitTimeout (h : ContHead) (s : State) : Host.Outcome State Fault Refusal :=
  if s.head[h].run = .starting .hpd then .next (awaitBoundary h s) else .next s

/-- LINK_RETRAIN: once a second HPD is looked at, and while it is high an attempt begins on a running eDP head without a
link (R330). -/
def execLinkRetrain (l : HpdLook) (s : State) : Host.Outcome State Fault Refusal :=
  let x := s.head[l.head]
  if (x.started || x.run = .starting .firstBoundary) && isEdp s l.head && !x.link then
    .next (s.modHead l.head fun x => { x with training := x.training || l.high, edp := { x.edp with hpd := l.high } })
  else .next s

/-- A trained link is lost: ARG 0 for HPD low, 1 for an unlocked lane (R330, Table 27-2). -/
def linkLost (h : ContHead) (arg : Word) (s : State) : State :=
  if !s.head[h].link then s
  else raiseHead h 6 (logFault 0x12 h.1 arg (s.modHead h fun x => { x with link := false, training := false, edp := { x.edp with stream := false } }))

/-- HPD_PULSE: a low pulse of `us` µs; `locked` is what the link status shows to an IRQ_HPD (R330). In LVDS mode HPD is
ignored (R320). After a pulse that is no IRQ_HPD, HPD is low until LINK_RETRAIN sees it high (log 120). -/
def execHpdPulse (h : ContHead) (us : Nat) (locked : Bool) (s : State) : Host.Outcome State Fault Refusal :=
  if !isEdp s h || s.head[h].run = .stopped || decide (us < 250) then .next s
  else if 2000 < us then .next (linkLost h 0 (s.modHead h fun x => { x with training := false, edp := { x.edp with hpd := false } }))
  else .next (if locked then s else linkLost h 1 s)

/-! ## HEAD_STOP (R334, Table 16-4) -/

def checkHeadStop (_ : WinId) (c : CtxId) (a : Cmd) (s : State) : Option Verdict :=
  orElse [
    firstFail [
      (!supervisor c, .denied),
      (!argBits a 0x10300 0 0 0 || (argCont a.a0).isNone, .badArg)],
    match argCont a.a0 with
    | none => fail .badArg
    | some h => firstFail [(protLocked s h, .locked)]]

/-- The head runs to the end of its frame; with its clock gated, or before its first frame, it stops at once. -/
def stopAtEnd (h : ContHead) (s : State) : State :=
  if s.head[h].run = .running && !s.head[h].gated then s.modHead h fun x => { x with run := .stopping } else haltHead h s

/-- The discharge sequence of HEAD_STOP with DISCHARGE: the first phase of power-off and its FRAMES step. -/
def dischargeRun (w : WinId) (t : PanelTable) : PanelRun :=
  let steps := phase1 t.off ++ (t.off.find? fun x => x.op = .frames).toList
  { PanelRun.fresh true steps 0 .discharged (some w) with stopAfter := true }

def actHeadStop (w : WinId) (_ : CtxId) (a : Cmd) (s : State) : State :=
  match argCont a.a0 with
  | none => s
  | some h =>
    if s.head[h].run = .stopped then finish0 w .ok s
    else
      let s := setPhase w (.headStop h) s
      match a.a0.getLsbD 16 && s.panel[h].st = .on, s.panel[h].table with
      | true, some t =>
        let s := startSequence h t (dischargeRun w t) s
        if s.head[h].gated then haltHead h s else s
      | _, _ => stopAtEnd h (endSecondPhase h s)

def opHeadStop : Opcode := { check := checkHeadStop, needs := fun _ a _ => needsHead a, act := actHeadStop }

/-- HEAD_STOP (0x22). -/
def execHeadStop (w : WinId) (c : Cmd) (s : State) : Host.Outcome State Fault Refusal :=
  .next (portRow w 0x22 c opHeadStop.run s)

/-! ## Loss and lock of a synthesizer (17.4, 15.9) -/

/-- The pixel clock of a head gates: the frame is cut short (R342), a head that waits to stop stops at the gate
(R334). -/
def gateHead (h : ContHead) (s : State) : State :=
  let edp := isEdp s h
  let s := tryCal (s.modHead h fun x => { x with gated := true, pll := x.pll && edp })
  if !started s h then s
  else
    let s := tapCut h (abandonWriteback h (completeWriteback h s))
    if s.head[h].run = .stopping then haltHead h s
    else if s.panel[h].run.any fun r => r.stopAfter && r.wait = .frames then haltHead h (framesCut h s)
    else fillStore h s

/-- SYN_LOSS (R376). -/
def loseSyn (y : SynId) (reference : Bool) (s : State) : State :=
  if s.syn[y].bore ≠ .locked || !fabricOn s then s
  else
    let ran := s.syn[y].out = .running
    let s := s.modSyn y fun x => { x with bore := .locking, lost := true, out := if ran then .gated else x.out }
    let s := logFault 0x11 y.1 (if reference then 1 else 0) s
    if !ran then s
    else
      let s := cutPhaseStep y (raise (synSource y false) s)
      match synHead y with
      | some h => if s.syn[y].connected then gateHead h s else s
      | none => interruptEpd .aborted s

def execSynLoss (y : SynId) (reference : Bool) (s : State) : Host.Outcome State Fault Refusal := .next (loseSyn y reference s)

/-- A gated head whose clock restarts begins at line 0, which is a frame boundary (R343); genlock acquires anew. -/
def restartHead (h : ContHead) (s : State) : State :=
  if !s.head[h].gated then s
  else
    let s := s.modHead h fun x => { x with gated := false }
    if started s h then
      let s := setGenlocked h false s
      newFrame h true (s.modHead h fun x => { x with gl := GenlockState.reset })
    else s

/-- An output has started: a gated head restarts, a HEAD_START that waits for it goes on. -/
def outputStarted (y : SynId) (s : State) : State :=
  match synHead y with
  | none => s
  | some h => if s.head[h].run = .starting .synth then connectHead h s else restartHead h s

/-- A Bore locks (R366): CLOCK_CONFIG completes, or a gated or late output starts under R372, R376 and R364. -/
def lockBore (y : SynId) (s : State) : State :=
  let x := s.syn[y]
  if x.cfg.isNone || x.bore ≠ .locking || !s.drone.pllLock || !fabricOn s then s
  else
    let s := s.modSyn y fun x => { x with bore := .locked }
    let resumes := x.cfg.any (fun c => c.autoResume) || synLocked s y
    match windowIn s (fun p => p = .clockLock y) with
    | some w =>
      finishGen w ((x.cfg.map fun c => c.period).getD 0) 0 (outputStarted y (startOutput y false s))
    | none =>
      if (x.out = .gated || (x.out = .off && x.timedOut)) && resumes then outputStarted y (startOutput y true s)
      else if x.out = .off && x.wasRunning then outputStarted y (startOutput y false s)
      else s

/-- BORE_LOCK. -/
def execBoreLock (y : SynId) (s : State) : Host.Outcome State Fault Refusal := .next (lockBore y s)

/-! ## RESET_CTL of a head (R129, R352, R404) -/

/-- A reset of a continuous head: its commands are aborted, PROTECT_LOCK of an unlocked layer among them, it stops, and it
is unconfigured (R129, Tables 26-8 and 27-4). -/
def resetHeadCore (h : ContHead) (s : State) : State :=
  let s := resetPanel h s
  let abort (p : Phase → Bool) (s : State) : State := match windowIn s p with
    | some w => finish0 w .aborted s
    | none => s
  let s := abort (fun p => p = .headStart h || p = .headStop h) s
  let s := cancelLock h (abort (lockPhase h) s)
  let s := autoDone h true .aborted (haltHead h s)
  s.modHead h fun x => { x with cfg := none, next := [] }

/-- A reset of head E. -/
def resetEpdCore (s : State) : State := interruptEpd .aborted s

end Sys2Proof.Machine
end

