-- ==== Sys2Proof/Machine/Maquette.lean ====
section
/-! DEFINITION. Maquettes (chapter 07): the staging buffers, the snapshot with its sections and views, its writing, and
the short form. A section's field that the spec states no value for reads 0 (log 62). -/
namespace Sys2Proof.Machine

/-! ## Sections (R154 to R157) -/

/-- A section of a Maquette. -/
structure MaqSection where
  type : Nat
  inst : Nat
  filtered : Bool
  more : Bool
  body : List Byte
deriving DecidableEq, Repr

/-- A section with its header (R154). -/
def MaqSection.bytes (x : MaqSection) : List Byte :=
  toLe 2 x.type ++ toLe 1 x.inst ++ toLe 1 ((if x.filtered then 1 else 0) + (if x.more then 2 else 0)) ++ toLe 4 x.body.length
    ++ x.body

/-- A bit of a byte. -/
def bitAt (b : Bool) (k : Nat) : Nat := if b then 2 ^ k else 0

/-- VIEW of a caller (Table 07-1). -/
def maqView (s : State) (c : CtxId) : Nat :=
  bitAt (supervisor c) 0 + bitAt (isSealed s c) 1 + bitAt (guards s c 0) 2 + bitAt (guards s c 1) 3

/-- The territories of a context by head and entry. -/
def maqTerrs (s : State) (c : CtxId) : List (HeadId × Nat × Territory) :=
  heads3.flatMap fun h => (List.range 4).filterMap fun i => ((s.ctx[c].terr[h])[i]?.getD none).map fun t => (h, i, t)

def maqTerr (x : HeadId × Nat × Territory) : List Byte :=
  let (h, i, t) := x
  toLe 1 (i + 4 * h.1 + bitAt t.overlap 4) ++ toLe 1 (t.zlo + 16 * t.zhi) ++ toLe 2 0 ++ toLe 2 t.x ++ toLe 2 t.y ++ toLe 2 t.w
    ++ toLe 2 t.h

/-- A CONTEXT section. -/
def maqContext (s : State) (sup : Bool) (c : CtxId) : MaqSection :=
  let x := s.ctx[c]
  let ts := maqTerrs s c
  let cs := (List.range 3).foldl (fun n k => n + bitAt (s.port.csBound[k]?.getD none = some c) (k + 1)) 0
  { type := 1, inst := c.1, filtered := !sup, more := false
    body := toLe 1 c.1 ++ toLe 1 (bitAt (isSealed s c) 0 + bitAt x.guardA 1 + bitAt x.guardB 2) ++ toLe 2 x.epoch.toNat
      ++ toLe 4 (if sup then x.partBase else 0) ++ toLe 4 x.partSize ++ toLe 1 cs ++ toLe 1 ts.length ++ toLe 2 0
      ++ toLe 8 (genOf s c).toNat ++ ts.flatMap maqTerr }

/-- Occupied slots of a head. -/
def occupied (s : State) (h : HeadId) : Nat := (slots.filter fun z => (s.slot[h][z]).isSome).length

def PanelState.num : PanelState → Nat
  | .off => 0 | .powered => 1 | .on => 2 | .discharged => 3

/-- The HEAD section of head A or B. -/
def maqHead (s : State) (sup : Bool) (h : ContHead) : MaqSection :=
  let x := s.head[h]
  let t (f : HeadCfg → Nat) : Nat := (x.cfg.map f).getD 0
  let v (n : Nat) : Nat := if sup then n else 0
  let p := s.panel[h]
  { type := 2, inst := h.1, filtered := !sup, more := false
    body := toLe 1 h.1 ++ toLe 1 (headBits s h) ++ toLe 2 (if x.started then x.line else 0) ++ toLe 4 x.frame.toNat
      ++ toLe 2 (t fun c => c.hactive) ++ toLe 2 (t fun c => c.vactive) ++ toLe 2 (t fun c => c.htotal)
      ++ toLe 2 (t fun c => c.vtotal) ++ toLe 4 (synKHz s (headSyn h)) ++ toLe 1 (t fun c => c.live.commitLead)
      ++ toLe 1 (v (occupied s (headId h))) ++ toLe 1 (v (p.st.num + bitAt p.armed.isSome 7)) ++ toLe 1 0
      ++ toLe 4 (v s.comp[h].shedCount.toNat) ++ toLe 4 (v s.comp[h].underrun.toNat)
      ++ toLe 4 (v s.prot[h].mismatch.toNat) ++ toLe 4 (v s.comp[h].wbDrop.toNat) }

/-- The HEAD section of head E. -/
def maqHeadE (s : State) (sup : Bool) : MaqSection :=
  let st := headStatusWord s
  { type := 2, inst := 2, filtered := !sup, more := false
    body := toLe 1 2 ++ toLe 1 (bitAt (st.getLsbD 16) 6 + bitAt (st.getLsbD 17) 7) ++ toLe 2 0 ++ toLe 4 0 ++ toLe 8 0
      ++ toLe 4 (synKHz s 2) ++ toLe 1 0 ++ toLe 1 (if sup then occupied s 2 else 0) ++ toLe 2 0 ++ toLe 16 0 }

/-- A COMMIT entry; the list's place is shown to its own context. -/
def maqCommitEntry (caller c : CtxId) (id : Nat) (h : HeadId) (applied joint fallback : Bool) (frame : Option Nat)
    (listOff entries : Nat) : List Byte :=
  toLe 2 id ++ toLe 1 c.1 ++ toLe 1 (h.1 + bitAt applied 2 + bitAt joint 3 + bitAt fallback 4)
    ++ toLe 4 (frame.getD 0xFFFFFFFF) ++ toLe 4 (if caller = c then listOff / 4 else 0) ++ toLe 1 entries ++ toLe 3 0

/-- A context's last applied commits. -/
def maqApplied (s : State) (caller c : CtxId) : List (List Byte) :=
  heads3.filterMap fun h => (s.ctx[c].lastApplied[h]).map fun a =>
    maqCommitEntry caller c a.id.toNat h true a.joint a.fallback a.frame a.listOff a.entries

/-- A context's pending parts, oldest commit first. -/
def maqPending (s : State) (caller c : CtxId) : List (List Byte) :=
  (s.commits.filter fun p => p.ctx = c).flatMap fun p => p.parts.map fun x =>
    maqCommitEntry caller c p.id.toNat x.head false p.joint p.fallback x.boundary p.listOff p.entries

/-- The contexts a caller sees: attached ones (Table 07-2); one that is detaching is attached no more (08.1). -/
def maqCtxs (s : State) (c : CtxId) : List CtxId :=
  if supervisor c then ctxs.filter fun n => s.ctx[n].st ≠ .unattached && s.ctx[n].st ≠ .detaching else [c]

/-- The COMMIT section: one entry per head part, at most 16 pending ones of a context. -/
def maqCommits (s : State) (c : CtxId) : MaqSection :=
  let ns := maqCtxs s c
  let applied := ns.flatMap (maqApplied s c)
  let pend := ns.map (maqPending s c)
  let others := ns.any fun n => n ≠ c && !((maqApplied s c n).isEmpty && (maqPending s c n).isEmpty)
  { type := 3, inst := 0, filtered := others, more := pend.any fun l => decide (16 < l.length)
    body := (applied ++ pend.flatMap fun l => l.take 16).flatten }

/-- The layer leaves the glass: its context was detached (Table 08-2, steps 2 to 7). -/
def goneLayer (s : State) (h : HeadId) (z : SlotId) : Bool := (contHead h).any fun k => z ∈ s.comp[k].gone

/-- The LAYER section. -/
def maqLayers (s : State) (c : CtxId) : MaqSection :=
  let entry (h : HeadId) (z : SlotId) (l : Layer) : List Byte :=
    toLe 1 h.1 ++ toLe 1 z.1 ++ toLe 1 l.ctx.1 ++ toLe 1 (bitAt l.desc.static_ 0 + bitAt l.desc.relay.isSome 1) ++ toLe 2 l.pool
      ++ toLe 2 l.commitId.toNat
  { type := 4, inst := 0, filtered := false, more := false
    body := heads3.flatMap fun h => slots.flatMap fun z => match s.slot[h][z] with
      | some l => if supervisor c || (l.ctx = c && !goneLayer s h z) then entry h z l else []
      | none => [] }

/-- The command a window executes in its present binding; the PF's outlives a function-level reset (06.7). -/
def execEntry (s : State) (w : WinId) : Option QEntry := (s.win[w].exec).bind fun e => guardSome (!e.discard || w = 4) e.entry

/-- A QUEUE entry. -/
def maqQueueEntry (s : State) (c : CtxId) (w : WinId) (n : CtxId) : List Byte :=
  let x := s.win[w]
  let (path, num) := match winPath w with
    | .cs k => (0, k.1)
    | .fn f => if f = 0 then (1, 0) else (2, f.1)
  let own := c = n
  let e := execEntry s w
  let done := if own then (x.done.take 16).flatMap fun d => [d.tag, BitVec.ofNat 8 d.code.num] else []
  toLe 1 path ++ toLe 1 num ++ toLe 1 n.1 ++ toLe 1 x.occupancy ++ toLe 1 x.done.length
    ++ toLe 1 ((e.map fun q => q.op.toNat).getD 0xFF) ++ toLe 1 (if own then (e.map fun q => q.cmd.tag.toNat).getD 0 else 0)
    ++ toLe 1 0 ++ toLe 2 x.issued.toNat ++ toLe 2 x.completed.toNat ++ done ++ List.replicate (32 - done.length) 0

/-- The QUEUE section. -/
def maqQueues (s : State) (c : CtxId) : MaqSection :=
  let l := wins.filterMap fun w => (winCtx s w).bind fun n => guardSome (supervisor c || n = c) (w, n)
  { type := 5, inst := 0, filtered := l.any fun p => p.2 ≠ c, more := false
    body := l.flatMap fun p => maqQueueEntry s c p.1 p.2 }

/-- One bit of each source of the caller, eight to a byte. -/
def sourceBits (s : State) (c : CtxId) (f : Source → Bool) : List Byte :=
  (List.range 9).flatMap fun g => wordBytes (groupWord s c (BitVec.ofNat 4 g) f)

/-- The EVENT section. -/
def maqEvents (s : State) (c : CtxId) : MaqSection :=
  let sup := supervisor c
  let own := (List.finRange 288).map fun n => let x := s.evu.src[n]; if x.owner = c then x.merge else 0
  let route := (List.finRange 288).flatMap fun n =>
    let x := s.evu.src[n]
    if n.1 < 128 then [] else wordBytes (put x.owner.1 0 6 ||| put x.mask.toNat 8 4 ||| put x.prio.toNat 16 4)
  { type := 6, inst := 0, filtered := !sup, more := false
    body := sourceBits s c (fun x => x.pending) ++ sourceBits s c (fun x => x.enable) ++ toLe 4 (bitAt (sup && s.evu.hold) 0) ++ own
      ++ (if sup then ((List.finRange 4).flatMap fun p => wordBytes (vecBaseWord s.evu.port[p])) ++ route else []) }

/-- The TIMER section: the registers of a channel as the caller reads them, for a tenant with TOUT zero and FILTERED set
(log 125). -/
def maqTimers (s : State) (w : WinId) (c : CtxId) : MaqSection :=
  let entry (t : TimerId) : List Byte :=
    let x := { s.win[w] with timSel := t }
    toLe 1 t.1 ++ toLe 1 s.timer[t].owner.1 ++ toLe 2 0
      ++ [0x70, 0x60, 0x64, 0x68, 0x6C, 0x74, 0x7C].flatMap fun off => wordBytes (timWord s x c off)
  let l := (List.finRange 16).filter fun t => timVisible s c t
  { type := 7, inst := 0, filtered := !supervisor c && !l.isEmpty, more := false, body := l.flatMap entry }

/-- The MONITOR section; a tenant's is without bins. -/
def maqMonitors (s : State) (c : CtxId) : MaqSection :=
  let entry (m : MonId) (n : CtxId) : List Byte :=
    let x := s.mon[m]
    toLe 1 m.1 ++ toLe 1 n.1 ++ toLe 1 x.probe.toNat ++ toLe 1 x.probeIndex.toNat ++ wordBytes x.ctl ++ wordBytes x.min ++ wordBytes x.max
      ++ ([16, 17, 18, 19, 20, 21].flatMap fun i => wordBytes (x.item i))
      ++ (if supervisor c then (List.range 16).flatMap fun i => wordBytes (x.item i) else [])
  { type := 8, inst := 0, filtered := false, more := false
    body := (List.finRange 32).flatMap fun m => match s.mon[m].bound with
      | some n => if supervisor c || n = c then entry m n else []
      | none => [] }

/-- The POWER section. POWER_STATE is not marked S in Table 07-3: a tenant's reads as in its register bank, supervisor
fields 0 (DESIGN CHOICE, log 125). -/
def maqPower (s : State) (sup : Bool) : MaqSection :=
  { type := 9, inst := 0, filtered := !sup, more := false
    body := wordBytes (powerStateWord s sup) ++ wordBytes (if sup then s.power.reqShadow else 0) ++ wordBytes (tempWord s)
      ++ wordBytes (if sup then heartbeatWord s else 0) }

/-- The image that PROTECT shows: the live one, else the one held for a lock or the shadow. -/
def protShown (p : Prot) : Option Image :=
  match p.live with
  | some i => some i
  | none => match p.lock with
    | some l => some l.image
    | none => p.shadow

/-- STATE of PROTECT. -/
def protState (p : Prot) : Nat := if p.live.isSome then 2 else if (protShown p).isSome then 1 else 0

/-- The PROTECT section of a head: the guardian is the context that holds the role. -/
def maqProtect (s : State) (c : CtxId) (h : ContHead) : MaqSection :=
  let full := supervisor c || guards s c h
  let p := s.prot[h]
  let v (n : Nat) : Nat := if full then n else 0
  let i := protShown p
  let g := ((ctxs.find? fun n => guards s n h).map fun n => n.1).getD 0
  { type := 0xA, inst := h.1, filtered := !full, more := false
    body := toLe 1 h.1 ++ toLe 1 (protState p) ++ toLe 1 (v g)
      ++ toLe 1 (v (bitAt p.safe 0) + bitAt p.safeShowing 1 + v (bitAt p.orphaned 2)) ++ toLe 2 p.x ++ toLe 2 p.y
      ++ toLe 2 ((i.map fun i => i.w).getD 0) ++ toLe 2 ((i.map fun i => i.h).getD 0)
      ++ toLe 1 (v ((i.map fun i => i.format.code).getD 0)) ++ toLe 1 (v p.floor.toNat) ++ toLe 2 0
      ++ toLe 8 (v p.expected.toNat) ++ toLe 4 (v p.mismatch.toNat) ++ toLe 4 (v (allotBytes p)) }

/-- The CLOCK section. -/
def maqClock (s : State) : MaqSection :=
  let entry (y : SynId) : List Byte :=
    let x := s.syn[y]
    let v (f : SynCfg → Nat) : Nat := (x.cfg.map f).getD 0
    toLe 4 (v fun c => c.period.toNat) ++ toLe 1 (v fun c => c.w) ++ toLe 1 (v fun c => c.log2n)
      ++ toLe 1 (bitAt (x.bore = .locked) 0 + v (fun c => bitAt c.ditherOff 1 + bitAt c.autoResume 2) + bitAt (x.out = .running) 3)
      ++ toLe 1 0 ++ toLe 2 (v fun c => c.seed.toNat) ++ toLe 2 x.net.toNat
  { type := 0xB, inst := 0, filtered := false, more := false
    body := wordBytes (clkStatusWord s) ++ entry 0 ++ entry 1 ++ entry 2 }

/-- The slot and head of the relay layer that shows an ingest stream. -/
def relayShown (s : State) (g : IngestId) : Option (HeadId × SlotId) :=
  heads3.findSome? fun h => (slots.find? fun z => (s.slot[h][z]).any fun l => l.desc.relay = some g).map fun z => (h, z)

/-- The RELAY section. -/
def maqRelay (s : State) : MaqSection :=
  let r := s.relay
  let stream (i : StreamId) : List Byte :=
    let x := r.stream[i]
    let v (f : StreamCfg → Nat) : Nat := (x.cfg.map f).getD 0
    toLe 1 i.1 ++ toLe 1 (bitAt x.enabled 0 + v fun c => bitAt c.headB 1 + bitAt c.rle 2) ++ toLe 2 (v fun c => c.everyN)
      ++ toLe 4 x.seq.toNat ++ toLe 4 x.sent.toNat ++ toLe 4 x.dropped.toNat
  let ingest (g : IngestId) : List Byte :=
    let x := r.ingest[g]
    let gl := conts.any fun h => s.head[h].cfg.any fun c => c.genlock = .relay && c.glStream = g
    let at_ := relayShown s g
    toLe 1 g.1 ++ toLe 1 (bitAt x.enabled 0 + bitAt x.live 1 + bitAt x.stale 2 + bitAt gl 3)
      ++ toLe 1 ((at_.map fun p => p.2.1).getD 0xFF) ++ toLe 1 ((at_.map fun p => p.1.1).getD 0) ++ toLe 4 x.lastSeq.toNat
      ++ toLe 4 x.frames.toNat ++ toLe 4 x.lost.toNat
  { type := 0xC, inst := 0, filtered := false, more := false
    body := wordBytes (relayStatusWord s) ++ ((r.cfg.map fun c => c.mac).getD (List.replicate 6 0))
      ++ toLe 2 ((r.cfg.map fun c => c.ethertype).getD 0x88B5) ++ toLe 4 r.dropCount.toNat ++ (List.finRange 16).flatMap stream
      ++ (List.finRange 8).flatMap ingest }

/-- The FAULT section. -/
def maqFaults (s : State) (w : WinId) : MaqSection :=
  { type := 0xD, inst := 0, filtered := false, more := false
    body := wordBytes (faultSummaryWord s { s.win[w] with cursor := 0 } true)
      ++ s.faults.entries.flatMap fun e => e.words.toList.flatMap wordBytes }

/-- The sections of a caller's Maquette (Table 07-2). -/
def maqSections (s : State) (w : WinId) (c : CtxId) : List MaqSection :=
  let sup := supervisor c
  (maqCtxs s c).map (maqContext s sup) ++ [maqHead s sup 0, maqHead s sup 1, maqHeadE s sup, maqCommits s c, maqLayers s c,
    maqQueues s c, maqEvents s c, maqTimers s w c, maqMonitors s c, maqPower s sup, maqProtect s c 0, maqProtect s c 1]
    ++ (if sup then [maqClock s, maqRelay s, maqFaults s w] else [])

/-- The snapshot: header, sections, trailer (R153 to R155). -/
def snapshot (s : State) (w : WinId) (c : CtxId) : List Byte :=
  let secs := maqSections s w c
  let body := secs.flatMap MaqSection.bytes
  let b := toLe 4 0x5451414D ++ toLe 2 1 ++ toLe 2 32 ++ toLe 8 (genOf s c).toNat ++ toLe 8 s.drone.time.toNat ++ toLe 1 c.1
    ++ toLe 1 (maqView s c) ++ toLe 2 secs.length ++ toLe 4 (44 + body.length) ++ body ++ toLe 2 0xFFFF ++ toLe 2 0 ++ toLe 4 4
  b ++ toLe 4 (crc32c b)

/-! ## MAQUETTE -/

/-- A staging buffer becomes free, and the oldest command that waits for one starts (R150). -/
def unstage (w : WinId) (s : State) : State :=
  let s := { s with port := { s.port with staging := s.port.staging.filter fun p => p.1 ≠ w } }
  let waits (v : WinId) : Option (WinId × Nat) := (s.win[v].exec).bind fun e => guardSome (e.phase = .maqStage) (v, e.since)
  let oldest := if 2 ≤ s.port.staging.length then none else (wins.filterMap waits).foldl (fun (b : Option (WinId × Nat)) p => match b with
    | none => some p
    | some q => if p.2 < q.2 then some p else some q) none
  match oldest with
  | none => s
  | some (v, _) => setPhase v .maqQuiet { s with port := { s.port with staging := s.port.staging ++ [(v, none)] } }

/-- The region of a MAQUETTE reaches from its destination to the size limit (R135, step 5). -/
def checkMaquette (w : WinId) (c : CtxId) (a : Cmd) (s : State) : Option Verdict :=
  let limit := fld a.a1 0 17
  firstFail [
    (!argBits a wholeWord 0x1FFFF 0 0 || decide (limit % 4 ≠ 0 ∨ (if supervisor c then 65536 else 4096) < limit), .badArg),
    (!inPart s c (woff a.a0) limit, .outOfPartition),
    (!cmdMem s w, .noResource)]

/-- The command starts, or waits for a staging buffer. -/
def actMaquette (w : WinId) (_ : CtxId) (_ : Cmd) (s : State) : State :=
  if s.port.staging.length < 2 then setPhase w .maqQuiet { s with port := { s.port with staging := s.port.staging ++ [(w, none)] } }
  else setPhase w .maqStage s

def opMaquette : Opcode := { check := checkMaquette, needs := fun _ _ _ => [], act := actMaquette }

/-- MAQUETTE (0x50). -/
def execMaquette (w : WinId) (c : Cmd) (s : State) : Host.Outcome State Fault Refusal :=
  .next (portRow w 0x50 c opMaquette.run s)

/-- MAQUETTE_QUIET_POINT (R148): the state as it stands is captured. A snapshot beyond the size limit is not written
(R139). -/
def execMaquetteQuietPoint (w : WinId) (s : State) : Host.Outcome State Fault Refusal :=
  match s.win[w].exec with
  | none => .next s
  | some e =>
    if e.phase ≠ .maqQuiet || !fabricOn s then .next s
    else
      let b := snapshot s w e.ctx
      if fld e.entry.cmd.a1 0 17 < b.length then
        .next (finish w .noResource (BitVec.ofNat 32 b.length) 0 (unstage w s))
      else
        let s := { s with port := { s.port with staging := s.port.staging.map fun p => if p.1 = w then (w, some b) else p } }
        .next (setPhase w .maqWrite s)

/-- The snapshot that a window's command has staged. -/
def staged (s : State) (w : WinId) : Option (List Byte) := (s.port.staging.find? fun p => p.1 = w).bind fun p => p.2

/-- MAQUETTE_WRITTEN (R151): the snapshot is in memory, the buffer is free and the command completes. Buffers are served
in the order in which their commands started (R150). -/
def execMaquetteWritten (w : WinId) (s : State) : Host.Outcome State Fault Refusal :=
  match s.win[w].exec, staged s w with
  | some e, some b =>
    if e.phase ≠ .maqWrite || !memAvail s || !fabricOn s || !(s.port.staging.head?.any fun p => p.1 = w) then .next s
    else
      let a := partBase s e.ctx + woff e.entry.cmd.a0
      let s := access 134 true e.ctx a b.length (snoop a b.length (s.write a b))
      .next (finish w .ok (BitVec.ofNat 32 b.length) (BitVec.ofNat 32 (leAt b 8 4)) (unstage w s))
  | _, _ => .next s

/-- The writing of a snapshot stops where its command is aborted: what is written by then, in ascending order and short of
the trailer's end, stays (R151, 07.8). How much that is, is free (log 126). -/
def cutWriting (w : WinId) (e : Exec) (s : State) : State :=
  match staged s w with
  | none => s
  | some b =>
    if e.phase ≠ .maqWrite || !memAvail s || !(s.port.staging.head?.any fun p => p.1 = w) then s
    else
      let a := partBase s e.ctx + woff e.entry.cmd.a0
      let d := b.take (Config.maquetteWritten s.free % b.length)
      access 134 true e.ctx a d.length (snoop a d.length ((bumpFree s).write a d))

/-! ## MAQUETTE_SHORT (R112, R159) -/

/-- The number of a context's pending parts on a head, at most 15. -/
def pendingParts (s : State) (c : CtxId) (h : HeadId) : Nat :=
  Nat.min 15 ((s.commits.filter fun p => p.ctx = c).flatMap fun p => p.parts.filter fun x => x.head = h).length

/-- Word 29: the protected layer of a head. -/
def protByte (s : State) (c : CtxId) (h : ContHead) : Nat :=
  let p := s.prot[h]
  protState p + bitAt p.safeShowing 2 + bitAt (supervisor c && p.orphaned) 3

/-- Words 0 to 30 of a capture (Table 07-4). Word 12 gives a commit with parts on two heads the head of the first part that
is still pending (DESIGN CHOICE, log 125). -/
def shortWords (s : State) (w : WinId) (c : CtxId) : List Word :=
  let x := s.win[w]
  let sup := supervisor c
  let g := (genOf s c).toNat
  let last (h : HeadId) : Nat := ((s.ctx[c].lastApplied[h]).map fun a => a.id.toNat).getD 0
  let oldest : Word := match s.commits.find? fun p => p.ctx = c with
    | some p => put p.id.toNat 0 16 ||| put ((p.parts.head?.map fun q => q.head.1).getD 0) 16 2 ||| putB true 31
    | none => 0
  let e := execEntry s w
  [0x5451414D, put 1 0 8 ||| put c.1 8 6 ||| put (maqView s c) 16 4, BitVec.ofNat 32 g, BitVec.ofNat 32 (g / 2 ^ 32),
    s.drone.time.setWidth 32, BitVec.ofNat 32 (s.drone.time.toNat / 2 ^ 32), headStatusWord s, frameCountWord s.head[0],
    frameCountWord s.head[1], commitStatusWord s c, put (last 0) 0 16 ||| put (last 1) 16 16,
    put (last 2) 0 16 ||| put (pendingParts s c 0) 16 4 ||| put (pendingParts s c 1) 20 4 ||| put (pendingParts s c 2) 24 4,
    oldest, partitionInfoWord s c, powerStateWord s sup, tempWord s,
    put x.occupancy 0 5 ||| put x.done.length 8 5 ||| put ((e.map fun q => q.op.toNat).getD 0xFF) 16 8
      ||| put ((e.map fun q => q.cmd.tag.toNat).getD 0) 24 8,
    put x.issued.toNat 0 16 ||| put x.completed.toNat 16 16]
  ++ ((List.range 9).map fun k => groupWord s c (BitVec.ofNat 4 k) fun y => y.pending)
  ++ [if sup then heartbeatWord s else 0, faultSummaryWord s { x with cursor := 0 } sup,
    put (protByte s c 0) 0 8 ||| put (protByte s c 1) 8 8, 0]

/-- A capture with its CRC in word 31. -/
def shortForm (s : State) (w : WinId) (c : CtxId) : Vector Word 32 :=
  let l := shortWords s w c
  let l := l ++ [BitVec.ofNat 32 (crc32c (l.flatMap wordBytes))]
  Vector.ofFn fun i => l.getD i.1 0

def actMaquetteShort (w : WinId) (c : CtxId) (_ : Cmd) (s : State) : State :=
  let v := shortForm s w c
  let s := s.modCtx c fun x => { x with capture := v, captures := x.captures + 1 }
  finish w .ok (put s.ctx[c].captures.toNat 0 8) 0 s

def opMaquetteShort : Opcode where
  check := fun _ _ a _ => firstFail [(!argBits a 0 0 0 0, .badArg)]
  needs := fun _ _ _ => []
  act := actMaquetteShort

/-- MAQUETTE_SHORT (0x51). -/
def execMaquetteShort (w : WinId) (c : Cmd) (s : State) : Host.Outcome State Fault Refusal :=
  .next (portRow w 0x51 c opMaquetteShort.run s)

end Sys2Proof.Machine
end

