-- ==== Sys2Proof/Machine/Returns.lean ====
section
/-! DEFINITION. What memory does with requests: grants, read returns with ECC, sealed release and scrub
(chapters 09 and 10), and the data of COPY_IN and COPY_OUT (08.7). -/
namespace Sys2Proof.Machine

/-! ## COPY_IN and COPY_OUT (R182, R183) -/

/-- The function of a window. -/
def winFn (w : WinId) : Option FnId := match winPath w with
  | .fn f => some f
  | .cs _ => none

/-- The copy that a window's command carries out. -/
def copyOf (s : State) (w : WinId) : Option (Exec × Copy) :=
  match s.win[w].exec with
  | some e => match e.phase with
    | .copy c => some (e, c)
    | _ => none
  | none => none

def setCopy (w : WinId) (c : Copy) (s : State) : State :=
  s.modWin w fun x => { x with exec := x.exec.map fun e => { e with phase := .copy c } }

def sendTlp (t : Tlp) (s : State) : State := { s with pcie := { s.pcie with sent := s.pcie.sent ++ [t] } }

/-- The next read of a copy: one is outstanding at a time (log 57). -/
def copyAsk (w : WinId) (s : State) : State :=
  match copyOf s w, winFn w with
  | some (e, c), some f =>
    if c.toAsk = 0 then s
    else if c.out then
      let a := partBase s e.ctx + c.off
      let k := Nat.min c.toAsk (256 - a % 256)
      enqueue 135 (mkRequest s (.copyRead w e.entry.order) e.ctx a k)
        (setCopy w { c with off := c.off + k, toAsk := c.toAsk - k, asked := k } s)
    else
      let k := Nat.min c.toAsk (Nat.min s.pcie.fn[f].maxRead (4096 - c.host % 4096))
      sendTlp (.memRead f c.host k) (setCopy w { c with host := c.host + k, toAsk := c.toAsk - k, asked := k } s)
  | _, _ => s

/-- The bytes of a COPY_IN's host read that have not come: those asked for, less those that are on their way to memory. -/
def Copy.toCome (e : Exec) (c : Copy) : Nat := c.asked - (c.off - (woff e.entry.cmd.a2 + c.moved))

/-- A host read of a COPY_IN is not answered whole. -/
def hostReadOut (e : Exec) (c : Copy) : Bool := !c.out && decide (0 < c.toCome e)

/-- The host answers a read of a COPY_IN with an error: nothing more comes for it. -/
def readFailed (w : WinId) (s : State) : State :=
  match copyOf s w with
  | some (e, c) => setCopy w { c with asked := c.asked - c.toCome e } s
  | none => s

/-- The copy of a window ends: requests that are not granted leave queue_135, and data that is still to come is
discarded (R173); a host read still outstanding holds back a detach (R174). -/
def endCopy (w : WinId) (s : State) : State :=
  let s := match copyOf s w with
    | some (e, c) => if hostReadOut e c then { s with pcie := { s.pcie with late := s.pcie.late ++ [(w, e.ctx, e.epoch)] } } else s
    | none => s
  removeRequests 135 (fun r => match r.kind with
    | .copyRead v _ => v = w
    | .copyWrite v _ => v = w
    | _ => false) s

/-- A completion arrives for a host read of an ended COPY_IN: it is discarded (R173). -/
def dropLate (w : WinId) (s : State) : State :=
  { s with pcie := { s.pcie with late := s.pcie.late.eraseP fun x => x.1 = w } }

/-- Bytes of a copy have reached their place: the command completes with the last one, or asks for more. -/
def copyMoved (w : WinId) (n : Nat) (s : State) : State :=
  match copyOf s w with
  | some (_, c) =>
    let c := { c with moved := c.moved + n, asked := c.asked - n }
    let s := setCopy w c s
    if c.total ≤ c.moved then finish w .ok (BitVec.ofNat 32 c.moved) 0 s
    else if c.asked = 0 then copyAsk w s
    else s
  | none => s

/-- The copy stops with the bytes moved (R139, R198). -/
def copyStop (w : WinId) (code : Code) (s : State) : State :=
  match copyOf s w with
  | some (_, c) => finish w code (BitVec.ofNat 32 c.moved) 0 (endCopy w s)
  | none => s

/-- Data to the host as write TLPs: at most Max_Payload_Size, none across a 4 KiB boundary (R182). -/
def hostWrites (f : FnId) (maxPayload : Nat) : Nat → Nat → List Byte → List Tlp
  | 0, _, _ => []
  | n + 1, a, d =>
    if d.isEmpty then []
    else
      let k := Nat.min maxPayload (4096 - a % 4096)
      .memWrite f a (d.take k) :: hostWrites f maxPayload n (a + k) (d.drop k)

/-- Data that COPY_OUT read is sent to the host. -/
def copyOutData (w : WinId) (order : Nat) (d : List Byte) (bad : Bool) (s : State) : State :=
  match copyOf s w, winFn w with
  | some (e, c), some f =>
    if !c.out || c.asked = 0 || e.entry.order ≠ order then s
    else if bad then copyStop w .incomplete s
    else
      let d := d.take c.asked
      let s := setCopy w { c with host := c.host + d.length } s
      copyMoved w d.length { s with pcie := { s.pcie with sent := s.pcie.sent ++ hostWrites f s.pcie.fn[f].maxPayload d.length c.host d } }
  | _, _ => s

/-- Data that COPY_IN read from the host is written to memory through queue_135. -/
def copyInData (w : WinId) (d : List Byte) (s : State) : State :=
  match copyOf s w with
  | some (e, c) =>
    if !hostReadOut e c then s
    else
      let d := d.take (c.toCome e)
      let a := partBase s e.ctx + c.off
      let s := setCopy w { c with off := c.off + d.length } s
      forEach (splitRange (d.length / 256 + 2) a d.length)
        (fun p s => enqueue 135 (mkRequest s (.copyWrite w ((d.drop (p.1 - a)).take p.2)) e.ctx p.1 p.2) s) s
  | none => s

/-! ## Grants -/

/-- The context's present occupancy made the request (R173). -/
def Request.current (r : Request) (s : State) : Bool := s.ctx[r.ctx].epoch = r.epoch

/-- SCHEDULER_GRANT (R223): a read goes to its channel; a write is performed, one of an earlier epoch is not (R173). -/
def execSchedulerGrant (s : State) : Host.Outcome State Fault Refusal :=
  match schedule s with
  | (s, none) => .next s
  | (s, some (_, r)) =>
    match r.kind with
    | .copyWrite w d =>
      if r.current s then .next (copyMoved w d.length (snoop r.addr d.length (s.write r.addr d))) else .next s
    | .zero => .next (zeroed (s.write r.addr (List.replicate 256 0)))
    | _ => .next s

/-! ## Read returns (R197, R198, R227) -/

/-- A corrected error: its source, at most one log entry a second, and the write-back of its block (R197). -/
def correctedError (word : Nat) (s : State) : State :=
  let now := s.drone.time.toNat
  let quiet := s.memc.lastCe.any fun t => decide (now < t + 1000000)
  let s := if quiet then s
    else logFault 0x02 (word / 32 % 2) (BitVec.ofNat 32 (word / 32)) { s with memc := { s.memc with lastCe := some now } }
  enqueue 132 (mkRequest s .correct 0 (word / 8 * 64) 64) (raise 185 s)

/-- What the ECC of a returned read shows, of a word in its range. -/
def takeEcc (o : ReadOutcome) (r : Request) (s : State) : State :=
  let inside (w : Nat) : Bool := decide (r.addr < 8 * w + 8 ∧ 8 * w < r.addr + r.len)
  match s.memc.ecc, o with
  | true, .corrected w => if inside w then correctedError w s else s
  | true, .uncorrectable w =>
    if inside w && w ∉ s.memc.badWords then { s with memc := { s.memc with badWords := s.memc.badWords ++ [w] } } else s
  | _, _ => s

/-- A frame number is that of the present frame of a head, or of the next one; a head that waits for a boundary fetches for
the next. -/
def frameAhead? (s : State) (h : ContHead) (frame : Nat) : Option Bool :=
  if frame = frameOf s h true && !scanning s h then some true
  else if frame = frameOf s h false then some false
  else if frame = frameOf s h true then some true
  else none

/-- Source bytes of a layer arrive for the lines they serve; an uncorrectable error sheds the layer for the rest of the
frame (R31). -/
def deliverPixel (h : ContHead) (z : SlotId) (frame f t addr : Nat) (d : List Byte) (bad : Bool) (s : State) : State :=
  match frameAhead? s h frame, decide ((z, f, t) ∈ s.comp[h].missing) with
  | some next, true =>
    let s := s.modComp h fun c => { c with missing := c.missing.erase (z, f, t) }
    if bad then shedWithRun h z next (viewOf s h next) s
    else s.modComp h fun c => { c with
      bursts := c.bursts ++ [{ slot := z, frame := frame, first := f, last := t, addr := addr, bytes := d }] }
  | _, _ => s

/-- Bytes put into a string at an offset. -/
def patch (l : List Byte) (off : Nat) (d : List Byte) : List Byte := l.take off ++ d ++ l.drop (off + d.length)

/-- Palette bytes arrive (R239). -/
def deliverPalette (h : ContHead) (z : SlotId) (frame off : Nat) (d : List Byte) (bad : Bool) (s : State) : State :=
  let blank := !scanning s h || s.head[h].cfg.any fun c => decide (c.vactive ≤ s.head[h].line)
  if frame ≠ frameOf s h blank || s.comp[h].palMissing[z] = 0 then s
  else if bad then shedWithRun h z blank (viewOf s h blank) s
  else s.modComp h fun c => { c with
    palette := c.palette.set z (patch c.palette[z] off d), palMissing := c.palMissing.set z (c.palMissing[z] - 1) }

/-- An uncorrectable error in a read for a commit rejects it (R262). -/
def rejectRead (w : WinId) (order : Nat) (s : State) : State :=
  match s.win[w].exec with
  | some e => match e.phase with
    | .budget r => if e.entry.order = order then rejectCommit w e.ctx r.check 0x41 0 0 s else s
    | _ => s
  | none => s

/-- Read data reaches its requester, unless its epoch is stale (R173). -/
def deliver (r : Request) (d : List Byte) (bad : Bool) (s : State) : State :=
  if !r.current s then s
  else match r.kind with
    | .pixel h z frame f t => deliverPixel h z frame f t r.addr d bad s
    | .palette h z frame off => deliverPalette h z frame off d bad s
    | .flatten n => if bad then failFlatten n s else s
    | .scan u epoch => scanReturn u epoch d bad s
    | .copyRead w n => copyOutData w n d bad s
    | .commit w n => if bad then rejectRead w n s else s
    | _ => s

def readBad : ReadOutcome → Bool
  | .uncorrectable _ => true
  | _ => false

/-- The reads of a queue whose turn has come are delivered, in grant order (R216): as their data returns, on a sealed queue
once their release time has come, no earlier than the one before. A sealed read whose data has not returned by then is
due (R227, R229). -/
def releaseHeld : Nat → QueueId → Nat → State → State
  | 0, _, _, s => s
  | n + 1, q, floor, s =>
    match s.fetch.queue[q].held with
    | [] => s
    | x :: rest =>
      match x.req.release, x.data with
      | none, none => s
      | none, some (d, o) =>
        releaseHeld n q floor (deliver x.req d (readBad o) (s.modQueue q fun y => { y with held := rest }))
      | some t, data =>
        let at_ := Nat.max floor t
        if s.fetch.fclk < at_ then s
        else match data with
          | none => s.modQueue q fun y => { y with held := { x with due := true } :: rest }
          | some (d, o) =>
            let at_ := if x.due then s.fetch.fclk else at_
            let s := s.modQueue q fun y => { y with
              held := rest, delay := maxOpt y.delay (at_ - x.req.entered), late := if x.due then y.late + 1 else y.late }
            let s := if x.due then sample 0x04 q.1 s.fetch.queue[q].late s else s
            releaseHeld n q at_ (deliver x.req d (readBad o) s)

/-- Deliver what a queue may deliver now. -/
def releaseAll (q : QueueId) (s : State) : State := releaseHeld s.fetch.queue[q].held.length q 0 s

/-- The first read of the queue that this request's data belongs to takes it; `floor` is the latest release time of those
granted before it. Data that comes after its release time is late (R229). -/
def fillHeld (fclk : Nat) (r : Request) (d : List Byte × ReadOutcome) : Nat → List Held → List Held
  | _, [] => []
  | floor, x :: l =>
    let at_ := Nat.max floor (x.req.release.getD 0)
    if x.req = r && x.data.isNone then
      { x with data := some d, due := x.due || (x.req.release.isSome && decide (at_ < fclk)) } :: l
    else x :: fillHeld fclk r d at_ l

/-- The row that made the request has met, and logged, an error known then. -/
def ReqKind.early : ReqKind → Bool
  | .access _ | .boot _ | .commit .. => true
  | _ => false

/-- MEMORY_READ_RETURN: the oldest read of a channel returns. Its bytes are those that memory holds now (log 57). -/
def execMemoryReadReturn (ch : Channel) (o : ReadOutcome) (s : State) : Host.Outcome State Fault Refusal :=
  match s.fetch.inflight[ch] with
  | [] => .next s
  | (q, r) :: rest =>
    let s := { s with fetch := { s.fetch with
      inflight := s.fetch.inflight.set ch rest, readIn := s.fetch.readIn.set ch true } }
    let known := firstBad s r.addr r.len
    let s := takeEcc o r s
    let bad := firstBad s r.addr r.len
    let s := if r.kind.early && known.isSome then s else logUe bad s
    let d := s.read r.addr (r.len - r.addr % 32)
    let held := s.fetch.queue[q].held
    if held.any fun x => x.req = r && x.data.isNone then
      let out : ReadOutcome := match bad with | some w => .uncorrectable w | none => .good
      .next (releaseAll q (s.modQueue q fun y => { y with held := fillHeld s.fetch.fclk r (d, out) 0 y.held }))
    else .next (deliver r d bad.isSome s)

/-- SEALED_RELEASE: the release time of reads of a sealed queue has come (R227). -/
def execSealedRelease (q : QueueId) (s : State) : Host.Outcome State Fault Refusal :=
  if fabricOn s then .next (releaseAll q s) else .next s

/-- DRAM_SCRUB (R208): one 256-byte block, in ascending order over usable capacity, unless the last one still waits. -/
def execDramScrub (s : State) : Host.Outcome State Fault Refusal :=
  if !s.memc.ecc || !memAvail s || !fabricOn s || inQueue132 s .scrub then .next s
  else
    let a := s.memc.scrubNext
    let s := { s with memc := { s.memc with scrubNext := if a + 256 < usable s then a + 256 else 0 } }
    .next (enqueue 132 (mkRequest s .scrub 0 a 256) s)

end Sys2Proof.Machine
end

