-- ==== Sys2Proof/Machine/Contexts.lean ====
section
/-! DEFINITION. Contexts, partitions and territories (chapter 08): ATTACH, DETACH, BIND_WINDOW, PARTITION_SET,
TERRITORY_SET, COPY_IN and COPY_OUT, and what the host does to the PCIe functions. -/
namespace Sys2Proof.Machine

/-! ## Windows and bindings (R80 to R82, R104, R145) -/

/-- A binding of the window begins or ends: its registers have their reset values, its queue and completions go, and the
completion of the command that executes is discarded. -/
def rebind (w : WinId) (s : State) : State :=
  s.modWin w fun x => { Window.reset with exec := x.exec.map fun e => { e with discard := true } }

/-- A command ends ABORTED before its end (06.6). -/
def abortExec (w : WinId) (s : State) : State :=
  match s.win[w].exec with
  | none => s
  | some e => match e.phase with
    | .copy _ => copyStop w .aborted s
    | .maqStage | .maqQuiet | .maqWrite => unstage w (finish0 w .aborted (cutWriting w e s))
    | .lockExpected h | .lockBoundary h _ => finish0 w .aborted (cancelLock h s)
    | .caliper u =>
      finish0 w .aborted (if s.cal[u].op.any fun r => r.byWindow = some w then stopCal u .aborted true s else s)
    | _ => finish0 w .aborted s

/-- The windows that execute a command of a context. -/
def execWins (s : State) (n : CtxId) : List WinId := wins.filter fun w => s.win[w].exec.any fun e => e.ctx = n

/-! ## ATTACH (R166, R167) -/

def checkAttach (_ : WinId) (c : CtxId) (a : Cmd) (_ : State) : Option Verdict :=
  firstFail [(!supervisor c, .denied), (!argBits a 0x7003F 0 0 0 || argCtx a.a0 = 0, .badArg)]

/-- MODIFY, and the guardian roles asked for. -/
def attachModify (a : Cmd) : Bool := a.a0.getLsbD 16
def attachRole (a : Cmd) (h : ContHead) : Bool := a.a0.getLsbD (17 + h.1)

/-- A role is granted, or taken away. -/
def granting (s : State) (n : CtxId) (a : Cmd) (h : ContHead) : Bool := attachRole a h && !guards s n h
def clearing (s : State) (n : CtxId) (a : Cmd) (h : ContHead) : Bool := !attachRole a h && guards s n h

/-- The checks on the state of the context and of the roles (R139, R167). -/
def attachState (s : State) (n : CtxId) (a : Cmd) : Option Verdict :=
  firstFail [
    (s.ctx[n].st = .detaching, .busy),
    (attachModify a ≠ attached s n, .badArg),
    (conts.any fun h => granting s n a h && ctxs.any fun m => guards s m h, .badArg),
    (conts.any fun h => granting s n a h && s.prot[h].orphaned, .locked),
    (conts.any fun h => clearing s n a h && protLocked s h && s.prot[h].guardian = some n, .locked)]

/-- The roles as asked; a lock that no context has taken becomes the new guardian's. -/
def setRoles (n : CtxId) (a : Cmd) (s : State) : State :=
  let s := forEach conts (fun h s =>
    if granting s n a h && protLocked s h && s.prot[h].guardian.isNone then s.modProt h fun p => { p with guardian := some n } else s) s
  s.modCtx n fun c => { c with guardA := attachRole a 0, guardB := attachRole a 1 }

def actAttach (w : WinId) (_ : CtxId) (a : Cmd) (s : State) : State :=
  let n := argCtx a.a0
  match attachState s n a with
  | some v => turnAway w v s
  | none =>
    let s :=
      if attachModify a then
        let changed := conts.any fun h => granting s n a h || clearing s n a h
        let s := setRoles n a s
        if changed then bumpCtx n s else s
      else
        let s := s.modCtx n fun c => { Ctx.unattached with st := .shared, epoch := c.epoch + 1, gen := 1 }
        rebind (fnWin n) (resetQueue (layerQueue n 0) (resetQueue (layerQueue n 1) (setRoles n a s)))
    finishGen w (s.ctx[n].gen.setWidth 32) (s.ctx[n].epoch.setWidth 32) s

def opAttach : Opcode := { check := checkAttach, needs := fun _ a _ => [.ctxSet (argCtx a.a0)], act := actAttach }

/-- ATTACH (0x01). -/
def execAttach (w : WinId) (c : Cmd) (s : State) : Host.Outcome State Fault Refusal := .next (portRow w 0x01 c opAttach.run s)

/-! ## DETACH (R170, Table 08-2) -/

/-- The members of the runs with a layer of a context that a line of the present or the next frame was decided with
(R297). -/
def runsLost (s : State) (n : CtxId) (h : ContHead) (next : Bool) (y : Nat) : List SlotId :=
  let v := viewOf s h next
  (v.relief.runs[h].filter fun r => r.serves v h && (r.tiles.any fun t => t.ty = y / 64)
    && r.members.any fun z => (v.slot[headId h][z]).any fun l => l.ctx = n).flatMap fun r => r.members

/-- On the lines decided by then, stored ones among them, those runs are transparent whole (R297). -/
def blankRuns (n : CtxId) (h : ContHead) (s : State) : State :=
  match s.head[h].cfg with
  | none => s
  | some cfg =>
    let lost (y : Nat) : List SlotId := runsLost s n h (lineAhead s h cfg y) y
    s.modComp h fun c => { c with
      blank := c.blank ++ c.decided.map fun y => (y, lost y)
      store := c.store.map fun e => { e with blank := e.blank ++ lost e.line } }

/-- Step 2 on a head: the context's layers are transparent and fetched no further. -/
def hideLayers (n : CtxId) (h : ContHead) (s : State) : State :=
  let own := slots.filter fun z => (s.slot[headId h][z]).any fun l => l.ctx = n
  let s := (blankRuns n h s).modComp h fun c => { c with
    gone := c.gone ++ own.filter fun z => z ∉ c.gone
    missing := c.missing.filter fun m => m.1 ∉ own }
  let s := (removeRequests (layerQueue n h) (fun _ => true) s).modQueue (layerQueue n h) fun q => { q with held := [] }
  recompose h s

/-- Step 3: the sources of the context, and those that it owns. -/
def dropSources (n : CtxId) (s : State) : State :=
  let own := (List.finRange 288).filter fun k => s.evu.src[k].owner = n
  forEach own (fun k s =>
    if k.1 < 128 then withSrc k (fun x => { x with pending := false, enable := false, merge := 0, service := x.service &&& 0xF }) s
    else returnSource k s) s

/-- Steps 1 to 4: the start of a DETACH, in one cycle. `keep` is the window of the DETACH itself. -/
def beginDetach (n : CtxId) (keep : Option WinId) (s : State) : State :=
  let bound := boundWins s n
  let s := s.modCtx n fun c => { c with st := .detaching, epoch := c.epoch + 1, detachBy := keep, doorIn := 0 }
  let s := forEach ((execWins s n).filter fun w => some w ≠ keep) abortExec s
  let s := forEach bound rebind s
  let s := { s with port := { s.port with
    csBound := s.port.csBound.map fun b => if b = some n then none else b
    doorQueue := s.port.doorQueue.filter fun e => e.1 ≠ n } }
  let s := s.modFn n fun f => { f with msixEnable := false }
  let s := hideLayers n 1 (hideLayers n 0 { s with commits := s.commits.filter fun p => p.ctx ≠ n })
  let s := dropSources n (stopServing n s)
  let s := forEach (List.finRange 16) (fun t s => if s.timer[t].owner = n then setTimerOwner t 0 s else s) s
  { s with mon := s.mon.map fun m => if m.bound = some n then Monitor.reset else m }

def checkDetach (_ : WinId) (c : CtxId) (a : Cmd) (_ : State) : Option Verdict :=
  let n := argCtx a.a0
  firstFail [(!selfOrSupervisor c n, .denied), (!argBits a 0x3F 0 0 0 || n = 0, .badArg)]

def actDetach (w : WinId) (_ : CtxId) (a : Cmd) (s : State) : State :=
  let n := argCtx a.a0
  match firstFail (namedState s n) with
  | some v => turnAway w v s
  | none => setPhase w .drain (beginDetach n (some w) s)

def opDetach : Opcode where
  check := checkDetach
  needs := fun _ a _ => [.gate 0, .gate 1, .gate 2, .ctxSet (argCtx a.a0)]
  act := actDetach

/-- DETACH (0x02). -/
def execDetach (w : WinId) (c : Cmd) (s : State) : Host.Outcome State Fault Refusal := .next (portRow w 0x02 c opDetach.run s)

/-- No request of the context is outstanding: none waits in or for a queue, none is granted and not returned, and no host
read of a COPY_IN is unanswered (R174). -/
def drained (s : State) (n : CtxId) : Bool :=
  ([(0 : Channel), 1].all fun ch => (s.fetch.inflight[ch]).all fun p => p.2.ctx ≠ n)
    && (s.fetch.queue.toList.all fun q => (q.reqs ++ q.waiting ++ q.held.map fun x => x.req).all fun r => r.ctx ≠ n)
    && s.pcie.late.all fun x => x.2.1 ≠ n

/-- Step 6 for the protected layer of a head (R171, R318). -/
def orphan (n : CtxId) (h : ContHead) (s : State) : State :=
  let s := if guards s n h then s.modProt h fun p => { p with shadow := none } else s
  if protLocked s h && s.prot[h].guardian = some n then s.modProt h fun p => { p with orphaned := true } else s

/-- The layers of a context leave head E at once, and a stopped head (Table 08-2, steps 7 and 8). -/
def dropStopped (n : CtxId) (h : HeadId) (s : State) : State :=
  let keep := (contHead h).any (started s)
  if keep then s
  else
    let s := forEach slots (fun z s => if (s.slot[h][z]).any fun l => l.ctx = n then s.modSlot h z none else s) s
    match contHead h with
    | some k => s.modComp k fun c => { c with gone := c.gone.filter fun z => (s.slot[h][z]).isSome }
    | none => s

/-- Granules that a partition loses await zeroing (R175). -/
def releaseGranules (first count : Nat) (a b e : Bool) (s : State) : State :=
  if count = 0 then s
  else { s with memc := { s.memc with released := s.memc.released ++ [{ first := first, count := count, waitA := a, waitB := b, waitE := e, next := 0 }] } }

/-- Step 6: the record has its unattached values, the partition is released, and the DETACH completes. -/
def endDetach (n : CtxId) (s : State) : State :=
  let c := s.ctx[n]
  let onE := s.epd.cfg.isSome && slots.any fun z => (s.slot[2][z]).any fun l => l.ctx = n
  let s := orphan n 1 (orphan n 0 s)
  let s := releaseGranules c.partBase c.partSize (started s 0) (started s 1) onE s
  let s := s.modCtx n fun c => { Ctx.unattached with epoch := c.epoch }
  let s := dropStopped n 2 (dropStopped n 1 (dropStopped n 0 s))
  let s := kickZero (if onE then composeCanvas s else s)
  match c.detachBy with
  | some w => if s.win[w].exec.any fun e => e.phase = .drain then finishGen w 0 0 s else bumpDevice s
  | none => bumpDevice s

/-- DETACH_DRAIN_COMPLETE (Table 08-2, steps 5 and 6). -/
def execDetachDrainComplete (n : CtxId) (s : State) : Host.Outcome State Fault Refusal :=
  if s.ctx[n].st = .detaching && drained s n then .next (endDetach n s) else .next s

/-! ## BIND_WINDOW (R80, R81) -/

/-- The chip select named, CS1 to CS3, as an index of the bindings. -/
def bindCs (a : Cmd) : Option (Fin 3) := if h : fld a.a0 10 2 = 0 then none else some ⟨fld a.a0 10 2 - 1, by have : fld a.a0 10 2 < 4 := Nat.mod_lt _ (by decide); omega⟩

/-- The checks of BIND_WINDOW. It binds to a tenant (R20, R80): CTX_0 is BAD_ARG (R21), and so is a context that is
detaching, which is no longer attached (DESIGN CHOICE, log 63: R139 does not list BIND_WINDOW). -/
def checkBindWindow (_ : WinId) (c : CtxId) (a : Cmd) (s : State) : Option Verdict :=
  firstFail [
    (!supervisor c, .denied),
    (!argBits a 0x10C3F 0 0 0 || (bindCs a).isNone, .badArg),
    (!a.a0.getLsbD 16 && (argCtx a.a0 = 0 || !attached s (argCtx a.a0)), .badArg),
    ((bindCs a).any fun k => s.port.csLock.getLsbD k.1, .locked)]

def actBindWindow (w : WinId) (_ : CtxId) (a : Cmd) (s : State) : State :=
  match bindCs a with
  | none => finish0 w .badArg s
  | some k =>
    let old := s.port.csBound[k]
    let new := if a.a0.getLsbD 16 then none else some (argCtx a.a0)
    if old = new then finish0 w .ok s
    else
      let s := { s with port := { s.port with csBound := s.port.csBound.set k new } }
      let s := rebind ⟨k.1 + 1, by omega⟩ s
      finishGen w 0 0 (forEach (old.toList ++ new.toList) bumpCtx s)

def opBindWindow : Opcode := { check := checkBindWindow, needs := fun _ _ _ => [], act := actBindWindow }

/-- BIND_WINDOW (0x04). -/
def execBindWindow (w : WinId) (c : Cmd) (s : State) : Host.Outcome State Fault Refusal :=
  .next (portRow w 0x04 c opBindWindow.run s)

/-! ## PARTITION_SET (R176, R177) -/

def checkPartitionSet (_ : WinId) (c : CtxId) (a : Cmd) (_ : State) : Option Verdict :=
  firstFail [(!supervisor c, .denied), (!argBits a 0x3F 0x3FFFF 0x3FFFF 0, .badArg)]

/-- Two granule ranges overlap. -/
def overlaps (b1 n1 b2 n2 : Nat) : Bool := decide (0 < n1 ∧ 0 < n2 ∧ b1 < b2 + n2 ∧ b2 < b1 + n1)

/-- The ranges that a head configuration block names: the LUTs of head A or B, the waveform table of head E. -/
def headRanges (cont : Bool) (b : List Byte) : List (Nat × Nat) :=
  if cont then
    (if byteAt b 2 / 16 % 2 = 1 then [(degammaAt b, 6144)] else []) ++ if byteAt b 2 / 32 % 2 = 1 then [(gammaAt b, 6144)] else []
  else if epdLoads b then [(epdWaveOff b, waveBytes)] else []

/-- The partition-relative ranges that an executing command names in its caller's partition. -/
def execRanges (s : State) (e : Exec) : List (Nat × Nat) :=
  let a := e.entry.cmd
  let block := woff a.a1
  match e.entry.op.toNat with
  | 0x08 | 0x09 => [(woff a.a2, fld a.a3 0 24)]
  | 0x10 | 0x12 =>
    (woff a.a0, 8 * fld a.a1 0 7) :: ((rawList s e.ctx a).filter fun r => !r.clear).map fun r => (4 * r.desc, 64)
  | 0x20 =>
    let b := readPart s e.ctx block 64
    (block, 64) :: headRanges (argCont a.a0).isSome b
  | 0x23 => if a.a0.getLsbD 17 then [] else [(block, tableLen s a)]
  | 0x30 =>
    let b := readPart s e.ctx block 64
    (block, 64) :: (if byteAt b 0 = 1 && !scanDevice b then [(leAt b 0x30 8, (leAt b 6 2 - 1) * leAt b 0x38 4 + leAt b 0x2C 4)] else [])
  | 0x40 => [(block, 32)]
  | 0x50 => [(woff a.a0, fld a.a1 0 17)]
  | 0x60 => if a.a0.getLsbD 16 then [(block, 128)] else []
  | _ => []

/-- Every partition-relative range that a context's applied layers, pending commits and executing commands name. -/
def namedRanges (s : State) (n : CtxId) : List (Nat × Nat) :=
  (heads3.flatMap fun h => (appliedDescs s n h).flatMap Desc.extents)
  ++ ((s.commits.filter fun p => p.ctx = n).flatMap fun p => p.parts.flatMap fun x => x.ops.flatMap fun o => match o with
      | .place _ d _ => d.extents
      | .clear _ => [])
  ++ (execWins s n).flatMap fun w => match s.win[w].exec with
      | some e => execRanges s e
      | none => []

/-- COPY_IN, SCAN or MAQUETTE of a context executes (Table 06-5). -/
def usesPartition (s : State) (n : CtxId) : Bool :=
  (execWins s n).any fun w => s.win[w].exec.any fun e => decide (e.entry.op.toNat ∈ [0x08, 0x30, 0x50])

/-- The checks of R139, R176 and Table 06-5 on the new extent, in their order. -/
def partitionState (s : State) (n : CtxId) (base size : Nat) : Option Verdict :=
  let c := s.ctx[n]
  let others := ctxs.any fun m => m ≠ n && overlaps base size s.ctx[m].partBase s.ctx[m].partSize
  firstFail (namedState s n ++ [
    (decide (0 < size ∧ usable s / 65536 < base + size), .noResource),
    (others || decide (0 < size ∧ deviceBase s / 65536 < base + size)
      || decide (base ≠ c.partBase ∧ 0 < size ∧ 0 < c.partSize), .badArg),
    (s.memc.released.any fun r => overlaps base size r.first r.count, .busy),
    (usesPartition s n, .busy),
    ((namedRanges s n).any fun r => decide (0 < r.2 ∧ 65536 * size < r.1 + r.2), .busy)])

def actPartitionSet (w : WinId) (_ : CtxId) (a : Cmd) (s : State) : State :=
  let n := argCtx a.a0
  let base := fld a.a1 0 18
  let size := fld a.a2 0 18
  match partitionState s n base size with
  | some v => turnAway w v s
  | none =>
    let c := s.ctx[n]
    let s := releaseGranules (c.partBase + size) (c.partSize - size) false false false s
    let s := s.modCtx n fun c => { c with partBase := base, partSize := size }
    finishGen w 0 0 (kickZero (bumpCtx n s))

def opPartitionSet : Opcode := { check := checkPartitionSet, needs := fun _ a _ => [.ctxSet (argCtx a.a0)], act := actPartitionSet }

/-- PARTITION_SET (0x05). -/
def execPartitionSet (w : WinId) (c : Cmd) (s : State) : Host.Outcome State Fault Refusal :=
  .next (portRow w 0x05 c opPartitionSet.run s)

/-! ## TERRITORY_SET (R184 to R186) -/

def checkTerritorySet (_ : WinId) (c : CtxId) (a : Cmd) (_ : State) : Option Verdict :=
  firstFail [
    (!supervisor c, .denied),
    (!argBits a 0x10F3F wholeWord wholeWord 0xFF || (argHead a.a0).isNone, .badArg)]

/-- The entry number, and the territory that the arguments give; none removes the entry. -/
def terrIndex (a : Cmd) : Fin 4 := ⟨fld a.a0 10 2, Nat.mod_lt _ (by decide)⟩
def argTerr (a : Cmd) : Option Territory :=
  let w := fld a.a2 0 16
  let h := fld a.a2 16 16
  guardSome (w ≠ 0 && h ≠ 0) {
    x := fld a.a1 0 16, y := fld a.a1 16 16, w := w, h := h, zlo := fld a.a3 0 4, zhi := fld a.a3 4 4, overlap := a.a0.getLsbD 16 }

/-- Two territories share a z-slot, or a pixel. -/
def Territory.sharesSlot (t u : Territory) : Bool := decide (t.zlo ≤ u.zhi ∧ u.zlo ≤ t.zhi)
def Territory.meets (t u : Territory) : Bool := decide (t.x < u.x + u.w ∧ u.x < t.x + t.w ∧ t.y < u.y + u.h ∧ u.y < t.y + t.h)

/-- The territories of the other contexts on a head. -/
def otherTerrs (s : State) (n : CtxId) (h : HeadId) : List Territory :=
  ctxs.flatMap fun m => if m = n then [] else (s.ctx[m].terr[h]).toList.filterMap id

/-- The cases of R184. -/
def terrBad (s : State) (n : CtxId) (h : HeadId) (t : Territory) : Bool :=
  decide (t.zhi < t.zlo ∨ 8192 < t.x + t.w ∨ 8192 < t.y + t.h)
    || (otherTerrs s n h).any fun u => t.sharesSlot u || (!t.overlap && t.meets u)

/-- New territories enlarge the visible extent of an applied or pending layer, or place its slot into it (R186). -/
def enlarges (s : State) (n : CtxId) (h : ContHead) (cfg : HeadCfg) (ts : Terrs) : Bool :=
  let old := sceneOf cfg (admTerr s h n)
  let new := sceneOf cfg ts
  (queueStates s n (headId h)).any fun l => l.any fun d =>
    (d.visibleLines new).any fun y => (d.visible new y).any fun p => p ∉ d.visible old y

/-- Admission of new territories on a continuous head (R186): the per-head check (R278), with the reason and the line that
fail. -/
def terrAdmission (s : State) (n : CtxId) (h : ContHead) (ts : Terrs) : Option (Nat × Nat) :=
  match s.head[h].cfg with
  | none => none
  | some cfg =>
    if !enlarges s n h cfg ts then none
    else checkStates s n h cfg ts s.fetch.queue[layerQueue n h].pol (queueStates s n (headId h))

/-- The territories of a context on a head are set: in admission at once, in composition at the head's boundary; head E has
none, so that its next composition uses them and none is started (DESIGN CHOICE, log 122). -/
def setTerrs (n : CtxId) (h : HeadId) (ts : Terrs) (s : State) : State :=
  let at_ := (contHead h).bind (boundaryOf s)
  s.modCtx n fun c => { c with
    terr := c.terr.set h ts
    terrShown := if at_.isNone then c.terrShown.set h ts else c.terrShown
    terrNext := if at_.isNone then c.terrNext else c.terrNext.set h (c.terrNext[h] ++ [(at_, ts)]) }

/-- The territories of a context on a head with one entry replaced. -/
def terrsWith (s : State) (n : CtxId) (h : HeadId) (i : Fin 4) (new : Option Territory) : Terrs := s.ctx[n].terr[h].set i new

/-- Why an entry cannot be set (R139, R184 to R186). -/
def terrFails (s : State) (n : CtxId) (h : HeadId) (i : Fin 4) (new : Option Territory) : Option Verdict :=
  match firstFail [(s.ctx[n].st = .unattached || new.any (terrBad s n h), .badArg), (s.ctx[n].st = .detaching, .busy)] with
  | some v => some v
  | none => match new, contHead h with
    | some _, some k =>
      (terrAdmission s n k (terrsWith s n h i new)).map fun (reason, line) =>
        { code := .rejected, q0 := put reason 0 8 ||| put h.1 8 2, q1 := put line 0 13 }
    | _, _ => none

def actTerritorySet (w : WinId) (_ : CtxId) (a : Cmd) (s : State) : State :=
  let n := argCtx a.a0
  match argHead a.a0 with
  | none => finish0 w .badArg s
  | some h =>
    let i := terrIndex a
    let new := argTerr a
    match terrFails s n h i new with
    | some v => turnAway w v s
    | none =>
      if new.isNone && (s.ctx[n].terr[h][i]).isNone then finish0 w .ok s
      else finishGen w 0 0 (bumpCtx n (setTerrs n h (terrsWith s n h i new) s))

def opTerritorySet : Opcode where
  check := checkTerritorySet
  needs := fun _ a _ => (argHead a.a0).toList.map Resource.gate ++ [.ctxSet (argCtx a.a0)]
  act := actTerritorySet

/-- TERRITORY_SET (0x06). -/
def execTerritorySet (w : WinId) (c : Cmd) (s : State) : Host.Outcome State Fault Refusal :=
  .next (portRow w 0x06 c opTerritorySet.run s)

/-! ## COPY_IN and COPY_OUT (R182, R183) -/

/-- The host address of a copy. -/
def copyHost (a : Cmd) : Nat := a.a0.toNat + 2 ^ 32 * a.a1.toNat

def checkCopy (w : WinId) (c : CtxId) (a : Cmd) (s : State) : Option Verdict :=
  let n := fld a.a3 0 24
  firstFail [
    ((winFn w).isNone, .denied),
    (!argBits a wholeWord wholeWord wholeWord 0xFFFFFF || decide (a.a0.toNat % 4 ≠ 0 ∨ n % 4 ≠ 0 ∨ n = 0), .badArg),
    (!inPart s c (woff a.a2) n, .outOfPartition),
    (!cmdMem s w || !(winFn w).any fun f => s.pcie.fn[f].busMaster, .noResource)]

def actCopy (out : Bool) (w : WinId) (_ : CtxId) (a : Cmd) (s : State) : State :=
  let n := fld a.a3 0 24
  copyAsk w (setPhase w (.copy { out := out, host := copyHost a, off := woff a.a2, toAsk := n, asked := 0, moved := 0, total := n }) s)

def opCopyIn : Opcode := { check := checkCopy, needs := fun _ _ _ => [], act := actCopy false }
def opCopyOut : Opcode := { check := checkCopy, needs := fun _ _ _ => [], act := actCopy true }

/-- COPY_IN (0x08). -/
def execCopyIn (w : WinId) (c : Cmd) (s : State) : Host.Outcome State Fault Refusal := .next (portRow w 0x08 c opCopyIn.run s)

/-- COPY_OUT (0x09). -/
def execCopyOut (w : WinId) (c : Cmd) (s : State) : Host.Outcome State Fault Refusal := .next (portRow w 0x09 c opCopyOut.run s)

/-- PCIE_COMPLETION_RECEIVED: data of a COPY_IN, or an error completion, which ends it INCOMPLETE (R139); a completion
for an ended one is discarded (R173). -/
def execPcieCompletionReceived (w : WinId) (r : PcieCompletion) (s : State) : Host.Outcome State Fault Refusal :=
  if r = .late then .next (dropLate w s)
  else if !(copyOf s w).any fun p => hostReadOut p.1 p.2 then .next s
  else match r with
    | .data b => .next (copyInData w b s)
    | .error => .next (copyStop w .incomplete (readFailed w s))
    | .late => .next s

/-! ## PCIe functions (R172, R180, R52, R590) -/

/-- The SR-IOV capability (R180). -/
def totalVfs : Nat := 63
def initialVfs : Nat := 63
def firstVfOffset : Nat := 1
def vfStride : Nat := 1

/-- The function number of VF_n in a hierarchy with ARI. -/
def vfNumber (n : CtxId) : Nat := firstVfOffset + (n.1 - 1) * vfStride

/-- Device ID and Vendor ID of a function. -/
def deviceId (f : FnId) : HalfWord := if f = 0 then 0x0640 else 0x0641
def vendorId (_ : FnId) : HalfWord := Config.vendorId

/-- Bus Master Enable of a function clears: its copy ends INCOMPLETE (R183). -/
def clearMaster (f : FnId) (s : State) : State := copyStop (fnWin f) .incomplete (s.modFn f fun x => { x with busMaster := false })

/-- BUS_MASTER_ENABLE_CLEAR. -/
def execBusMasterEnableClear (f : FnId) (s : State) : Host.Outcome State Fault Refusal := .next (clearMaster f s)

/-- A function's configuration returns to its reset state; a function-level reset keeps Max_Payload_Size (PRESUMED: the
PCI Express Base Specification, log 63). -/
def resetFn (keep : Bool) (f : FnId) (s : State) : State :=
  (clearMaster f s).modFn f fun x => { Function.reset with
    maxPayload := if keep then x.maxPayload else Function.reset.maxPayload }

/-- A VF ceases to exist, or is reset: the DETACH of its context that the OL640 issues itself (R170, R172). -/
def flrDetach (n : CtxId) (s : State) : State := if attached s n && n ≠ 0 then beginDetach n none s else s

/-- VF_FUNCTION_LEVEL_RESET. -/
def execVfFunctionLevelReset (n : CtxId) (s : State) : Host.Outcome State Fault Refusal :=
  if vfExists s n then .next (resetFn true n (flrDetach n s)) else .next s

/-- VF Enable and NumVFs take new values; a VF that ceases to exist is reset and its context detached, and a VF that
comes into existence starts with its reset configuration and a fresh window. -/
def setVfs (enable ari : Bool) (numVfs : Nat) (s : State) : State :=
  let s' := { s with pcie := { s.pcie with vfEnable := enable, numVfs := numVfs, ari := ari } }
  let ending := ctxs.filter fun n => vfExists s n && !vfExists s' n
  let starting := ctxs.filter fun n => !vfExists s n && vfExists s' n
  let s := forEach ending (fun n s => resetFn false n (flrDetach n s)) s
  let s := { s with pcie := { s.pcie with vfEnable := enable, numVfs := numVfs, ari := ari } }
  forEach starting (fun n s => rebind (fnWin n) (s.modFn n fun _ => Function.reset)) s

/-- VF_ENABLE_CLEAR: VF Enable clears, or NumVFs is lowered (R172). -/
def execVfEnableClear (enable : Bool) (numVfs : Nat) (s : State) : Host.Outcome State Fault Refusal :=
  if s.pcie.vfEnable && (!enable || decide (numVfs < s.pcie.numVfs)) then .next (setVfs enable s.pcie.ari numVfs s) else .next s

/-- VF_ENABLE_SET: VF Enable is set, or NumVFs is raised (R180). -/
def execVfEnableSet (ari : Bool) (numVfs : Nat) (s : State) : Host.Outcome State Fault Refusal :=
  if decide (totalVfs < numVfs) || (s.pcie.vfEnable && decide (numVfs < s.pcie.numVfs)) then .next s
  else .next (setVfs true ari numVfs s)

/-- The PF is reset (R52): the commands queued in its window are aborted, with their completions discarded, the command
that executes runs on and its completion is discarded, and MSI-X is disabled. A MAQUETTE raises its source all the same
(R152). -/
def resetPf (keep : Bool) (s : State) : State :=
  let s := forEach (s.win[(4 : WinId)].queue.filter fun e => e.op = 0x50) (fun _ s => raise 285 s) s
  let s := s.modWin 4 fun x => { x with
    queue := [], done := [], completed := x.completed + BitVec.ofNat 16 x.queue.length
    exec := x.exec.map fun e => { e with discard := true } }
  resetFn keep 0 s

/-- PF_FUNCTION_LEVEL_RESET. -/
def execPfFunctionLevelReset (s : State) : Host.Outcome State Fault Refusal := .next (resetPf true s)

/-- The link is reset: no host read is answered any more. -/
def dropReads (s : State) : State := { s with pcie := { s.pcie with late := [] } }

/-- PCIE_HOT_RESET: a function-level reset of the PF, and VF Enable clears (R536). -/
def execPcieHotReset (s : State) : Host.Outcome State Fault Refusal :=
  .next (dropReads (resetPf true (setVfs false s.pcie.ari 0 s)))

/-- PE_PERST (R590): ignored without the PCIE_EN strap. -/
def execPePerst (s : State) : Host.Outcome State Fault Refusal :=
  if !s.boot.straps.pcieEn then .next s
  else
    let s := dropReads (resetPf false (setVfs false false 0 s))
    .next { s with pcie := { s.pcie with linkUp := false, fn := Vector.replicate 64 Function.reset } }

end Sys2Proof.Machine
end

