-- ==== Sys2Proof/Machine/Memory.lean ====
section
/-! DEFINITION. What the memory controller and the clocks do of themselves: calibration, mode register 4, SRAM scrub, and
the loss and return of the crystals (chapters 09, 03 and 27.7). -/
namespace Sys2Proof.Machine

/-! ## Calibration (R203 to R205) -/

/-- CALIBRATION_DUE: a calibration falls due, or merges with one that is, and runs once it may (R203). -/
def execCalibrationDue (s : State) : Host.Outcome State Fault Refusal :=
  if !memAvail s then .next s else .next (tryCal { s with memc := { s.memc with calDue := true } })

/-- FORCED_CALIBRATION: one that is due runs whatever the heads scan, and is counted (R203, R205). -/
def execForcedCalibration (s : State) : Host.Outcome State Fault Refusal :=
  if !s.memc.calDue || !memAvail s then .next s
  else .next (calibrate { s with memc := { s.memc with forcedCount := satInc s.memc.forcedCount } })

/-! ## Mode register 4 (R206) -/

/-- A rank's refresh field says that it is above the range for which refresh keeps its contents (JESD209-4: OP[2:0] is
7; PRESUMED, log 57). -/
def mr4Hot (v : Byte) : Bool := v.toNat % 8 = 7

/-- One rank: its value, and MEM_HOT as it becomes too hot. -/
def pollRank (v : Vector Byte 4) (i : Fin 4) (s : State) : State :=
  if s.memc.ranks ≤ i.1 % 2 then s
  else
    let hot := mr4Hot v[i]
    let before := s.memc.hot[i]
    let s := { s with memc := { s.memc with mr4 := s.memc.mr4.set i v[i], hot := s.memc.hot.set i hot } }
    if hot && !before then raise 188 (logFault 0x06 (i.1 / 2) (v[i].setWidth 32) s) else s

/-- MR4_POLL. -/
def execMr4Poll (r : Mr4Values) (s : State) : Host.Outcome State Fault Refusal :=
  if !memAvail s then .next s else .next (forEach (List.finRange 4) (pollRank r.v) s)

/-! ## SRAM scrub (R210) -/

/-- An error in the protected store: where it lies in a live image, its pixels are transparent and every check of that
head counts as a mismatch (R316). Where an image stands is open (log 60). -/
def protectedError (word : Nat) (s : State) : State :=
  forEach conts (fun h s =>
    let base := Config.protPlace h.1
    match s.prot[h].live with
    | some i =>
      if base ≤ word ∧ word < base + ceilDiv i.use 32 then
        s.modProt h fun p => { p with badWords := if word - base ∈ p.badWords then p.badWords else p.badWords ++ [word - base] }
      else s
    | none => s) s

/-- An error in Relief's on-chip part: the tile in that slot becomes DIRTY (Table 13-2), and on the lines decided to use it
its whole run is transparent (R296, log 60). -/
def reliefError (word : Nat) (s : State) : State :=
  let k := word * 32 / 24576
  let s := forEach conts (fun h s =>
    let hit := s.relief.runs[h].flatMap fun r => (r.tiles.filter fun t => t.st = .chip k).map fun t => (r.members, t.tx, t.ty)
    let s := s.modComp h fun c => { c with blank := c.blank ++ (c.served.filter fun t => t.chip = k).map fun t => (t.line, t.members) }
    forEach hit (fun (m, tx, ty) s => setTile h m tx ty .dirty s) s) s
  freeSlots s

/-- SRAM_SCRUB: a corrected word is written back; an uncorrectable one is logged and has the effect its structure's
chapter gives it. -/
def execSramScrub (r : ScrubOutcome) (s : State) : Host.Outcome State Fault Refusal :=
  if !pdOn .sram s || !fabricOn s then .next s
  else
    let s := { s with memc := { s.memc with sramNext := (s.memc.sramNext + 1) % 262144 } }
    match r with
    | .clean => .next s
    | .corrected => .next (raise 190 s)
    | .uncorrectable u w =>
      let s := raise 191 (logFault 0x04 u.ctorIdx (BitVec.ofNat 32 w) s)
      match u with
      | .protectedStore => .next (protectedError w s)
      | .relief => .next (reliefError w s)
      | _ => .next s

/-! ## Crystals (R57, R74, R579, R580) -/

/-- CLK_LOSS: XTAL_IN is lost, or the system PLL loses lock; every synthesizer loses its reference. -/
def execClkLoss (pll : Bool) (s : State) : Host.Outcome State Fault Refusal :=
  if pll && !s.drone.pllLock || !pll && !s.drone.xtalOk then .next s
  else
    let s := { s with drone := { s.drone with
      xtalOk := s.drone.xtalOk && pll, xtalLost := s.drone.xtalLost || !pll, pllLock := false } }
    let s := raise 280 (logFault 0x10 (if pll then 1 else 0) 0 s)
    .next (forEach [(0 : SynId), 1, 2] (fun y s => loseSyn y true s) s)

/-- XTAL_RETURN: the system PLL relocks, and one calibration runs before the next grant (R580). Each synthesizer locks
again by BORE_LOCK. -/
def execXtalReturn (s : State) : Host.Outcome State Fault Refusal :=
  if s.drone.pllLock then .next s
  else
    let s := { s with drone := { s.drone with xtalOk := true, pllLock := true } }
    .next (if memAvail s then calibrate s else s)

/-- XTAL32_LOSS: Drone time counts the RC oscillator, and timers on that clock stop counting (R57, R497). -/
def execXtal32Loss (s : State) : Host.Outcome State Fault Refusal :=
  .next { s with drone := { s.drone with xtal32Ok := false } }

/-- XTAL32_RETURN. -/
def execXtal32Return (s : State) : Host.Outcome State Fault Refusal :=
  .next { s with drone := { s.drone with xtal32Ok := true } }

end Sys2Proof.Machine
end

