-- ==== Sys2Proof/Machine/Segment.lean ====
section
/-! DEFINITION. The segment driver and the shared ADC (chapter 19): the configuration record, the drive levels, the
segment RAM, VLCD and its compensation, starts and stops, and the temperature refresh. -/
namespace Sys2Proof.Machine

/-! ## The record (Table 19-1) -/

/-- The record of 16 bytes, none where it breaks Table 19-1; APPLY is `segApplies`. -/
def parseSeg (b : List Byte) : Option SegCfg :=
  let flags := byteAt b 0
  guardSome (decide (flags < 16) && decide (2 ≤ byteAt b 1 ∧ byteAt b 1 ≤ 8) && decide (byteAt b 2 = 3 ∨ byteAt b 2 = 4)
      && decide (byteAt b 3 ≤ 80) && decide (32 ≤ leAt b 4 2 ∧ leAt b 4 2 ≤ 256) && decide (250 ≤ leAt b 6 2 ∧ leAt b 6 2 ≤ 600)
      && decide (1 ≤ leAt b 8 2 ∧ leAt b 8 2 ≤ 4094) && zeroAt b 0x0E 2)
    { en := flags % 2 = 1, tcTherm := flags / 2 % 2 = 1, blank := flags / 4 % 2 = 1, mux := byteAt b 1, bias4 := byteAt b 2 = 4
      tc := byteAt b 3, frameHz := leAt b 4 2, vlcd25 := leAt b 6 2, thermRef := leAt b 8 2, thermT := signed 16 (leAt b 0xA 2)
      thermK := signed 16 (leAt b 0xC 2) }

def segApplies (b : List Byte) : Bool := byteAt b 0 / 8 % 2 = 1

/-! ## Drive (19.3) -/

/-- t_PH in µs of Drone time. -/
def SegCfg.phaseUs (c : SegCfg) : Nat := (1000000 + c.mux * c.frameHz) / (2 * c.mux * c.frameHz)

/-- The active half. -/
def Seg.active (x : Seg) : Vector Byte 96 := if x.active1 then x.half1 else x.half0

/-- SEG_s is ON in the common period of COM_c (R413). -/
def Seg.on (x : Seg) (c : Nat) (n : Fin 96) : Bool := x.active[n].getLsbD c && !x.cfg.blank

/-- A COM level as a fraction of VLCD (Table 19-2). -/
def comLevel (bias4 selected negative : Bool) : Nat × Nat :=
  match selected, negative with
  | true, false => (1, 1)
  | true, true => (0, 1)
  | false, false => if bias4 then (1, 4) else (1, 3)
  | false, true => if bias4 then (3, 4) else (2, 3)

/-- A SEG level as a fraction of VLCD. -/
def segLevel (bias4 on negative : Bool) : Nat × Nat :=
  match on, negative with
  | true, false => (0, 1)
  | true, true => (1, 1)
  | false, false => if bias4 then (1, 2) else (2, 3)
  | false, true => if bias4 then (1, 2) else (1, 3)

/-- What a COM and a SEG pin carry in the phase in progress; 0 V while the driver does not run. -/
def comPin (x : Seg) (n : Nat) : Nat × Nat :=
  match x.run with
  | .running | .stopping _ => comLevel x.cfg.bias4 (decide (n = x.com)) x.negative
  | _ => (0, 1)

def segPin (x : Seg) (n : Fin 96) : Nat × Nat :=
  match x.run with
  | .running | .stopping _ => segLevel x.cfg.bias4 (x.on x.com n) x.negative
  | _ => (0, 1)

/-! ## VLCD (19.5) -/

/-- The temperature that compensates VLCD, in 1/16 °C (R418). -/
def segTemp (s : State) : Int :=
  let c := s.seg.cfg
  if c.tcTherm && s.power.thermValid then c.thermT + (((s.power.therm.toNat : Int) - c.thermRef) * c.thermK).fdiv 256
  else s.power.die.toInt

/-- V_T before its limits, in 10 mV, to the nearest (R417). -/
def vlcdRaw (s : State) : Int :=
  let c := s.seg.cfg
  (2 * (640 * (c.vlcd25 : Int) - c.tc * (segTemp s - 400)) + 640).fdiv 1280

/-- V_T in 10 mV. -/
def vlcdTarget (s : State) : Nat := (vlcdRaw s).toNat.max 250 |>.min 600

def vlcdLimited (s : State) : Bool := decide (vlcdRaw s < 250 ∨ 600 < vlcdRaw s)

/-- A measurement in mV lies within V_T ± 5 %. -/
def vlcdOk (target mv : Nat) : Bool := decide (190 * target ≤ 20 * mv ∧ 20 * mv ≤ 210 * target)

def modSeg (f : Seg → Seg) (s : State) : State := { s with seg := f s.seg }

/-! ## Starts and stops (19.7) -/

/-- The pump starts toward V_T (R422). -/
def startSeg (s : State) : State :=
  modSeg (fun x => { x with
    run := .starting, pump := true, target := vlcdTarget s, targetNext := none, limited := false, outCount := 0, inCount := 0
    fault := false }) s

/-- The driver is at rest: the pins at 0 V and the pump off. -/
def Seg.rest (x : Seg) : Seg := { x with run := .stopped, pump := false, counted := false, com := 0, negative := false, targetNext := none }

/-- The reset state of the record and the RAM (R423). -/
def Seg.clear (x : Seg) : Seg :=
  { x.rest with
    cfg := SegCfg.reset, next := none, half0 := Vector.replicate 96 0, half1 := Vector.replicate 96 0, active1 := false
    pending := false }

/-- The driver stays at rest: in OFF, and from the entry to OFF on (R423, R424). -/
def segAtRest (s : State) : Bool := match s.power.trans with
  | some t => !t.exiting && t.target = .off
  | none => s.power.mode = .off

/-- A record with APPLY reaches the Drone domain (R412). -/
def takeSegRecord (c : SegCfg) (s : State) : State :=
  match s.seg.run with
  | .stopped =>
    let s := modSeg (fun x => { x with cfg := c, next := none }) s
    if c.en && !segAtRest s then startSeg s else s
  | .starting =>
    let s := modSeg (fun x => { x with cfg := c, next := none }) s
    if c.en then modSeg (fun x => { x with target := vlcdTarget s }) s else modSeg Seg.rest s
  | _ => modSeg (fun x => { x with next := some c }) s

/-- The driver stops on entry to OFF or by a reset: after the common period in progress (R423). -/
def stopSeg (reset : Bool) (s : State) : State :=
  match s.seg.run with
  | .running | .stopping _ => modSeg (fun x => { x with run := .stopping (reset || x.run = .stopping true) }) s
  | _ => modSeg (fun x => if reset then x.clear else x.rest) s

/-- A segment frame start (R412, R416): the pending record applies, pending halves swap, the count advances. A record
that clears EN stops the driver after the common period that begins here. -/
def segFrame (s : State) : State :=
  let x := s.seg
  let cfg := x.next.getD x.cfg
  let y : Seg := { x with
    cfg := cfg, next := none, com := 0, negative := false, counted := true, frame := if x.counted then x.frame + 1 else 0
    active1 := x.active1 != x.pending, pending := false, run := if cfg.en then x.run else .stopping false }
  let s := modSeg (fun _ => y) s
  if x.pending then raise 176 s else s

/-- SEGMENT_FRAME_START: the last common period of the frame has ended. -/
def execSegmentFrameStart (s : State) : Host.Outcome State Fault Refusal :=
  if s.seg.run = .running && decide (s.seg.cfg.mux ≤ s.seg.com) then .next (segFrame s) else .next s

/-- VLCD_REACHED: VLCD is within 5 % of V_T and the first segment frame starts (R422). -/
def execVlcdReached (s : State) : Host.Outcome State Fault Refusal :=
  if s.seg.run = .starting then .next (raise 177 (segFrame (modSeg (fun x => { x with run := .running, counted := false }) s)))
  else .next s

/-- VLCD_START_TIMEOUT: the start fails (R422). -/
def execVlcdStartTimeout (mv : Nat) (s : State) : Host.Outcome State Fault Refusal :=
  if s.seg.run = .starting then .next (raise 179 (logFault 0x24 0 (BitVec.ofNat 32 mv) (modSeg Seg.rest s))) else .next s

/-- The segment driver runs. -/
def segRuns (s : State) : Bool := match s.seg.run with
  | .running | .stopping _ => true
  | _ => false

/-- NEGATIVE_PHASE_START (R413): t_PH after a common period began, every pin takes its negative-phase level. -/
def execNegativePhaseStart (s : State) : Host.Outcome State Fault Refusal :=
  if segRuns s && decide (s.seg.com < s.seg.cfg.mux) then .next (modSeg (fun x => { x with negative := true }) s)
  else .next s

/-- COMMON_PERIOD_END (R414): after the negative phase a new V_T takes effect, and a stop ends
here; a record that waited then applies at once. -/
def execCommonPeriodEnd (s : State) : Host.Outcome State Fault Refusal :=
  let tick (x : Seg) : Seg := { x with com := x.com + 1, negative := false, target := x.targetNext.getD x.target, targetNext := none }
  if !s.seg.negative then .next s
  else match s.seg.run with
  | .running => .next (modSeg tick s)
  | .stopping reset =>
    let s' := raise 178 (modSeg (fun x => if reset then (tick x).clear else { (tick x).rest with next := none }) s)
    .next (match reset, s.seg.next with
      | false, some c => takeSegRecord c s'
      | _, _ => s')
  | _ => .next s

/-! ## SEG_WRITE (R415) -/

/-- Steps 1 to 7 of R135. -/
def segWriteSteps (w : WinId) (c : CtxId) (a : Cmd) (s : State) : Option Verdict :=
  let inline_ := a.a0.getLsbD 16
  firstFail [
    (!supervisor c, .denied),
    (if inline_ then !onlyBits a.a0 0x1007F || decide (84 < fld a.a0 0 7) else !argBits a 0x10000 wholeWord 0 0, .badArg),
    (!inline_ && !inPart s 0 (woff a.a1) 96, .outOfPartition),
    (!inline_ && !cmdMem s w, .noResource)]

def checkSegWrite (w : WinId) (c : CtxId) (a : Cmd) (s : State) : Option Verdict :=
  orElse [segWriteSteps w c a s, if a.a0.getLsbD 16 then none else badBlock s 0 (woff a.a1) 96]

/-- The pattern is read through queue_135. -/
def readsSegWrite (w : WinId) (c : CtxId) (a : Cmd) (s : State) : List (QueueId × Nat × Nat) :=
  if a.a0.getLsbD 16 || (segWriteSteps w c a s).isSome then [] else [(135, partBase s 0 + woff a.a1, 96)]

/-- The bytes of a SEG_WRITE: the first one and the list. -/
def segBytes (s : State) (a : Cmd) : Nat × List Byte :=
  if a.a0.getLsbD 16 then (fld a.a0 0 7, wordBytes a.a1 ++ wordBytes a.a2 ++ wordBytes a.a3)
  else (0, readPart s 0 (woff a.a1) 96)

/-- The inactive half with bytes stored: from the active half first, where nothing is pending. -/
def Seg.store (x : Seg) (first : Nat) (b : List Byte) : Seg :=
  let old := if x.pending then (if x.active1 then x.half0 else x.half1) else x.active
  let new : Vector Byte 96 := Vector.ofFn fun i =>
    if first ≤ i.1 ∧ i.1 < first + b.length then b.getD (i.1 - first) 0 else old[i]
  if x.active1 then { x with half0 := new, pending := true } else { x with half1 := new, pending := true }

def actSegWrite (w : WinId) (_ : CtxId) (a : Cmd) (s : State) : State :=
  let (first, b) := segBytes s a
  let shown : Word := match s.seg.run with
    | .running | .stopping _ => s.seg.frame + 1
    | _ => 0xFFFFFFFF
  finish w .ok shown 0 (modSeg (fun x => x.store first b) s)

def opSegWrite : Opcode := { check := checkSegWrite, needs := fun _ _ _ => [], act := actSegWrite, reads := readsSegWrite }

/-- SEG_WRITE (0x2C). -/
def execSegWrite (w : WinId) (c : Cmd) (s : State) : Host.Outcome State Fault Refusal :=
  .next (portRow w 0x2C c opSegWrite.run s)

/-! ## The ADC (19.6) -/

/-- The bistable engine waits for its temperature sample. -/
def bistableAsks (s : State) : Bool := s.epd.run.any fun r => r.step = .sample

/-- A contrast sample measures VLCD: the new V_T and the fault decision (R417, R419). -/
def contrast (mv : Nat) (s : State) : State :=
  let ok := vlcdOk s.seg.target mv
  let lim := vlcdLimited s
  let x := s.seg
  let out := if ok then 0 else x.outCount + 1
  let in_ := if ok then x.inCount + 1 else 0
  let bad := decide (2 ≤ out) && !x.fault
  let back := decide (2 ≤ in_) && x.fault
  let s := modSeg (fun x => { x with
    targetNext := some (vlcdTarget s), limited := lim, outCount := out, inCount := in_, fault := (x.fault || bad) && !back }) s
  let s := if lim && !x.limited then raise 181 s else s
  let s := if bad then raise 179 (logFault 0x24 0 (BitVec.ofNat 32 mv) s) else s
  if back then raise 180 s else s

/-- CONTRAST_SAMPLE: taken when the ADC is not held and the bistable engine asks for no sample (R420, R421). -/
def execContrastSample (mv : Nat) (s : State) : Host.Outcome State Fault Refusal :=
  if segRuns s && s.adc.hold.isNone && !bistableAsks s then
    .next (contrast mv { s with adc := { s.adc with contrastLate := false } })
  else .next s

/-- ADC_REQUEST_LATE: a request that is kept waiting passes 10 ms, once for its wait (R421). -/
def execAdcRequestLate (u : AdcUser) (s : State) : Host.Outcome State Fault Refusal :=
  match u with
  | .contrast =>
    if segRuns s && (s.adc.hold.isSome || bistableAsks s) && !s.adc.contrastLate then
      .next (raise 182 { s with adc := { s.adc with contrastLate := true } })
    else .next s
  | .bistable =>
    if bistableAsks s && !s.adc.bistableLate then .next (raise 182 { s with adc := { s.adc with bistableLate := true } })
    else .next s

/-- TEMP_REFRESH (R124, R420, R571): TEMP, its monitor probe, and THERM_LIMIT. -/
def execTempRefresh (die : HalfWord) (therm : BitVec 12) (s : State) : Host.Outcome State Fault Refusal :=
  let valid := therm ≠ 0 && therm ≠ 4095
  let s := { s with power := { s.power with die := die, therm := therm, thermValid := valid } }
  let s := if fabricOn s then
      let s := sample 0x28 0 (die.toInt + 32768).toNat s
      if valid then sample 0x28 1 therm.toNat s else s
    else s
  if die.toInt ≤ 112 * 16 then .next { s with faults := { s.faults with thermArmed := true } }
  else if 115 * 16 < die.toInt ∧ s.faults.thermArmed = true then
    .next (raise 280 (logFault 0x08 0 (die.setWidth 32) { s with faults := { s.faults with thermArmed := false } }))
  else .next s

end Sys2Proof.Machine
end

