-- ==== Sys2Proof/Machine/Power.lean ====
section
/-! DEFINITION. Power modes (chapter 25): POWER_MODE and POWER_REQ, entry to HOLD and OFF, wake and exit, the power step
lists, and the Drone domain's heartbeat monitor and register handshakes (R49, R62, R161, R162). -/
namespace Sys2Proof.Machine

/-! ## The parameter block (Table 25-3) -/

/-- A parameter block; a record is there where its APPLY is set. -/
structure PowerBlock where
  resumeHeads : Bool
  resumeDim : Bool
  dimScale : Nat
  deliverable : Nat
  seg : Option SegCfg
  pins : Option (Vector PinEntry 16)
deriving DecidableEq, Repr

/-- An entry of the pin record (Table 22-2). -/
def parsePin (b : List Byte) (n : Nat) : PinEntry :=
  { filterN := b.getD (4 + 4 * n) 0, filterClk := byteAt b (5 + 4 * n) % 2 = 1, invert := byteAt b (5 + 4 * n) / 2 % 2 = 1 }

/-- The 68-byte pin record has APPLY set, and no reserved bit (R481). -/
def pinsApply (b : List Byte) : Bool := byteAt b 0 % 2 = 1

def pinsOk (b : List Byte) : Bool :=
  decide (byteAt b 0 < 2) && zeroAt b 1 3 && (List.range 16).all fun n => decide (byteAt b (5 + 4 * n) < 4) && zeroAt b (6 + 4 * n) 2

/-- The 128-byte block, none where a field breaks step 1 of R530, DELIVERABLE apart. -/
def parsePower (b : List Byte) : Option PowerBlock :=
  let seg := (b.drop 0x10).take 16
  let pins := (b.drop 0x20).take 68
  let flags := byteAt b 1
  guardSome (byteAt b 0 = 1 && decide (flags < 4) && byteAt b 2 ≠ 0 && zeroAt b 3 1 && zeroAt b 8 8 && zeroAt b 0x64 28
      && (!segApplies seg || (parseSeg seg).isSome) && (!pinsApply pins || pinsOk pins))
    { resumeHeads := flags % 2 = 1, resumeDim := flags / 2 = 1, dimScale := byteAt b 2, deliverable := leAt b 4 4
      seg := if segApplies seg then parseSeg seg else none
      pins := if pinsApply pins then some (Vector.ofFn fun i => parsePin pins i.1) else none }

/-- Eight times the payload peak in MB/s at the trained data rate (R200). -/
def payloadPeak8 (s : State) : Nat := s.memc.rate * (if s.memc.ecc then 28 else 32)

/-- A declared figure lies within 10 % of payload peak and payload peak (R201, step 1). -/
def deliverableOk (s : State) (d : Nat) : Bool := decide (payloadPeak8 s ≤ 80 * d ∧ 8 * d ≤ payloadPeak8 s)

/-- The admission bandwidth of a figure covers the committed rates (R201, step 2). -/
def deliverableFits (s : State) (d : Nat) : Bool := decide (100 * committedSum s none ≤ 256 * admission100 d)

/-- A new declaration: the release offsets of a head's sealed queues follow at its next boundary, at once while it is
stopped (R227). -/
def setDeliverable (d : Nat) (s : State) : State :=
  let s := { s with memc := { s.memc with deliverable := d } }
  forEach conts (fun h s =>
    if started s h then s else forEach ctxs (fun n s => settle (layerQueue n h) (recomputeDs (layerQueue n h) s)) s) s

/-- The values of a block take effect (R530). -/
def applyBlock (b : PowerBlock) (s : State) : State :=
  let s := { s with power := { s.power with resumeHeads := b.resumeHeads, resumeDim := b.resumeDim, dimScale := b.dimScale } }
  let s := if b.deliverable = 0 then s else setDeliverable b.deliverable s
  let s := match b.seg with
    | some c => takeSegRecord c s
    | none => s
  match b.pins with
  | some p => { s with evu := { s.evu with pin := p } }
  | none => s

def useBlock (a : Cmd) : Bool := a.a0.getLsbD 16

/-- The block that a POWER_MODE names. -/
def powerBlock (s : State) (a : Cmd) : Option PowerBlock :=
  if useBlock a then parsePower (readPart s 0 (woff a.a1) 128) else none

/-! ## Entry and exit begin -/

/-- A mode is reached (R532). -/
def reachMode (m : Mode) (s : State) : State := raise 280 { s with power := { s.power with mode := m } }

/-- The power sequencer begins a transition. -/
def startTrans (target : Mode) (exiting : Bool) (w : Option WinId) (list : List SeqStep) (s : State) : State :=
  let n := s.port.nextWait
  { s with
    port := { s.port with nextWait := n + 1 }
    power := { s.power with trans := some {
      target := target, exiting := exiting, step := 1, byWindow := w, order := s.port.nextOrder, list := list, at_ := 0
      since := n } } }

/-- Entry to HOLD or OFF begins: a wake request counts from here on (R540). -/
def startEntry (target : Mode) (w : Option WinId) (s : State) : State :=
  startTrans target false w [] { s with power := { s.power with wakeKept := none } }

/-- A lock, or a PROTECT_LOCK that computes its expected value or waits for its boundary, forbids HOLD and OFF (R530,
step 3). -/
def lockForbids (s : State) : Bool :=
  anyLocked s || conts.any fun h => (windowIn s (lockPhase h)).isSome

def Mode.sleeps (m : Mode) : Bool := m = .hold || m = .off

/-! ## POWER_MODE -/

/-- Why the block of an accepted-so-far POWER_MODE turns it away (R530, steps 1 and 2). -/
def modeBlockFails (s : State) (a : Cmd) : Option (Code × Nat) :=
  if !useBlock a then none
  else match powerBlock s a with
    | none => some (.badArg, 0)
    | some b =>
      if b.deliverable = 0 then none
      else if !deliverableOk s b.deliverable then some (.badArg, 0)
      else if !deliverableFits s b.deliverable then some (.rejected, 0x42)
      else none

/-- The first failing outcome of R530. -/
def powerFails (s : State) (a : Cmd) : Option (Code × Nat) :=
  match Mode.ofCode (fld a.a0 0 3) with
  | none => some (.badArg, 0)
  | some m => match modeBlockFails s a with
    | some f => some f
    | none => if m.sleeps && lockForbids s then some (.locked, 0) else none

/-- A block is named and read: MODE 4 to 7 is left to R530. -/
def readsBlock (a : Cmd) : Bool := useBlock a && (Mode.ofCode (fld a.a0 0 3)).isSome

/-- Steps 1 to 7 of R135. -/
def powerModeSteps (w : WinId) (c : CtxId) (a : Cmd) (s : State) : Option Verdict :=
  firstFail [
    (!supervisor c, .denied),
    (!argBits a 0x10007 wholeWord 0 0, .badArg),
    (readsBlock a && !inPart s 0 (woff a.a1) 128, .outOfPartition),
    (readsBlock a && !cmdMem s w, .noResource)]

/-- R135 for POWER_MODE. -/
def checkPowerMode (w : WinId) (c : CtxId) (a : Cmd) (s : State) : Option Verdict :=
  orElse [powerModeSteps w c a s, if readsBlock a then badBlock s 0 (woff a.a1) 128 else none]

/-- The block is read through queue_135. -/
def readsPowerMode (w : WinId) (c : CtxId) (a : Cmd) (s : State) : List (QueueId × Nat × Nat) :=
  if !readsBlock a || (powerModeSteps w c a s).isSome then [] else [(135, partBase s 0 + woff a.a1, 128)]

/-- A request is refused (R123, R532). -/
def refuseMode (s : State) : State := raise 280 { s with power := { s.power with refused := true } }

/-- The mode last asked for (R123). -/
def noteMode (m : BitVec 3) (s : State) : State := { s with power := { s.power with lastMode := m } }

/-- What a request without a block uses (R529, R123): the defaults of Table 25-3. -/
def PowerBlock.default : PowerBlock where
  resumeHeads := true
  resumeDim := false
  dimScale := 128
  deliverable := 0
  seg := none
  pins := none

/-- The effect of an accepted request: a change between RUN and DIM at once (R531), entry to HOLD or OFF (R533), or
nothing but its block for the mode in force, and without one nothing (R530, log 107). -/
def changeMode (m : Mode) (w : Option WinId) (b : Option PowerBlock) (s : State) : State :=
  let s := match b with
    | some b => applyBlock b s
    | none => if m = s.power.mode then s else applyBlock PowerBlock.default s
  let q0 : Word := BitVec.ofNat 32 m.num
  if m = s.power.mode then
    match w with
    | some w => if b.isSome then finishGen w q0 0 s else finish w .ok q0 0 s
    | none => s
  else if m.sleeps then
    startEntry m w (match w with
      | some w => setPhase w .power s
      | none => s)
  else
    let s := reachMode m s
    match w with
    | some w => finishGen w q0 0 s
    | none => bumpDevice s

def actPowerMode (w : WinId) (_ : CtxId) (a : Cmd) (s : State) : State :=
  let s := noteMode (a.a0.extractLsb' 0 3) s
  match powerFails s a, Mode.ofCode (fld a.a0 0 3) with
  | some (.rejected, n), _ => reject w n 0 0 (refuseMode s)
  | some (code, _), _ => finish0 w code (refuseMode s)
  | none, some m => changeMode m (some w) (powerBlock s a) { s with power := { s.power with refused := false } }
  | none, none => s

def opPowerMode : Opcode where
  check := checkPowerMode
  needs := fun _ a _ => if (Mode.ofCode (fld a.a0 0 3)).isSome then [.power] else []
  act := actPowerMode
  reads := readsPowerMode

/-- POWER_MODE (0x60). -/
def execPowerMode (w : WinId) (c : Cmd) (s : State) : Host.Outcome State Fault Refusal :=
  .next (portRow w 0x60 c opPowerMode.run s)

/-! ## Requests by POWER_REQ (R123) -/

/-- A request that need not wait is carried out. -/
def runRequest (m : BitVec 3) (s : State) : State :=
  let s := { s with power := { s.power with queued := none } }
  match Mode.ofCode m.toNat with
  | none => s
  | some m =>
    if m.sleeps && lockForbids s then refuseMode s
    else
      let s := { s with power := { s.power with refused := false } }
      if m.sleeps && m ≠ s.power.mode then changeMode m none none (take .powerSeq .power s) else changeMode m none none s

/-- A request by POWER_REQ: refused before BOOT_DONE (R547), kept while a transition or another command holds the
power-domain request, else carried out. Only the latest one is kept. -/
def requestMode (m : BitVec 3) (s : State) : State :=
  let s := noteMode m s
  if !s.boot.doneFlag then refuseMode s
  else if s.power.trans.isSome || !fabricOn s || resHeld s .power || resWanted s .power || autoWants s .power then
    { s with power := { s.power with queued := some m } }
  else runRequest m s

/-! ## Entry to HOLD and OFF (Table 25-4) -/

def modTrans (f : Transition → Transition) (s : State) : State :=
  { s with power := { s.power with trans := s.power.trans.map f } }

/-- The next step of a transition; its wait starts now. -/
def goStep (k : Nat) (s : State) : State :=
  let n := s.port.nextWait
  modTrans (fun t => { t with step := k, at_ := 0, since := n }) { s with port := { s.port with nextWait := n + 1 } }

/-- The opcodes of commands that read or write memory. -/
def memoryOpcode (op : Nat) : Bool :=
  decide (op ∈ [0x08, 0x09, 0x10, 0x12, 0x18, 0x20, 0x23, 0x28, 0x29, 0x2C, 0x30, 0x40, 0x41, 0x42, 0x50])

/-- An executing command that still needs memory, or a bistable update; a command that waits for the power-domain
request itself is not waited for (Table 25-4, step 1). -/
def Exec.needsMemory (e : Exec) (s : State) : Bool :=
  match e.phase with
  | .acquire (.power :: _) => false
  | .acquire _ | .anyCal => memoryOpcode e.entry.op.toNat
  | .budget _ | .copy _ | .maqStage | .maqQuiet | .maqWrite | .epd => true
  | .caliper u => match s.cal[u].op with
    | some { op := .memory .., .. } | some { op := .ingest _, .. } => true
    | _ => false
  | _ => false

def memoryBusy (s : State) (order : Nat) : Bool :=
  wins.any fun w => s.win[w].exec.any fun e => decide (e.entry.order < order) && e.needsMemory s

/-- Step 2: tap scans and self-tests end (R474). -/
def stopUnits (s : State) : State :=
  forEach cals (fun u s =>
    let s := match s.cal[u].op with
      | some { op := .tap .., .. } | some { op := .selftest .., .. } => endCal u .incomplete s
      | _ => s
    endYielded u .incomplete s) s

/-- Step 3 begins: a started head is remembered; with its panel ON its power-off sequence runs, otherwise it stops. -/
def stopForEntry (h : ContHead) (s : State) : State :=
  let on := s.panel[h].st = .on
  let keep := if started s h then some (decide on) else none
  let s := { s with power := { s.power with resume := s.power.resume.set h keep } }
  if !started s h then haltHead h s
  else match decide on, s.panel[h].table with
    | true, some t => startSequence h t { PanelRun.fresh true t.off 0 .off none with stopAfter := true } s
    | _, _ => stopAtEnd h (endSecondPhase h s)

/-- Step 3 goes on: a head whose sequence failed before its FRAMES step is stopped all the same. -/
def stopFailed (h : ContHead) (s : State) : State :=
  if s.head[h].run = .running && s.panel[h].run.isNone then stopAtEnd h s else s

def headsAtRest (s : State) : Bool := conts.all fun h => s.head[h].run = .stopped && s.panel[h].run.isNone

/-- POWER_REQ.KEEP_HOST and KEEP_LINK hold for HOLD. -/
def keepsHost (s : State) (m : Mode) : Bool := m = .hold && s.power.req.getLsbD 3
def keepsLink (s : State) (m : Mode) : Bool := m = .hold && s.power.req.getLsbD 4

/-- Step 4: the relay port, and the running outputs with their Bores (R364). -/
def stopClocks (m : Mode) (s : State) : State :=
  let s := if keepsLink s m then s else resetRelay s
  { s with syn := s.syn.map fun (x : Syn) =>
      if x.out = .running then { x with out := .off, bore := .idle, wasRunning := true } else x }

/-- Step 5, OFF only: every tenant is detached without zeroing, and the segment driver stops. -/
def leaveTenants (s : State) : State :=
  let s := forEach ctxs (fun n s =>
    if n = 0 || s.ctx[n].st = .unattached then s
    else endDetach n (if attached s n then beginDetach n none s else s)) s
  stopSeg false { s with memc := { s.memc with released := [] } }

/-- Nothing uses memory any more (R211); for OFF the segment driver has stopped. -/
def memoryQuiet (s : State) (m : Mode) : Bool :=
  s.fetch.inflight[0].isEmpty && s.fetch.inflight[1].isEmpty && s.fetch.chan.toList.all (· = 0) && !s.epd.composing && s.epd.run.isNone
    && (m ≠ .off || s.seg.run = .stopped)

/-- Step 6: self-refresh; for OFF, MEM_RESET_N low (R212, R213). -/
def sleepMemory (m : Mode) (s : State) : State :=
  { s with memc := { s.memc with
      selfRefresh := true, saved := s.memc.ready && m = .hold, ready := false, resetN := s.memc.resetN && m = .hold } }

/-- The domains that stay on in HOLD and OFF (Table 25-1, step 8): PD_HOST and PD_LINK where kept, PD_SRAM in
retention. -/
def sleepDomains (m : Mode) (s : State) : State :=
  let keepHost := keepsHost s m
  let keepLink := keepsLink s m && pdOn .link s
  let s := { s with power := { s.power with domains := 1 } }
  let s := setPd .sram (m = .hold) (setPd .link keepLink (setPd .host keepHost s))
  let s := { s with evu := { s.evu with vec := none, port := s.evu.port.map fun p => { p with waiting := false } } }
  if keepHost then s else { s with pcie := { s.pcie with linkUp := false } }

/-- What OFF leaves: PD_DRONE's state (R528, R535), the GPIOs and panel pins as driven, what lies outside the device, and
the power step table. -/
def offState (s : State) : State :=
  let r := State.resetWith s.boot.straps
  let d := s.drone
  let p := s.power
  { r with
    pending := s.pending
    port := { r.port with deviceGen := s.port.deviceGen, nextOrder := s.port.nextOrder, nextWait := s.port.nextWait }
    drone := { d with
      hbTimeout := d.timeout, hbFallback := d.fallback, hbDirty := false, armed := false, lapsed := false, second := false
      fallbackShown := false }
    power := { r.power with
      mode := p.mode, req := p.req, reqShadow := p.req, lastMode := p.lastMode, queued := p.queued, trans := p.trans
      wakeKept := p.wakeKept, wake := p.wake, steps := p.steps, die := p.die, therm := p.therm, thermValid := p.thermValid
      domains := p.domains }
    timer := Vector.ofFn fun i => if 12 ≤ i.1 then s.timer[i] else Timer.reset
    seg := s.seg
    pins := s.pins
    panel := Vector.ofFn fun h => { Panel.reset with vddEn := s.panel[h].vddEn, blEn := s.panel[h].blEn, blPwm := s.panel[h].blPwm }
    relay := { r.relay with erx := s.relay.erx, wire := s.relay.wire }
    pcie := { r.pcie with refclk := s.pcie.refclk, sent := s.pcie.sent }
    free := s.free }

/-- The power step list of a mode's entry or exit (R541). -/
def powerList (s : State) (k : Fin 4) : List SeqStep := s.power.steps[k]

def setList (l : List SeqStep) (s : State) : State := modTrans (fun t => { t with list := l, at_ := 0 }) s

/-- Steps 7 and 8: the command completes, the domains go off, and the entry list begins. The power sequencer keeps the
power-domain request until it has left the mode. -/
def sleepNow (t : Transition) (s : State) : State :=
  let s := stopUnits s
  let s := match t.byWindow, t.target with
    | some w, .hold => finishGen w 2 0 s
    | _, _ => bumpDevice s
  let s := take .powerSeq .power (releaseHolder .powerSeq s)
  let s := sleepDomains t.target s
  let s := if t.target = .off then take .powerSeq .power (offState s) else s
  goStep 9 (setList (powerList s (if t.target = .off then 2 else 0)) s)

/-- The transition fails at step 1 or 2 (R533): nothing changes. -/
def failEntry (code : Code) (s : State) : State :=
  match s.power.trans with
  | none => s
  | some t =>
    let s := { s with power := { s.power with trans := none } }
    match t.byWindow with
    | some w => finish0 w code s
    | none => releaseHolder .powerSeq s

/-! ## The power step lists (25.6) -/

/-- The level at a GPIO: as driven, else as sensed (a free value). -/
def gpioHigh (s : State) (p : PinId) : Bool := match s.pins.gpio[p] with
  | .high => true
  | .low => false
  | .highZ => Config.pinLevel s.free

def stepPin (x : SeqStep) : PinId := ⟨(x.target - 16) % 16, Nat.mod_lt _ (by decide)⟩

def driveGpio (x : SeqStep) (v : PinDrive) (s : State) : State :=
  { s with pins := { s.pins with gpio := s.pins.gpio.set (stepPin x) v } }

/-- One step of the list in hand; a WAIT_PIN stays until its pin is at its level. -/
def listStep (s : State) : State :=
  match s.power.trans with
  | none => s
  | some t => match t.list with
    | [] => s
    | x :: rest =>
      let pop := modTrans fun t => { t with list := rest, at_ := t.at_ + 1 }
      match x.op with
      | .assert => pop (driveGpio x .high s)
      | .deassert => pop (driveGpio x .low s)
      | .waitPin => if gpioHigh s (stepPin x) = x.level then pop (bumpFree s) else bumpFree s
      | _ => pop s

/-! ## Exit (R538, R539) -/

/-- The exit begins: the list of the mode that is left runs first. What the Drone domain held in OFF is lost (R568). -/
def startExit (s : State) : State :=
  let off := s.power.mode = .off
  let s := startTrans .run true none (powerList s (if off then 3 else 1)) s
  if off then { s with faults := { s.faults with held := [], heldOverflow := false } } else s

/-- A wake from HOLD carries out HEAD_START for each remembered head, then PANEL_POWER ON for those whose panel was ON
(R538, step 6). -/
def resumeAutos (s : State) : List Auto :=
  let hs := conts.filter fun h => s.power.resume[h].isSome
  (hs.map fun h => { head := h, start := true, wake := true, phase := .waiting [.power, .syn (headSyn h), .gate (headId h)], since := s.port.nextWait })
    ++ (hs.filter fun h => s.power.resume[h] = some true).map fun h =>
      { head := h, start := false, wake := true, phase := .waiting [.power], since := s.port.nextWait }

/-- Every fetch queue starts empty, its buckets full and its previous tags at the virtual times (R538, step 3); scrub
resumes with the block whose request is dropped (R212). -/
def refreshQueues (s : State) : State :=
  let q := s.fetch.queue[(132 : QueueId)]
  let next := match (q.reqs ++ q.waiting).find? fun r => r.kind = .scrub with
    | some r => r.addr
    | none => s.memc.scrubNext
  let s := { s with memc := { s.memc with scrubNext := next } }
  { s with fetch := { s.fetch with queue := s.fetch.queue.map fun q =>
      { Queue.fresh q.pol s.fetch.vc s.fetch.ve with polNext := q.polNext, ds := q.ds, late := q.late } } }

/-- The mode that a wake returns to: a queued request for RUN or DIM decides (25.8), else RESUME_DIM. -/
def wakeMode (s : State) : Mode :=
  match s.power.queued with
  | some 0 => .run
  | some 1 => .dim
  | _ => if s.power.resumeDim then .dim else .run

/-- Steps 2 to 6 of an exit from HOLD. -/
def wakeHold (s : State) : State :=
  let m := wakeMode s
  let s := setPd .host true (setPd .mem true (setPd .sram true (setPd .fabric true s)))
  let s := restoreFaults s
  let s := { s with memc := { s.memc with selfRefresh := false, ready := s.memc.saved, saved := false } }
  let s := if s.memc.ready then raise 184 (calibrate s) else s
  let s := kickZero (refreshQueues s)
  let s := { s with syn := s.syn.map fun (x : Syn) => if x.wasRunning then { x with bore := .locking } else x }
  let s := forEach ((List.finRange 16).filter fun t => t.1 < 12) (fun t s => s.modTimer t fun x => { x with acc := 0 }) (injectLatches s)
  let autos := if s.power.resumeHeads then resumeAutos s else []
  let queued := match s.power.queued with
    | some 0 | some 1 => none
    | q => q
  let s := { s with
    power := { s.power with trans := none, wakeKept := none, resume := Vector.replicate 2 none, queued := queued }
    port := { s.port with auto := s.port.auto ++ autos } }
  reachMode m (releaseHolder .powerSeq s)

/-- An exit from OFF: the domains come up, a segment driver whose EN is set restarts (R424), and a start-up begins
without sampling the straps. The mode is reached when it ends. -/
def wakeOff (s : State) : State :=
  let s := { s with power := { s.power with domains := 0x01F, mode := .run, wakeKept := none }, evu := Evu.reset }
  let s := restoreFaults s
  let s := if s.seg.cfg.en && s.seg.run = .stopped then startSeg s else s
  goStep 10 s

/-- The start-up after OFF ends: BOOT_DONE, or an invalid image (R539). -/
def bootReached (s : State) : State :=
  if s.power.trans.any fun t => t.exiting then
    reachMode .run (releaseHolder .powerSeq { s with power := { s.power with trans := none } })
  else s

/-! ## The power sequencer's steps -/

/-- One step of an entry. -/
def entryStep (t : Transition) (s : State) : State :=
  match t.step with
  | 1 => if memoryBusy s t.order then s else goStep 2 s
  | 2 => goStep 3 (stopUnits s)
  | 3 =>
    if t.at_ = 0 then modTrans (fun t => { t with at_ := 1 }) (forEach conts stopForEntry s)
    else
      let s := forEach conts stopFailed s
      if headsAtRest s then goStep 4 s else s
  | 4 => goStep 5 (stopClocks t.target s)
  | 5 => goStep 6 (if t.target = .off then leaveTenants s else s)
  | 6 => if memoryQuiet s t.target then goStep 7 (sleepMemory t.target s) else s
  | 7 => sleepNow t s
  | _ =>
    if !t.list.isEmpty then listStep s
    else
      let s := { s with power := { s.power with trans := none } }
      let s := reachMode t.target s
      if s.power.wakeKept.isSome then startExit s else s

/-- One step of an exit. -/
def exitStep (t : Transition) (s : State) : State :=
  if t.step ≠ 1 then s
  else if !t.list.isEmpty then listStep s
  else if s.power.mode = .off then wakeOff s
  else wakeHold s

/-- What the power sequencer does next: a step of its transition, or the exit that a kept wake request calls for. -/
def powerStep (s : State) : State :=
  match s.power.trans with
  | some t => if t.exiting then exitStep t s else entryStep t s
  | none => if asleep s && s.power.wakeKept.isSome then startExit s else s

/-- WAKE_REQUEST (R537): an enabled wake source; asleep, the exit begins. -/
def execWakeRequest (x : WakeSource) (s : State) : Host.Outcome State Fault Refusal :=
  let s := wakeRequest x s
  .next (if s.power.trans.isNone && asleep s && s.power.wakeKept.isSome then startExit s else s)

/-- HOST_BUS_WAKE (R101): HB_CS_N_0 asserted for 2 µs while PD_HOST is off. -/
def execHostBusWake (s : State) : Host.Outcome State Fault Refusal :=
  .next (if pdOn .host s then s else wakeRequest .hostBus s)

/-- POWER_STEP_WAIT_TIMEOUT (R541): the list ends; in an exit list PWR_SEQ is written, with the list's number and the
step. -/
def execPowerStepWaitTimeout (s : State) : Host.Outcome State Fault Refusal :=
  match s.power.trans with
  | none => .next s
  | some t => match t.list with
    | { op := .waitPin, .. } :: _ =>
      let s := if t.exiting then logFault 0x26 (if s.power.mode = .off then 3 else 1) (BitVec.ofNat 32 t.at_) s else s
      .next (setList [] s)
    | _ => .next s

/-! ## The Drone domain's handshakes (R62) -/

/-- The write concerns a Drone-domain channel. -/
def TimerWrite.concerns (k : Fin 4) : TimerWrite → Bool
  | .reg t _ _ => t = k
  | .startStop a b => a.getLsbD k.1 || b.getLsbD k.1

/-- The Drone domain takes one write that waits; every channel that a TIM_START write names moves together (R70). -/
def takeTimerWrite (e : TimerWrite) (s : State) : State :=
  forEach (List.finRange 4) (fun k s =>
    if e.concerns k then s.modTimer ⟨12 + k.1, by omega⟩ (e.apply k) else s) s

/-- The writes up to the last one that a test admits, and those after it. -/
def splitLast (p : TimerWrite → Bool) : List TimerWrite → List TimerWrite × List TimerWrite
  | [] => ([], [])
  | e :: l =>
    let (a, b) := splitLast p l
    if !a.isEmpty || p e then (e :: a, b) else ([], e :: b)

/-- The Drone domain takes the waiting writes of a channel, and with them the writes issued before them (R65). -/
def takeTimer (k : Fin 4) (s : State) : State :=
  let (now, later) := splitLast (TimerWrite.concerns k) s.timerShadow
  forEach now takeTimerWrite { s with timerShadow := later }

/-- A heartbeat reaches the Drone domain: monitoring is armed, the timeout restarts, a second timeout ends (R49, R126). -/
def takeHeartbeat (s : State) : State :=
  { s with drone := { s.drone with
      timeout := s.drone.hbTimeout, fallback := s.drone.hbFallback, hbDirty := false, armed := true, lapsed := false
      second := false } }

/-- DRONE_SHADOW_TRANSFER: a shadow that waits is taken. -/
def execDroneShadowTransfer (r : DroneShadow) (s : State) : Host.Outcome State Fault Refusal :=
  match r with
  | .heartbeat => .next (if s.drone.hbDirty then takeHeartbeat s else s)
  | .powerReq =>
    if !s.power.reqDirty then .next s
    else
      let v := s.power.reqShadow
      let m : BitVec 3 := v.extractLsb' 0 3
      let s := { s with power := { s.power with req := v, reqDirty := false } }
      .next (if m = s.power.lastMode then s else requestMode m s)
  | .timer t => match droneTimer t with
    | some k => .next (takeTimer k s)
    | none => .next s

/-! ## The heartbeat monitor (R49, R161, R162) -/

/-- Both timeouts run: the device is in RUN or DIM and its start-up is over. -/
def beatRuns (s : State) : Bool := s.drone.armed && !asleep s && fabricOn s

/-- HEARTBEAT_LAPSE: the timeout elapses without a write. -/
def execHeartbeatLapse (s : State) : Host.Outcome State Fault Refusal :=
  if !beatRuns s || s.drone.lapsed then .next s
  else
    let s := { s with drone := { s.drone with lapsed := true, second := s.drone.fallback ≠ 0 } }
    .next (raise 282 (logFault 0x32 0 (BitVec.ofNat 32 s.drone.timeout) s))

/-- FALLBACK_SUBMISSION: the second timeout elapses too, and the enabled set of the boot image is submitted, once per
lapse. A HEARTBEAT write that takes effect in the same Drone cycle cancels it (R163): whether one that is on its way does, is
free (log 130). -/
def execFallbackSubmission (s : State) : Host.Outcome State Fault Refusal :=
  if !beatRuns s || !s.drone.second || s.drone.fallback = 0 || s.boot.fallback.isEmpty then .next s
  else if s.drone.hbDirty && Config.sameDroneCycle s.free then .next (takeHeartbeat (bumpFree s))
  else
    let set := s.boot.fallback
    let s := if s.drone.hbDirty then bumpFree s else s
    let s := { s with
      drone := { s.drone with second := false, fallbackShown := true }
      port := { s.port with fallbackQueue := s.port.fallbackQueue ++ set.mapIdx fun i r => (i, r) } }
    .next (logFault 0x33 0 (BitVec.ofNat 32 set.length) s)

end Sys2Proof.Machine
end

