-- ==== Sys2Proof/Machine/Queues.lean ====
section
/-! DEFINITION. QUEUE_CONFIG and POLICER_CONFIG (10.3, 10.6, R230, R231, R434), for fetch and egress queues. Their checks
and effects are apart from the command port, for the boot loader's QUEUES section (Table 26-7). -/
namespace Sys2Proof.Machine

/-- The queue an A0 names: a fetch queue, or an egress queue. -/
inductive AnyQueue where
  | fetch (q : QueueId)
  | egress (i : StreamId)
deriving DecidableEq, Repr

def argQueue (a : Cmd) : Option AnyQueue :=
  let n := fld a.a0 0 8
  if a.a0.getLsbD 16 then (if h : n < 16 then some (.egress ⟨n, h⟩) else none)
  else if h : n < 136 then some (.fetch ⟨n, h⟩) else none

/-! ## QUEUE_CONFIG -/

/-- An argument of QUEUE_CONFIG is out of range (R230). -/
def queueBad (a : Cmd) : Bool := !argBits a 0x100FF 0xFFFF 0 0 || (argQueue a).isNone || fld a.a1 0 16 = 0

/-- The weight of a queue (R230): it enters the tags computed from here on. -/
def setWeight (a : Cmd) (s : State) : State :=
  let v := fld a.a1 0 16
  match argQueue a with
  | some (.fetch q) => s.modQueue q fun x => { x with
      pol := { x.pol with weight := v }, polNext := x.polNext.map fun p => { p with weight := v } }
  | some (.egress i) => s.modEgress i fun x => { x with pol := { x.pol with weight := v } }
  | none => s

def opQueueConfig : Opcode where
  check := fun _ c a _ => firstFail [(!supervisor c, .denied), (queueBad a, .badArg)]
  needs := fun _ _ _ => []
  act := fun w _ a s => finishGen w 0 0 (setWeight a s)

/-- QUEUE_CONFIG (0x38). -/
def execQueueConfig (w : WinId) (c : Cmd) (s : State) : Host.Outcome State Fault Refusal :=
  .next (portRow w 0x38 c opQueueConfig.run s)

/-! ## POLICER_CONFIG -/

/-- The parameters that the arguments give, with the weight in force. -/
def argPolicer (a : Cmd) (weight : Nat) : Policer :=
  { weight := weight, cir := fld a.a1 0 24, pir := fld a.a2 0 24, cbs := fld a.a3 0 16, pbs := fld a.a3 16 16 }

/-- A field lies outside Table 10-2 (R221). -/
def Policer.bad (p : Policer) : Bool :=
  decide (p.pir < p.cir ∨ (p.cir = 0 ∧ p.cbs ≠ 0) ∨ (0 < p.cir ∧ p.cbs < 4) ∨ p.pbs < 4 ∨ p.pbs < p.cbs)

/-- The floor for egress queues: one frame (R434). -/
def Policer.egressBad (p : Policer) : Bool := decide (p.pbs < 24 ∨ (0 < p.cir ∧ p.cbs < 24))

/-- An argument of POLICER_CONFIG is out of range (R221, R434). -/
def policerBad (a : Cmd) : Bool :=
  let p := argPolicer a 1
  !argBits a 0x100FF 0xFFFFFF 0xFFFFFF wholeWord || p.bad || match argQueue a with
    | none => true
    | some (.fetch _) => false
    | some (.egress _) => p.egressBad

/-- The sum of the egress queues' committed rates with one replaced, in 1/256 byte per µs. -/
def egressSum (s : State) (i : StreamId) (c : Nat) : Nat :=
  (List.finRange 16).foldl (fun t j => t + if j = i then c else s.relay.egress[j].pol.cir) 0

/-- The layers of a context on the queue's head no longer fit its new policer (R231, reason 0x43): the line. -/
def policerLine (s : State) (q : QueueId) (p : Policer) : Option Nat :=
  match queueCtx q, s.head[queueHead q].cfg with
  | some c, some cfg =>
    let h := queueHead q
    (checkStates s c h cfg (admTerr s h c) p (queueStates s c (headId h))).map fun r => r.2
  | _, _ => none

/-- Why a POLICER_CONFIG is REJECTED (R231, R434): the reason, the head and the line. Where both reasons hold, 0x44 is
reported (DESIGN CHOICE, log 127: R231 gives no order). -/
def policerReject (s : State) (a : Cmd) : Option (Nat × Nat × Nat) :=
  match argQueue a with
  | none => none
  | some (.egress i) => guardSome (decide (123 * 256 < egressSum s i (fld a.a1 0 24))) (0x44, 0, 0)
  | some (.fetch q) =>
    let p := argPolicer a s.fetch.queue[q].pol.weight
    if 256 * admission100 s.memc.deliverable < 100 * committedSum s (some (q, p.cir)) then some (0x44, 0, 0)
    else (policerLine s q p).map fun y => (0x43, (queueHead q).1, y)

/-- The new policer of a queue: at once, on a sealed context's queue of a started head at the head's next boundary
(R41, R231). A change of a context's reservation counts in its generation (R128). -/
def takePolicer (a : Cmd) (s : State) : State :=
  match argQueue a with
  | none => s
  | some (.egress i) =>
    let p := argPolicer a s.relay.egress[i].pol.weight
    settleEgress i (s.modEgress i fun x => { x with pol := p, tc := p.cbs * 64 * 256, tp := p.pbs * 64 * 256 })
  | some (.fetch q) =>
    let x := s.fetch.queue[q]
    let p := argPolicer a x.pol.weight
    let before := (x.polNext.getD x.pol).cir
    let s := if sealedQueue s q && started s (queueHead q) then s.modQueue q fun x => { x with polNext := some p } else setPolicer q p s
    match queueCtx q with
    | some c => if p.cir = before then s else bumpCtx c s
    | none => s

def actPolicerConfig (w : WinId) (_ : CtxId) (a : Cmd) (s : State) : State :=
  match policerReject s a with
  | some (reason, head, line) => reject w reason head line s
  | none => finishGen w 0 0 (takePolicer a s)

def opPolicerConfig : Opcode where
  check := fun _ c a _ => firstFail [(!supervisor c, .denied), (policerBad a, .badArg)]
  needs := fun _ _ _ => []
  act := actPolicerConfig

/-- POLICER_CONFIG (0x39). -/
def execPolicerConfig (w : WinId) (c : Cmd) (s : State) : Host.Outcome State Fault Refusal :=
  .next (portRow w 0x39 c opPolicerConfig.run s)

end Sys2Proof.Machine
end

