-- ==== Sys2Proof/Machine/Boot.lean ====
section
/-! DEFINITION. Start-up (chapter 26): cold reset and brown-out, the register file, the boot image and its validation,
memory training, and the application of the image's sections. -/
namespace Sys2Proof.Machine

/-! ## Cold reset (26.1) -/

/-- A cold reset (R543): every block as in Table 26-8, the straps sampled. What lies outside the device stays: the
crystals and clocks present, what was sent, and the commands that still come. -/
def coldReset (straps : Straps) (s : State) : State :=
  let r := State.resetWith straps
  { r with
    pending := s.pending
    drone := { r.drone with xtalOk := s.drone.xtalOk, xtal32Ok := s.drone.xtal32Ok, pllLock := s.drone.xtalOk }
    pcie := { r.pcie with refclk := s.pcie.refclk, sent := s.pcie.sent }
    relay := { r.relay with erx := s.relay.erx, wire := s.relay.wire }
    free := s.free }

/-- COLD_RESET. -/
def execColdReset (straps : Straps) (s : State) : Host.Outcome State Fault Refusal := .next (coldReset straps s)

/-- The supply is monitored (Table 28-3). -/
def monitored (s : State) : Supply → Bool
  | .vddDrone => true
  | .vddCore => s.power.domains &&& 0x1F6 ≠ 0
  | .vddSram => pdOn .sram s
  | .vddMemio => s.power.mode ≠ .off

/-- BROWN_OUT (R585): a monitored supply below its threshold is a cold reset. -/
def execBrownOut (supply : Supply) (straps : Straps) (s : State) : Host.Outcome State Fault Refusal :=
  .next (if monitored s supply then coldReset straps s else s)

/-- REGISTER_FILE_READY (R99): the system PLL has locked. -/
def execRegisterFileReady (s : State) : Host.Outcome State Fault Refusal :=
  .next (if s.boot.phase = .reset && fabricOn s && s.drone.pllLock then { s with boot := { s.boot with phase := .registers } } else s)

/-! ## The end of a start-up -/

/-- BOOT_DONE is set, CAL_0 is free again, and source 280 tells (R549, R539). -/
def bootDone (s : State) : State :=
  if s.boot.doneFlag then s
  else
    let s := releaseHolder .bootLoader { s with boot := { s.boot with doneFlag := true } }
    if s.power.trans.any fun t => t.exiting then bootReached s else raise 280 s

def setPhaseOf (p : BootPhase) (s : State) : State := { s with boot := { s.boot with phase := p } }

/-- The boot-fault pattern: every segment lit on COM_0 (R562). -/
def bootFaultRecord : SegCfg := { SegCfg.reset with en := true, mux := 2, frameHz := 64, vlcd25 := 300, tc := 0 }

def showBootFault (s : State) : State :=
  modSeg (fun x => { x with half0 := Vector.replicate 96 1, half1 := Vector.replicate 96 1, pending := false })
    (takeSegRecord bootFaultRecord s)

/-- The boot stops (R560, R562): BOOT_FAULT, the pattern, BOOT_DONE. -/
def bootStops (s : State) : State :=
  bootDone (showBootFault { s with faults := { s.faults with bootFault := true } })

/-! ## Flash discovery (R550): the SFDP table of JESD216, whose layout is log 128 -/

/-- The reading mode of a flash without a valid SFDP signature. -/
def FlashMode.plain : FlashMode := { instr := 0x03, addrBytes := 3, addrWires := 1, wires := 1, dummy := 0, kHz := 12500 }

/-- The signature "SFDP". -/
def sfdpOk (b : List Byte) : Bool := leAt b 0 4 = 0x50444653

/-- A fast read of the basic table: its instruction follows the byte of its mode clocks [7:5] and wait states [4:0]. -/
def fastRead (t : List Byte) (off addrWires wires : Nat) : FlashMode where
  instr := t.getD (off + 1) 0
  addrBytes := if byteAt t 2 / 2 % 4 = 2 then 4 else 3
  addrWires := addrWires
  wires := wires
  dummy := byteAt t off % 32 + byteAt t off / 32
  kHz := 50000

/-- The mode taken from the table: the widest fast read that it lists and QUAD_OK permits. -/
def flashMode (quadOk : Bool) (b : List Byte) : FlashMode :=
  let t := b.drop (leAt b 0x0C 3)
  let has (k : Nat) : Bool := byteAt t 2 / 2 ^ k % 2 = 1
  if !sfdpOk b then .plain
  else if quadOk && has 5 then fastRead t 8 4 4
  else if quadOk && has 6 then fastRead t 10 1 4
  else if has 4 then fastRead t 14 2 2
  else if has 0 then fastRead t 12 1 2
  else { fastRead t 0 1 1 with instr := 0x0B, dummy := 8 }

/-! ## The boot image (26.4, 26.5) -/

def secMemory : Nat := 1
def secSystem : Nat := 2
def secQueues : Nat := 3
def secPower : Nat := 4
def secSteps : Nat := 5
def secPanel : Nat := 6
def secHead : Nat := 7
def secWave : Nat := 8
def secProtect : Nat := 9
def secSegment : Nat := 10
def secSplash : Nat := 11
def secFallback : Nat := 12

/-- INSTANCE is in range for the type (Table 26-7); false for a type that is not listed. -/
def instanceOk (type inst : Nat) : Bool :=
  if type ∈ [secPanel, secProtect] then decide (inst ≤ 1)
  else if type ∈ [secHead, secSplash] then decide (inst ≤ 2)
  else if type = secFallback then decide (inst ≤ 15)
  else decide (1 ≤ type ∧ type ≤ 10) && inst = 0

/-- The content length of a PROTECT section, for a known format. -/
def protectLength (b : List Byte) : Option Nat :=
  (Format.ofCode (byteAt b 8)).map fun f => 8 + 16 + (if f = .i8 then 1024 else 0) + leAt b 12 2 * leAt b 14 2 * f.bpp

/-- LENGTH meets Table 26-7, for the bytes of a section. -/
def lengthOk (type inst : Nat) (b : List Byte) : Bool :=
  let n := b.length
  if type = secQueues then decide (n % 16 = 0 ∧ 16 ≤ n ∧ n ≤ 16 * 152)
  else if type = secPower then n = 128
  else if type = secSteps then n = 260
  else if type = secPanel then n = 32 + 8 * (byteAt b 1 + byteAt b 2)
  else if type = secHead then
    if inst = 2 then n = 80 else n = 80 + 6144 * (byteAt b 18 / 16 % 2 + byteAt b 18 / 32 % 2)
  else if type = secWave then n = waveBytes
  else if type = secProtect then (protectLength b).all (· = n) && decide (24 ≤ n)
  else if type = secSegment then n = 112
  else if type = secSplash ∨ type = secFallback then decide (16 + 16 * byteAt b 1 + 8 * byteAt b 2 ≤ n)
  else n = 16

/-- A directory entry (Table 26-5). -/
structure DirEntry where
  type : Nat
  inst : Nat
  reserved : Nat
  off : Nat
  len : Nat
  crc : Nat
deriving DecidableEq, Repr

def dirEntry (b : List Byte) (i : Nat) : DirEntry :=
  let o := 0x40 + 16 * i
  { type := leAt b o 2, inst := byteAt b (o + 2), reserved := byteAt b (o + 3), off := leAt b (o + 4) 4, len := leAt b (o + 8) 4
    crc := leAt b (o + 12) 4 }

def directory (b : List Byte) : List DirEntry := (List.range (leAt b 8 2)).map (dirEntry b)

def DirEntry.bytes (e : DirEntry) (b : List Byte) : List Byte := (b.drop e.off).take e.len

/-- The header holds the values of Table 26-4, and HDR_CRC checks. -/
def headerOk (b : List Byte) : Bool :=
  let n := leAt b 8 2
  leAt b 0 4 = 0x4B524C4F && leAt b 4 2 = 1 && leAt b 6 2 = 64 && decide (1 ≤ n ∧ n ≤ 32) && zeroAt b 0x0A 2
    && decide (leAt b 0x0C 4 ≤ 0x00800000 ∧ leAt b 0x0C 4 ≤ b.length) && zeroAt b 0x14 40
    && leAt b 0x3C 4 = crc32c (b.take 0x3C ++ (b.drop 0x40).take (16 * n))

/-- A section of the directory is well placed, of a listed type, and intact. -/
def sectionOk (b : List Byte) (n : Nat) (e : DirEntry) : Bool :=
  e.reserved = 0 && instanceOk e.type e.inst && decide (e.off % 4 = 0 ∧ e.len % 4 = 0) && decide (0x40 + 16 * n ≤ e.off)
    && decide (e.off + e.len ≤ leAt b 0x0C 4) && lengthOk e.type e.inst (e.bytes b) && crc32c (e.bytes b) = e.crc

/-- The image is valid (R553). -/
def imageOk (b : List Byte) : Bool :=
  let d := directory b
  headerOk b && d.all (sectionOk b d.length) && (d.map fun e => (e.type, e.inst)).Nodup
    && d.Pairwise (fun e f => e.off + e.len ≤ f.off ∨ f.off + f.len ≤ e.off)
    && leAt b 0x0C 4 = d.foldl (fun m e => Nat.max m (e.off + e.len)) 0

def sectionsOf (b : List Byte) : List BootSection :=
  (directory b).map fun e => { type := e.type, inst := e.inst, payload := e.bytes b }

/-- MT/s of a RATE code (Table 26-7). -/
def rateOf (c : Nat) : Option Nat := [1600, 2133, 2667, 3200, 3733][c]?

/-- A valid MEMORY section: its codes, reserved bytes, and a declaration within R201, step 1. -/
def parseMemory (b : List Byte) : Option MemConfig :=
  match rateOf (byteAt b 0) with
  | none => none
  | some r =>
    let d := leAt b 4 4
    let peak8 := r * (if byteAt b 1 = 1 then 28 else 32)
    guardSome (decide (byteAt b 1 ≤ 1) && zeroAt b 2 2 && zeroAt b 8 8 && (d = 0 || decide (peak8 ≤ 80 * d ∧ 8 * d ≤ peak8)))
      { rate := r, ecc := byteAt b 1 = 1, deliverable := d }

def sectionIn (l : List BootSection) (type inst : Nat) : Option BootSection := l.find? fun x => x.type = type && x.inst = inst

/-- The image used: the first valid one (R551). -/
def usedImage (s : State) (f : FlashRead) : Option (List Byte) :=
  if imageOk f.primary then some f.primary
  else if s.boot.straps.imageAlt && imageOk f.alternate then some f.alternate
  else none

/-- BOOT_IMAGE_VALIDATION: the flash is discovered (R550) and the images are streamed through CAL_0 (R551, R553); without
a valid one the boot stops and memory trains with the defaults (R562). -/
def execBootImageValidation (f : FlashRead) (s : State) : Host.Outcome State Fault Refusal :=
  if s.boot.phase ≠ .registers || !s.boot.straps.flashBoot then .next s
  else
    let s := { s with boot := { s.boot with flash := some (flashMode s.boot.straps.quadOk f.sfdp) } }
    match usedImage s f with
    | some b =>
      let l := sectionsOf b
      .next { s with
        boot := { s.boot with phase := .validated, sections := l, valid := true }
        memc := { s.memc with cfg := (sectionIn l secMemory 0).bind fun x => parseMemory x.payload } }
    | none =>
      .next (setPhaseOf .validated (bootStops (logFault 0x40 0 (if s.boot.straps.imageAlt then 1 else 0) s)))

/-! ## Memory training (R191, R192) -/

/-- The declaration in force after training: the section's, else 70 % of payload peak in whole MB/s (R200). -/
def firstDeclaration (s : State) (declared : Nat) : Nat := if declared = 0 then 70 * payloadPeak8 s / 800 else declared

/-- Training may begin: after the image is validated, or without a flash boot as soon as registers answer. -/
def mayTrain (s : State) : Bool :=
  s.boot.phase = .validated || (s.boot.phase = .registers && !s.boot.straps.flashBoot)

/-- The boot loader's next move after training: with FLASH_BOOT = 0 the start-up ends, with a valid image that trained
its sections follow. -/
def trained (ok : Bool) (s : State) : State :=
  let s := setPhaseOf .trained s
  if s.boot.valid then (if ok then s else setPhaseOf .done (bootStops s)) else setPhaseOf .done (bootDone s)

/-- UNIT of MEM_TRAIN (R191). -/
def trainUnit (ch0 ch1 mismatch : Bool) : Nat := if mismatch then 2 else if ch0 && ch1 then 3 else if ch1 then 1 else 0

/-- MEMORY_TRAINING: the capacity codes of Table 05-3, one or two ranks; a failure is that of the third attempt. -/
def execMemoryTraining (r : TrainingResult) (s : State) : Host.Outcome State Fault Refusal :=
  if !mayTrain s then .next s
  else
    let k : MemConfig := s.memc.cfg.getD { rate := 3733, ecc := false, deliverable := 0 }
    let s := { s with memc := { s.memc with rate := k.rate, ecc := k.ecc, resetN := true } }
    match r with
    | .pass code ranks =>
      if code = 0 || decide (5 < code) then .next s
      else
        let s := { s with memc := { s.memc with ready := true, sizeCode := code, ranks := ranks, deliverable := firstDeclaration s k.deliverable } }
        .next (trained true (raise 184 s))
    | .fail ch0 ch1 mismatch =>
      if !(ch0 || ch1 || mismatch) then .next s
      else .next (trained false (raise 187 (logFault 0x05 (trainUnit ch0 ch1 mismatch) 3 s)))

/-! ## Applying sections (26.6): each gives the state it leaves and whether it was applied -/

abbrev Applied := State × Bool

/-- Two steps, the second only after the first was applied. -/
def Applied.andThen (a : Applied) (f : State → Applied) : Applied := if a.2 then f a.1 else a

/-- Steps in order up to the first that fails. -/
def applyAll {α : Type} (f : α → State → Applied) : List α → State → Applied
  | [], s => (s, true)
  | x :: l, s => (f x s).andThen (applyAll f l)

/-- The effect of a rule or command, if its checks do not turn it away. -/
def guarded (bad : Bool) (f : State → State) (s : State) : Applied := if bad then (s, false) else (f s, true)

/-- HEARTBEAT's TIMEOUT and FALLBACK as a write stores them (Table 05-34). -/
def storeBeat (timeout fallback : Nat) (d : Drone) : Drone :=
  { d with hbTimeout := if timeout = 0 then d.hbTimeout else Nat.min 6000 timeout, hbFallback := fallback % 16384 }

/-- SYSTEM except FREEZE: CTX_0's partition, the heartbeat fields unless one was written (R548), and CS_LOCK. -/
def applySystem (b : List Byte) (s : State) : Applied :=
  let base := leAt b 0 4
  let size := leAt b 4 4
  let bad := decide (2 ^ 18 ≤ base ∨ 2 ^ 18 ≤ size) || (partitionState s 0 base size).isSome || byteAt b 12 % 2 = 1
    || byteAt b 12 / 16 % 8 ≠ 0 || !zeroAt b 13 3
  guarded bad (fun s =>
    let s := s.modCtx 0 fun c => { c with partBase := base, partSize := size }
    let s :=
      if s.drone.armed || s.drone.hbDirty then s
      else
        let d := storeBeat (leAt b 8 2) (leAt b 10 2) s.drone
        { s with drone := { d with timeout := d.hbTimeout, fallback := d.hbFallback } }
    { s with port := { s.port with csLock := BitVec.ofNat 3 (byteAt b 12 / 2) } }) s

/-- One QUEUES entry: QUEUE_CONFIG, then POLICER_CONFIG. -/
def applyQueue (b : List Byte) (s : State) : Applied :=
  let a0 := put (byteAt b 0) 0 8 ||| put (byteAt b 1) 16 8
  let w : Cmd := { tag := 0, a0 := a0, a1 := put (leAt b 2 2) 0 16, a2 := 0, a3 := 0 }
  let p : Cmd := { tag := 0, a0 := a0, a1 := put (leAt b 8 4) 0 32, a2 := put (leAt b 12 4) 0 32, a3 := put (leAt b 4 2) 0 16 ||| put (leAt b 6 2) 16 16 }
  (guarded (queueBad w) (setWeight w) s).andThen fun s => guarded (policerBad p || (policerReject s p).isSome) (takePolicer p) s

def applyQueues (b : List Byte) (s : State) : Applied :=
  applyAll (fun i => applyQueue ((b.drop (16 * i)).take 16)) (List.range (b.length / 16)) s

/-- POWER: a parameter block without a mode change. -/
def applyPower (b : List Byte) (s : State) : Applied :=
  match parsePower b with
  | some p => guarded (p.seg.isSome || p.deliverable ≠ 0) (applyBlock p) s
  | none => (s, false)

/-- A list of the power step table: only ASSERT, DEASSERT, WAIT_PIN and DELAY, on GPIOs (R541). -/
def parseList (b : List Byte) (n : Nat) : Option (List SeqStep) :=
  match parseSteps b n with
  | some l => guardSome (decide (n ≤ 8) && l.all fun x =>
      x.op = .delay || ((x.op = .assert || x.op = .deassert || x.op = .waitPin) && decide (16 ≤ x.target))) l
  | none => none

def applySteps (b : List Byte) (s : State) : Applied :=
  let l (k : Nat) := parseList ((b.drop (4 + 64 * k)).take 64) (byteAt b k)
  match l 0, l 1, l 2, l 3 with
  | some a, some b, some c, some d => ({ s with power := { s.power with steps := #v[a, b, c, d] } }, true)
  | _, _, _, _ => (s, false)

/-- The boot loader writes memory through queue_135, as a requester of its own (R179, R557). -/
def bootWrite (a : Nat) (b : List Byte) (s : State) : State := enqueueRange 135 (.boot true) 0 a b.length (s.write a b)

/-- WAVEFORM: a table that passes R393 goes into the waveform region. -/
def applyWave (b : List Byte) (s : State) : Applied := guarded (!tableOk (byteAt b)) (bootWrite (waveBase s) b) s

/-- SEGMENT: the record applies, and the pattern stands in the active half. -/
def applySegment (b : List Byte) (s : State) : Applied :=
  match parseSeg (b.take 16) with
  | some c => guarded (!segApplies (b.take 16)) (fun s =>
      let p : Vector Byte 96 := Vector.ofFn fun i => b.getD (16 + i.1) 0
      modSeg (fun x => if x.active1 then { x with half1 := p } else { x with half0 := p }) (takeSegRecord c s)) s
  | none => (s, false)

/-- The CLOCK_CONFIG that a HEAD section's prefix stands for (R555). -/
def prefixCmd (inst : Nat) (b : List Byte) : Cmd :=
  { tag := 0, a0 := put inst 0 2, a1 := put (leAt b 0 4) 0 32
    a2 := put (byteAt b 4) 0 3 ||| put (byteAt b 5) 3 4 ||| put (byteAt b 6) 16 2, a3 := put (leAt b 8 2) 0 16 }

/-- A prefix field that CLOCK_CONFIG's arguments cannot hold, or a reserved one. -/
def prefixBad (inst : Nat) (b : List Byte) : Bool :=
  decide (8 ≤ byteAt b 4 ∨ 16 ≤ byteAt b 5 ∨ 16 ≤ byteAt b 6 ∨ (inst = 2 ∧ 4 ≤ byteAt b 6)) || !zeroAt b 7 1 || !zeroAt b 10 6

def bootStart (b : List Byte) : Bool := byteAt b 6 / 4 % 2 = 1
def bootPanelOn (b : List Byte) : Bool := byteAt b 6 / 8 % 2 = 1

/-- HEAD: CLOCK_CONFIG, which is not waited for (log 59), then HEAD_CONFIG with the section's LUTs. -/
def applyHead (inst : Nat) (b : List Byte) (s : State) : Applied :=
  let a := prefixCmd inst b
  let block := (b.drop 16).take 64
  let dg := if byteAt block 2 / 16 % 2 = 1 then 6144 else 0
  let luts := some ((b.drop 80).take 6144, (b.drop (80 + dg)).take 6144)
  let clock : Applied := match argSyn a with
    | some y => guarded (prefixBad inst b || (checkClockConfig 0 0 a s).isSome) (loadSyn y (argSynCfg a) true) s
    | none => (s, false)
  clock.andThen fun s =>
    match contHead ⟨inst % 3, Nat.mod_lt _ (by decide)⟩ with
    | some h => guarded (!zeroAt block 0x20 8 || (checkHead s h block luts).isSome) (takeHead h block luts) s
    | none => guarded (!zeroAt block 0x0C 4 || epdLoads block || (checkHeadE s block).isSome) (takeHeadE block) s

def toCont (inst : Nat) : ContHead := ⟨inst % 2, Nat.mod_lt _ (by decide)⟩

/-- PANEL_SEQ: the head's boot table. -/
def applyPanel (inst : Nat) (b : List Byte) (s : State) : Applied :=
  let h := toCont inst
  match parsePanelTable b s.panel[otherHead h].backlight with
  | some t => (s.modPanel h fun p => { p with boot := some t }, true)
  | none => (s, false)

/-- PROTECT: PROTECT_LOAD, then an unowned lock that takes effect at once on the stopped head (R558). -/
def applyProtect (inst : Nat) (b : List Byte) (s : State) : Applied :=
  let h := toCont inst
  let x := leAt b 0 2
  let y := leAt b 2 2
  match parseImage (b.drop 8), s.head[h].cfg with
  | some i, some cfg =>
    guarded (decide (2 ≤ byteAt b 4) || !zeroAt b 6 2 || decide (allotBytes s.prot[h] < i.use)
        || decide (cfg.hactive < x + i.w ∨ cfg.vactive < y + i.h))
      (fun s => s.modProt h fun p => { p with
        live := some i, shadow := none, x := x, y := y, safe := byteAt b 4 = 1, floor := b.getD 5 0
        expected := BitVec.ofNat 64 (expectedValue cfg.live i x y), guardian := none, orphaned := false }) s
  | _, _ => (s, false)

/-! ### SPLASH and FALLBACK (R556 to R559) -/

/-- Where a SPLASH or FALLBACK section stands in device space: 4 KiB aligned, in directory order. -/
def bootOffsets : List BootSection → Nat → List ((Nat × Nat) × Nat)
  | [], _ => []
  | x :: l, o =>
    if x.type = secSplash ∨ x.type = secFallback then ((x.type, x.inst), o) :: bootOffsets l (roundUp (o + x.payload.length) 4096)
    else bootOffsets l o

def bootOffset (s : State) (x : BootSection) : Nat :=
  (((bootOffsets s.boot.sections 0x0F000000).find? fun p => p.1 = (x.type, x.inst)).map fun p => p.2).getD 0x0F000000

/-- A territory of a section's header: its index and rectangle, none for a reserved value. -/
def bootTerr (b : List Byte) : Option (Fin 4 × Option Territory) :=
  let w := leAt b 8 2
  let h := leAt b 10 2
  let t : Territory := {
    x := leAt b 4 2, y := leAt b 6 2, w := w, h := h, zlo := byteAt b 2, zhi := byteAt b 3, overlap := byteAt b 1 = 1 }
  guardSome (decide (byteAt b 0 < 4 ∧ byteAt b 1 < 2 ∧ byteAt b 2 < 16 ∧ byteAt b 3 < 16) && zeroAt b 12 4)
    (⟨byteAt b 0 % 4, Nat.mod_lt _ (by decide)⟩, guardSome (w ≠ 0 && h ≠ 0) t)

/-- The list entries of a section. -/
def bootEntries (b : List Byte) : List RawEntry :=
  (List.range (byteAt b 2)).map fun i => rawEntry ((b.drop (16 + 16 * byteAt b 1 + 8 * i)).take 8)

/-- The bytes of a descriptor in its section. -/
def bootDesc (b : List Byte) (e : RawEntry) : List Byte := (b.drop (4 * e.desc)).take 64

/-- A descriptor and its plane and palette extents lie within the section, and it names no relay stream. -/
def bootDescOk (b : List Byte) (h : HeadId) (e : RawEntry) : Bool :=
  e.clear || (decide (4 * e.desc + 64 ≤ b.length) && byteAt (bootDesc b e) 6 % 16 = e.slot
    && match parseDesc (bootDesc b e) 0 h (fun _ => none) with
      | some d => d.relay.isNone && d.extents.all fun r => decide (r.1 + r.2 ≤ b.length)
      | none => false)

/-- The header and the list of a section are valid; the head it names. -/
def bootCommitOk (fallback : Bool) (b : List Byte) : Option HeadId :=
  let l := bootEntries b
  if h : byteAt b 0 < 3 then
    let k : HeadId := ⟨byteAt b 0, h⟩
    guardSome (decide (byteAt b 1 ≤ if fallback then 0 else 4) && decide (1 ≤ byteAt b 2 ∧ byteAt b 2 ≤ 16)
      && decide (byteAt b 3 ≤ if fallback then 1 else 0) && zeroAt b 4 12 && !listBad l && l.all fun e => e.head = k.1 && bootDescOk b k e) k
  else none

/-- The commit of a section, its descriptors copied. Its list stands at the section's offset in device space (log 125:
R157 gives a W-offset, and this list lies in no partition). -/
def bootReq (fallback : Bool) (off : Nat) (b : List Byte) : CommitReq :=
  let l := bootEntries b
  { check := false, joint := false, fallback := fallback, listOff := off, entries := l.length, boot := some off
    list := l.map fun e =>
      (⟨e.head % 3, Nat.mod_lt _ (by decide)⟩, ⟨e.slot % 16, Nat.mod_lt _ (by decide)⟩, if e.clear then none else some (bootDesc b e)) }

/-- The section's bytes stand in the boot data region. -/
def placeSection (x : BootSection) (s : State) : State := bootWrite (deviceBase s + bootOffset s x) x.payload s

/-- The territories of a SPLASH as TERRITORY_SET for CTX_0. -/
def applyBootTerrs (h : HeadId) (b : List Byte) (s : State) : Applied :=
  applyAll (fun i s => match bootTerr ((b.drop (16 + 16 * i)).take 16) with
    | none => (s, false)
    | some (k, t) => guarded ((terrFails s 0 h k t).isSome) (setTerrs 0 h (terrsWith s 0 h k t)) s) (List.range (byteAt b 1)) s

/-- SPLASH: its territories, then its commit as one of CTX_0; on a stopped head it is held. -/
def applySplash (x : BootSection) (s : State) : Applied :=
  let b := x.payload
  match bootCommitOk false b with
  | none => (s, false)
  | some h =>
    if h.1 ≠ x.inst then (s, false)
    else (applyBootTerrs h b (placeSection x s)).andThen fun s =>
      let r := bootReq false (bootOffset s x) b
      match decideCommit s 0 r with
      | .accept parts => (acceptCommit 0 r parts s, true)
      | _ => (s, false)

def fallbackEnabled (x : BootSection) : Bool := byteAt x.payload 3 % 2 = 1

/-- A FALLBACK section: held with the set when it is enabled; the set holds at most 16 entries (R559). -/
def applyFallback (x : BootSection) (s : State) : Applied :=
  let s := placeSection x s
  match bootCommitOk true x.payload with
  | none => (s, false)
  | some _ =>
    if !fallbackEnabled x then (s, true)
    else
      let r := bootReq true (bootOffset s x) x.payload
      let n := s.boot.fallback.foldl (fun t q => t + q.entries) 0
      guarded (decide (16 < n + r.entries)) (fun s => { s with boot := { s.boot with fallback := s.boot.fallback ++ [r] } }) s

/-! ### The order of application (Table 26-6) -/

/-- The types and instances in the order of steps 2 to 6. -/
def applyOrder : List (Nat × Nat) :=
  [(secSystem, 0), (secQueues, 0), (secPower, 0), (secSteps, 0), (secWave, 0), (secSegment, 0)]
    ++ [(secHead, 0), (secHead, 1), (secHead, 2), (secPanel, 0), (secPanel, 1), (secProtect, 0), (secProtect, 1)]
    ++ [(secSplash, 0), (secSplash, 1), (secSplash, 2)] ++ (List.range 16).map fun i => (secFallback, i)

/-- The sections of an image in that order. -/
def orderedSections (s : State) : List BootSection := applyOrder.filterMap fun p => sectionIn s.boot.sections p.1 p.2

/-- One section is applied as its type says. -/
def applySection (x : BootSection) (s : State) : Applied :=
  let b := x.payload
  if x.type = secSystem then applySystem b s
  else if x.type = secQueues then applyQueues b s
  else if x.type = secPower then applyPower b s
  else if x.type = secSteps then applySteps b s
  else if x.type = secWave then applyWave b s
  else if x.type = secSegment then applySegment b s
  else if x.type = secHead then applyHead x.inst b s
  else if x.type = secPanel then applyPanel x.inst b s
  else if x.type = secProtect then applyProtect x.inst b s
  else if x.type = secSplash then applySplash x s
  else applyFallback x s

/-- A section in the order of application; `recheck` is the directory place of one whose second CRC check fails. The
section that fails writes BOOT_SECTION (R560). -/
def loadSection (recheck : Option Nat) (x : BootSection) (s : State) : Applied :=
  let bad := recheck.any fun k => (s.boot.sections[k]?).any fun y => y.type = x.type && y.inst = x.inst
  let a := if bad then (s, false) else applySection x s
  if a.2 then a else (logFault 0x41 x.inst (BitVec.ofNat 32 x.type) a.1, false)

/-- FREEZE of the SYSTEM section (step 6). -/
def applyFreeze (s : State) : State :=
  match sectionIn s.boot.sections secSystem 0 with
  | some x => if byteAt x.payload 12 / 128 % 2 = 1 then { s with port := { s.port with freeze := true } } else s
  | none => s

/-- The commands of step 7: for heads 0, then 1, PANEL_POWER ON, then HEAD_START. -/
def bootAutos (s : State) : List Auto :=
  conts.flatMap fun h => match sectionIn s.boot.sections secHead h.1 with
    | none => []
    | some x =>
      (if bootPanelOn x.payload then [{ head := h, start := false, wake := false, phase := .waiting [.power], since := s.port.nextWait }] else [])
        ++ if bootStart x.payload then
            [{ head := h, start := true, wake := false, phase := .waiting [.power, .syn (headSyn h), .gate (headId h)], since := s.port.nextWait }]
          else []

/-- BOOT_IMAGE_APPLY: steps 2 to 6, then the commands of step 7 go to the head sequencers and BOOT_DONE is set. The
boot loader's actions do not count in the device generation (R549). -/
def execBootImageApply (recheck : Option Nat) (s : State) : Host.Outcome State Fault Refusal :=
  if s.boot.phase ≠ .trained || !s.boot.valid || s.boot.doneFlag then .next s
  else
    let (t, ok) := applyAll (loadSection recheck) (orderedSections s) s
    let t := { t with port := { t.port with deviceGen := s.port.deviceGen } }
    .next (setPhaseOf .done
      (if ok then bootDone (applyFreeze { t with port := { t.port with auto := t.port.auto ++ bootAutos t } }) else bootStops t))

end Sys2Proof.Machine
end

