-- ==== Sys2Proof/Machine/CommandPort.lean ====
section
/-! DEFINITION. What the command port does with any opcode (chapter 06): the table of opcodes, a command taken from a
window's queue, a resource granted, a wait that expires, and the waiting-all detector (27.4). -/
namespace Sys2Proof.Machine

/-! ## The opcodes of Table 06-3 -/

/-- NOP: its argument and the caller's generation. -/
def actNop (w : WinId) (c : CtxId) (a : Cmd) (s : State) : State := finish w .ok a.a0 ((genOf s c).setWidth 32) s

def opNop : Opcode := Opcode.simple actNop

def opMonitorBind : Opcode := Opcode.simple actMonitorBind

/-- The parts of an opcode, none for one that Table 06-3 does not list. -/
def opcodeOf (op : Nat) : Option Opcode := match op with
  | 0x00 => some opNop
  | 0x01 => some opAttach
  | 0x02 => some opDetach
  | 0x03 => some opSeal
  | 0x04 => some opBindWindow
  | 0x05 => some opPartitionSet
  | 0x06 => some opTerritorySet
  | 0x08 => some opCopyIn
  | 0x09 => some opCopyOut
  | 0x10 => some opCommit
  | 0x11 => some opCommitAbort
  | 0x12 => some opCommitCheck
  | 0x13 => some opReliefFlush
  | 0x18 => some opProtectLoad
  | 0x19 => some opProtectLock
  | 0x1A => some opProtectRelease
  | 0x20 => some opHeadConfig
  | 0x21 => some opHeadStart
  | 0x22 => some opHeadStop
  | 0x23 => some opPanelPower
  | 0x28 => some opEpdUpdate
  | 0x29 => some opEpdClear
  | 0x2C => some opSegWrite
  | 0x30 => some opScan
  | 0x31 => some opSelftest
  | 0x38 => some opQueueConfig
  | 0x39 => some opPolicerConfig
  | 0x40 => some opRelayConfig
  | 0x41 => some opRelayStream
  | 0x42 => some opRelayIngest
  | 0x50 => some opMaquette
  | 0x51 => some opMaquetteShort
  | 0x58 => some opFaultClear
  | 0x60 => some opPowerMode
  | 0x68 => some opClockConfig
  | 0x69 => some opPhaseStep
  | 0x70 => some opEvtRoute
  | 0x78 => some opMonitorBind
  | _ => none

/-- A command of any opcode that a window's executor has taken: BAD_ARG for one that is not listed (R138), BUSY until
BOOT_DONE for most (R547). -/
def runTaken (op : Byte) (w : WinId) (c : CtxId) (a : Cmd) (s : State) : State :=
  match opcodeOf op.toNat with
  | none => finish0 w .badArg s
  | some o => bootGate op o.run w c a s

/-- A command of any opcode is issued in a window, and taken at once by an idle executor. -/
def issueAny (w : WinId) (op : Byte) (c : Cmd) (s : State) : State :=
  let idle := s.win[w].exec.isNone && s.win[w].queue.isEmpty
  let s' := issue w op c s
  if idle then startNext w runTaken s' else s'

/-- NOP (0x00). -/
def execNop (w : WinId) (c : Cmd) (s : State) : Host.Outcome State Fault Refusal := .next (portRow w 0x00 c opNop.run s)

/-- MONITOR_BIND (0x78, R516). -/
def execMonitorBind (w : WinId) (c : Cmd) (s : State) : Host.Outcome State Fault Refusal :=
  .next (portRow w 0x78 c opMonitorBind.run s)

/-- UNASSIGNED_OPCODE: any opcode that Table 06-3 does not list. -/
def execUnassignedOpcode (w : WinId) (op : Byte) (c : Cmd) (s : State) : Host.Outcome State Fault Refusal :=
  .next (issueAny w op c s)

/-- COMMAND_DISPATCH: an idle executor takes its window's oldest queued command (R130). -/
def execCommandDispatch (w : WinId) (s : State) : Host.Outcome State Fault Refusal :=
  .next (if portOpen s then startNext w runTaken s else s)

/-! ## Commands without a window run (R538, R561) -/

/-- The next wait of the first command without a window. -/
def autoPhase (p : AutoPhase) (s : State) : State :=
  let n := s.port.nextWait
  match s.port.auto with
  | a :: l => { s with port := { s.port with auto := { a with phase := p, since := n } :: l, nextWait := n + 1 } }
  | [] => s

/-- HEAD_START of a head without a window. -/
def autoStart (a : Auto) (s : State) : State :=
  let h := a.head
  if s.head[h].cfg.isNone || s.syn[headSyn h].cfg.isNone then dropAuto a .noResource s
  else if s.head[h].run ≠ .stopped then dropAuto a .ok s
  else beginStart h (autoPhase .running s)

/-- PANEL_POWER ON without a window: with the boot image's table, or after a wake with the head's last one. -/
def autoPanel (a : Auto) (s : State) : State :=
  let h := a.head
  match if a.wake then s.panel[h].table else s.panel[h].boot with
  | none => dropAuto a .noResource s
  | some t =>
    if t.on.any (fun x => x.op = .pwmStart) && s.timer[t.blChannel].owner ≠ 0 then dropAuto a .busy s
    else match s.panel[h].st with
      | .off =>
        let s := powerHead h (autoPhase .running s)
        if started s h then startSequence h t { PanelRun.fresh false t.on 0 .on none with auto := true } s
        else startSequence h t { PanelRun.fresh false (phase1 t.on) 0 .powered none with arm := true, auto := true } s
      | .discharged => dropAuto a .ok (s.modPanel h fun p => { p with st := .powered, table := some t, armed := some t })
      | _ => dropAuto a .ok s

def runAuto (a : Auto) (s : State) : State := if a.start then autoStart a s else autoPanel a s

/-! ## RESOURCE_GRANT (R142, R144) -/

/-- The window's command waits for the resource. -/
def waitsFor (s : State) (r : Resource) (w : WinId) : Bool :=
  match s.win[w].exec with
  | some e => match e.phase with
    | .acquire (r' :: _) => r' = r
    | .anyCal => match r with
      | .cal u => !(u = 3 && cal3Reserved s)
      | _ => false
    | _ => false
  | none => false

/-- The place of a window's executing command in CMD_ISSUE order. -/
def execOrder (s : State) (w : WinId) : Nat := (s.win[w].exec.map fun e => e.entry.order).getD 0

/-- The window whose waiting command was issued first. -/
def oldestWaiter (s : State) (r : Resource) : Option WinId :=
  wins.foldl (fun b w =>
    if waitsFor s r w then
      match b with
      | none => some w
      | some v => if execOrder s w < execOrder s v then some w else b
    else b) none

/-- A command that holds its resources is checked again and acts. -/
def resume (w : WinId) (s : State) : State :=
  match s.win[w].exec with
  | none => s
  | some e => match opcodeOf e.entry.op.toNat with
    | none => s
    | some o => o.go w e.ctx e.entry.cmd s

/-- A window's command is granted the resource it waits for, and takes the rest of its list as far as it is free. -/
def grantWindow (w : WinId) (r : Resource) (s : State) : State :=
  match s.win[w].exec with
  | none => s
  | some e =>
    let rest := match e.phase with
      | .acquire (_ :: l) => l
      | _ => []
    let s := take (.window w) r s
    match takeAll (.window w) rest s with
    | (s, []) => resume w s
    | (s, l) => setPhase w (.acquire l) s

/-- The first command without a window is granted the resource it waits for. -/
def grantAuto (a : Auto) (rest : List Resource) (r : Resource) (s : State) : State :=
  match takeAll (.headSeq a.head) rest (take (.headSeq a.head) r s) with
  | (s, []) => runAuto a s
  | (s, l) => autoPhase (.waiting l) s

/-- RESOURCE_GRANT: a resource that is free goes to the command without a window that waits for it, to a request by
POWER_REQ, or to the oldest waiting command (log 58). -/
def execResourceGrant (r : Resource) (s : State) : Host.Outcome State Fault Refusal :=
  let auto := match s.port.auto with
    | a :: _ => match a.phase with
      | .waiting (r' :: rest) => guardSome (r' = r) (a, rest)
      | _ => none
    | [] => none
  if !fabricOn s then .next s
  else match auto with
    | some (a, rest) => .next (if resHeld s r then s else grantAuto a rest r s)
    | none => match s.power.queued, decide (r = .power) with
      | some m, true => .next (if resHeld s r || s.power.trans.isSome then s else runRequest m s)
      | _, _ => match oldestWaiter s r with
        | some w => .next (if resBlocked s (.window w) r then s else grantWindow w r s)
        | none => .next s

/-! ## WAIT_TIMEOUT (R573) -/

/-- The order of a resource (Table 06-4). -/
def Resource.order : Resource → Nat
  | .power => 1
  | .syn _ => 2
  | .gate _ => 3
  | .cal _ => 4
  | .ctxSet _ => 5

/-- The UNIT of WAIT_TIMEOUT for an awaited event. -/
def eventOrder : Nat := 6

/-- WAIT_TIMEOUT for a window's command. -/
def logWait (order : Nat) (e : Exec) (s : State) : State :=
  logFault 0x31 order (put e.entry.op.toNat 0 8 ||| put e.entry.cmd.tag.toNat 8 8) s (some e.ctx)

/-- A start that waits for its synthesizer ends with the head stopped (R333, step 2). -/
def dropStart (h : ContHead) (s : State) : State := s.modHead h fun x => { x with run := .stopped }

/-- The transition waits in step 1 or 2 of an entry (Table 25-4). -/
def entryWaits (s : State) : Bool := s.power.trans.any fun t => !t.exiting && decide (t.step ≤ 2)

/-- A bistable command waits: for a composition, for its temperature sample, or for PCLK_E (Table 18-5, log 47). -/
def epdWaits (s : State) : Bool := s.epd.run.any fun r =>
  r.step = .composeWait || r.step = .sample || (r.step = .drive && !pclkE s)

/-- A window's command whose wait expires completes TIMEOUT; a command in no bounded wait goes on. -/
def expireWindow (w : WinId) (s : State) : State :=
  match s.win[w].exec with
  | none => s
  | some e => match e.phase with
    | .acquire (r :: _) => if resHeld s r then finish0 w .timeout (logWait (Resource.order r) e s) else s
    | .anyCal => finish0 w .timeout (logWait 4 e s)
    | .clockLock y => finish0 w .timeout (logWait eventOrder e (s.modSyn y fun x => { x with timedOut := true }))
    | .headStart h =>
      if s.head[h].run = .starting .synth then finish0 w .timeout (logWait eventOrder e (dropStart h s)) else s
    | .epd => if epdWaits s then interruptEpd .timeout (logWait eventOrder e s) else s
    | .power => if entryWaits s then failEntry .timeout (logWait eventOrder e s) else s
    | _ => s

/-- The opcode and UNIT with which a command without a window waits. -/
def autoOpcode (a : Auto) : Word := if a.start then 0x21 else 0x23

/-- A command without a window whose wait expires. -/
def expireAuto (h : ContHead) (s : State) : State :=
  match s.port.auto with
  | [] => s
  | a :: _ =>
    if a.head ≠ h then s
    else match a.phase with
      | .waiting (r :: _) =>
        if resHeld s r then dropAuto a .timeout (logFault 0x31 (Resource.order r) (autoOpcode a) s) else s
      | .waiting [] => s
      | .running =>
        if a.start && s.head[h].run = .starting .synth then
          dropAuto a .timeout (logFault 0x31 eventOrder (autoOpcode a) (dropStart h s))
        else s

/-- An entry that POWER_REQ asked for, and that waits in step 1 or 2. -/
def expirePower (s : State) : State :=
  match s.power.trans.bind fun t => t.byWindow with
  | some w => expireWindow w s
  | none => if entryWaits s then failEntry .timeout (logFault 0x31 eventOrder 0x60 s) else s

/-- WAIT_TIMEOUT: a wait exceeds the wait timeout. -/
def execWaitTimeout (x : Waiter) (s : State) : Host.Outcome State Fault Refusal :=
  match x with
  | .window w => .next (expireWindow w s)
  | .head h => .next (expireAuto h s)
  | .power => .next (expirePower s)

/-! ## The waiting-all detector (R575, R576) -/

/-- The sequencers of Table 27-3. -/
inductive Sequencer where
  | power
  | head (h : ContHead)
  | headE
  | bistable
  | boot
  | maquette
  | window (w : WinId)
deriving DecidableEq, Repr

def Sequencer.unit : Sequencer → Nat
  | .power => 0
  | .head h => 1 + h.1
  | .headE => 3
  | .bistable => 4
  | .boot => 5
  | .maquette => 6
  | .window _ => 16

def sequencers : List Sequencer :=
  [.power, .head 0, .head 1, .headE, .bistable, .boot, .maquette] ++ wins.map Sequencer.window

/-- Another sequencer has the window's command in hand. -/
def Phase.handedOver : Phase → Bool
  | .epd | .headStart _ | .headStop _ | .panel _ | .power | .maqQuiet | .maqWrite => true
  | _ => false

/-- The sequencer has work in hand. -/
def seqActive (s : State) : Sequencer → Bool
  | .power => s.power.trans.isSome || s.adc.hold.isSome
  | .head h =>
    (match s.head[h].run with
      | .starting _ | .stopping => true
      | _ => false)
    || s.panel[h].run.isSome || (s.port.auto.head?.any fun a => a.head = h)
  | .headE => s.epd.composing
  | .bistable => s.epd.run.isSome
  | .boot => s.boot.straps.flashBoot && !s.boot.doneFlag
  | .maquette => !s.port.staging.isEmpty
  | .window w => s.win[w].exec.any fun e => !e.phase.handedOver

/-- ARG of SEQ_STALL where a resource is awaited. -/
def awaitsResource : Word := 0xFFFFFFFF

/-- The command-completion source of the first command that step 1 of an entry waits for. -/
def entryAwaits (s : State) (order : Nat) : Word :=
  match wins.findSome? fun w => s.win[w].exec.bind fun e => guardSome (decide (e.entry.order < order) && e.needsMemory s) e.ctx with
  | some c => BitVec.ofNat 32 c.1
  | none => awaitsResource

/-- The sequencer is in WAIT: when its present wait began, and the source it awaits. -/
def seqWait (s : State) : Sequencer → Option (Nat × Word)
  | .power => match s.adc.hold, s.power.trans with
    | some n, _ => some (n, 164)
    | none, some t => guardSome (!t.exiting && decide (t.step = 1)) (t.since, entryAwaits s t.order)
    | none, none => none
  | .head h => match s.port.auto with
    | a :: _ => match a.phase with
      | .waiting (r :: _) => guardSome (a.head = h && resHeld s r) (a.since, awaitsResource)
      | _ => none
    | [] => none
  | .bistable => s.epd.run.bind fun r =>
      guardSome (r.step = .sample && s.adc.hold.isSome) ((s.win[r.byWindow].exec.map fun e => e.since).getD 0, awaitsResource)
  | .window w => s.win[w].exec.bind fun e => match e.phase with
    | .acquire (r :: _) => guardSome (resHeld s r) (e.since, awaitsResource)
    | .anyCal => some (e.since, awaitsResource)
    | .maqStage => some (e.since, awaitsResource)
    | _ => none
  | _ => none

/-- The active sequencer that has waited longest, where every active one is in WAIT. -/
def earliestWait (s : State) : Option (Sequencer × Nat × Word) :=
  let act := sequencers.filter (seqActive s)
  if act.all fun q => (seqWait s q).isSome then
    act.foldl (fun b q => match seqWait s q, b with
      | some (n, a), some (p, m, c) => if n < m then some (q, n, a) else some (p, m, c)
      | some (n, a), none => some (q, n, a)
      | none, b => b) none
  else none

/-- The sequencer is released with STALLED. -/
def releaseSeq (q : Sequencer) (s : State) : State :=
  match q with
  | .power => if s.adc.hold.isSome then releaseAdc s else failEntry .stalled s
  | .head _ => match s.port.auto with
    | a :: _ => dropAuto a .stalled s
    | [] => s
  | .bistable => interruptEpd .stalled s
  | .window w =>
    if s.win[w].exec.any fun e => e.phase = .maqStage then unstage w (finish0 w .stalled s) else finish0 w .stalled s
  | _ => s

/-- WAITING_ALL_RELEASE: every active sequencer has been in WAIT for 1 ms (R576). -/
def execWaitingAllRelease (s : State) : Host.Outcome State Fault Refusal :=
  match earliestWait s with
  | none => .next s
  | some (q, _, a) => .next (releaseSeq q (raise 284 (logFault 0x30 q.unit a s)))

end Sys2Proof.Machine
end

