-- ==== Sys2Proof/Machine/Registers.lean ====
section
/-! DEFINITION. Accesses to the register file (chapters 04 and 05): the two holding latches of a window, reads with their
side effects, writes, the memory window, BAR_0 and BAR_2. -/
namespace Sys2Proof.Machine

/-! ## The memory window (R63, R90, R102, R113) -/

/-- Where a memory-window access goes: MW_STATUS and, where it is performed, the physical address. Memory that is
unavailable comes first (log 64). -/
def memTarget (s : State) (c : CtxId) (addr : Word) (write : Bool) : BitVec 3 × Option Nat :=
  let off := addr.toNat / 4 * 4
  if !memAvail s then (1, none)
  else if supervisor c && addr.getLsbD 0 then
    if write then (4, none) else if deviceReadable off 4 then (0, some (deviceBase s + off)) else (2, none)
  else if inPart s c off 4 then (0, some (partBase s c + off)) else (2, none)

/-- AUTOINC of MEM_WIN_ADDR (R106). -/
def Window.stepAddr (x : Window) : Window := if x.mwAddr.getLsbD 1 then { x with mwAddr := x.mwAddr + 4 } else x

/-- A read of MEM_WIN_DATA with its side effects. -/
def readMemWin (w : WinId) (c : CtxId) (s : State) : Word × State :=
  let (st, at_) := memTarget s c s.win[w].mwAddr false
  let (v, st, s) : Word × BitVec 3 × State := match at_ with
    | none => (0, st, s)
    | some a =>
      let s' := access 135 false c a 4 s
      if badRange s a 4 then (0, 3, logUeIn a 4 s') else (BitVec.ofNat 32 (le (s.read a 4)), 0, s')
  (v, s.modWin w fun x => { x.stepAddr with mwStatus := st })

/-- The live bits of MEM_WIN_DATA, without side effect. -/
def peekMemWin (s : State) (w : WinId) (c : CtxId) : Word :=
  match (memTarget s c s.win[w].mwAddr false).2 with
  | none => 0
  | some a => if badRange s a 4 then 0 else BitVec.ofNat 32 (le (s.read a 4))

/-- Bytes of a partition are written by the host: the write enters queue_135 (R179, R218) and is snooped (R293). -/
def hostWrite (c : CtxId) (a : Nat) (d : List Byte) (s : State) : State :=
  access 135 true c a d.length (snoop a d.length (s.write a d))

/-- A write of MEM_WIN_DATA. -/
def writeMemWin (w : WinId) (c : CtxId) (v : Word) (s : State) : State :=
  let (st, at_) := memTarget s c s.win[w].mwAddr true
  let s := match at_ with
    | some a => hostWrite c a (wordBytes v) s
    | none => s
  s.modWin w fun x => { x.stepAddr with mwStatus := st }

/-! ## Reads -/

/-- CMD_STATUS pops the oldest completion (R109). -/
def popCompletion (w : WinId) (s : State) : State :=
  s.modWin w fun x => match x.done with
    | d :: rest => { x with done := rest, result0 := d.q0, result1 := d.q1 }
    | [] => x

/-- CMD_STATUS as a read that pops nothing shows it (R86). -/
def liveStatus (x : Window) : Word := put x.occupancy 17 5 ||| put x.done.length 22 5

/-- The doorbell entry that was read goes (Tables 05-35 and 05-36). -/
def takeDoorbell (c : CtxId) (s : State) : State :=
  if supervisor c then { s with port := { s.port with doorQueue := s.port.doorQueue.drop 1 } }
  else s.modCtx c fun x => { x with doorIn := 0 }

/-- A read of FAULT_LOG_DATA: word 0 takes the snapshot, and the cursor advances (R122, R106). -/
def stepFaultRead (w : WinId) (s : State) : State :=
  let e := cursorEntry s.win[w]
  let snap : Option (BitVec 6 × Vector Word 4) :=
    if cursorWord s.win[w] = 0 then
      some (BitVec.ofNat 6 e, match s.faults.entries[e]? with | some y => y.words | none => Vector.replicate 4 0)
    else s.win[w].snapshot
  s.modWin w fun x => { x with snapshot := snap, cursor := x.cursor + 1 }

/-- AUTOINC of SUMMARY_SEL and MON_HIST_SEL (R106). -/
def Window.stepSummary (x : Window) : Window := if x.sumAuto then { x with sumIndex := x.sumIndex + 1 } else x
def Window.stepHist (x : Window) : Window := if x.histAuto then { x with histItem := x.histItem + 1 } else x

/-- The side effects of a read of a bound window's register. -/
def readEffect (w : WinId) (c : CtxId) (off : Nat) (s : State) : State :=
  match off with
  | 0x24 => popCompletion w s
  | 0x34 => s.modWin w Window.stepSummary
  | 0x54 => claimOwn c s
  | 0x90 => s.modWin w Window.stepHist
  | 0xAC => if supervisor c then stepFaultRead w s else s
  | 0xF0 => takeDoorbell c s
  | _ => s

/-- A whole read of a register through a window: its value and the state after its side effects. -/
def readReg (w : WinId) (off : Nat) (s : State) : Word × State :=
  match winCtx s w with
  | none => (regWord s w off, s)
  | some c => if off = 0x3C then readMemWin w c s else (regWord s w off, readEffect w c off s)

/-- The value of a register without any side effect (R86): of VEC_CLAIM that of the source which a claim would take, with its
merge counter (DESIGN CHOICE, log 69: MERGE is defined at a claim only). -/
def peekReg (s : State) (w : WinId) (off : Nat) : Word :=
  match winCtx s w with
  | none => regWord s w off
  | some c => if off = 0x3C then peekMemWin s w c else if off = 0x24 then liveStatus s.win[w] else regWord s w off

/-! ## Writes -/

/-- WIN_INFO: HALF_ERR and ISSUE_REFUSED are W1C. -/
def writeWinInfo (v : Word) (x : Window) : Window :=
  { x with halfErr := x.halfErr && !v.getLsbD 7, issueRefused := x.issueRefused && !v.getLsbD 19 }

/-- CMD_ISSUE (R108): the opcode and tag written, with the arguments as they stand. -/
def issueWrite (w : WinId) (v : Word) (s : State) : State :=
  let x := s.win[w].args
  issueAny w (v.extractLsb' 0 8) { tag := v.extractLsb' 8 8, a0 := x[0], a1 := x[1], a2 := x[2], a3 := x[3] } s

def writeSummarySel (v : Word) (x : Window) : Window := { x with sumIndex := v.extractLsb' 0 5, sumAuto := v.getLsbD 8 }

def writeHistSel (v : Word) (x : Window) : Window := { x with histItem := v.extractLsb' 0 5, histAuto := v.getLsbD 8 }

def writeGroupSel (sup : Bool) (v : Word) (x : Window) : Window :=
  { x with evtGroup := v.extractLsb' 0 4, evtPort := if sup then v.extractLsb' 8 2 else x.evtPort }

/-- EVT_CTL: HOLD from the supervisor, MERGE_SEL, and MERGE_CLR of the source that the write selects. -/
def writeEvtCtl (w : WinId) (c : CtxId) (v : Word) (s : State) : State :=
  let m : BitVec 9 := v.extractLsb' 16 9
  let s := s.modWin w fun x => { x with mergeSel := m }
  let s := if supervisor c then setHold (v.getLsbD 0) s else s
  if v.getLsbD 25 then clearMerge c m s else s

/-- VEC_BASE of the selected port. -/
def writeVecBase (p : PortId) (v : Word) (s : State) : State :=
  { s with evu := { s.evu with port := s.evu.port.set p { s.evu.port[p] with
      base := v.extractLsb' 2 16, stride := v.extractLsb' 18 2, thresh := v.extractLsb' 20 4, en := v.getLsbD 24 } } }

/-- TIM_SEL: the channel, and from the supervisor the owner of the channel that the write selects; a backlight channel
keeps its owner (R355). -/
def writeTimSel (w : WinId) (c : CtxId) (v : Word) (s : State) : State :=
  let t : TimerId := (v.extractLsb' 0 4 : BitVec 4).toFin
  let s := s.modWin w fun x => { x with timSel := t }
  if supervisor c && (backlightHead s t).isNone then setTimerOwner t (v.extractLsb' 16 6 : BitVec 6).toFin s else s

/-- TIM_CTL as the Drone domain is to take it: TOUT stays for a tenant (R495). -/
def ctlFor (sup : Bool) (tout : BitVec 4) (v : Word) : Word := if sup then v else (v &&& 0xF0FFFFFF) ||| put tout.toNat 24 4

/-- A write to a Drone-domain register joins those that wait: it stands in for an earlier one to the same register, and
a TIM_STATUS write keeps the bits written before it (R62). -/
def shadowWrite (k : Fin 4) (off : Nat) (v : Word) (l : List TimerWrite) : List TimerWrite :=
  let same : TimerWrite → Bool
    | .reg k' off' _ => k' = k && off' = off
    | .startStop .. => false
  let old := l.foldl (fun v e => match e with
    | .reg _ _ u => if same e then v ||| u else v
    | .startStop .. => v) (0 : Word)
  (l.filter fun e => !same e) ++ [.reg k off (if off = 0x7C then v ||| old else v)]

/-- A write of a timer register (R504 to R506, R355): ignored for a channel that is not visible, for all but the
compares and the status of a backlight channel, and for a TIM_CTL write with a reserved MODE (R117). -/
def writeTim (w : WinId) (c : CtxId) (off : Nat) (v : Word) (s : State) : State :=
  let t := s.win[w].timSel
  let sup := supervisor c
  if !timVisible s c t then s
  else if (backlightHead s t).isSome && decide (off ∈ [0x60, 0x64, 0x70, 0x74]) then s
  else match droneTimer t with
    | some k =>
      if off = 0x70 && decide (5 ≤ fld v 1 3) then s
      else
        let v := if off = 0x70 then ctlFor sup (timerView s t).tout v else v
        { s with timerShadow := shadowWrite k off v s.timerShadow }
    | none => s.modTimer t fun x => x.writeReg sup off v

/-- The channels TIM_12 to TIM_15 of a set of channels. -/
def droneMask (p : TimerId → Bool) : BitVec 4 :=
  (List.finRange 4).foldl (fun m k => if p ⟨12 + k.1, by omega⟩ then m ||| (1#4 <<< k.1) else m) 0

/-- TIM_START (R119, R70): the channels that the context owns, CTX_0's own included; those of the Drone domain together,
through one handshake. -/
def writeTimStart (c : CtxId) (v : Word) (s : State) : State :=
  let named (b : Nat) (t : TimerId) : Bool := v.getLsbD (b + t.1) && s.timer[t].owner = c && (backlightHead s t).isNone
  let a := droneMask (named 0)
  let b := droneMask (named 16)
  let s := forEach ((List.finRange 16).filter fun t => (droneTimer t).isNone)
    (fun t s => if named 0 t || named 16 t then s.modTimer t fun x => x.startStop (named 0 t) (named 16 t) else s) s
  if a = 0 && b = 0 then s else { s with timerShadow := s.timerShadow ++ [.startStop a b] }

/-- A write of MON_HIST_DATA (Table 05-20). -/
def Monitor.writeItem (x : Monitor) (i : Nat) (v : Word) : Monitor :=
  if i = 17 then { x with highMark := v }
  else if i = 18 then { x with lowMark := v }
  else if i = 20 then { x with base := v }
  else if i = 21 then { x with width := if v = 0 then 1 else v }
  else x

/-- A write of MON_CTL (Table 05-21). -/
def Monitor.writeCtl (x : Monitor) (v : Word) : Monitor :=
  let y : Monitor := { x with
    en := v.getLsbD 0, log2 := v.getLsbD 1, freeze := v.getLsbD 3
    highSeen := x.highSeen && !v.getLsbD 4, lowSeen := x.lowSeen && !v.getLsbD 5 }
  if v.getLsbD 2 then y.clear else y

/-- A write in the monitor window; the histogram selector advances whether or not the channel is visible (R106). -/
def writeMon (w : WinId) (c : CtxId) (off : Nat) (v : Word) (s : State) : State :=
  let m := s.win[w].monSel
  let vis := monVisible s c m
  if off = 0x90 then
    let s := if vis then s.modMon m fun x => x.writeItem s.win[w].histItem.toNat v else s
    s.modWin w Window.stepHist
  else if vis then s.modMon m fun x => x.writeCtl v
  else s

/-- FAULT_SUMMARY from the supervisor: the cursor, and the W1C bits. -/
def writeFaultSummary (w : WinId) (v : Word) (s : State) : State :=
  let f := s.faults
  let k (b : Bool) (n : Nat) : Bool := b && !v.getLsbD n
  let s := s.modWin w fun x => { x with cursor := v.extractLsb' 0 8 }
  { s with faults := { f with
      overflow := k f.overflow 31
      seen := { shed := k f.seen.shed 12, underrun := k f.seen.underrun 13, mismatch := k f.seen.mismatch 14, stall := k f.seen.stall 15
                clkLoss := k f.seen.clkLoss 16, ecc := k f.seen.ecc 17, lapse := k f.seen.lapse 18, therm := k f.seen.therm 19 } } }

/-- POWER_REQ from the supervisor: into its shadow; MODE 4 to 7 is ignored whole (R123). -/
def writePowerReq (v : Word) (s : State) : State :=
  if 4 ≤ fld v 0 3 then s else { s with power := { s.power with reqShadow := v &&& 0x0FFFFF7F, reqDirty := true } }

/-- HEARTBEAT from the supervisor (Table 05-34, R126): the WL fields unless frozen, into the shadow; HEAD_STATUS.FALLBACK
clears. -/
def writeHeartbeat (v : Word) (s : State) : State :=
  let d := s.drone
  let t := fld v 0 16
  let d := if s.port.freeze then d else { d with
    hbTimeout := if t = 0 then d.hbTimeout else Nat.min 6000 t
    hbFallback := fld v 16 14 }
  { s with drone := { d with hbDirty := true, fallbackShown := false } }

/-- CLK_STATUS: XTAL_LOST and SYN_LOST are W1C. -/
def writeClkStatus (v : Word) (s : State) : State :=
  { s with
    drone := { s.drone with xtalLost := s.drone.xtalLost && !v.getLsbD 16 }
    syn := Vector.ofFn fun y => { s.syn[y] with lost := s.syn[y].lost && !v.getLsbD (17 + y.1) } }

/-- CAL_STATUS: DONE is W1C, for a unit whose window the context sees. -/
def writeCalStatus (w : WinId) (c : CtxId) (v : Word) (s : State) : State :=
  let u := s.win[w].calSel
  if !calVisible s c u || (u = 3 && cal3Reserved s && !supervisor c) then s
  else s.modCal u fun x => { x with done := x.done && !v.getLsbD 1 }

/-- RELAY_STATUS: RX_DROP and TX_DROP are W1C. -/
def writeRelayStatus (v : Word) (s : State) : State :=
  { s with relay := { s.relay with rxDrop := s.relay.rxDrop && !v.getLsbD 24, txDrop := s.relay.txDrop && !v.getLsbD 25 } }

/-- A tenant rings the supervisor: a second ring before its entry is read is merged into the entry (R127). -/
def ringSupervisor (c : CtxId) (code : Byte) (s : State) : State :=
  let q := s.port.doorQueue
  let q := if q.any fun e => e.1 = c then q.map fun e => if e.1 = c then (c, e.2 ||| code) else e else q ++ [(c, code)]
  raise 0 { s with port := { s.port with doorQueue := q } }

/-- DOORBELL (R127): a code of 0 rings nothing, and the supervisor rings attached tenants only. -/
def writeDoorbell (c : CtxId) (v : Word) (s : State) : State :=
  if supervisor c then
    let code : Byte := v.extractLsb' 16 8
    let t : CtxId := (v.extractLsb' 24 6 : BitVec 6).toFin
    if code = 0 || t = 0 || !attached s t then s
    else raise t.1 (s.modCtx t fun x => { x with doorIn := x.doorIn ||| code })
  else
    let code : Byte := v.extractLsb' 8 8
    if code = 0 then s else ringSupervisor c code s

/-- A request of RESET_CTL is refused (R129, R472): a locked head, CAL_3 while reserved, CAL_0 before BOOT_DONE. -/
def resetRefused (s : State) (b : Nat) : Bool :=
  (b = 0 && protLocked s 0) || (b = 1 && protLocked s 1) || (b = 7 && cal3Reserved s) || (b = 4 && !s.boot.doneFlag)

/-- The reset of one block of RESET_CTL.REQ (Table 05-37). -/
def resetBlock (b : Nat) (s : State) : State :=
  match b with
  | 0 => resetHeadCore 0 s
  | 1 => resetHeadCore 1 s
  | 2 => resetEpdCore s
  | 3 => resetRelay s
  | 4 => resetCalUnit 0 (epdCalReset 0 s)
  | 5 => resetCalUnit 1 (epdCalReset 1 s)
  | 6 => resetCalUnit 2 (epdCalReset 2 s)
  | 7 => resetCalUnit 3 (epdCalReset 3 s)
  | 8 => stopSeg true s
  | 9 => resetTimers s
  | _ => s

/-- One bit of REQ: the block is reset, or the request is refused. -/
def resetRequest (v : Word) (b : Nat) (s : State) : State :=
  if !v.getLsbD b then s
  else if resetRefused s b then { s with port := { s.port with resetRefused := true } }
  else resetBlock b s

/-- RESET_CTL from the supervisor (R129): a refusal in the same write leaves REFUSED set. -/
def writeResetCtl (v : Word) (s : State) : State :=
  let s := { s with port := { s.port with resetRefused := s.port.resetRefused && !v.getLsbD 31 } }
  forEach (List.range 10) (resetRequest v) s

/-- WIN_LOCK from the supervisor: CS_LOCK while FREEZE is 0, then FREEZE (W1S). -/
def writeWinLock (v : Word) (s : State) : State :=
  { s with port := { s.port with
      csLock := if s.port.freeze then s.port.csLock else v.extractLsb' 1 3
      freeze := s.port.freeze || v.getLsbD 31 } }

/-- A whole write of a register through a window bound to a context. -/
def writeBound (w : WinId) (c : CtxId) (off : Nat) (v : Word) (s : State) : State :=
  let sup := supervisor c
  let sOnly (t : State) : State := if sup then t else s
  match off with
  | 0x08 => s.modWin w (writeWinInfo v)
  | 0x0C => s.modWin w fun x => { x with scratch := v }
  | 0x10 => s.modWin w fun x => { x with args := x.args.set 0 v }
  | 0x14 => s.modWin w fun x => { x with args := x.args.set 1 v }
  | 0x18 => s.modWin w fun x => { x with args := x.args.set 2 v }
  | 0x1C => s.modWin w fun x => { x with args := x.args.set 3 v }
  | 0x20 => issueWrite w v s
  | 0x30 => s.modWin w (writeSummarySel v)
  | 0x34 => s.modWin w Window.stepSummary
  | 0x38 => s.modWin w fun x => { x with mwAddr := if sup then v else v &&& 0xFFFFFFFE }
  | 0x3C => writeMemWin w c v s
  | 0x40 => s.modWin w (writeGroupSel sup v)
  | 0x44 => writeEvtPend c s.win[w].evtGroup v s
  | 0x48 => writeEvtEnable c s.win[w].evtGroup v s
  | 0x4C => writeEvtCtl w c v s
  | 0x50 => sOnly (writeVecBase s.win[w].evtPort.toFin v s)
  | 0x58 => writeVecDone c v s
  | 0x5C => writeTimSel w c v s
  | 0x60 => writeTim w c 0x60 v s
  | 0x64 => writeTim w c 0x64 v s
  | 0x68 => writeTim w c 0x68 v s
  | 0x6C => writeTim w c 0x6C v s
  | 0x70 => writeTim w c 0x70 v s
  | 0x74 => writeTim w c 0x74 v s
  | 0x78 => writeTimStart c v s
  | 0x7C => writeTim w c 0x7C v s
  | 0x80 => s.modWin w fun x => { x with monSel := (v.extractLsb' 0 5 : BitVec 5).toFin }
  | 0x8C => s.modWin w (writeHistSel v)
  | 0x90 => writeMon w c 0x90 v s
  | 0x94 => writeMon w c 0x94 v s
  | 0xA8 => sOnly (writeFaultSummary w v s)
  | 0xAC => sOnly (s.modWin w fun x => { x with cursor := x.cursor + 1 })
  | 0xB4 => sOnly (writePowerReq v s)
  | 0xBC => sOnly (writeHeartbeat v s)
  | 0xC0 => s.modWin w fun x => { x with calSel := (v.extractLsb' 0 2 : BitVec 2).toFin }
  | 0xC4 => writeCalStatus w c v s
  | 0xD0 => sOnly (writeClkStatus v s)
  | 0xD4 => sOnly (writeRelayStatus v s)
  | 0xF0 => writeDoorbell c v s
  | 0xF8 => sOnly (writeResetCtl v s)
  | 0xFC => sOnly (writeWinLock v s)
  | _ => s

/-- A whole write of a register through a window: an unbound window ignores it (R83). -/
def writeReg (w : WinId) (off : Nat) (v : Word) (s : State) : State :=
  match winCtx s w with
  | none => s
  | some c => writeBound w c off v s

/-! ## The host bus (04.3) -/

/-- The register file answers the host bus: PD_HOST is on, and the file is ready (R99, R101). -/
def hostAnswers (s : State) : Bool := pdOn .host s && s.boot.phase ≠ .reset

def driveBus (v : HalfWord) (s : State) : State := { s with pins := { s.pins with hbD := v } }

/-- An access ends with HB_WAIT_N driven high (R94, R97); it keeps that level until it is driven again (R71). -/
def endAccess (s : State) : State := { s with pins := { s.pins with hbWait := .high } }

/-- HB_WAIT_N under the strobes that a host asserts (R77): driven only while exactly one chip select is asserted with exactly
one of HB_OE_N and HB_WE_N, while the register file answers the bus (R99, R101). -/
def waitPin (s : State) (x : HostStrobes) : PinDrive :=
  let one := decide (([0, 1, 2, 3].filter fun i => x.cs.getLsbD i).length = 1)
  if hostAnswers s && one && (x.oe != x.we) then s.pins.hbWait else .highZ

/-- A write through a chip select or a function with the register file off is discarded, and may wake the device (R536). -/
def sleepAccess (s : State) : State := wakeRequest .hostBus s

/-- The byte offset of a register. -/
def RegOffset.byte (o : RegOffset) : Nat := 4 * o.1

/-- A low-half read (R85). -/
def lowRead (cs : ChipSelect) (o : RegOffset) (s : State) : State :=
  let w := csWin cs
  if !hostAnswers s then s
  else endAccess (if !fabricOn s then sleepAccess (driveBus 0 s)
    else
      let (v, s) := readReg w (RegOffset.byte o) s
      driveBus (v.extractLsb' 0 16) (s.modWin w fun x => { x with readLatch := some (o, v.extractLsb' 16 16) }))

/-- A high-half read (R86): from the latch where the read before it was the low half of the same register, else live. -/
def highRead (cs : ChipSelect) (o : RegOffset) (s : State) : State :=
  let w := csWin cs
  if !hostAnswers s then s
  else endAccess (if !fabricOn s then sleepAccess (driveBus 0 s)
    else
      let live : HalfWord := (peekReg s w (RegOffset.byte o)).extractLsb' 16 16
      let v := match s.win[w].readLatch with
        | some (t, h) => if t = o then h else live
        | none => live
      driveBus v (s.modWin w fun x => { x with readLatch := none }))

/-- A low-half write (R87, R88). -/
def lowWrite (cs : ChipSelect) (o : RegOffset) (v : HalfWord) (s : State) : State :=
  if !hostAnswers s then s
  else endAccess (if !fabricOn s then sleepAccess s
    else s.modWin (csWin cs) fun x => { x with
      halfErr := x.halfErr || (x.writeLatch.any fun l => l.1 ≠ o), writeLatch := some (o, v) })

/-- A high-half write (R87, R88): it commits with the low half held for the same register; `set` are bits that the row
of the table says are written as 1 (log 65). -/
def highWrite (cs : ChipSelect) (o : RegOffset) (hi : HalfWord) (set : Word) (s : State) : State :=
  let w := csWin cs
  if !hostAnswers s then s
  else endAccess (if !fabricOn s then sleepAccess s
    else match s.win[w].writeLatch with
      | some (t, lo) =>
        if t = o then writeReg w (RegOffset.byte o) ((hi ++ lo) ||| set) (s.modWin w fun x => { x with writeLatch := none })
        else s.modWin w fun x => { x with halfErr := true }
      | none => s.modWin w fun x => { x with halfErr := true })

/-! ## PCIe (04.4) -/

/-- The function answers memory requests: the endpoint is enabled, the function exists, and PD_HOST is on (R101, R180). -/
def fnAnswers (s : State) (f : FnId) : Bool := hostAnswers s && s.boot.straps.pcieEn && fnExists s f

/-- A memory request has arrived, so the link is up (log 66). -/
def sawLink (s : State) : State := { s with pcie := { s.pcie with linkUp := true } }

/-- A DWORD read of BAR_0 (R92): no latch is used. -/
def dwordRead (f : FnId) (o : RegOffset) (s : State) : State :=
  if !fnAnswers s f then s
  else if !fabricOn s then sendTlp (.completion f [0, 0, 0, 0] false) (sleepAccess (sawLink s))
  else
    let (v, s) := readReg (fnWin f) (RegOffset.byte o) (sawLink s)
    sendTlp (.completion f (wordBytes v) false) s

/-- A DWORD write of BAR_0 (R92). -/
def dwordWrite (f : FnId) (o : RegOffset) (v : Word) (s : State) : State :=
  if !fnAnswers s f then s
  else if !fabricOn s then sleepAccess (sawLink s)
  else writeReg (fnWin f) (RegOffset.byte o) v (sawLink s)

/-- A read of a register, however it arrives. -/
def readAt (o : RegOffset) (acc : ReadAccess) (s : State) : State :=
  match acc with
  | .half cs => lowRead cs o s
  | .dword f => dwordRead f o s

/-- A write of a register, however it arrives, with the bits that the row says are written as 1. -/
def writeAt (o : RegOffset) (set : Word) (acc : WriteAccess) (s : State) : State :=
  match acc with
  | .half cs hi => highWrite cs o hi set s
  | .dword f v => dwordWrite f o (v ||| set) s

/-- A range lies in the MSI-X table or in the pending bit array in BAR_0 (Table 04-2). -/
def msixRange (off n : Nat) : Bool := decide (0x800 ≤ off ∧ off + n ≤ 0x880 ∨ 0xC00 ≤ off ∧ off + n ≤ 0xC08)

/-- A byte of the MSI-X table or of the pending bit array. -/
def msixByte (x : Function) (off : Nat) : Byte :=
  if h : off - 0x800 < 0x80 ∧ 0x800 ≤ off then
    let e := x.msix[(off - 0x800) / 16]'(by omega)
    (wordBytes e.addrLo ++ wordBytes e.addrHi ++ wordBytes e.data ++ wordBytes e.control).getD ((off - 0x800) % 16) 0
  else if off = 0xC00 then (List.finRange 8).foldl (fun b v => if x.msix[v].pba then b ||| (1#8 <<< v.1) else b) 0
  else 0

/-- The bytes that a read of the MSI-X table or of the pending bit array returns. -/
def msixBytes (s : State) (f : FnId) (off n : Nat) : List Byte := (List.range n).map fun i => msixByte s.pcie.fn[f] (off + i)

/-- A word of the MSI-X table with the enabled bytes that a write puts into it. -/
def mergeTlp (t : InvalidTlp) (off : Nat) (old : Word) : Word :=
  BitVec.ofNat 32 (le ((List.range 4).map fun i =>
    let k := off + i - t.off
    if t.off ≤ off + i ∧ t.enables[k]? = some true then t.data.getD k 0 else (wordBytes old).getD i 0))

/-- An entry of the MSI-X table after a write: the address is DWORD-aligned, and of the control word only the mask bit can
be written (PRESUMED: the PCI Express Base Specification, log 66). -/
def entryTlp (t : InvalidTlp) (v : VectorId) (e : MsixEntry) : MsixEntry :=
  let o := 0x800 + 16 * v.1
  { e with
    addrLo := mergeTlp t o e.addrLo &&& ~~~3, addrHi := mergeTlp t (o + 4) e.addrHi, data := mergeTlp t (o + 8) e.data
    control := mergeTlp t (o + 12) e.control &&& 1 }

/-- A write to the MSI-X table; the pending bits are read-only. A vector that it unmasks sends its message (R489). -/
def writeMsix (f : FnId) (t : InvalidTlp) (s : State) : State :=
  let old := s.pcie.fn[f].msix
  let s := s.modFn f fun x => { x with msix := Vector.ofFn fun v => entryTlp t v x.msix[v] }
  forEach (List.finRange 8) (fun v s =>
    if old[v].control.getLsbD 0 && !(s.pcie.fn[f].msix[v]).control.getLsbD 0 then unmasked f v s else s) s

/-- One DWORD with every byte enabled (R92). -/
def wholeTlp (t : InvalidTlp) : Bool := decide (t.dwords = 1 ∧ t.off % 4 = 0) && t.enables.all id

/-- BAR0_INVALID_TLP (R91, R93): long requests and those with partial byte enables are turned away, a write discarded and a
read with an Unsupported Request; the MSI-X table and pending bit array take them. A DWORD beyond the register file reads
as Table 04-2 has it. A peer-to-peer request is refused whatever it asks for (R180). -/
def invalidTlp (f : FnId) (t : InvalidTlp) (s : State) : State :=
  let n := 4 * t.dwords
  if !fnAnswers s f || (!t.peer && wholeTlp t && decide (t.off < 0x100)) then s
  else
    let s := sawLink s
    if t.peer then (if t.write then s else sendTlp (.unsupportedRequest f) s)
    else if !fabricOn s then
      let s := sleepAccess s
      if t.write then s else sendTlp (.completion f (List.replicate n 0) false) s
    else if t.write then (if msixRange t.off n then writeMsix f t s else s)
    else if msixRange t.off n || wholeTlp t then sendTlp (.completion f (msixBytes s f t.off n) false) s
    else sendTlp (.unsupportedRequest f) s

/-- A request that BAR_2 can carry: within the aperture of 1 GiB, and not across a 4 KiB boundary (R181). -/
def barOk (off len : Nat) : Bool := decide (0 < len ∧ off + len ≤ 0x40000000 ∧ off / 4096 = (off + len - 1) / 4096)

/-- BAR_2 reaches the partition of an attached context while memory is available. -/
def barReaches (s : State) (f : FnId) (off len : Nat) : Bool :=
  memAvail s && (winCtx s (fnWin f)).isSome && inPart s f off len

/-- A read of BAR_2: zero data where it reaches nothing, a poisoned completion on an uncorrectable error (R198). -/
def barRead (f : FnId) (off len : Nat) (s : State) : State :=
  let zero := List.replicate len (0 : Byte)
  if !fnAnswers s f || !barOk off len then s
  else
    let s := sawLink s
    if !fabricOn s then sendTlp (.completion f zero false) (sleepAccess s)
    else if !barReaches s f off len then sendTlp (.completion f zero false) s
    else
      let s' := access 135 false f (partBase s f + off) len s
      if badPart s f off len then sendTlp (.completion f zero true) (logUePart f off len s')
      else sendTlp (.completion f (readPart s f off len) false) s'

/-- A write of BAR_2. -/
def barWrite (f : FnId) (off : Nat) (data : List Byte) (s : State) : State :=
  if !fnAnswers s f || !barOk off data.length then s
  else
    let s := sawLink s
    if !fabricOn s then sleepAccess s
    else if barReaches s f off data.length then hostWrite f (partBase s f + off) data s
    else s

/-! ## The rows of the opcode table -/

/-- CMD_ISSUE. -/
def execCmdIssue (acc : WriteAccess) (s : State) : Host.Outcome State Fault Refusal := .next (writeAt 8 0 acc s)

/-- CMD_STATUS_READ. -/
def execCmdStatusRead (acc : ReadAccess) (s : State) : Host.Outcome State Fault Refusal := .next (readAt 9 acc s)

/-- HOST_LOW_HALF_READ. -/
def execHostLowHalfRead (cs : ChipSelect) (off : RegOffset) (s : State) : Host.Outcome State Fault Refusal :=
  .next (lowRead cs off s)

/-- HOST_HIGH_HALF_READ. -/
def execHostHighHalfRead (cs : ChipSelect) (off : RegOffset) (s : State) : Host.Outcome State Fault Refusal :=
  .next (highRead cs off s)

/-- HOST_LOW_HALF_WRITE. -/
def execHostLowHalfWrite (cs : ChipSelect) (off : RegOffset) (v : HalfWord) (s : State) : Host.Outcome State Fault Refusal :=
  .next (lowWrite cs off v s)

/-- HOST_BUS_CONFLICT (R78): no access is performed, whatever is asserted with it. -/
def execHostBusConflict (_ : HostStrobes) (s : State) : Host.Outcome State Fault Refusal := .next s

/-- REGISTER_WRITE. -/
def execRegisterWrite (off : RegOffset) (acc : WriteAccess) (s : State) : Host.Outcome State Fault Refusal :=
  .next (writeAt off 0 acc s)

/-- BAR0_INVALID_TLP. -/
def execBar0InvalidTlp (fn : FnId) (tlp : InvalidTlp) (s : State) : Host.Outcome State Fault Refusal := .next (invalidTlp fn tlp s)

/-- MEM_WIN_DATA_READ. -/
def execMemWinDataRead (acc : ReadAccess) (s : State) : Host.Outcome State Fault Refusal := .next (readAt 15 acc s)

/-- MEM_WIN_DATA_WRITE. -/
def execMemWinDataWrite (acc : WriteAccess) (s : State) : Host.Outcome State Fault Refusal := .next (writeAt 15 0 acc s)

/-- BAR2_READ. -/
def execBar2Read (fn : FnId) (off len : Nat) (s : State) : Host.Outcome State Fault Refusal := .next (barRead fn off len s)

/-- BAR2_WRITE. -/
def execBar2Write (fn : FnId) (off : Nat) (data : List Byte) (s : State) : Host.Outcome State Fault Refusal :=
  .next (barWrite fn off data s)

/-- FAULT_LOG_DATA_READ. -/
def execFaultLogDataRead (acc : ReadAccess) (s : State) : Host.Outcome State Fault Refusal := .next (readAt 43 acc s)

/-- VEC_CLAIM. -/
def execVecClaim (acc : ReadAccess) (s : State) : Host.Outcome State Fault Refusal := .next (readAt 21 acc s)

/-- VEC_DONE. -/
def execVecDone (acc : WriteAccess) (s : State) : Host.Outcome State Fault Refusal := .next (writeAt 22 0 acc s)

/-- EVT_PEND_WITHDRAW. -/
def execEvtPendWithdraw (acc : WriteAccess) (s : State) : Host.Outcome State Fault Refusal := .next (writeAt 17 0 acc s)

/-- MERGE_CLR: an EVT_CTL write with MERGE_CLR set. -/
def execMergeClr (acc : WriteAccess) (s : State) : Host.Outcome State Fault Refusal := .next (writeAt 19 (putB true 25) acc s)

/-- TIM_START. -/
def execTimStart (acc : WriteAccess) (s : State) : Host.Outcome State Fault Refusal := .next (writeAt 30 0 acc s)

/-- TIM_CTL_WRITE. -/
def execTimCtlWrite (acc : WriteAccess) (s : State) : Host.Outcome State Fault Refusal := .next (writeAt 28 0 acc s)

/-- TIM_COUNT_WRITE. -/
def execTimCountWrite (acc : WriteAccess) (s : State) : Host.Outcome State Fault Refusal := .next (writeAt 24 0 acc s)

/-- TIM_PRESCALE_WRITE. -/
def execTimPrescaleWrite (acc : WriteAccess) (s : State) : Host.Outcome State Fault Refusal := .next (writeAt 29 0 acc s)

/-- MON_CLEAR: a MON_CTL write with CLEAR set. -/
def execMonClear (acc : WriteAccess) (s : State) : Host.Outcome State Fault Refusal := .next (writeAt 37 (putB true 2) acc s)

/-- DOORBELL_WRITE. -/
def execDoorbellWrite (acc : WriteAccess) (s : State) : Host.Outcome State Fault Refusal := .next (writeAt 60 0 acc s)

/-- DOORBELL_READ. -/
def execDoorbellRead (acc : ReadAccess) (s : State) : Host.Outcome State Fault Refusal := .next (readAt 60 acc s)

/-- HEARTBEAT_WRITE. -/
def execHeartbeatWrite (acc : WriteAccess) (s : State) : Host.Outcome State Fault Refusal := .next (writeAt 47 0 acc s)

/-- POWER_REQ_WRITE. -/
def execPowerReqWrite (acc : WriteAccess) (s : State) : Host.Outcome State Fault Refusal := .next (writeAt 45 0 acc s)

/-- RESET_CTL as a register, and the bit of one of its requests. -/
def resetReg : RegOffset := 62
def reqBit (b : Nat) : Word := BitVec.ofNat 32 (2 ^ b)

/-- RESET_HEAD: a RESET_CTL write with the head's REQ bit set. -/
def execResetHead (acc : WriteAccess) (h : ContHead) (s : State) : Host.Outcome State Fault Refusal :=
  .next (writeAt resetReg (reqBit h.1) acc s)

/-- RESET_HEAD_E. -/
def execResetHeadE (acc : WriteAccess) (s : State) : Host.Outcome State Fault Refusal := .next (writeAt resetReg (reqBit 2) acc s)

/-- RESET_RELAY_PORT. -/
def execResetRelayPort (acc : WriteAccess) (s : State) : Host.Outcome State Fault Refusal :=
  .next (writeAt resetReg (reqBit 3) acc s)

/-- RESET_CAL. -/
def execResetCal (acc : WriteAccess) (u : CalId) (s : State) : Host.Outcome State Fault Refusal :=
  .next (writeAt resetReg (reqBit (4 + u.1)) acc s)

/-- RESET_SEGMENT_DRIVER. -/
def execResetSegmentDriver (acc : WriteAccess) (s : State) : Host.Outcome State Fault Refusal :=
  .next (writeAt resetReg (reqBit 8) acc s)

/-- RESET_TIMERS. -/
def execResetTimers (acc : WriteAccess) (s : State) : Host.Outcome State Fault Refusal := .next (writeAt resetReg (reqBit 9) acc s)

end Sys2Proof.Machine
end

