-- ==== Sys2Proof/Machine/Dispatch.lean ====
section
/-! DEFINITION. The meaning of each command, one arm per constructor: a direct call of its meaning. -/
namespace Sys2Proof.Machine

-- One arm per row of the opcode table, in the table's order.
def exec (i : Instr) (s : State) : Host.Outcome State Fault Refusal :=
  match i with
  | .nop w c => Sys2Proof.Machine.execNop w c s
  | .unassignedOpcode w op c => Sys2Proof.Machine.execUnassignedOpcode w op c s
  | .attach w c => Sys2Proof.Machine.execAttach w c s
  | .detach w c => Sys2Proof.Machine.execDetach w c s
  | .seal w c => Sys2Proof.Machine.execSeal w c s
  | .bindWindow w c => Sys2Proof.Machine.execBindWindow w c s
  | .partitionSet w c => Sys2Proof.Machine.execPartitionSet w c s
  | .territorySet w c => Sys2Proof.Machine.execTerritorySet w c s
  | .copyIn w c => Sys2Proof.Machine.execCopyIn w c s
  | .copyOut w c => Sys2Proof.Machine.execCopyOut w c s
  | .commit w c => Sys2Proof.Machine.execCommit w c s
  | .commitAbort w c => Sys2Proof.Machine.execCommitAbort w c s
  | .commitCheck w c => Sys2Proof.Machine.execCommitCheck w c s
  | .reliefFlush w c => Sys2Proof.Machine.execReliefFlush w c s
  | .protectLoad w c => Sys2Proof.Machine.execProtectLoad w c s
  | .protectLock w c => Sys2Proof.Machine.execProtectLock w c s
  | .protectRelease w c => Sys2Proof.Machine.execProtectRelease w c s
  | .headConfig w c => Sys2Proof.Machine.execHeadConfig w c s
  | .headStart w c => Sys2Proof.Machine.execHeadStart w c s
  | .headStop w c => Sys2Proof.Machine.execHeadStop w c s
  | .panelPower w c => Sys2Proof.Machine.execPanelPower w c s
  | .epdUpdate w c => Sys2Proof.Machine.execEpdUpdate w c s
  | .epdClear w c => Sys2Proof.Machine.execEpdClear w c s
  | .segWrite w c => Sys2Proof.Machine.execSegWrite w c s
  | .scan w c => Sys2Proof.Machine.execScan w c s
  | .selftest w c => Sys2Proof.Machine.execSelftest w c s
  | .queueConfig w c => Sys2Proof.Machine.execQueueConfig w c s
  | .policerConfig w c => Sys2Proof.Machine.execPolicerConfig w c s
  | .relayConfig w c => Sys2Proof.Machine.execRelayConfig w c s
  | .relayStream w c => Sys2Proof.Machine.execRelayStream w c s
  | .relayIngest w c => Sys2Proof.Machine.execRelayIngest w c s
  | .maquette w c => Sys2Proof.Machine.execMaquette w c s
  | .maquetteShort w c => Sys2Proof.Machine.execMaquetteShort w c s
  | .faultClear w c => Sys2Proof.Machine.execFaultClear w c s
  | .powerMode w c => Sys2Proof.Machine.execPowerMode w c s
  | .clockConfig w c => Sys2Proof.Machine.execClockConfig w c s
  | .phaseStep w c => Sys2Proof.Machine.execPhaseStep w c s
  | .evtRoute w c => Sys2Proof.Machine.execEvtRoute w c s
  | .monitorBind w c => Sys2Proof.Machine.execMonitorBind w c s
  | .commandDispatch w => Sys2Proof.Machine.execCommandDispatch w s
  | .resourceGrant r => Sys2Proof.Machine.execResourceGrant r s
  | .budgetCheckerSlot => Sys2Proof.Machine.execBudgetCheckerSlot s
  | .detachDrainComplete n => Sys2Proof.Machine.execDetachDrainComplete n s
  | .maquetteQuietPoint w => Sys2Proof.Machine.execMaquetteQuietPoint w s
  | .maquetteWritten w => Sys2Proof.Machine.execMaquetteWritten w s
  | .waitTimeout x => Sys2Proof.Machine.execWaitTimeout x s
  | .waitingAllRelease => Sys2Proof.Machine.execWaitingAllRelease s
  | .cmdIssue acc => Sys2Proof.Machine.execCmdIssue acc s
  | .cmdStatusRead acc => Sys2Proof.Machine.execCmdStatusRead acc s
  | .hostLowHalfRead cs off => Sys2Proof.Machine.execHostLowHalfRead cs off s
  | .hostHighHalfRead cs off => Sys2Proof.Machine.execHostHighHalfRead cs off s
  | .hostLowHalfWrite cs off v => Sys2Proof.Machine.execHostLowHalfWrite cs off v s
  | .hostBusConflict strobes => Sys2Proof.Machine.execHostBusConflict strobes s
  | .registerWrite off acc => Sys2Proof.Machine.execRegisterWrite off acc s
  | .bar0InvalidTlp fn tlp => Sys2Proof.Machine.execBar0InvalidTlp fn tlp s
  | .memWinDataRead acc => Sys2Proof.Machine.execMemWinDataRead acc s
  | .memWinDataWrite acc => Sys2Proof.Machine.execMemWinDataWrite acc s
  | .bar2Read fn off len => Sys2Proof.Machine.execBar2Read fn off len s
  | .bar2Write fn off data => Sys2Proof.Machine.execBar2Write fn off data s
  | .faultLogDataRead acc => Sys2Proof.Machine.execFaultLogDataRead acc s
  | .vecClaim acc => Sys2Proof.Machine.execVecClaim acc s
  | .vecDone acc => Sys2Proof.Machine.execVecDone acc s
  | .evtPendWithdraw acc => Sys2Proof.Machine.execEvtPendWithdraw acc s
  | .mergeClr acc => Sys2Proof.Machine.execMergeClr acc s
  | .timStart acc => Sys2Proof.Machine.execTimStart acc s
  | .timCtlWrite acc => Sys2Proof.Machine.execTimCtlWrite acc s
  | .timCountWrite acc => Sys2Proof.Machine.execTimCountWrite acc s
  | .timPrescaleWrite acc => Sys2Proof.Machine.execTimPrescaleWrite acc s
  | .monClear acc => Sys2Proof.Machine.execMonClear acc s
  | .doorbellWrite acc => Sys2Proof.Machine.execDoorbellWrite acc s
  | .doorbellRead acc => Sys2Proof.Machine.execDoorbellRead acc s
  | .heartbeatWrite acc => Sys2Proof.Machine.execHeartbeatWrite acc s
  | .powerReqWrite acc => Sys2Proof.Machine.execPowerReqWrite acc s
  | .droneShadowTransfer r => Sys2Proof.Machine.execDroneShadowTransfer r s
  | .resetHead acc h => Sys2Proof.Machine.execResetHead acc h s
  | .resetHeadE acc => Sys2Proof.Machine.execResetHeadE acc s
  | .resetRelayPort acc => Sys2Proof.Machine.execResetRelayPort acc s
  | .resetCal acc u => Sys2Proof.Machine.execResetCal acc u s
  | .resetSegmentDriver acc => Sys2Proof.Machine.execResetSegmentDriver acc s
  | .resetTimers acc => Sys2Proof.Machine.execResetTimers acc s
  | .vfFunctionLevelReset n => Sys2Proof.Machine.execVfFunctionLevelReset n s
  | .vfEnableClear enable numVfs => Sys2Proof.Machine.execVfEnableClear enable numVfs s
  | .pfFunctionLevelReset => Sys2Proof.Machine.execPfFunctionLevelReset s
  | .pePerst => Sys2Proof.Machine.execPePerst s
  | .pcieHotReset => Sys2Proof.Machine.execPcieHotReset s
  | .msixVectorUnmask fn v => Sys2Proof.Machine.execMsixVectorUnmask fn v s
  | .coldReset straps => Sys2Proof.Machine.execColdReset straps s
  | .brownOut supply straps => Sys2Proof.Machine.execBrownOut supply straps s
  | .registerFileReady => Sys2Proof.Machine.execRegisterFileReady s
  | .bootImageValidation flash => Sys2Proof.Machine.execBootImageValidation flash s
  | .memoryTraining r => Sys2Proof.Machine.execMemoryTraining r s
  | .bootImageApply recheck => Sys2Proof.Machine.execBootImageApply recheck s
  | .wakeRequest src => Sys2Proof.Machine.execWakeRequest src s
  | .hostBusWake => Sys2Proof.Machine.execHostBusWake s
  | .powerStepWaitTimeout => Sys2Proof.Machine.execPowerStepWaitTimeout s
  | .clkLoss pll => Sys2Proof.Machine.execClkLoss pll s
  | .xtalReturn => Sys2Proof.Machine.execXtalReturn s
  | .boreLock y => Sys2Proof.Machine.execBoreLock y s
  | .synLoss y reference => Sys2Proof.Machine.execSynLoss y reference s
  | .calibrationDue => Sys2Proof.Machine.execCalibrationDue s
  | .forcedCalibration => Sys2Proof.Machine.execForcedCalibration s
  | .mr4Poll r => Sys2Proof.Machine.execMr4Poll r s
  | .dramScrub => Sys2Proof.Machine.execDramScrub s
  | .sramScrub r => Sys2Proof.Machine.execSramScrub r s
  | .tokenCredit => Sys2Proof.Machine.execTokenCredit s
  | .schedulerGrant => Sys2Proof.Machine.execSchedulerGrant s
  | .memoryReadReturn ch r => Sys2Proof.Machine.execMemoryReadReturn ch r s
  | .sealedRelease q => Sys2Proof.Machine.execSealedRelease q s
  | .queueSample => Sys2Proof.Machine.execQueueSample s
  | .lineStart h => Sys2Proof.Machine.execLineStart h s
  | .lineComposed h => Sys2Proof.Machine.execLineComposed h s
  | .shed h => Sys2Proof.Machine.execShed h s
  | .verticalBlank h => Sys2Proof.Machine.execVerticalBlank h s
  | .frameBoundary h => Sys2Proof.Machine.execFrameBoundary h s
  | .protectedCheck h => Sys2Proof.Machine.execProtectedCheck h s
  | .writebackFrameComplete h => Sys2Proof.Machine.execWritebackFrameComplete h s
  | .writebackAbandon h => Sys2Proof.Machine.execWritebackAbandon h s
  | .fsyncInEdge t => Sys2Proof.Machine.execFsyncInEdge t s
  | .hpdPulse h us locked => Sys2Proof.Machine.execHpdPulse h us locked s
  | .linkRetrain h => Sys2Proof.Machine.execLinkRetrain h s
  | .panelSequenceStep h => Sys2Proof.Machine.execPanelSequenceStep h s
  | .waitPinLevel h => Sys2Proof.Machine.execWaitPinLevel h s
  | .waitPinTimeout h => Sys2Proof.Machine.execWaitPinTimeout h s
  | .canvasComposed => Sys2Proof.Machine.execCanvasComposed s
  | .railPowerGood r => Sys2Proof.Machine.execRailPowerGood r s
  | .railPgTimeout r => Sys2Proof.Machine.execRailPgTimeout r s
  | .railFault r => Sys2Proof.Machine.execRailFault r s
  | .railsDown => Sys2Proof.Machine.execRailsDown s
  | .epdPhaseStart => Sys2Proof.Machine.execEpdPhaseStart s
  | .epdRowPeriod => Sys2Proof.Machine.execEpdRowPeriod s
  | .ledgerCheck => Sys2Proof.Machine.execLedgerCheck s
  | .segmentFrameStart => Sys2Proof.Machine.execSegmentFrameStart s
  | .commonPeriodEnd => Sys2Proof.Machine.execCommonPeriodEnd s
  | .contrastSample mv => Sys2Proof.Machine.execContrastSample mv s
  | .tempRefresh die therm => Sys2Proof.Machine.execTempRefresh die therm s
  | .bistableTemperatureSample code => Sys2Proof.Machine.execBistableTemperatureSample code s
  | .adcRequestLate u => Sys2Proof.Machine.execAdcRequestLate u s
  | .vlcdReached => Sys2Proof.Machine.execVlcdReached s
  | .vlcdStartTimeout mv => Sys2Proof.Machine.execVlcdStartTimeout mv s
  | .phyPoll r => Sys2Proof.Machine.execPhyPoll r s
  | .egressFrameRelease => Sys2Proof.Machine.execEgressFrameRelease s
  | .ethernetFrameReceived f => Sys2Proof.Machine.execEthernetFrameReceived f s
  | .ingestStale g => Sys2Proof.Machine.execIngestStale g s
  | .caliperOperationEnd u => Sys2Proof.Machine.execCaliperOperationEnd u s
  | .selftestChunk u r => Sys2Proof.Machine.execSelftestChunk u r s
  | .tileFlatten h => Sys2Proof.Machine.execTileFlatten h s
  | .extintEdge p => Sys2Proof.Machine.execExtintEdge p s
  | .vpAckRecognized p => Sys2Proof.Machine.execVpAckRecognized p s
  | .vpAckRelease p => Sys2Proof.Machine.execVpAckRelease p s
  | .timerTick t => Sys2Proof.Machine.execTimerTick t s
  | .heartbeatLapse => Sys2Proof.Machine.execHeartbeatLapse s
  | .fallbackSubmission => Sys2Proof.Machine.execFallbackSubmission s
  | .pcieCompletionReceived w r => Sys2Proof.Machine.execPcieCompletionReceived w r s
  | .busMasterEnableClear fn => Sys2Proof.Machine.execBusMasterEnableClear fn s
  | .vfEnableSet ari numVfs => Sys2Proof.Machine.execVfEnableSet ari numVfs s
  | .linkPllLock h => Sys2Proof.Machine.execLinkPllLock h s
  | .linkTrainingEnd h r => Sys2Proof.Machine.execLinkTrainingEnd h r s
  | .hpdWaitTimeout h => Sys2Proof.Machine.execHpdWaitTimeout h s
  | .expectedValueComplete h => Sys2Proof.Machine.execExpectedValueComplete h s
  | .lastPhaseStepTaken y => Sys2Proof.Machine.execLastPhaseStepTaken y s
  | .xtal32Loss => Sys2Proof.Machine.execXtal32Loss s
  | .xtal32Return => Sys2Proof.Machine.execXtal32Return s
  | .negativePhaseStart => Sys2Proof.Machine.execNegativePhaseStart s
  | .jtagTckEdge e => Sys2Proof.Machine.execJtagTckEdge e s

end Sys2Proof.Machine
end

