-- ==== Sys2Proof/Machine/Step.lean ====
section
/-! DEFINITION. One step of the block: the command at the front of its queue, or, with none waiting, what the Drone domain
does of itself. -/
namespace Sys2Proof.Machine

/-- With no command waiting, 1 µs of Drone time passes (R57) and the power sequencer takes its next step (DESIGN CHOICE,
log 67). -/
def idle (s : State) : State := powerStep { s with drone := { s.drone with time := s.drone.time + 1 } }

/-- The command at the front of the queue has its effect; the queue keeps the others. -/
def step (s : State) : Host.Outcome State Fault Refusal :=
  match s.pending with
  | [] => .next (idle s)
  | c :: rest => exec c { s with pending := rest }

/-- The state with a command put at the front of its queue. -/
def State.withFront (s : State) (c : Instr) : State := { s with pending := c :: s.pending }

/-- The state with the command that a word spells at the front of its queue; no row of the table has bits. -/
def State.withFetchWord (s : State) (nbits w : Nat) : State :=
  match decodeTableWord nbits w with
  | some c => s.withFront c
  | none => s

end Sys2Proof.Machine
end

