-- ==== Sys2Proof/Safety.lean ====
section
/-! DEFINITION. The terms in which statements about the block are made: a window that can take a command at once,
resources that nobody claims, a command that is answered, and what stays the same in memory and in the queue. -/
namespace Sys2Proof.Machine

/-- The executor of the window takes a command as it is issued: registers and executors answer (R99, R101), BOOT_DONE
is set (R547), the window is bound to the context, nothing is queued or executing, and there is room (R108). -/
def ready (s : State) (w : WinId) (c : CtxId) : Bool :=
  portOpen s && s.boot.doneFlag && winCtx s w = some c && s.win[w].exec.isNone && s.win[w].queue.isEmpty
    && decide (s.win[w].done.length < 16)

/-- Nobody holds or waits for a resource of the list (R142). -/
def unclaimed (s : State) (rs : List Resource) : Bool := rs.all fun r => !resHeld s r && !resWanted s r && !autoWants s r

/-- The command of the window is answered (R131): its completion stands at the end of the window's completion queue, the
executor is idle, both counters have counted it, and the window holds no resource. -/
def answered (s t : State) (w : WinId) (tag : Byte) (code : Code) (q0 q1 : Word) : Prop :=
  t.win[w].exec = none ∧ t.win[w].queue = [] ∧
  t.win[w].done = s.win[w].done ++ [{ tag := tag, code := code, q0 := q0, q1 := q1 }] ∧
  t.win[w].issued = s.win[w].issued + 1 ∧ t.win[w].completed = s.win[w].completed + 1 ∧
  ∀ r, (r, Holder.window w) ∉ t.port.held

/-- The state in which a command issued in a ready window begins to run: its executor has taken it (R108, R130). -/
def taken (s : State) (w : WinId) (op : Byte) (a : Cmd) (c : CtxId) : State :=
  { s with
    port := { s.port with nextOrder := s.port.nextOrder + 1, nextWait := s.port.nextWait + 1 }
    win := s.win.set w { s.win[w] with
      queue := []
      exec := some { entry := { op := op, cmd := a, order := s.port.nextOrder }, ctx := c, epoch := s.ctx[c].epoch,
                     phase := .acquire [], discard := false, since := s.port.nextWait }
      issued := s.win[w].issued + 1 } }

/-- The same with the resources that the command takes. -/
def takenWith (s : State) (w : WinId) (op : Byte) (a : Cmd) (c : CtxId) (rs : List Resource) : State :=
  let t := taken s w op a c
  { t with port := { t.port with held := t.port.held ++ rs.map fun r => (r, .window w) } }

/-- The command of the window is in its executor, in a phase. -/
def underway (t : State) (w : WinId) (op tag : Byte) (p : Phase) : Prop :=
  ∃ e, t.win[w].exec = some e ∧ e.entry.op = op ∧ e.entry.cmd.tag = tag ∧ e.phase = p ∧ e.discard = false

/-- The register file answers the host bus, and a function (R99, R101, R180, R536). -/
def busOpen (s : State) : Bool := hostAnswers s && fabricOn s
def pcieOpen (s : State) (f : FnId) : Bool := fnAnswers s f && fabricOn s

/-- The window that an access reads through, where it is answered. -/
def readWindow (s : State) (acc : ReadAccess) : Option WinId :=
  match acc with
  | .half cs => guardSome (busOpen s) (csWin cs)
  | .dword f => guardSome (pcieOpen s f) (fnWin f)

/-- The window and the 32 bits that an access writes to a register, where it commits: on the host bus with the low half
held for that register (R87), through a function at once (R92). -/
def committed (s : State) (o : RegOffset) (acc : WriteAccess) : Option (WinId × Word) :=
  match acc with
  | .half cs hi =>
    match s.win[csWin cs].writeLatch with
    | some (t, lo) => guardSome (busOpen s && t = o) (csWin cs, hi ++ lo)
    | none => none
  | .dword f v => guardSome (pcieOpen s f) (fnWin f, v)

/-- What an access that reads a register shows: the low half on HB_D with the high half latched (R85), or all of it in a
completion (R92). -/
def shows (t : State) (o : RegOffset) (acc : ReadAccess) (v : Word) : Prop :=
  match acc with
  | .half cs => t.pins.hbD = v.extractLsb' 0 16 ∧ t.win[csWin cs].readLatch = some (o, v.extractLsb' 16 16)
  | .dword f => t.pcie.sent.getLast? = some (.completion f (wordBytes v) false)

/-- Every byte of memory reads as before. -/
def sameBytes (s t : State) : Prop := ∀ a, readCell t.mem a = readCell s.mem a

/-- Every byte outside a range reads as before. -/
def sameBytesOutside (s t : State) (base n : Nat) : Prop :=
  ∀ a, a < base ∨ base + n ≤ a → readCell t.mem a = readCell s.mem a

/-- Memory and every unit of the block but the fetch scheduler are as before: what a register read leaves alone, beside the
windows, the events, the fault log and the command port. -/
def unitsSame (s t : State) : Prop :=
  t.mem = s.mem ∧ t.memc = s.memc ∧ t.head = s.head ∧ t.panel = s.panel ∧ t.syn = s.syn ∧ t.prot = s.prot ∧ t.slot = s.slot ∧
    t.commits = s.commits ∧ t.comp = s.comp ∧ t.relief = s.relief ∧ t.epd = s.epd ∧ t.seg = s.seg ∧ t.adc = s.adc ∧
    t.relay = s.relay ∧ t.cal = s.cal ∧ t.timer = s.timer ∧ t.mon = s.mon ∧ t.power = s.power ∧
    t.drone = s.drone ∧ t.boot = s.boot

/-- The fetch scheduler is as before, but for what stands in queue_135. -/
def fetchSame (s t : State) : Prop :=
  t.fetch = { s.fetch with queue := t.fetch.queue } ∧ ∀ q : QueueId, q ≠ 135 → t.fetch.queue[q] = s.fetch.queue[q]

/-- An EVU source has taken one rising edge (R479). -/
def edged (s t : State) (n : SourceId) : Prop := t.evu.src[n] = s.evu.src[n].edge

end Sys2Proof.Machine
end

