-- ==== Sys2Proof/WellFormed.lean ====
section
/-! DEFINITION. Which commands the outside can send: the limits that the spec sets to the operands of a row beyond what
their types say. -/
namespace Sys2Proof

/-- The opcodes of Table 06-3. -/
def listedOpcode (op : Nat) : Bool :=
  decide (op ∈ [0x00, 0x01, 0x02, 0x03, 0x04, 0x05, 0x06, 0x08, 0x09, 0x10, 0x11, 0x12, 0x13, 0x18, 0x19, 0x1A, 0x20, 0x21,
    0x22, 0x23, 0x28, 0x29, 0x2C, 0x30, 0x31, 0x38, 0x39, 0x40, 0x41, 0x42, 0x50, 0x51, 0x58, 0x60, 0x68, 0x69, 0x70, 0x78])

/-- Several chip selects, or both strobes (R78). -/
def HostStrobes.conflict (x : HostStrobes) : Bool :=
  decide (1 < ([0, 1, 2, 3].filter fun i => x.cs.getLsbD i).length) || (x.oe && x.we)

/-- One DWORD with every byte enabled. -/
def InvalidTlp.wholeDword (t : InvalidTlp) : Bool := decide (t.dwords = 1 ∧ t.off % 4 = 0) && t.enables.all id

/-- A request within BAR_0 that R92 does not give to the register file: one that R93 turns away, or one beyond 0x0FC
(Table 04-2), or one from another endpoint (R180); a write has a byte for each that it may enable. -/
def InvalidTlp.invalid (t : InvalidTlp) : Bool :=
  decide (t.off + 4 * t.dwords ≤ 4096 ∧ 0 < t.dwords ∧ t.enables.length = 4 * t.dwords)
    && (!t.write || decide (t.data.length = 4 * t.dwords)) && (t.peer || !t.wholeDword || decide (0x100 ≤ t.off))

/-- A request that BAR_2 can carry: within the aperture, and not across a 4 KiB boundary (R181). -/
def barRequest (off len : Nat) : Bool := decide (0 < len ∧ off + len ≤ 0x40000000 ∧ off / 4096 = (off + len - 1) / 4096)

/-- TIM_0 to TIM_11 have no shadow (R62). -/
def DroneShadow.shadowed : DroneShadow → Bool
  | .timer t => decide (12 ≤ t.1)
  | _ => true

/-- The capacities of Table 05-3, one or two ranks, and at least one way to fail. -/
def TrainingResult.possible : TrainingResult → Bool
  | .pass size ranks => decide (1 ≤ size ∧ size ≤ 5 ∧ 1 ≤ ranks ∧ ranks ≤ 2)
  | .fail ch0 ch1 mismatch => ch0 || ch1 || mismatch

/-- A read request of COPY_IN asks for at most 512 bytes (R182). -/
def PcieCompletion.fits : PcieCompletion → Bool
  | .data b => decide (0 < b.length ∧ b.length ≤ 512)
  | .error | .late => true

/-- A frame holds two addresses and a type. -/
def RxFrame.whole (f : RxFrame) : Bool := decide (14 ≤ f.bytes.length)

/-- A memory word lies in the largest memory, 8 GiB. -/
def ReadOutcome.inMemory : ReadOutcome → Bool
  | .good => true
  | .corrected w | .uncorrectable w => decide (w < 2 ^ 30)

/-- An SRAM word lies in the 8 MiB that are scrubbed (R210). -/
def ScrubOutcome.inSram : ScrubOutcome → Bool
  | .uncorrectable _ w => decide (w < 262144)
  | _ => true

/-- The operands of a command are within the limits of the spec. -/
def WellFormed (i : Instr) : Bool :=
  match i with
  | .nop .. => true
  | .unassignedOpcode _ op _ => !listedOpcode op.toNat
  | .attach .. => true
  | .detach .. => true
  | .seal .. => true
  | .bindWindow .. => true
  | .partitionSet .. => true
  | .territorySet .. => true
  | .copyIn .. => true
  | .copyOut .. => true
  | .commit .. => true
  | .commitAbort .. => true
  | .commitCheck .. => true
  | .reliefFlush .. => true
  | .protectLoad .. => true
  | .protectLock .. => true
  | .protectRelease .. => true
  | .headConfig .. => true
  | .headStart .. => true
  | .headStop .. => true
  | .panelPower .. => true
  | .epdUpdate .. => true
  | .epdClear .. => true
  | .segWrite .. => true
  | .scan .. => true
  | .selftest .. => true
  | .queueConfig .. => true
  | .policerConfig .. => true
  | .relayConfig .. => true
  | .relayStream .. => true
  | .relayIngest .. => true
  | .maquette .. => true
  | .maquetteShort .. => true
  | .faultClear .. => true
  | .powerMode .. => true
  | .clockConfig .. => true
  | .phaseStep .. => true
  | .evtRoute .. => true
  | .monitorBind .. => true
  | .commandDispatch .. => true
  | .resourceGrant .. => true
  | .budgetCheckerSlot => true
  | .detachDrainComplete n => n ≠ 0
  | .maquetteQuietPoint .. => true
  | .maquetteWritten .. => true
  | .waitTimeout .. => true
  | .waitingAllRelease => true
  | .cmdIssue .. => true
  | .cmdStatusRead .. => true
  | .hostLowHalfRead .. => true
  | .hostHighHalfRead .. => true
  | .hostLowHalfWrite .. => true
  | .hostBusConflict x => x.conflict
  | .registerWrite .. => true
  | .bar0InvalidTlp _ t => t.invalid
  | .memWinDataRead .. => true
  | .memWinDataWrite .. => true
  | .bar2Read _ off len => barRequest off len
  | .bar2Write _ off data => barRequest off data.length
  | .faultLogDataRead .. => true
  | .vecClaim .. => true
  | .vecDone .. => true
  | .evtPendWithdraw .. => true
  | .mergeClr .. => true
  | .timStart .. => true
  | .timCtlWrite .. => true
  | .timCountWrite .. => true
  | .timPrescaleWrite .. => true
  | .monClear .. => true
  | .doorbellWrite .. => true
  | .doorbellRead .. => true
  | .heartbeatWrite .. => true
  | .powerReqWrite .. => true
  | .droneShadowTransfer r => r.shadowed
  | .resetHead .. => true
  | .resetHeadE .. => true
  | .resetRelayPort .. => true
  | .resetCal .. => true
  | .resetSegmentDriver .. => true
  | .resetTimers .. => true
  | .vfFunctionLevelReset n => n ≠ 0
  | .vfEnableClear _ n => decide (n < 64)
  | .pfFunctionLevelReset => true
  | .pePerst => true
  | .pcieHotReset => true
  | .msixVectorUnmask .. => true
  | .coldReset .. => true
  | .brownOut .. => true
  | .registerFileReady => true
  | .bootImageValidation .. => true
  | .memoryTraining r => r.possible
  | .bootImageApply .. => true
  | .wakeRequest .. => true
  | .hostBusWake => true
  | .powerStepWaitTimeout => true
  | .clkLoss .. => true
  | .xtalReturn => true
  | .boreLock .. => true
  | .synLoss .. => true
  | .calibrationDue => true
  | .forcedCalibration => true
  | .mr4Poll .. => true
  | .dramScrub => true
  | .sramScrub r => r.inSram
  | .tokenCredit => true
  | .schedulerGrant => true
  | .memoryReadReturn _ r => r.inMemory
  | .sealedRelease .. => true
  | .queueSample => true
  | .lineStart .. => true
  | .lineComposed .. => true
  | .shed .. => true
  | .verticalBlank .. => true
  | .frameBoundary .. => true
  | .protectedCheck .. => true
  | .writebackFrameComplete .. => true
  | .writebackAbandon .. => true
  | .fsyncInEdge .. => true
  | .hpdPulse .. => true
  | .linkRetrain _ => true
  | .panelSequenceStep .. => true
  | .waitPinLevel .. => true
  | .waitPinTimeout .. => true
  | .canvasComposed => true
  | .railPowerGood .. => true
  | .railPgTimeout .. => true
  | .railFault .. => true
  | .railsDown => true
  | .epdPhaseStart => true
  | .epdRowPeriod => true
  | .ledgerCheck => true
  | .segmentFrameStart => true
  | .commonPeriodEnd => true
  | .contrastSample .. => true
  | .tempRefresh .. => true
  | .bistableTemperatureSample .. => true
  | .adcRequestLate .. => true
  | .vlcdReached => true
  | .vlcdStartTimeout .. => true
  | .phyPoll .. => true
  | .egressFrameRelease => true
  | .ethernetFrameReceived f => f.whole
  | .ingestStale .. => true
  | .caliperOperationEnd .. => true
  | .selftestChunk .. => true
  | .tileFlatten .. => true
  | .extintEdge .. => true
  | .vpAckRecognized .. => true
  | .vpAckRelease .. => true
  | .timerTick .. => true
  | .heartbeatLapse => true
  | .fallbackSubmission => true
  | .pcieCompletionReceived w r => decide (4 ≤ w.1) && r.fits
  | .busMasterEnableClear .. => true
  | .vfEnableSet _ n => decide (n < 64)
  | .linkPllLock .. => true
  | .linkTrainingEnd .. => true
  | .hpdWaitTimeout .. => true
  | .expectedValueComplete .. => true
  | .lastPhaseStepTaken .. => true
  | .xtal32Loss => true
  | .xtal32Return => true
  | .negativePhaseStart => true
  | .jtagTckEdge .. => true

end Sys2Proof
end

