-- ==== Sys2Proof/Certificates/Slice0/Obligations.lean ====
section
/-! DEFINITION. The statements for the provers: what the commands of each family do, what they leave alone, and what every
step keeps. -/

open Sys2Proof Sys2Proof.Machine

/-- A step runs the command at the front of the queue; on an empty queue Drone time advances by 1 us (the model's choice, log 67). After The block's queue of commands (NOTES.md, model), 06.1 Issue, queue and completion, 03.1 The twelve domains (Drone time counts microseconds), NOTES.md log 67 (the model's choice). -/
def Obligations.StepRunsFrontCommand : Prop :=
  (∀ (s : State) (c : Instr) (rest : List Instr), s.pending = c :: rest → step s = exec c { s with pending := rest }) ∧
  ∀ s : State, s.pending = [] → s.power.trans = none → s.power.wakeKept = none → s.power.queued = none →
    ∃ t, step s = .next t ∧ t.drone.time = s.drone.time + 1 ∧ t.pending = []

/-- After reset every holding latch is empty and HALF_ERR is clear in every window. After R100. -/
def Obligations.ResetEmptiesHoldingLatches : Prop :=
  ∀ w : WinId, State.reset.win[w].readLatch = none ∧ State.reset.win[w].writeLatch = none ∧ State.reset.win[w].halfErr = false

/-- ID reads 0x00A10640 through every window. After R1. -/
def Obligations.IdReadsSteppingA1 : Prop :=
  (∀ (s : State) (cs : ChipSelect), busOpen s = true →
    ∃ t u, exec (.hostLowHalfRead cs 0) s = .next t ∧ t.pins.hbD = 0x0640 ∧
      exec (.hostHighHalfRead cs 0) t = .next u ∧ u.pins.hbD = 0x00A1) ∧
  ∀ (s : State) (w : WinId), (readReg w 0 s).1 = 0x00A10640

/-- The reserved offsets 0x0E4 to 0x0EC read zero and ignore writes in every window. After R8. -/
def Obligations.ReservedOffsetsReadZero : Prop :=
  ∀ (s : State) (o : RegOffset), o.1 = 57 ∨ o.1 = 58 ∨ o.1 = 59 →
    (∀ cs : ChipSelect, busOpen s = true →
      ∃ t u, exec (.hostLowHalfRead cs o) s = .next t ∧ t.pins.hbD = 0 ∧ exec (.hostHighHalfRead cs o) t = .next u ∧ u.pins.hbD = 0) ∧
    (∀ w : WinId, readReg w (RegOffset.byte o) s = (0, s)) ∧
    (∀ (w : WinId) (v : Word), writeReg w (RegOffset.byte o) v s = s) ∧
    ∀ (cs : ChipSelect) (hi : HalfWord) (w : WinId) (v : Word), committed s o (.half cs hi) = some (w, v) →
      exec (.registerWrite o (.half cs hi)) s = .next (endAccess (s.modWin w fun x => { x with writeLatch := none }))

/-- Several chip selects or both strobes at once perform no access. After R78. -/
def Obligations.BusConflictPerformsNoAccess : Prop :=
  ∀ (s : State) (x : HostStrobes), x.conflict = true → exec (.hostBusConflict x) s = .next s ∧ waitPin s x = .highZ

/-- A low-half read returns the low half, latches the high half of the same value, and has the read's side effects. After R85. -/
def Obligations.LowHalfReadLoadsReadLatch : Prop :=
  ∀ (s : State) (cs : ChipSelect) (o : RegOffset) (v : Word) (u : State), busOpen s = true →
    readReg (csWin cs) (RegOffset.byte o) s = (v, u) →
    ∃ t, exec (.hostLowHalfRead cs o) s = .next t ∧ t.pins.hbD = v.extractLsb' 0 16 ∧
      t.win[csWin cs].readLatch = some (o, v.extractLsb' 16 16) ∧
      t = { u with win := t.win, pins := t.pins } ∧ t.pins = { u.pins with hbD := t.pins.hbD, hbWait := .high } ∧
      t.win[csWin cs] = { u.win[csWin cs] with readLatch := t.win[csWin cs].readLatch } ∧
      ∀ x : WinId, x ≠ csWin cs → t.win[x] = u.win[x]

/-- A high-half read returns the latched half of the low-half read just before, else the live half; no read disturbs a write latch. After 04.3 Half-word access and the holding latches, 00.7 Access codes. -/
def Obligations.HighHalfReadUsesTheLatch : Prop :=
  (∀ (s : State) (cs : ChipSelect) (o : RegOffset), busOpen s = true →
    ∃ t, exec (.hostHighHalfRead cs o) s = .next t ∧
      (∀ h, s.win[csWin cs].readLatch = some (o, h) → t.pins.hbD = h) ∧
      (∀ p h, s.win[csWin cs].readLatch = some (p, h) → p ≠ o →
        t.pins.hbD = (peekReg s (csWin cs) (RegOffset.byte o)).extractLsb' 16 16) ∧
      (s.win[csWin cs].readLatch = none → t.pins.hbD = (peekReg s (csWin cs) (RegOffset.byte o)).extractLsb' 16 16) ∧
      t.win[csWin cs] = { s.win[csWin cs] with readLatch := none } ∧
      (∀ x : WinId, x ≠ csWin cs → t.win[x] = s.win[x]) ∧
      t = { s with win := t.win, pins := { s.pins with hbD := t.pins.hbD, hbWait := .high } }) ∧
  (∀ (s : State) (o : RegOffset) (acc : ReadAccess) (w : WinId), (readAt o acc s).win[w].writeLatch = s.win[w].writeLatch) ∧
  ∀ (s : State) (cs : ChipSelect) (o : RegOffset) (v : HalfWord), ∃ t, exec (.hostLowHalfWrite cs o v) s = .next t ∧
    ∀ w : WinId, t.win[w].readLatch = s.win[w].readLatch

/-- A low-half write changes no register; a high-half write commits with the low half held for its register, or sets HALF_ERR. After 04.3 Half-word access and the holding latches. -/
def Obligations.WriteHalvesCommitTogether : Prop :=
  ∀ (s : State) (cs : ChipSelect) (o : RegOffset) (v : HalfWord), busOpen s = true →
    (∃ t, exec (.hostLowHalfWrite cs o v) s = .next t ∧
      t = endAccess (s.modWin (csWin cs) fun x => { x with
        writeLatch := some (o, v), halfErr := x.halfErr || (match x.writeLatch with | some (p, _) => decide (p ≠ o) | none => false) })) ∧
    (∀ lo, s.win[csWin cs].writeLatch = some (o, lo) →
      exec (.registerWrite o (.half cs v)) s =
        .next (endAccess (writeReg (csWin cs) (RegOffset.byte o) (v ++ lo) (s.modWin (csWin cs) fun x => { x with writeLatch := none })))) ∧
    (∀ p lo, s.win[csWin cs].writeLatch = some (p, lo) → p ≠ o →
      exec (.registerWrite o (.half cs v)) s = .next (endAccess (s.modWin (csWin cs) fun x => { x with halfErr := true }))) ∧
    (s.win[csWin cs].writeLatch = none →
      exec (.registerWrite o (.half cs v)) s = .next (endAccess (s.modWin (csWin cs) fun x => { x with halfErr := true })))

/-- An unbound window reads ID, CAPS and WIN_INFO only, and ignores every write. After 04.2 Windows and binding. -/
def Obligations.UnboundWindowReachesNothing : Prop :=
  ∀ (s : State) (w : WinId), winCtx s w = none →
    (∀ off, (readReg w off s).2 = s) ∧ (∀ off, off ≠ 0 → off ≠ 4 → off ≠ 8 → (readReg w off s).1 = 0) ∧
    ((readReg w 8 s).1.getLsbD 6 = false) ∧ (∀ off v, writeReg w off v s = s) ∧
    (∀ a, exec (.nop w a) s = .next s) ∧ ∀ op a, exec (.unassignedOpcode w op a) s = .next s

/-- A read of CMD_STATUS pops the oldest completion and loads its result words; with none waiting it shows VALID 0 and pops nothing. After R109, R110. -/
def Obligations.CmdStatusReadPopsOldest : Prop :=
  ∀ (s : State) (acc : ReadAccess) (w : WinId) (c : CtxId), readWindow s acc = some w → winCtx s w = some c →
    (∀ (d : Completion) (rest : List Completion), s.win[w].done = d :: rest →
      ∃ t v, exec (.cmdStatusRead acc) s = .next t ∧ shows t 9 acc v ∧ v.extractLsb' 0 8 = d.tag ∧
        (v.extractLsb' 8 8 : Byte) = BitVec.ofNat 8 d.code.num ∧ v.getLsbD 16 = true ∧ t.win[w].done = rest ∧
        t.win[w].result0 = d.q0 ∧ t.win[w].result1 = d.q1) ∧
    (s.win[w].done = [] →
      ∃ t v, exec (.cmdStatusRead acc) s = .next t ∧ shows t 9 acc v ∧ v.getLsbD 16 = false ∧ t.win[w].done = [] ∧
        t.win[w].queue = s.win[w].queue ∧ t.win[w].exec = s.win[w].exec ∧
        t.win[w].result0 = s.win[w].result0 ∧ t.win[w].result1 = s.win[w].result1 ∧
        (∀ e, s.win[w].exec = some e → e.discard = false → v.extractLsb' 0 8 = e.entry.cmd.tag ∧ (v.extractLsb' 8 8 : Byte) = 1) ∧
        (∀ e rest, s.win[w].exec = none → s.win[w].queue = e :: rest → v.extractLsb' 0 8 = e.cmd.tag ∧ (v.extractLsb' 8 8 : Byte) = 1) ∧
        (s.win[w].exec = none → s.win[w].queue = [] → (v.extractLsb' 0 16 : HalfWord) = 0))

/-- A CMD_ISSUE write issues one command with the arguments as they stand, or is refused at occupancy 16. After R108. -/
def Obligations.CmdIssueTakesArgumentsAsTheyStand : Prop :=
  ∀ (s : State) (acc : WriteAccess) (w : WinId) (v : Word) (c : CtxId), committed s 8 acc = some (w, v) → winCtx s w = some c →
    (s.win[w].exec ≠ none → s.win[w].occupancy < 16 →
      ∃ t, exec (.cmdIssue acc) s = .next t ∧ t.win[w].issued = s.win[w].issued + 1 ∧
        t.win[w].queue = s.win[w].queue ++ [{ op := v.extractLsb' 0 8, order := s.port.nextOrder, cmd :=
          { tag := v.extractLsb' 8 8, a0 := s.win[w].args[0], a1 := s.win[w].args[1], a2 := s.win[w].args[2], a3 := s.win[w].args[3] } }]) ∧
    (16 ≤ s.win[w].occupancy →
      ∃ t, exec (.cmdIssue acc) s = .next t ∧ t.win[w].issueRefused = true ∧ t.win[w].queue = s.win[w].queue ∧
        t.win[w].done = s.win[w].done ∧ t.win[w].exec = s.win[w].exec ∧ t.win[w].issued = s.win[w].issued) ∧
    (∀ (k : Fin 4) (x : Word), (writeReg w (0x10 + 4 * k.1) x s).win[w].queue = s.win[w].queue) ∧
    (ready s w c = true → v.extractLsb' 0 8 = (0 : Byte) →
      ∃ t, exec (.cmdIssue acc) s = .next t ∧ answered s t w (v.extractLsb' 8 8) .ok s.win[w].args[0] ((genOf s c).setWidth 32))

/-- A MEM_WIN_DATA read shows four bytes of the window's own partition, or 0 with the reason in MW_STATUS. After 05.5 Summary and memory windows, 04.7 Reset and power, 08.9 Where isolation is enforced. -/
def Obligations.MemoryWindowReadsOwnPartition : Prop :=
  ∀ (s : State) (acc : ReadAccess) (w : WinId) (c : CtxId), readWindow s acc = some w → winCtx s w = some c →
    (c ≠ 0 ∨ s.win[w].mwAddr.getLsbD 0 = false) →
    ∃ t v, exec (.memWinDataRead acc) s = .next t ∧ shows t 15 acc v ∧ sameBytes s t ∧
      t.win[w].mwAddr = (if s.win[w].mwAddr.getLsbD 1 then s.win[w].mwAddr + 4 else s.win[w].mwAddr) ∧
      (memAvail s = false → v = 0 ∧ t.win[w].mwStatus = 1) ∧
      (memAvail s = true → inPart s c (s.win[w].mwAddr.toNat / 4 * 4) 4 = false → v = 0 ∧ t.win[w].mwStatus = 2) ∧
      (memAvail s = true → inPart s c (s.win[w].mwAddr.toNat / 4 * 4) 4 = true →
        badRange s (partBase s c + s.win[w].mwAddr.toNat / 4 * 4) 4 = false →
        v = BitVec.ofNat 32 (le (s.read (partBase s c + s.win[w].mwAddr.toNat / 4 * 4) 4)) ∧ t.win[w].mwStatus = 0) ∧
      (memAvail s = true → inPart s c (s.win[w].mwAddr.toNat / 4 * 4) 4 = true →
        badRange s (partBase s c + s.win[w].mwAddr.toNat / 4 * 4) 4 = true → v = 0 ∧ t.win[w].mwStatus = 3)

/-- A MEM_WIN_DATA write stores four bytes at the window's address in its own partition, and nowhere else. After 05.5 Summary and memory windows, 04.7 Reset and power, 03.4 Ordering, 08.9 Where isolation is enforced. -/
def Obligations.MemoryWindowWritesOwnPartition : Prop :=
  ∀ (s : State) (acc : WriteAccess) (w : WinId) (v : Word) (c : CtxId), committed s 15 acc = some (w, v) → winCtx s w = some c →
    ∃ t, exec (.memWinDataWrite acc) s = .next t ∧
      (memAvail s = false → sameBytes s t ∧ t.win[w].mwStatus = 1) ∧
      (memAvail s = true → c = 0 → s.win[w].mwAddr.getLsbD 0 = true → sameBytes s t ∧ t.win[w].mwStatus = 4) ∧
      (memAvail s = true → (c ≠ 0 ∨ s.win[w].mwAddr.getLsbD 0 = false) →
        inPart s c (s.win[w].mwAddr.toNat / 4 * 4) 4 = false → sameBytes s t ∧ t.win[w].mwStatus = 2) ∧
      (memAvail s = true → (c ≠ 0 ∨ s.win[w].mwAddr.getLsbD 0 = false) → inPart s c (s.win[w].mwAddr.toNat / 4 * 4) 4 = true →
        sameBytesOutside s t (partBase s c + s.win[w].mwAddr.toNat / 4 * 4) 4 ∧ t.win[w].mwStatus = 0 ∧
        (Memory.wf s.mem = true → t.read (partBase s c + s.win[w].mwAddr.toNat / 4 * 4) 4 = wordBytes v))

/-- BAR_2 reads and writes bytes of the function's own partition, and nothing beyond it. After 08.7 PCIe functions, 08.9 Where isolation is enforced, 09.4 Inline ECC. -/
def Obligations.Bar2ReachesOwnPartition : Prop :=
  ∀ (s : State) (f : FnId) (off : Nat), pcieOpen s f = true →
    (∀ len, barRequest off len = true →
      ∃ t, exec (.bar2Read f off len) s = .next t ∧ sameBytes s t ∧
        (barReaches s f off len = true → badPart s f off len = false →
          t.pcie.sent.getLast? = some (.completion f (readPart s f off len) false)) ∧
        (barReaches s f off len = true → badPart s f off len = true →
          t.pcie.sent.getLast? = some (.completion f (List.replicate len 0) true)) ∧
        (barReaches s f off len = false → t.pcie.sent.getLast? = some (.completion f (List.replicate len 0) false))) ∧
    ∀ data : List Byte, barRequest off data.length = true →
      ∃ t, exec (.bar2Write f off data) s = .next t ∧
        (barReaches s f off data.length = false → sameBytes s t) ∧
        (barReaches s f off data.length = true → sameBytesOutside s t (partBase s f + off) data.length ∧
          (Memory.wf s.mem = true → t.read (partBase s f + off) data.length = data))

/-- A BAR_0 request longer than one DWORD, with partial enables or from another endpoint is discarded or answered Unsupported Request; the MSI-X table takes it. After 04.4 The PCIe view, 08.7 PCIe functions. -/
def Obligations.InvalidTlpIsTurnedAway : Prop :=
  ∀ (s : State) (f : FnId) (x : InvalidTlp), pcieOpen s f = true → x.invalid = true →
    ((x.peer = true ∨ (msixRange x.off (4 * x.dwords) = false ∧ (x.wholeDword = false ∨ x.write = true))) →
      ∃ t, exec (.bar0InvalidTlp f x) s = .next t ∧ t.win = s.win ∧ t.ctx = s.ctx ∧ t.evu = s.evu ∧ t.mem = s.mem ∧ t.port = s.port ∧
        t.pcie.fn = s.pcie.fn ∧ (x.write = false → t.pcie.sent = s.pcie.sent ++ [.unsupportedRequest f]) ∧
        (x.write = true → t.pcie.sent = s.pcie.sent)) ∧
    (x.peer = false → x.write = false → (msixRange x.off (4 * x.dwords) = true ∨ x.wholeDword = true) →
      ∃ t, exec (.bar0InvalidTlp f x) s = .next t ∧ t.win = s.win ∧ t.ctx = s.ctx ∧ t.evu = s.evu ∧ t.mem = s.mem ∧ t.pcie.fn = s.pcie.fn ∧
        t.pcie.sent = s.pcie.sent ++ [.completion f (msixBytes s f x.off (4 * x.dwords)) false]) ∧
    (x.peer = false → x.write = true → msixRange x.off (4 * x.dwords) = true →
      ∃ t, exec (.bar0InvalidTlp f x) s = .next t ∧ t.win = s.win ∧ t.ctx = s.ctx ∧ t.mem = s.mem ∧ ∀ v : VectorId,
        t.pcie.fn[f].msix[v].addrLo = (entryTlp x v s.pcie.fn[f].msix[v]).addrLo ∧ t.pcie.fn[f].msix[v].addrHi = (entryTlp x v s.pcie.fn[f].msix[v]).addrHi ∧
        t.pcie.fn[f].msix[v].data = (entryTlp x v s.pcie.fn[f].msix[v]).data ∧ t.pcie.fn[f].msix[v].control = (entryTlp x v s.pcie.fn[f].msix[v]).control)

/-- FAULT_LOG_DATA shows a word of the entry the cursor selects and advances the cursor; a tenant reads 0. After 05.10 Faults, power, temperature and clocks, 27.1 The fault log. -/
def Obligations.FaultLogDataReadsTheEntry : Prop :=
  ∀ (s : State) (acc : ReadAccess) (w : WinId) (c : CtxId), readWindow s acc = some w → winCtx s w = some c →
    (∀ e, c = 0 → cursorWord s.win[w] = 0 → s.faults.entries[cursorEntry s.win[w]]? = some e →
      ∃ t, exec (.faultLogDataRead acc) s = .next t ∧ shows t 43 acc (e.time.setWidth 32) ∧ t.win[w].cursor = s.win[w].cursor + 1 ∧
        t.win[w].snapshot = some (BitVec.ofNat 6 (cursorEntry s.win[w]), e.words) ∧ t.faults = s.faults) ∧
    (∀ x, c = 0 → cursorWord s.win[w] ≠ 0 → s.win[w].snapshot = some (BitVec.ofNat 6 (cursorEntry s.win[w]), x) →
      ∃ t, exec (.faultLogDataRead acc) s = .next t ∧ shows t 43 acc (x[cursorWord s.win[w]]?.getD 0) ∧
        t.win[w].cursor = s.win[w].cursor + 1 ∧ t.win[w].snapshot = s.win[w].snapshot) ∧
    (c ≠ 0 → ∃ t, exec (.faultLogDataRead acc) s = .next t ∧ shows t 43 acc 0 ∧ t.win[w].cursor = s.win[w].cursor)

/-- VEC_CLAIM claims the owned, pending and enabled source of the highest priority, the lowest number among equals. After 05.6 Event and vector registers, 22.6 Own delivery. -/
def Obligations.VecClaimTakesTheHighestPriority : Prop :=
  ∀ (s : State) (acc : ReadAccess) (w : WinId) (c : CtxId), readWindow s acc = some w → winCtx s w = some c →
    (∀ n : SourceId, s.evu.src[n].owner = c → s.evu.src[n].pending = true → s.evu.src[n].enable = true →
      (∀ m : SourceId, s.evu.src[m].owner = c → s.evu.src[m].pending = true → s.evu.src[m].enable = true → m ≠ n →
        s.evu.src[m].prio.toNat < s.evu.src[n].prio.toNat ∨ (s.evu.src[m].prio = s.evu.src[n].prio ∧ n.1 < m.1)) →
      ∃ t, exec (.vecClaim acc) s = .next t ∧
        shows t 21 acc (put n.1 0 9 ||| put s.evu.src[n].prio.toNat 12 4 ||| put s.evu.src[n].merge.toNat 16 8) ∧
        t.evu.src[n].pending = false ∧ t.evu.src[n].merge = 0 ∧ t.evu.src[n].service = s.evu.src[n].service ||| 0x10 ∧
        ∀ m : SourceId, m ≠ n → t.evu.src[m] = s.evu.src[m]) ∧
    ((∀ m : SourceId, ¬ (s.evu.src[m].owner = c ∧ s.evu.src[m].pending = true ∧ s.evu.src[m].enable = true)) →
      ∃ t, exec (.vecClaim acc) s = .next t ∧ shows t 21 acc 511 ∧ t.evu = s.evu)

/-- EVT_PEND, VEC_DONE and MERGE_CLR act on sources that the context owns, and on no other. After 05.6 Event and vector registers, 22.5 Vector ports, 22.3 Sensing. -/
def Obligations.EventWritesTouchOwnedSourcesOnly : Prop :=
  ∀ (s : State) (acc : WriteAccess) (w : WinId) (v : Word) (c : CtxId), winCtx s w = some c →
    (committed s 17 acc = some (w, v) →
      ∃ t, exec (.evtPendWithdraw acc) s = .next t ∧ ∀ n : SourceId,
        (n.1 / 32 = s.win[w].evtGroup.toNat → v.getLsbD (n.1 % 32) = true → s.evu.src[n].owner = c →
          t.evu.src[n].pending = false ∧ (s.evu.src[n].pending = true → t.evu.src[n].merge = 0)) ∧
        (n.1 / 32 ≠ s.win[w].evtGroup.toNat ∨ v.getLsbD (n.1 % 32) = false ∨ s.evu.src[n].owner ≠ c → t.evu.src[n] = s.evu.src[n])) ∧
    (∀ n : SourceId, committed s 22 acc = some (w, v) → fld v 0 9 = n.1 →
      (fld v 12 3 = 4 → s.evu.src[n].owner = c →
        ∃ t, exec (.vecDone acc) s = .next t ∧ t.evu.src[n].service = s.evu.src[n].service &&& 0x0F) ∧
      (∀ k : Fin 4, fld v 12 3 = k.1 → c = 0 → ∃ t, exec (.vecDone acc) s = .next t ∧ t.evu.src[n].service.getLsbD k.1 = false) ∧
      (fld v 12 3 = 4 → s.evu.src[n].owner ≠ c → ∃ t, exec (.vecDone acc) s = .next t ∧ t.evu = s.evu)) ∧
    (∀ n : SourceId, committed s 19 acc = some (w, v) → (v.extractLsb' 16 9 : BitVec 9).toNat = n.1 →
      ∃ t, exec (.mergeClr acc) s = .next t ∧ (s.evu.src[n].owner = c → t.evu.src[n].merge = 0) ∧
        (s.evu.src[n].owner ≠ c → t.evu.src[n].merge = s.evu.src[n].merge) ∧ t.evu.src[n].pending = s.evu.src[n].pending)

/-- Timer register writes act on the selected visible channel at once below TIM_12, through a shadow from there on. After 05.7 Timer window, 23.5 Writes, start and stop, 03.2 Crossings. -/
def Obligations.TimerWritesTakeEffectAtTheCommit : Prop :=
  ∀ (s : State) (acc : WriteAccess) (w : WinId) (v : Word) (c : CtxId), winCtx s w = some c →
    (∀ t, s.win[w].timSel = t → timVisible s c t = true → backlightHead s t = none → t.1 < 12 →
      (committed s 24 acc = some (w, v) → ∃ u, exec (.timCountWrite acc) s = .next u ∧ u.timer[t] = { s.timer[t] with count := v }) ∧
      (committed s 29 acc = some (w, v) → ∃ u, exec (.timPrescaleWrite acc) s = .next u ∧
        u.timer[t].int_ = (if (v.extractLsb' 0 16 : HalfWord) = 0 then 1 else v.extractLsb' 0 16) ∧ u.timer[t].frac = v.extractLsb' 16 8) ∧
      (committed s 28 acc = some (w, v) → ∃ u, exec (.timCtlWrite acc) s = .next u ∧
        (5 ≤ fld v 1 3 → u.timer = s.timer) ∧
        (fld v 1 3 < 5 → u.timer[t].mode.toNat = fld v 1 3 ∧ u.timer[t].clk.toNat = fld v 4 4 ∧ u.timer[t].en = v.getLsbD 0 ∧
          u.timer[t].count = s.timer[t].count ∧ u.timer[t].owner = s.timer[t].owner))) ∧
    (∀ t k, s.win[w].timSel = t → timVisible s c t = true → backlightHead s t = none → droneTimer t = some k →
      (committed s 24 acc = some (w, v) → ∃ u, exec (.timCountWrite acc) s = .next u ∧ u.timer = s.timer ∧ .reg k 0x60 v ∈ u.timerShadow) ∧
      (committed s 29 acc = some (w, v) → ∃ u, exec (.timPrescaleWrite acc) s = .next u ∧ u.timer = s.timer ∧ .reg k 0x74 v ∈ u.timerShadow) ∧
      (committed s 28 acc = some (w, v) → ∃ u, exec (.timCtlWrite acc) s = .next u ∧ u.timer = s.timer ∧
        (5 ≤ fld v 1 3 → u.timerShadow = s.timerShadow) ∧
        (fld v 1 3 < 5 → .reg k 0x70 (ctlFor (supervisor c) (timerView s t).tout v) ∈ u.timerShadow))) ∧
    (committed s 30 acc = some (w, v) → ∃ u, exec (.timStart acc) s = .next u ∧
      ∀ t : TimerId,
        (t.1 < 12 → s.timer[t].owner = c → backlightHead s t = none →
          u.timer[t].count = s.timer[t].count ∧ (v.getLsbD (16 + t.1) = true → u.timer[t].en = false) ∧
          (v.getLsbD (16 + t.1) = false → v.getLsbD t.1 = true → u.timer[t].en = true) ∧
          (v.getLsbD (16 + t.1) = false → v.getLsbD t.1 = false → u.timer[t] = s.timer[t])) ∧
        (12 ≤ t.1 ∨ s.timer[t].owner ≠ c ∨ (backlightHead s t).isSome = true → u.timer[t] = s.timer[t]))

/-- MON_CTL.CLEAR empties a visible channel and no other; doorbells ring the other side and a read takes the ring. After 05.8 Monitor window, 24.4 Watermarks, 05.13 Heartbeat, doorbell, generation, reset and lock. -/
def Obligations.MonitorClearAndDoorbells : Prop :=
  ∀ (s : State) (w : WinId) (c : CtxId), winCtx s w = some c →
    (∀ acc v m, committed s 37 acc = some (w, v) → s.win[w].monSel = m →
      (monVisible s c m = true → ∃ t, exec (.monClear acc) s = .next t ∧ t.mem = s.mem ∧ (∀ k : MonId, k ≠ m → t.mon[k] = s.mon[k]) ∧
        t.mon[m] = { s.mon[m] with
          en := v.getLsbD 0, log2 := v.getLsbD 1, freeze := v.getLsbD 3, min := 0xFFFFFFFF, max := 0, count := 0, bins := Vector.replicate 16 0
          highCross := 0, lowCross := 0, highSeen := false, lowSeen := false, fresh := true }) ∧
      (monVisible s c m = false → ∃ t, exec (.monClear acc) s = .next t ∧ t.mem = s.mem ∧ t.mon = s.mon)) ∧
    (∀ acc v, committed s 60 acc = some (w, v) → c ≠ 0 → ∃ t, exec (.doorbellWrite acc) s = .next t ∧ t.mem = s.mem ∧ t.ctx = s.ctx ∧
      ((v.extractLsb' 8 8 : Byte) = 0 → t.port.doorQueue = s.port.doorQueue ∧ t.evu = s.evu) ∧
      ((v.extractLsb' 8 8 : Byte) ≠ 0 → edged s t 0 ∧
        ((∀ e ∈ s.port.doorQueue, e.1 ≠ c) → t.port.doorQueue = s.port.doorQueue ++ [(c, v.extractLsb' 8 8)]) ∧
        ∀ l k r, s.port.doorQueue = l ++ (c, k) :: r → (∀ e ∈ l ++ r, e.1 ≠ c) → t.port.doorQueue = l ++ (c, k ||| v.extractLsb' 8 8) :: r)) ∧
    (∀ acc v (n : CtxId), committed s 60 acc = some (w, v) → c = 0 → fld v 24 6 = n.1 → ∃ t, exec (.doorbellWrite acc) s = .next t ∧ t.mem = s.mem ∧
      t.port.doorQueue = s.port.doorQueue ∧
      ((v.extractLsb' 16 8 : Byte) ≠ 0 → n ≠ 0 → attached s n = true → t.ctx = s.ctx.set n { s.ctx[n] with doorIn := s.ctx[n].doorIn ||| v.extractLsb' 16 8 } ∧
        t.evu.src[n.1] = s.evu.src[n.1].edge) ∧
      ((v.extractLsb' 16 8 : Byte) = 0 ∨ n = 0 ∨ attached s n = false → t.ctx = s.ctx ∧ t.evu = s.evu)) ∧
    (∀ acc, readWindow s acc = some w → ∃ t, exec (.doorbellRead acc) s = .next t ∧ t.mem = s.mem ∧
      (c ≠ 0 → shows t 60 acc (s.ctx[c].doorIn.setWidth 32) ∧ t.ctx = s.ctx.set c { s.ctx[c] with doorIn := 0 } ∧ t.port.doorQueue = s.port.doorQueue) ∧
      (c = 0 → t.ctx = s.ctx ∧ (s.port.doorQueue = [] → shows t 60 acc 0 ∧ t.port.doorQueue = []) ∧
        ∀ n k rest, s.port.doorQueue = (n, k) :: rest →
          shows t 60 acc (put k.toNat 0 8 ||| put n.1 8 6 ||| putB true 14) ∧ t.port.doorQueue = rest))

/-- HEARTBEAT and POWER_REQ wait in their shadows and act when the Drone domain takes them. After 05.13 Heartbeat, doorbell, generation, reset and lock, 05.10 Faults, power, temperature and clocks, 03.2 Crossings, 02.5 The picture outlives its hosts. -/
def Obligations.HeartbeatAndPowerRequestCrossToDrone : Prop :=
  (∀ (s : State) (acc : WriteAccess) (w : WinId) (v : Word), winCtx s w = some 0 → committed s 47 acc = some (w, v) →
    ∃ t, exec (.heartbeatWrite acc) s = .next t ∧ t.drone.hbDirty = true ∧ t.drone.fallbackShown = false ∧ t.drone.timeout = s.drone.timeout ∧
      (s.port.freeze = true → t.drone.hbTimeout = s.drone.hbTimeout ∧ t.drone.hbFallback = s.drone.hbFallback) ∧
      (s.port.freeze = false → t.drone.hbFallback = fld v 16 14 ∧
        t.drone.hbTimeout = (if fld v 0 16 = 0 then s.drone.hbTimeout else if 6000 < fld v 0 16 then 6000 else fld v 0 16))) ∧
  (∀ (s : State) (acc : WriteAccess) (w : WinId) (v : Word), winCtx s w = some 0 → committed s 45 acc = some (w, v) →
    ∃ t, exec (.powerReqWrite acc) s = .next t ∧ (4 ≤ fld v 0 3 → t.power = s.power) ∧
      (fld v 0 3 < 4 → t.power = { s.power with reqShadow := v &&& 0x0FFFFF7F, reqDirty := true })) ∧
  ∀ s : State,
    (s.drone.hbDirty = true → ∃ t, exec (.droneShadowTransfer .heartbeat) s = .next t ∧ t.drone.hbDirty = false ∧ t.drone.armed = true ∧
      t.drone.lapsed = false ∧ t.drone.second = false ∧ t.drone.timeout = s.drone.hbTimeout ∧ t.drone.fallback = s.drone.hbFallback) ∧
    (s.power.reqDirty = true → ∃ t, exec (.droneShadowTransfer .powerReq) s = .next t ∧ t.power.req = s.power.reqShadow ∧ t.power.reqDirty = false) ∧
    ∀ (i : TimerId) (k : Fin 4), droneTimer i = some k →
      (s.timerShadow.any (TimerWrite.concerns k) = false → exec (.droneShadowTransfer (.timer i)) s = .next s) ∧
      (∀ n : Word, s.timerShadow = [.reg k 0x60 n] → ∃ t, exec (.droneShadowTransfer (.timer i)) s = .next t ∧ t.timerShadow = [] ∧
        t.timer[i] = { s.timer[i] with count := n } ∧ ∀ j : TimerId, j ≠ i → t.timer[j] = s.timer[j]) ∧
      ∀ a b : BitVec 4, s.timerShadow = [.startStop a b] → (a ||| b).getLsbD k.1 = true → ∃ t, exec (.droneShadowTransfer (.timer i)) s = .next t ∧
        t.timerShadow = [] ∧ ∀ (j : TimerId) (m : Fin 4), droneTimer j = some m →
          ((b.getLsbD m.1 = true → t.timer[j].en = false) ∧ (b.getLsbD m.1 = false → a.getLsbD m.1 = true → t.timer[j].en = true) ∧
            ((a ||| b).getLsbD m.1 = false → t.timer[j] = s.timer[j]))

/-- NOP returns its argument and the caller's generation; an opcode that is not listed completes BAD_ARG for every role. After 06.4 Opcodes (Table 06-3), 06.1 Issue, queue and completion. -/
def Obligations.NopAndUnassignedOpcodesAnswer : Prop :=
  (∀ (s : State) (w : WinId) (c : CtxId) (a : Cmd), ready s w c = true →
    (∃ t, exec (.nop w a) s = .next t ∧ answered s t w a.tag .ok a.a0 ((genOf s c).setWidth 32) ∧ t.mem = s.mem ∧ t.ctx = s.ctx ∧
      t.port.deviceGen = s.port.deviceGen) ∧
    ∀ op : Byte, listedOpcode op.toNat = false →
      ∃ t, exec (.unassignedOpcode w op a) s = .next t ∧ answered s t w a.tag .badArg 0 0 ∧ t.mem = s.mem ∧ t.ctx = s.ctx ∧
        t.port.deviceGen = s.port.deviceGen) ∧
  ∀ (s : State) (w : WinId) (c : CtxId) (e : QEntry) (rest : List QEntry), portOpen s = true → s.boot.doneFlag = true →
    winCtx s w = some c → s.win[w].exec = none → s.win[w].queue = e :: rest → e.op = 0 →
    ∃ t, exec (.commandDispatch w) s = .next t ∧ t.win[w].exec = none ∧ t.win[w].queue = rest ∧
      t.win[w].done = s.win[w].done ++ [{ tag := e.cmd.tag, code := .ok, q0 := e.cmd.a0, q1 := (genOf s c).setWidth 32 }]

/-- A supervisor opcode issued in a tenant's window completes DENIED and changes nothing else. After 06.3 Checks before execution, 06.4 Opcodes (Table 06-3), 01.5 Who reaches what. -/
def Obligations.SupervisorCommandsAreDeniedToTenants : Prop :=
  ∀ (s : State) (w : WinId) (c : CtxId) (a : Cmd) (i : Instr), ready s w c = true → c ≠ 0 →
    i ∈ ([.attach w a, .bindWindow w a, .partitionSet w a, .territorySet w a, .headConfig w a, .headStart w a, .headStop w a,
      .panelPower w a, .epdUpdate w a, .epdClear w a, .segWrite w a, .selftest w a, .queueConfig w a, .policerConfig w a,
      .relayConfig w a, .relayStream w a, .relayIngest w a, .faultClear w a, .powerMode w a, .clockConfig w a, .phaseStep w a,
      .evtRoute w a] : List Instr) →
    ∃ t, exec i s = .next t ∧ answered s t w a.tag .denied 0 0 ∧ t.mem = s.mem ∧ t.ctx = s.ctx ∧ t.head = s.head ∧
      t.panel = s.panel ∧ t.syn = s.syn ∧ t.fetch = s.fetch ∧ t.power = s.power ∧ t.faults = s.faults ∧ t.epd = s.epd ∧ t.seg = s.seg ∧
      t.relay = s.relay ∧ t.timer = s.timer ∧ t.mon = s.mon ∧ t.port.csBound = s.port.csBound ∧ t.port.deviceGen = s.port.deviceGen

/-- ATTACH gives a context a new epoch and generation 1; DETACH advances the epoch, drops its commits and drains; the drain ends it. After 08.2 Attach and roles, 08.4 Detach and function-level reset, 08.1 Context states and the context record, 06.4 Opcodes (Table 06-3). -/
def Obligations.AttachAndDetachMoveTheEpoch : Prop :=
  (∀ (s : State) (w : WinId) (a : Cmd) (n : CtxId), ready s w 0 = true → n ≠ 0 → unclaimed s [.ctxSet n] = true → a.a1 = 0 → a.a2 = 0 → a.a3 = 0 →
    (a.a0 = BitVec.ofNat 32 n.1 → s.ctx[n].st = .unattached → s.ctx[n].guardA = false → s.ctx[n].guardB = false →
      ∃ t, exec (.attach w a) s = .next t ∧ answered s t w a.tag .ok 1 ((s.ctx[n].epoch + 1).setWidth 32) ∧ t.ctx[n].st = .shared ∧
        t.ctx[n].epoch = s.ctx[n].epoch + 1 ∧ t.ctx[n].gen = 1 ∧ t.ctx[n].partSize = 0 ∧ ∀ m : CtxId, m ≠ n → t.ctx[m] = s.ctx[m]) ∧
    (∀ ga gb : Bool, a.a0 = BitVec.ofNat 32 n.1 ||| putB true 16 ||| putB ga 17 ||| putB gb 18 → attached s n = true →
      (∀ m : CtxId, m ≠ n → s.ctx[m].guardA = false ∧ s.ctx[m].guardB = false) → anyLocked s = false →
      s.prot[0].orphaned = false → s.prot[1].orphaned = false →
      ∃ t, exec (.attach w a) s = .next t ∧ t.ctx[n].guardA = ga ∧ t.ctx[n].guardB = gb ∧ t.ctx[n].st = s.ctx[n].st ∧
        t.ctx[n].epoch = s.ctx[n].epoch ∧ t.win[w].exec = none) ∧
    (a.a0 = BitVec.ofNat 32 n.1 → attached s n = true → unclaimed s [.gate 0, .gate 1, .gate 2, .ctxSet n] = true →
      ∃ t, exec (.detach w a) s = .next t ∧ underway t w 0x02 a.tag .drain ∧ t.ctx[n].st = .detaching ∧ t.ctx[n].epoch = s.ctx[n].epoch + 1 ∧
        (∀ p ∈ t.commits, p.ctx ≠ n) ∧ (∀ k : Fin 3, t.port.csBound[k] ≠ some n) ∧ ∀ m : MonId, t.mon[m].bound ≠ some n)) ∧
  ∀ (s : State) (n : CtxId), s.ctx[n].st = .detaching → drained s n = true →
    ∃ t, exec (.detachDrainComplete n) s = .next t ∧ t.ctx[n].st = .unattached ∧ t.ctx[n].epoch = s.ctx[n].epoch ∧ t.ctx[n].partSize = 0

/-- BIND_WINDOW binds CS1 to CS3 with fresh window registers; naming CS0 is BAD_ARG and a locked chip select LOCKED. After 04.2 Windows and binding, 05.1 Scope, visibility and selectors. -/
def Obligations.BindWindowRebindsChipSelects : Prop :=
  (∀ k : Fin 3, State.reset.port.csBound[k] = none) ∧
  ∀ (s : State) (w : WinId) (a : Cmd) (n : CtxId), ready s w 0 = true → a.a1 = 0 → a.a2 = 0 → a.a3 = 0 →
    (a.a0 = put n.1 0 6 → ∃ t, exec (.bindWindow w a) s = .next t ∧ answered s t w a.tag .badArg 0 0 ∧ t.port.csBound = s.port.csBound) ∧
    (∀ k : Fin 3, a.a0 = put n.1 0 6 ||| put (k.1 + 1) 10 2 → (n = 0 ∨ attached s n = false) →
      ∃ t, exec (.bindWindow w a) s = .next t ∧ answered s t w a.tag .badArg 0 0 ∧ t.port.csBound = s.port.csBound) ∧
    (∀ (k : Fin 3) (u : Bool), a.a0 = put n.1 0 6 ||| put (k.1 + 1) 10 2 ||| putB u 16 → (u = true ∨ (n ≠ 0 ∧ attached s n = true)) →
      s.port.csLock.getLsbD k.1 = true →
      ∃ t, exec (.bindWindow w a) s = .next t ∧ answered s t w a.tag .locked 0 0 ∧ t.port.csBound = s.port.csBound) ∧
    (∀ (k : Fin 3) (u : Bool), a.a0 = put n.1 0 6 ||| put (k.1 + 1) 10 2 ||| putB u 16 → (u = true ∨ (n ≠ 0 ∧ attached s n = true)) →
      s.port.csLock.getLsbD k.1 = false → s.port.csBound[k] ≠ (if u then none else some n) → w.1 ≠ k.1 + 1 →
      ∃ t, exec (.bindWindow w a) s = .next t ∧ answered s t w a.tag .ok 0 0 ∧ t.port.csBound[k] = (if u then none else some n) ∧
        ∀ v : WinId, v.1 = k.1 + 1 → t.win[v] = { Window.reset with exec := t.win[v].exec })

/-- PARTITION_SET and TERRITORY_SET that pass their checks set exactly the extent and the entry named. After 08.6 Partitions, 08.8 Territories and z-slots, 06.4 Opcodes (Table 06-3). -/
def Obligations.PartitionAndTerritoryAreSet : Prop :=
  (∀ (s : State) (w : WinId) (a : Cmd) (n : CtxId) (base size : Nat), ready s w 0 = true → base < 0x40000 → size < 0x40000 →
    a.a0 = BitVec.ofNat 32 n.1 → a.a1 = BitVec.ofNat 32 base → a.a2 = BitVec.ofNat 32 size → a.a3 = 0 → unclaimed s [.ctxSet n] = true →
    partitionState (takenWith s w 0x05 a 0 [.ctxSet n]) n base size = none →
    ∃ t, exec (.partitionSet w a) s = .next t ∧ answered s t w a.tag .ok 0 0 ∧ t.ctx[n].partBase = base ∧ t.ctx[n].partSize = size ∧
      ∀ m : CtxId, m ≠ n → t.ctx[m] = s.ctx[m]) ∧
  ∀ (s : State) (w : WinId) (a : Cmd) (n : CtxId) (h : HeadId) (i : Fin 4), ready s w 0 = true → onlyBits a.a0 0x10F3F = true →
    onlyBits a.a3 0xFF = true → argCtx a.a0 = n → argHead a.a0 = some h → terrIndex a = i → unclaimed s [.gate h, .ctxSet n] = true →
    terrFails (takenWith s w 0x06 a 0 [.gate h, .ctxSet n]) n h i (argTerr a) = none →
    ∃ t, exec (.territorySet w a) s = .next t ∧ answered s t w a.tag .ok 0 0 ∧ t.ctx[n].terr[h][i] = argTerr a ∧
      (∀ j : Fin 4, j ≠ i → t.ctx[n].terr[h][j] = s.ctx[n].terr[h][j]) ∧ (∀ g : HeadId, g ≠ h → t.ctx[n].terr[g] = s.ctx[n].terr[g]) ∧
      ∀ m : CtxId, m ≠ n → t.ctx[m] = s.ctx[m]

/-- COPY_IN and COPY_OUT are DENIED in a host-bus window; through a function they start moving from the addresses named. After 08.7 PCIe functions, 01.6 Paths not provided, 06.4 Opcodes (Table 06-3). -/
def Obligations.CopiesGoThroughPcieOnly : Prop :=
  (∀ (s : State) (w : WinId) (c : CtxId) (a : Cmd), ready s w c = true → w.1 < 4 →
    (∃ t, exec (.copyIn w a) s = .next t ∧ answered s t w a.tag .denied 0 0 ∧ t.mem = s.mem ∧ t.fetch = s.fetch ∧
      ∀ f x n, Tlp.memRead f x n ∈ t.pcie.sent → Tlp.memRead f x n ∈ s.pcie.sent) ∧
    ∃ t, exec (.copyOut w a) s = .next t ∧ answered s t w a.tag .denied 0 0 ∧ t.mem = s.mem ∧ t.fetch = s.fetch) ∧
  ∀ (s : State) (w : WinId) (f : FnId) (a : Cmd) (n : Nat), ready s w f = true → w = fnWin f → s.pcie.fn[f].busMaster = true →
    s.power.trans = none → memAvail s = true → 0 < n → n < 0x1000000 → n % 4 = 0 → a.a0.toNat % 4 = 0 → a.a3 = BitVec.ofNat 32 n →
    inPart s f (woff a.a2) n = true →
    (∃ t k p, exec (.copyIn w a) s = .next t ∧ k = Nat.min n (Nat.min s.pcie.fn[f].maxRead (4096 - copyHost a % 4096)) ∧
      t.pcie.sent = s.pcie.sent ++ [.memRead f (copyHost a) k] ∧ underway t w 0x08 a.tag (.copy p) ∧ p.moved = 0 ∧ p.asked = k ∧
      p.toAsk = n - k ∧ p.total = n ∧ t.mem = s.mem) ∧
    ∃ t p, exec (.copyOut w a) s = .next t ∧ underway t w 0x09 a.tag (.copy p) ∧ p.moved = 0 ∧ p.total = n ∧ p.out = true ∧
      p.asked + p.toAsk = n ∧ t.mem = s.mem

/-- Function-level resets, VF Enable changes and bus master changes have their effect on functions and contexts. After 08.7 PCIe functions, 08.4 Detach and function-level reset, 02.5 The picture outlives its hosts, 25.4 The host while the device sleeps. -/
def Obligations.PcieFunctionsComeAndGo : Prop :=
  ∀ s : State,
    (∀ n : CtxId, vfExists s n = true → ∃ t, exec (.vfFunctionLevelReset n) s = .next t ∧ t.pcie.fn[n].busMaster = false ∧
      t.pcie.fn[n].msixEnable = false ∧ (attached s n = true → t.ctx[n].st = .detaching ∧ t.ctx[n].epoch = s.ctx[n].epoch + 1)) ∧
    (∀ k, s.pcie.vfEnable = true → ∃ t, exec (.vfEnableClear false k) s = .next t ∧ t.pcie.vfEnable = false ∧ ∀ n, vfExists t n = false) ∧
    (∀ ari k, k ≤ 63 → s.pcie.vfEnable = false → ∃ t, exec (.vfEnableSet ari k) s = .next t ∧ t.pcie.vfEnable = true ∧ t.pcie.numVfs = k ∧
      ∀ n : CtxId, 0 < n.1 → n.1 ≤ k → (ari = true ∨ n.1 ≤ 7) → vfExists t n = true) ∧
    (∃ t, exec .pfFunctionLevelReset s = .next t ∧ t.win[(4 : WinId)].queue = [] ∧ t.ctx = s.ctx ∧ t.pcie.fn[0].busMaster = false ∧
      t.pcie.vfEnable = s.pcie.vfEnable) ∧
    (∃ t, exec .pcieHotReset s = .next t ∧ t.pcie.vfEnable = false ∧ t.win[(4 : WinId)].queue = [] ∧ t.ctx[(0 : CtxId)].st = s.ctx[(0 : CtxId)].st) ∧
    (s.boot.straps.pcieEn = true → ∃ t, exec .pePerst s = .next t ∧ t.pcie.linkUp = false ∧ t.pcie.vfEnable = false) ∧
    (∀ f : FnId, ∃ t, exec (.busMasterEnableClear f) s = .next t ∧ t.pcie.fn[f].busMaster = false) ∧
    (∀ (w : WinId) (e : Exec) (p : Copy), s.win[w].exec = some e → e.phase = .copy p → e.discard = false → p.out = false → p.asked ≠ 0 →
      p.off = woff e.entry.cmd.a2 + p.moved →
      (∀ b : List Byte, b.length = p.asked → ∃ t, exec (.pcieCompletionReceived w (.data b)) s = .next t ∧ t.mem = s.mem ∧
        t.win[w].exec = some { e with phase := .copy { p with off := p.off + p.asked } }) ∧
      ∃ t, exec (.pcieCompletionReceived w .error) s = .next t ∧ t.win[w].exec = none ∧
        t.win[w].done = s.win[w].done ++ [{ tag := e.entry.cmd.tag, code := .incomplete, q0 := BitVec.ofNat 32 p.moved, q1 := 0 }]) ∧
    ∀ (f : FnId) (v : VectorId), ∃ t, exec (.msixVectorUnmask f v) s = .next t ∧ t.pcie.fn[f].msix[v].control.getLsbD 0 = false

/-- COMMIT, COMMIT_CHECK and SEAL that pass their first checks wait for the budget checker; nothing is applied before. After 12.1 Commit lists, 12.3 Checks and rejection reasons, 08.3 Sealing, 06.4 Opcodes (Table 06-3). -/
def Obligations.CommitIsReadThenWaitsForItsSlot : Prop :=
  ∀ (s : State) (w : WinId) (c : CtxId) (a : Cmd), ready s w c = true →
    (∀ n : Nat, s.power.trans = none → memAvail s = true → 1 ≤ n → n ≤ 64 → a.a0.toNat % 2 = 0 → a.a1 = BitVec.ofNat 32 n → a.a2 = 0 → a.a3 = 0 →
      inPart s c (woff a.a0) (8 * n) = true → badPart s c (woff a.a0) (8 * n) = false → listBad (rawList s c a) = false →
      (∀ e ∈ rawList s c a, e.clear = false → inPart s c (4 * e.desc) 64 = true ∧ badPart s c (4 * e.desc) 64 = false ∧
        byteAt (readPart s c (4 * e.desc) 64) 6 % 16 = e.slot) →
      (unclaimed s (needsCommit c a s) = true → ∃ t, exec (.commit w a) s = .next t ∧
        underway t w 0x10 a.tag (.budget { check := false, joint := false, fallback := false, listOff := woff a.a0, entries := n, list := (rawList s c a).map (readEntry s c), boot := none }) ∧
        t.mem = s.mem ∧ t.commits = s.commits ∧ t.slot = s.slot ∧ t.ctx = s.ctx) ∧
      (unclaimed s [.ctxSet c] = true → ∃ t, exec (.commitCheck w a) s = .next t ∧
        underway t w 0x12 a.tag (.budget { check := true, joint := false, fallback := false, listOff := woff a.a0, entries := n, list := (rawList s c a).map (readEntry s c), boot := none }) ∧
        t.mem = s.mem ∧ t.commits = s.commits ∧ t.slot = s.slot ∧ t.ctx = s.ctx)) ∧
    ∀ n : CtxId, n ≠ 0 → (c = 0 ∨ c = n) → a.a0 = BitVec.ofNat 32 n.1 → a.a1 = 0 → a.a2 = 0 → a.a3 = 0 → attached s n = true →
      unclaimed s [.ctxSet n] = true →
      ∃ t, exec (.seal w a) s = .next t ∧ underway t w 0x03 a.tag .budgetSeal ∧ t.ctx = s.ctx ∧ t.mem = s.mem ∧ t.commits = s.commits

/-- A budget-checker slot decides the oldest ready request of its context, or the oldest fallback commit for CTX_0. After 06.5 Resources, waits and ordering, 12.3 Checks and rejection reasons, 12.7 Cut-off, boundary and application, 08.3 Sealing, 07.6 Heartbeat lapse and the fallback commit set. -/
def Obligations.BudgetSlotDecidesTheOldestRequest : Prop :=
  ∀ (s : State) (c : CtxId), fabricOn s = true → s.port.budgetCtx = c →
    ((c ≠ 0 ∨ s.port.fallbackQueue = []) →
      (oldestReady s c = none → exec .budgetCheckerSlot s = .next { s with port := { s.port with budgetCtx := c + 1 } }) ∧
      ∀ (w : WinId) (e : Exec), oldestReady s c = some (w, e) → e.discard = false →
        (∀ (r : CommitReq) parts, e.phase = .budget r → decideCommit s c r = .accept parts →
          ∃ t, exec .budgetCheckerSlot s = .next t ∧ t.win[w].exec = none ∧ t.port.budgetCtx = c + 1 ∧
            (r.check = true → t.commits = s.commits ∧ t.ctx[c].commitId = s.ctx[c].commitId ∧
              t.win[w].done = s.win[w].done ++ [{ tag := e.entry.cmd.tag, code := .ok, q0 := 0, q1 := framesWord parts }]) ∧
            (r.check = false → t.ctx[c].commitId = (if s.ctx[c].commitId = 0xFFFF then 1 else s.ctx[c].commitId + 1) ∧
              t.win[w].done = s.win[w].done ++ [{ tag := e.entry.cmd.tag, code := .ok, q0 := put s.ctx[c].commitId.toNat 0 16, q1 := framesWord parts }])) ∧
        (∀ (r : CommitReq) (reason head line : Nat), e.phase = .budget r → decideCommit s c r = .reject reason head line →
          ∃ t q1, exec .budgetCheckerSlot s = .next t ∧ t.win[w].exec = none ∧ t.commits = s.commits ∧ t.ctx = s.ctx ∧
            t.win[w].done = s.win[w].done ++ [{ tag := e.entry.cmd.tag, code := .rejected, q0 := put reason 0 8 ||| put head 8 2, q1 := q1 }]) ∧
        (∀ n : CtxId, e.phase = .budgetSeal → argCtx e.entry.cmd.a0 = n → s.ctx[n].st = .shared →
          (crossOk s n (fun _ => []) (some n) (admTerr s) = true →
            ∃ t, exec .budgetCheckerSlot s = .next t ∧ t.ctx[n].st = .sealed ∧ t.win[w].exec = none ∧
              t.win[w].done = s.win[w].done ++ [{ tag := e.entry.cmd.tag, code := .ok, q0 := 0, q1 := 0 }]) ∧
          (crossOk s n (fun _ => []) (some n) (admTerr s) = false →
            ∃ t q1, exec .budgetCheckerSlot s = .next t ∧ t.ctx[n].st = .shared ∧ t.win[w].exec = none ∧
              t.win[w].done = s.win[w].done ++ [{ tag := e.entry.cmd.tag, code := .rejected, q0 := 0x04, q1 := q1 }]))) ∧
    ∀ (i : Nat) (r : CommitReq) (rest : List (Nat × CommitReq)) parts, c = 0 → s.port.fallbackQueue = (i, r) :: rest →
      decideCommit s 0 r = .accept parts →
      ∃ t, exec .budgetCheckerSlot s = .next t ∧ t.port.fallbackQueue = rest ∧ t.port.budgetCtx = 1 ∧
        t.ctx[(0 : CtxId)].commitId = (if s.ctx[(0 : CtxId)].commitId = 0xFFFF then 1 else s.ctx[(0 : CtxId)].commitId + 1)

/-- COMMIT_ABORT drops a pending commit, RELIEF_FLUSH dirties the caller's runs, a flattened tile is stored or UNUSABLE. After 06.4 Opcodes (Table 06-3), 13.6 RELIEF_FLUSH, 13.3 Flattening, 12.3 Checks and rejection reasons. -/
def Obligations.AbortFlushAndFlatten : Prop :=
  (∀ (s : State) (w : WinId) (c : CtxId) (a : Cmd) (id : Nat), ready s w c = true → id < 0x10000 → a.a0 = BitVec.ofNat 32 id → a.a1 = 0 → a.a2 = 0 → a.a3 = 0 →
    unclaimed s (needsCommitAbort c a s) = true →
    (∀ p, findCommit s c id = some p → p.parts.all (partBeforeCutOff s) = true →
      ∃ t, exec (.commitAbort w a) s = .next t ∧ answered s t w a.tag .ok 0 0 ∧ findCommit t c id = none ∧ t.mem = s.mem ∧ t.slot = s.slot ∧
        ∀ q ∈ s.commits, (q.ctx ≠ c ∨ q.id.toNat ≠ id) → q ∈ t.commits) ∧
    (findCommit s c id = none → ∃ t, exec (.commitAbort w a) s = .next t ∧ answered s t w a.tag .badArg 0 0 ∧ t.commits = s.commits)) ∧
  (∀ (s : State) (w : WinId) (c : CtxId) (a : Cmd) (h : ContHead) (both : Bool), ready s w c = true → a.a0 = put h.1 8 2 ||| putB both 16 →
    a.a1 = 0 → a.a2 = 0 → a.a3 = 0 → unclaimed s [.gate (headId 0), .gate (headId 1)] = true →
    ∃ t q, exec (.reliefFlush w a) s = .next t ∧ answered s t w a.tag .ok q 0 ∧ t.mem = s.mem ∧ t.slot = s.slot ∧
      ∀ k : ContHead, (both = true ∨ k = h) → ∀ r ∈ t.relief.runs[k], (c = 0 ∨ ∃ l ∈ memberLayers s k r.members, l.ctx = c) →
        r.settle = 0 ∧ ∀ x ∈ r.tiles, x.st = .dirty) ∧
  ∀ (s : State) (h : ContHead) (cfg : HeadCfg) (r : Run) (x : Tile), s.epd.composing = false → memAvail s = true → s.head[h].cfg = some cfg →
    nextTile s h = some (r, x) → tileBad s h cfg r.members x.tx x.ty = none →
    ((flattenTile s h cfg r.members x.tx x.ty).any (· = .mixed) = true →
      ∃ t, exec (.tileFlatten h) s = .next t ∧ t.mem = s.mem ∧ ∀ q ∈ t.relief.runs[h], q.members = r.members →
        ∀ y ∈ q.tiles, y.tx = x.tx → y.ty = x.ty → y.st = .unusable) ∧
    ∀ k : Nat, (flattenTile s h cfg r.members x.tx x.ty).any (· = .mixed) = false → freeSlot 170 (chipSlots s) = some k →
      ∃ t, exec (.tileFlatten h) s = .next t ∧ t.mem = s.mem ∧
        (k, (flattenTile s h cfg r.members x.tx x.ty).flatMap tilePxBytes) ∈ t.relief.chip ∧
        ∀ q ∈ t.relief.runs[h], q.members = r.members → ∀ y ∈ q.tiles, y.tx = x.tx → y.ty = x.ty → y.st = .chip k

/-- PROTECT_LOAD fills the shadow image, PROTECT_LOCK holds it apart and locks it, PROTECT_RELEASE empties the layer. After 14.3 Content and PROTECT_LOAD, 14.4 PROTECT_LOCK, 14.8 PROTECT_RELEASE, 14.1 States and ownership. -/
def Obligations.ProtectedContentIsLoadedLockedAndReleased : Prop :=
  (∀ (s : State) (w : WinId) (c : CtxId) (a : Cmd) (h : ContHead), ready s w c = true → c ≠ 0 → guards s c h = true →
    (∀ i : Image, s.power.trans = none → memAvail s = true → a.a0 = put h.1 8 2 → a.a2.toNat < 0x400000 → a.a3 = 0 →
      inPart s c (woff a.a1) a.a2.toNat = true → parseImage (readPart s c (woff a.a1) a.a2.toNat) = some i →
      badPart s c (woff a.a1) a.a2.toNat = false → s.prot[h].lock = none → heldUse s.prot[h] + i.use ≤ allotBytes s.prot[h] →
      ∃ t, exec (.protectLoad w a) s = .next t ∧ answered s t w a.tag .ok (BitVec.ofNat 32 i.use) 0 ∧ t.prot[h].shadow = some i ∧
        t.prot[h].live = s.prot[h].live ∧ t.mem = s.mem ∧ ∀ k : ContHead, k ≠ h → t.prot[k] = s.prot[k]) ∧
    (∀ (i : Image) (cfg : HeadCfg) (x y : Nat), s.head[h].cfg = some cfg → s.prot[h].shadow = some i → x + i.w ≤ cfg.hactive → y + i.h ≤ cfg.vactive →
      x < 65536 → y < 65536 → a.a0 = put h.1 8 2 → a.a1 = put x 0 16 ||| put y 16 16 → a.a2 = 0 → a.a3 = 0 → s.panel[h].run = none → s.power.trans = none →
      unclaimed s [.gate (headId h), .cal 3] = true → s.cal[(3 : CalId)].op = none →
      ∃ t, exec (.protectLock w a) s = .next t ∧ underway t w 0x19 a.tag (.lockExpected h) ∧ t.prot[h].live = s.prot[h].live ∧ t.prot[h].shadow = none ∧
        t.prot[h].lock = some { image := i, x := x, y := y, safe := false, floor := 0, expected := none, loaded := true } ∧ t.mem = s.mem) ∧
    (s.prot[h].live.isSome = true → a.a0 = put h.1 8 2 → a.a1 = 0 → a.a2 = 0 → a.a3 = 0 → unclaimed s [.gate (headId h)] = true →
      (boundaryOf s h = none → ∃ t, exec (.protectRelease w a) s = .next t ∧ answered s t w a.tag .ok 0 0 ∧ t.prot[h].live = none ∧
        t.port.deviceGen = s.port.deviceGen + 1) ∧
      ∀ f, boundaryOf s h = some f → ∃ t, exec (.protectRelease w a) s = .next t ∧ underway t w 0x1A a.tag (.releaseBoundary h f) ∧ t.prot = s.prot)) ∧
  ∀ (s : State) (w : WinId) (h : ContHead) (e : Exec) (l : LockReq) (cfg : HeadCfg), windowIn s (fun p => p = .lockExpected h) = some w →
    windowIn s (lockPhase h) = some w → s.win[w].exec = some e → e.discard = false → s.prot[h].lock = some l → s.head[h].cfg = some cfg →
    (boundaryOf s h = none → ∃ t, exec (.expectedValueComplete h) s = .next t ∧ t.prot[h].live = some l.image ∧ t.prot[h].x = l.x ∧ t.prot[h].y = l.y ∧
      t.prot[h].expected = BitVec.ofNat 64 (expectedValue cfg.live l.image l.x l.y) ∧ t.prot[h].guardian = some e.ctx ∧ t.win[w].exec = none ∧
      ∃ q, t.win[w].done = s.win[w].done ++ [{ tag := e.entry.cmd.tag, code := .ok, q0 := q, q1 := 0 }]) ∧
    ∀ f, boundaryOf s h = some f → ∃ t, exec (.expectedValueComplete h) s = .next t ∧ t.prot[h].live = s.prot[h].live ∧
      t.win[w].exec.map (fun x => x.phase) = some (.lockBoundary h f)

/-- When the tap has passed the rectangle a match changes no mark, a mismatch counts and arms safe frames. After 14.6 Verification, 05.10 Faults, power, temperature and clocks. -/
def Obligations.ProtectedCheckComparesWithTheExpectedValue : Prop :=
  ∀ (s : State) (h : ContHead) (i : Image), s.prot[h].live = some i → started s h = true → s.head[h].gated = false →
    s.prot[h].y + i.h ≤ s.head[h].line + 1 →
    (s.prot[h].checked = true → exec (.protectedCheck h) s = .next s) ∧
    (s.prot[h].checked = false →
    ∃ t, exec (.protectedCheck h) s = .next t ∧ t.prot[h].checked = true ∧ (∀ k : ContHead, k ≠ h → t.prot[k] = s.prot[k]) ∧ t.mem = s.mem ∧ t.cal[(3 : CalId)].value = BitVec.ofNat 64 (crcFin s.prot[h].acc.toNat) ∧
      (crcFin s.prot[h].acc.toNat = s.prot[h].expected.toNat → s.prot[h].badWords = [] → t.prot[h] = { s.prot[h] with checked := true } ∧ t.faults = s.faults ∧
        t.cal[(3 : CalId)].match_ = true) ∧
      (crcFin s.prot[h].acc.toNat ≠ s.prot[h].expected.toNat ∨ s.prot[h].badWords ≠ [] →
        t.prot[h].mismatch = satInc s.prot[h].mismatch ∧ t.faults.seen.mismatch = true ∧ (s.prot[h].safe = true → t.prot[h].safeNext = true) ∧
        t.cal[(3 : CalId)].match_ = false))

/-- SCAN and SELFTEST start an operation on a free unit; its end sets the results and answers the command. After 21.4 The scan descriptor, 21.7 Self-test, 21.8 Results and events, 05.11 Caliper window. -/
def Obligations.CaliperOperationsStartAndEnd : Prop :=
  (∀ (s : State) (w : WinId) (c : CtxId) (a : Cmd), ready s w c = true →
    (unclaimed s [.cal (scanUnit a)] = true → checkScan w c a (takenWith s w 0x30 a c [.cal (scanUnit a)]) = none →
      ∃ t r, exec (.scan w a) s = .next t ∧ underway t w 0x30 a.tag (.caliper (scanUnit a)) ∧ t.cal[scanUnit a].op = some r ∧ r.byWindow = some w ∧
        r.ctx = c ∧ r.op = CalOp.of s c (readPart s c (woff a.a1) 64) ∧ r.reg = (scanCrc (readPart s c (woff a.a1) 64)).init ∧ r.failed = false ∧
        t.mem = s.mem) ∧
    (c = 0 → a.a1 = 0 → a.a2 = 0 → a.a3 = 0 → (∀ r, (r, Holder.window w) ∉ s.port.held) →
      (∀ u : CalId, a.a0 = BitVec.ofNat 32 u.1 → unclaimed s [.cal u] = true → (u = 3 → cal3Reserved s = false) →
        ∃ t r, exec (.selftest w a) s = .next t ∧ underway t w 0x31 a.tag (.caliper u) ∧ t.cal[u].op = some r ∧ r.op = .selftest u.1 0 0 ∧ r.byWindow = some w) ∧
      ∀ (n : Nat) (u : CalId), a.a0 = BitVec.ofNat 32 n → 0x10 ≤ n → n ≤ 0x15 →
        (selftestPower s n = true → freeCal s = some u →
          ∃ t r, exec (.selftest w a) s = .next t ∧ underway t w 0x31 a.tag (.caliper u) ∧ t.cal[u].op = some r ∧ r.op = .selftest n 0 0 ∧ r.byWindow = some w) ∧
        (selftestPower s n = false → ∃ t, exec (.selftest w a) s = .next t ∧ answered s t w a.tag .noResource 0 0 ∧ t.cal = s.cal ∧ t.mem = s.mem))) ∧
  ∀ (s : State) (w : WinId) (u : CalId) (r : CalRun) (e : Exec), s.cal[u].op = some r → r.byWindow = some w → s.win[w].exec = some e → e.discard = false →
    (r.op ≠ .canvas →
      (r.failed = false → r.fed = true → ∃ t, exec (.caliperOperationEnd u) s = .next t ∧ t.cal[u].op = none ∧ t.cal[u].done = true ∧
        t.cal[u].value = r.result ∧ t.cal[u].match_ = decide (r.crc.expect = some r.result) ∧ t.win[w].exec = none ∧
        t.win[w].done = s.win[w].done ++ [{ tag := e.entry.cmd.tag, code := .ok, q0 := (r.words s.cal[u].yields .ok).1, q1 := (r.words s.cal[u].yields .ok).2 }]) ∧
      (r.failed = true → ∃ t, exec (.caliperOperationEnd u) s = .next t ∧ t.cal[u].op = none ∧ t.cal[u].value = 0 ∧ t.win[w].exec = none ∧
        t.win[w].done = s.win[w].done ++ [{ tag := e.entry.cmd.tag, code := .rejected, q0 := 0x41, q1 := 0 }])) ∧
    ∀ (n k : Nat) (f : Word) (x : ChunkResult), r.op = .selftest n k f →
      (k + 1 < selftestChunks n → s.drone.time.toNat < r.since + 10000 → calWanted s u = false → x.foreground = false →
        ∃ t, exec (.selftestChunk u x) s = .next t ∧ t.cal[u].op = some { r with op := .selftest n (k + 1) (addFailures n k f x.failures) } ∧ t.win = s.win) ∧
      (selftestChunks n ≤ k + 1 → ∃ t, exec (.selftestChunk u x) s = .next t ∧ t.cal[u].op = none ∧ t.cal[u].done = true ∧ t.win[w].exec = none ∧
        t.win[w].done = s.win[w].done ++ [{ tag := e.entry.cmd.tag, code := .ok, q0 := addFailures n k f x.failures, q1 := BitVec.ofNat 32 (Nat.min 65535 s.cal[u].yields) }] ∧
        (fabricOn s = true → addFailures n k f x.failures ≠ 0 → ∃ l, t.faults.entries.getLast? = some l ∧ l.code = 0x35 ∧ l.arg = addFailures n k f x.failures))

/-- A HEAD_CONFIG that passes takes the block: at once on a stopped head, at a boundary on a started one; for head E with its table. After 15.2 The head configuration block, 18.2 The head E configuration block, 06.4 Opcodes (Table 06-3). -/
def Obligations.HeadsAreConfigured : Prop :=
  ∀ (s : State) (w : WinId) (a : Cmd), ready s w 0 = true →
    (∀ h : ContHead, argCont a.a0 = some h → unclaimed s [.gate (headId h)] = true →
      checkHeadConfig w 0 a (takenWith s w 0x20 a 0 [.gate (headId h)]) = none →
      ∃ t link, exec (.headConfig w a) s = .next t ∧ answered s t w a.tag .ok (BitVec.ofNat 32 (synKHz s (headSyn h))) 0 ∧
        parseLink (readPart s 0 (woff a.a1) 64) = some link ∧ t.prot[h].allot = protUnits (readPart s 0 (woff a.a1) 64) ∧
        (started s h = false → t.head[h].cfg = some (readHead s (readPart s 0 (woff a.a1) 64) link none)) ∧
        (∀ f c, s.head[h].cfg = some c → boundaryOf s h = some f → t.head[h].cfg = some c ∧
          t.head[h].next =
            (s.head[h].next.filter fun p => p.2 ≠ f) ++ [((readHead s (readPart s 0 (woff a.a1) 64) link none).live, f)]) ∧
        ∀ k : ContHead, k ≠ h → t.head[k] = s.head[k]) ∧
    (a.a0 = put 2 8 2 → unclaimed s [.gate 2] = true → checkHeadConfig w 0 a (takenWith s w 0x20 a 0 [.gate 2]) = none →
      ∃ t, exec (.headConfig w a) s = .next t ∧ answered s t w a.tag .ok (BitVec.ofNat 32 (synKHz s 2)) 0 ∧
        t.epd.cfg = parseEpd (readPart s 0 (woff a.a1) 64) ∧ t.epd.cfg.isSome = true ∧ t.head = s.head)

/-- HEAD_START walks through clock, link and first boundary; HEAD_STOP ends at the frame's end; each form of a stopped or started head is answered. After 15.6 Starting and stopping, 15.4 eDP mode, 06.4 Opcodes (Table 06-3). -/
def Obligations.HeadsStartAndStop : Prop :=
  (∀ (s : State) (w : WinId) (a : Cmd) (h : ContHead), ready s w 0 = true → a.a0 = put h.1 8 2 → a.a1 = 0 → a.a2 = 0 → a.a3 = 0 →
    unclaimed s [.power, .syn (headSyn h), .gate (headId h)] = true →
    (s.head[h].cfg.isSome = true → s.syn[headSyn h].cfg.isSome = true →
      (s.head[h].run = .stopped → ∃ t, exec (.headStart w a) s = .next t ∧ underway t w 0x21 a.tag (.headStart h) ∧ pdOn (headPd h) t = true ∧
        t.head[h].run = .starting (if s.syn[headSyn h].out = .running then .pll else .synth) ∧ t.mem = s.mem ∧ ∀ k : ContHead, k ≠ h → t.head[k] = s.head[k]) ∧
      (s.head[h].run ≠ .stopped → ∃ t, exec (.headStart w a) s = .next t ∧ answered s t w a.tag .ok 0 0 ∧ t.head = s.head)) ∧
    (protLocked s h = false →
      (s.head[h].run = .stopped → ∃ t, exec (.headStop w a) s = .next t ∧ answered s t w a.tag .ok 0 0 ∧ t.head = s.head) ∧
      (s.head[h].run = .running → s.head[h].gated = false → ∃ t, exec (.headStop w a) s = .next t ∧ underway t w 0x22 a.tag (.headStop h) ∧
        t.head[h].run = .stopping ∧ t.head[h].line = s.head[h].line ∧ t.mem = s.mem))) ∧
  ∀ (s : State) (h : ContHead),
    (s.head[h].run = .starting .pll → s.head[h].pll = false → s.head[h].gated = false → ∃ t, exec (.linkPllLock h) s = .next t ∧ t.head[h].pll = true ∧
      (isEdp s h = true → t.head[h].run = .starting .hpd ∧ t.head[h].link = s.head[h].link) ∧
      (isEdp s h = false → t.head[h].run = .starting .firstBoundary ∧ t.head[h].link = true)) ∧
    (∀ r : TrainingEnd, s.head[h].run = .starting .hpd → ∃ t, exec (.linkTrainingEnd h r) s = .next t ∧ t.head[h].run = .starting .firstBoundary ∧
      t.head[h].link = (trainingOk r || s.head[h].link)) ∧
    (∀ r : TrainingEnd, s.head[h].run = .running → s.head[h].training = true → ∃ t, exec (.linkTrainingEnd h r) s = .next t ∧ t.head[h].run = .running ∧
      t.head[h].training = false ∧ t.head[h].link = (trainingOk r || s.head[h].link) ∧ t.mem = s.mem) ∧
    (s.head[h].run = .starting .hpd → ∃ t, exec (.hpdWaitTimeout h) s = .next t ∧ t.head[h].run = .starting .firstBoundary ∧ t.head[h].link = s.head[h].link) ∧
    (isEdp s h = true → s.head[h].run = .running →
      (∀ (us : Nat) (locked : Bool), (us < 250 → exec (.hpdPulse h us locked) s = .next s) ∧
        (s.head[h].link = true → (2000 < us ∨ (250 ≤ us ∧ locked = false)) → ∃ t, exec (.hpdPulse h us locked) s = .next t ∧ t.head[h].link = false ∧
          t.head[h].run = .running ∧ t.mem = s.mem)) ∧
      (s.head[h].link = false → (∃ t, exec (.linkRetrain ⟨h, true⟩) s = .next t ∧ t.head[h].training = true ∧ t.head[h].run = .running) ∧
        ∃ t, exec (.linkRetrain ⟨h, false⟩) s = .next t ∧ t.head[h].training = s.head[h].training ∧ t.head[h].edp.hpd = false ∧ t.head[h].run = .running))

/-- A frame boundary advances FRAME and applies every due part; a stopping head stops there; a starting head starts. After 12.7 Cut-off, boundary and application, 15.6 Starting and stopping, 15.3 The timing generator, 15.8 Genlock. -/
def Obligations.FramesBegin : Prop :=
  (∀ (s : State) (h : ContHead) (cfg : HeadCfg), s.head[h].cfg = some cfg →
    (s.head[h].run = .running → s.head[h].gated = false → cfg.vtotal ≤ s.head[h].line + 1 → stopsHere s h = false →
      ∃ t, exec (.frameBoundary h) s = .next t ∧ t.head[h].frame = s.head[h].frame + 1 ∧ t.head[h].line = 0 ∧ t.head[h].run = .running ∧
        ∀ p ∈ t.commits, ∀ x ∈ p.parts, x.head = headId h → ∀ f, x.boundary = some f → frameDue t.head[h].frame f = false) ∧
    (s.head[h].run = .stopping → s.head[h].gated = false → cfg.vtotal ≤ s.head[h].line + 1 →
      ∃ t, exec (.frameBoundary h) s = .next t ∧ t.head[h].run = .stopped ∧ t.head[h].link = false ∧ t.head[h].line = 0) ∧
    (firstReady s h = true → ∃ t, exec (.frameBoundary h) s = .next t ∧ t.head[h].run = .running ∧ t.head[h].line = 0 ∧
      t.head[h].frame = s.head[h].frame + 1)) ∧
  ∀ (s : State) (n : Nat), ∃ t, exec (.fsyncInEdge n) s = .next t ∧ t.mem = s.mem ∧ t.commits = s.commits ∧ ∀ h : ContHead,
    (glSource s h = .fsyncIn → s.head[h].run ≠ .stopped → t.head[h].gl.lastRef = some (n : Int) ∧ t.head[h].gl.refs = s.head[h].gl.refs + 1) ∧
    (glSource s h ≠ .fsyncIn ∨ s.head[h].run = .stopped → t.head[h] = s.head[h])

/-- LINE_COMPOSED stores the next line, SHED sheds a layer, LINE_START scans; a missing line is an underrun. After 12.9 Line lead and shedding, 15.7 Writeback, 11.1 Slots, the descriptor pool and live data. -/
def Obligations.LinesAreComposedAndScanned : Prop :=
  ∀ (s : State) (h : ContHead) (cfg : HeadCfg), s.head[h].cfg = some cfg →
   (filling s h = true → s.comp[h].opening ≠ some (openingOf s h cfg) → ∃ t, exec (.lineComposed h) s = .next t ∧ t.mem = s.mem ∧
      t.comp[h].opening = some (openingOf s h cfg) ∧ t.comp[h].store = []) ∧
   (scanning s h = true →
    (leadOf s h cfg ≤ 3 → awaited s h cfg = [] → ∃ t, exec (.lineComposed h) s = .next t ∧ t.mem = s.mem ∧
      t.comp[h].store = s.comp[h].store ++ [composeLine s h cfg s.comp[h].nextLine (nextWraps s h cfg)] ∧
      t.comp[h].nextLine = (if s.comp[h].nextLine + 1 < cfg.vactive then s.comp[h].nextLine + 1 else 0)) ∧
    (awaited s h cfg ≠ [] → exec (.lineComposed h) s = .next s) ∧
    (awaited s h cfg = [] → exec (.shed h) s = .next s) ∧
    (∀ z, leadOf s h cfg ≤ 2 → awaited s h cfg ≠ [] → shedChoice s h cfg = some z →
      ∃ t, exec (.shed h) s = .next t ∧ z ∈ shedOf t h (nextWraps s h cfg) ∧ t.faults.seen.shed = true ∧ t.mem = s.mem) ∧
    (s.head[h].line + 1 < cfg.vtotal → ∃ t, exec (.lineStart h) s = .next t ∧ t.head[h].line = s.head[h].line + 1 ∧ t.head[h].frame = s.head[h].frame ∧
      (s.head[h].line + 1 < cfg.vactive →
        ((∀ e ∈ s.comp[h].store, e.line ≠ s.head[h].line + 1) → t.comp[h].underrun = satInc s.comp[h].underrun) ∧
        ((∃ e ∈ s.comp[h].store, e.line = s.head[h].line + 1) → t.comp[h].underrun = s.comp[h].underrun))) ∧
    (s.head[h].line = cfg.vactive → ∃ t, exec (.verticalBlank h) s = .next t ∧
      t.head[h] = { s.head[h] with edp := t.head[h].edp } ∧ (s.head[h].edp.stream = false → t.head = s.head) ∧
      (∀ k : ContHead, k ≠ h → t.head[k] = s.head[k]) ∧ t.mem = s.mem ∧
      ∀ n : SourceId, n.1 = 129 + 16 * h.1 → fabricOn s = true → t.evu.src[n].pending = true) ∧
    ∀ k : Fin 2, s.head[h].wb.writing = some k →
      (∃ t, exec (.writebackAbandon h) s = .next t ∧ t.head[h].wb.writing = none ∧ t.comp[h].wbDrop = satInc s.comp[h].wbDrop) ∧
      (cfg.vactive ≤ s.head[h].wb.rows → ∃ t, exec (.writebackFrameComplete h) s = .next t ∧ t.head[h].wb.writing = none ∧ t.head[h].wb.last = some k))

/-- PANEL_POWER starts the sequence the panel state calls for; its steps drive pins, wait and end the command. After 16.3 Panel states, 16.2 The sequence table, 16.7 Failure and reversal. -/
def Obligations.PanelPowerRunsItsSequences : Prop :=
  (∀ (s : State) (w : WinId) (a : Cmd) (h : ContHead) (tb : PanelTable), ready s w 0 = true → argCont a.a0 = some h → unclaimed s [.power] = true →
    checkPanelPower w 0 a (takenWith s w 0x23 a 0 [.power]) = none → panelTable s h a = some tb →
    ((a.a0.getLsbD 16 = true ∧ (s.panel[h].st = .powered ∨ s.panel[h].st = .on) ∨ a.a0.getLsbD 16 = false ∧ s.panel[h].st = .off) →
      ∃ t, exec (.panelPower w a) s = .next t ∧ answered s t w a.tag .ok 0 0 ∧ t.panel = s.panel) ∧
    (a.a0.getLsbD 16 = true → s.panel[h].st = .off → started s h = false → (∃ x rest, tb.on = x :: rest ∧ x.op = .assert ∧ x.target = 0) →
      ∃ t r, exec (.panelPower w a) s = .next t ∧ underway t w 0x23 a.tag (.panel h) ∧ pdOn (headPd h) t = true ∧ t.panel[h].table = some tb ∧
        t.panel[h].run = some r ∧ r.byWindow = some w ∧ r.wait = .delay ∧ t.panel[h].vddEn = drive tb.polVdd true ∧ t.mem = s.mem)) ∧
  ∀ (s : State) (h : ContHead) (r : PanelRun) (tb : PanelTable), s.panel[h].run = some r → s.panel[h].table = some tb →
    (∀ (x : SeqStep) rest, r.wait = .delay → r.steps = x :: rest →
      (x.op = .assert → ∃ t, exec (.panelSequenceStep h) s = .next t ∧
        t.panel[h].run = some { r with steps := rest, stepNo := r.stepNo + 1, wait := .delay, asserted := x.target :: r.asserted } ∧
        (x.target = 0 → t.panel[h].vddEn = drive tb.polVdd true) ∧ (x.target = 1 → t.panel[h].blEn = drive tb.polBl true) ∧
        ∀ p : PinId, x.target = 16 + p.1 → t.pins.gpio[p] = .high) ∧
      (x.op = .waitPin → ∃ t, exec (.panelSequenceStep h) s = .next t ∧
        t.panel[h].run = some { r with steps := rest, stepNo := r.stepNo + 1, wait := .pin })) ∧
    (∀ (w : WinId) (e : Exec), r.byWindow = some w → s.win[w].exec = some e → e.discard = false →
      (r.wait = .delay → r.steps = [] → ∃ t, exec (.panelSequenceStep h) s = .next t ∧ t.panel[h].run = none ∧ t.panel[h].st = r.final ∧
        t.win[w].exec = none ∧ t.win[w].done = s.win[w].done ++ [{ tag := e.entry.cmd.tag, code := .ok, q0 := 0, q1 := 0 }]) ∧
      (r.wait = .pin → ∃ t, exec (.waitPinTimeout h) s = .next t ∧ t.panel[h].run = none ∧ t.panel[h].st = (if r.powerOff then .discharged else .off) ∧
        t.win[w].exec = none ∧ t.win[w].done = s.win[w].done ++ [{ tag := e.entry.cmd.tag, code := .timeout, q0 := 0, q1 := 0 }])) ∧
    (r.wait = .pin → ∃ t, exec (.waitPinLevel h) s = .next t ∧ t.panel[h].run = some { r with wait := .delay } ∧ t.panel[h].st = s.panel[h].st ∧ t.win = s.win)

/-- CLOCK_CONFIG loads a synthesizer and waits for lock; lock starts the output; a loss gates it; PHASE_STEP steps it. After 17.4 CLOCK_CONFIG, 17.5 Start, stop and gating, 17.6 Phase steps, 17.2 The Bore and its lock. -/
def Obligations.SynthesizersLockAndLose : Prop :=
  (∀ (s : State) (w : WinId) (a : Cmd) (y : SynId), ready s w 0 = true → argSyn a = some y → unclaimed s [.syn y] = true →
    (checkClockConfig w 0 a (takenWith s w 0x68 a 0 [.syn y]) = none → ∃ t, exec (.clockConfig w a) s = .next t ∧ underway t w 0x68 a.tag (.clockLock y) ∧
      t.syn[y].cfg = some (argSynCfg a) ∧ t.syn[y].bore = .locking ∧ t.syn[y].out = .off ∧ t.syn[y].net = 0 ∧ t.mem = s.mem ∧
      ∀ z : SynId, z ≠ y → t.syn[z] = s.syn[z]) ∧
    (checkPhaseStep w 0 a (takenWith s w 0x69 a 0 [.syn y]) = none → ∃ t, exec (.phaseStep w a) s = .next t ∧ underway t w 0x69 a.tag (.phaseSteps y) ∧
      t.syn[y].steps = argSteps a ∧ t.syn[y].out = .running ∧ t.syn[y].net = s.syn[y].net)) ∧
  ∀ (s : State) (y : SynId),
    (∀ (w : WinId) (k : SynCfg), windowIn s (fun p => p = .clockLock y) = some w → s.syn[y].cfg = some k → s.syn[y].bore = .locking →
      s.drone.pllLock = true → fabricOn s = true →
      ∃ t, exec (.boreLock y) s = .next t ∧ t.syn[y].bore = .locked ∧ t.syn[y].out = .running ∧ t.win[w].exec = none) ∧
    (∀ ref : Bool, s.syn[y].bore = .locked → fabricOn s = true → ∃ t, exec (.synLoss y ref) s = .next t ∧ t.syn[y].bore = .locking ∧ t.syn[y].lost = true ∧
      t.syn[y].out = (if s.syn[y].out = .running then .gated else s.syn[y].out)) ∧
    ∀ (w : WinId) (e : Exec), windowIn s (fun p => p = .phaseSteps y) = some w → s.win[w].exec = some e → e.discard = false →
      ∃ t, exec (.lastPhaseStepTaken y) s = .next t ∧ t.syn[y].steps = 0 ∧ t.syn[y].net = s.syn[y].net + BitVec.ofInt 16 s.syn[y].steps ∧
        t.win[w].exec = none ∧ t.win[w].done = s.win[w].done ++ [{ tag := e.entry.cmd.tag, code := .ok, q0 := BitVec.ofNat 32 s.syn[y].steps.natAbs, q1 := 0 }]

/-- EPD_UPDATE scans the canvas or waits for its composition, EPD_CLEAR samples at once; composition writes the canvas only. After 18.7 EPD_UPDATE, 18.9 EPD_CLEAR, 18.3 The canvas, 18.8 The ledger between updates. -/
def Obligations.BistableUpdatesStart : Prop :=
  (∀ (s : State) (w : WinId) (a : Cmd), ready s w 0 = true → unclaimed s [.power, .syn 2] = true → (∀ r, (r, Holder.window w) ∉ s.port.held) →
    (∀ u : CalId, freeCal s = some u → checkEpdUpdate w 0 a (takenWith s w 0x28 a 0 [.power, .syn 2]) = none →
      ∃ t r, exec (.epdUpdate w a) s = .next t ∧ underway t w 0x28 a.tag .epd ∧ pdOn .epd t = true ∧ t.epd.run = some r ∧ r.byWindow = w ∧
        r.clear = false ∧ r.cal = some u ∧ r.step = (if s.epd.composing then .composeWait else .canvasScan) ∧ t.mem = s.mem) ∧
    (checkEpdClear w 0 a (takenWith s w 0x29 a 0 [.power, .syn 2]) = none →
      ∃ t r, exec (.epdClear w a) s = .next t ∧ underway t w 0x29 a.tag .epd ∧ pdOn .epd t = true ∧ t.epd.run = some r ∧ r.byWindow = w ∧
        r.clear = true ∧ r.step = .sample ∧ t.epd.composing = false ∧ t.mem = s.mem)) ∧
  ∀ (s : State) (c : EpdCfg), s.epd.cfg = some c → memAvail s = true →
    (s.epd.composing = true → ∃ t, exec .canvasComposed s = .next t ∧ t.epd.composing = false ∧ t.epd.check.isSome = true ∧
      sameBytesOutside s t (canvasBase s) c.bytes ∧
      ∀ (r : EpdRun) (u : CalId), s.epd.run = some r → r.step = .composeWait → r.cal = some u → t.epd.run = some { r with step := .canvasScan }) ∧
    (s.epd.run = none → (s.power.mode = .run ∨ s.power.mode = .dim) → (∀ k, k < c.blocks → blockFails s c k = false) →
      ∃ t, exec .ledgerCheck s = .next t ∧ t.mem = s.mem ∧ t.epd = s.epd)

/-- Sample, rails, phases and rows of a bistable drive follow each other; a rail that fails powers the rails down. After 18.6 Rails, 18.7 EPD_UPDATE, 18.5 Source and gate timing, 19.6 The shared ADC. -/
def Obligations.BistableDriveRunsItsSteps : Prop :=
  ∀ (s : State) (r : EpdRun) (c : EpdCfg), s.epd.run = some r → s.epd.cfg = some c →
    (∀ v : BitVec 12, r.step = .sample → s.adc.hold = none → s.memc.badWords = [] → ∃ t q, exec (.bistableTemperatureSample v) s = .next t ∧
      t.epd.rails = .rising 0 ∧ t.epd.run = some q ∧ q.step = .railsUp ∧ q.band = wfBand (waveTable s) (sampleValue c.tempTherm v) ∧ q.byWindow = r.byWindow) ∧
    (∀ k : RailId, s.epd.rails = .rising k →
      (∀ j : RailId, j.1 = k.1 + 1 → exec (.railPowerGood k) s = .next { s with epd := { s.epd with rails := .rising j } }) ∧
      (k = 4 → ∃ t q, exec (.railPowerGood k) s = .next t ∧ t.epd.rails = .up ∧ t.epd.railsShown = true ∧ t.adc.hold = none ∧ t.epd.run = some q ∧
        q.step = .drive ∧ q.phase = 0 ∧ q.row = 0 ∧ q.p = wfPhases (waveTable s) r.mode.1 r.band) ∧
      ∃ t q, exec (.railPgTimeout k) s = .next t ∧ t.epd.rails = .falling ∧ t.epd.run = some q ∧ q.step = .railsDown ∧ q.outcome = .timeout ∧ t.mem = s.mem) ∧
    (∀ k : RailId, s.epd.rails = .up → r.step = .drive → ∃ t q, exec (.railFault k) s = .next t ∧ t.epd.rails = .falling ∧ t.epd.run = some q ∧
      q.step = .railsDown ∧ q.outcome = .aborted ∧ q.q0 = r.phase) ∧
    (r.step = .drive → pclkE s = true →
      (r.phase < r.b + r.p → (r.phase = 0 ∨ c.height ≤ r.row) → exec .epdPhaseStart s = .next (setRun { r with phase := r.phase + 1, row := 0, began := s.drone.time.toNat } s)) ∧
      (r.phase ≠ 0 → r.row < c.height → s.memc.badWords = [] →
        ((r.row + 1 < c.height ∨ r.phase < r.b + r.p) → ∃ t o, exec .epdRowPeriod s = .next t ∧ t.epd.run = some { r with row := r.row + 1 } ∧ t.mem = s.mem ∧
          t.epd.lastRow = some o ∧ o.row = r.row ∧ o.words = rowWords r s c) ∧
        (c.height ≤ r.row + 1 → r.b + r.p ≤ r.phase → r.stuck = [] → ∃ t q, exec .epdRowPeriod s = .next t ∧ t.epd.rails = .falling ∧ t.epd.run = some q ∧
          q.step = .railsDown ∧ q.outcome = .ok ∧ q.q0 = r.b + r.p))) ∧
    ∀ e : Exec, s.epd.rails = .falling → s.win[r.byWindow].exec = some e → e.discard = false → r.outcome ≠ .rejected →
      ∃ t, exec .railsDown s = .next t ∧ t.epd.rails = .down ∧ t.epd.railsShown = false ∧ t.epd.run = none ∧ pdOn .epd t = false ∧ t.win[r.byWindow].exec = none ∧
        t.win[r.byWindow].done = s.win[r.byWindow].done ++ [{ tag := e.entry.cmd.tag, code := r.outcome, q0 := BitVec.ofNat 32 r.q0, q1 := 0 }]

/-- SEG_WRITE fills the inactive half; frame starts swap it in; VLCD, phases, contrast and temperature samples move the driver. After 19.4 Segment RAM and SEG_WRITE, 19.3 Drive, 19.5 VLCD and temperature compensation, 19.7 Start, stop, reset and power modes, 19.6 The shared ADC. -/
def Obligations.SegmentDriverAndAdc : Prop :=
  (∀ (s : State) (w : WinId) (a : Cmd), ready s w 0 = true → checkSegWrite w 0 a (taken s w 0x2C a 0) = none →
    ∃ t, exec (.segWrite w a) s = .next t ∧ answered s t w a.tag .ok (if segRuns s then s.seg.frame + 1 else 0xFFFFFFFF) 0 ∧ t.mem = s.mem ∧
      t.seg = s.seg.store (segBytes s a).1 (segBytes s a).2 ∧ t.seg.pending = true ∧ t.seg.active = s.seg.active) ∧
  ∀ s : State,
    (s.seg.run = .running → s.seg.cfg.mux ≤ s.seg.com → ∃ t, exec .segmentFrameStart s = .next t ∧ t.seg.com = 0 ∧ t.seg.negative = false ∧ t.seg.pending = false ∧
      t.seg.active1 = (s.seg.active1 != s.seg.pending) ∧ (s.seg.counted = true → t.seg.frame = s.seg.frame + 1)) ∧
    (segRuns s = true → s.seg.com < s.seg.cfg.mux → exec .negativePhaseStart s = .next { s with seg := { s.seg with negative := true } }) ∧
    (s.seg.negative = true → s.seg.run = .running → ∃ t, exec .commonPeriodEnd s = .next t ∧ t.seg.com = s.seg.com + 1 ∧ t.seg.negative = false ∧
      t.seg.target = s.seg.targetNext.getD s.seg.target ∧ t.seg.run = .running) ∧
    (s.seg.negative = true → s.seg.run = .stopping false → s.seg.next = none → ∃ t, exec .commonPeriodEnd s = .next t ∧ t.seg.run = .stopped ∧ t.seg.pump = false) ∧
    (s.seg.run = .starting → (s.seg.cfg.en = true → s.seg.next = none → ∃ t, exec .vlcdReached s = .next t ∧ t.seg.run = .running ∧ t.seg.com = 0 ∧ t.seg.frame = 0) ∧
      ∀ mv, ∃ t, exec (.vlcdStartTimeout mv) s = .next t ∧ t.seg.run = .stopped ∧ t.seg.pump = false ∧ t.mem = s.mem) ∧
    (∀ mv, segRuns s = true → s.adc.hold = none → bistableAsks s = false → ∃ t, exec (.contrastSample mv) s = .next t ∧ t.seg.targetNext = some (vlcdTarget s) ∧
      t.seg.run = s.seg.run ∧ (vlcdOk s.seg.target mv = true → t.seg.outCount = 0) ∧ (vlcdOk s.seg.target mv = false → t.seg.outCount = s.seg.outCount + 1) ∧
      (vlcdOk s.seg.target mv = false → 1 ≤ s.seg.outCount → t.seg.fault = true)) ∧
    (segRuns s = true → bistableAsks s = true → (s.adc.contrastLate = false → ∃ t, exec (.adcRequestLate .contrast) s = .next t ∧ t.adc.contrastLate = true ∧ t.adc.hold = s.adc.hold) ∧
      (s.adc.contrastLate = true → exec (.adcRequestLate .contrast) s = .next s)) ∧
    ∀ (die : HalfWord) (therm : BitVec 12), ∃ t, exec (.tempRefresh die therm) s = .next t ∧ t.power.die = die ∧ t.power.therm = therm ∧
      t.power.thermValid = decide (therm ≠ 0 ∧ therm ≠ 4095) ∧ t.mem = s.mem ∧
      (115 * 16 < die.toInt → s.faults.thermArmed = true → fabricOn s = true → t.faults.thermArmed = false ∧ ∃ l, t.faults.entries.getLast? = some l ∧ l.code = 0x08)

/-- RELAY_CONFIG, RELAY_STREAM and RELAY_INGEST take their blocks; PHY_POLL follows the link. After 20.1 Attachment and the port block, 20.2 Link, 20.4 Relay streams, 20.6 Ingest. -/
def Obligations.RelayPortIsConfigured : Prop :=
  (∀ (s : State) (w : WinId) (a : Cmd), ready s w 0 = true →
    (∀ k, unclaimed s [.power] = true → checkRelayConfig w 0 a (takenWith s w 0x40 a 0 [.power]) = none → parsePort (readPart s 0 (woff a.a1) 32) = some k →
      ∃ t, exec (.relayConfig w a) s = .next t ∧ answered s t w a.tag .ok 0 0 ∧ t.relay.cfg = some k ∧ (k.en = true → pdOn .link t = true) ∧
        (s.relay.cfg = none → t.relay.up = false) ∧ t.mem = s.mem) ∧
    (checkRelayStream w 0 a (taken s w 0x41 a 0) = none → ∃ t, exec (.relayStream w a) s = .next t ∧ answered s t w a.tag .ok 0 0 ∧ t.mem = s.mem ∧
      (∀ j, j ≠ argStream a → t.relay.stream[j] = s.relay.stream[j]) ∧
      (a.a0.getLsbD 16 = false → t.relay.stream[argStream a].enabled = false ∧ t.relay.stream[argStream a].sending = none) ∧
      (a.a0.getLsbD 16 = true → t.relay.stream[argStream a].enabled = true ∧ t.relay.stream[argStream a].cfg = parseStream (readPart s 0 (woff a.a1) 32) ∧
        (s.relay.stream[argStream a].enabled = false → t.relay.stream[argStream a].seq = 0 ∧ t.relay.stream[argStream a].session ≠ s.relay.stream[argStream a].session) ∧
        (s.relay.stream[argStream a].enabled = true → t.relay.stream[argStream a].seq = s.relay.stream[argStream a].seq ∧
          t.relay.stream[argStream a].session = s.relay.stream[argStream a].session))) ∧
    (checkRelayIngest w 0 a (taken s w 0x42 a 0) = none → (∀ (u : CalId) (r : CalRun), s.cal[u].op = some r → r.op ≠ .ingest (argIngest a)) →
      ∃ t, exec (.relayIngest w a) s = .next t ∧ answered s t w a.tag .ok 0 0 ∧ t.mem = s.mem ∧
        (∀ j, j ≠ argIngest a → t.relay.ingest[j] = s.relay.ingest[j]) ∧
        t.relay.ingest[argIngest a].enabled = a.a0.getLsbD 16 ∧ t.relay.ingest[argIngest a].ready = none ∧ t.relay.ingest[argIngest a].live = false ∧
        (a.a0.getLsbD 16 = true → t.relay.ingest[argIngest a].cfg = parseIngest (readPart s 0 (woff a.a1) 32)))) ∧
  ∀ (s : State) (r : PhyStatus), (portEnabled s = false → exec (.phyPoll r) s = .next s) ∧
    (portEnabled s = true → pdOn .link s = true →
      (r.up = true → r.fullDuplex = true → ∃ t, exec (.phyPoll r) s = .next t ∧ t.relay = { s.relay with up := true, speed := r.speed } ∧ t.mem = s.mem) ∧
      (r.up = false → ∃ t, exec (.phyPoll r) s = .next t ∧ t.relay.up = false ∧ t.relay.duplexFault = false ∧ t.mem = s.mem) ∧
      (r.up = true → r.fullDuplex = false → ∃ t, exec (.phyPoll r) s = .next t ∧ t.relay.up = false ∧ t.relay.duplexFault = true ∧
        (s.relay.duplexFault = false → fabricOn s = true → ∃ l, t.faults.entries.getLast? = some l ∧ l.code = 0x25)))

/-- An egress grant releases one slice; a received slice is written to the filling buffer, counted lost, or dropped; a silent stream goes stale. After 20.3 Egress queues, 20.7 Relay layers, 20.6 Ingest. -/
def Obligations.RelayCarriesFrames : Prop :=
  (∀ (s : State) (c : RelayCfg), s.relay.up = true → pdOn .link s = true → s.relay.cfg = some c →
    (bestEgress s .committed = none → bestEgress s .excess = none → exec .egressFrameRelease s = .next s) ∧
    (∀ (i : StreamId) (tag : Nat) (cls : ReqClass) (x : Slice) (l : List Slice), s.relay.egress[i].frames = x :: l →
      ((cls = .committed ∧ bestEgress s .committed = some (i, tag)) ∨ (cls = .excess ∧ bestEgress s .committed = none ∧ bestEgress s .excess = some (i, tag))) →
      ∃ t, exec .egressFrameRelease s = .next t ∧ t.relay.etx = s.relay.etx ++ [wireFrame c x (Config.txOffset s.free)] ∧
        t.relay.egress[i].tp = s.relay.egress[i].tp - sliceLen s x * 256 ∧ t.mem = s.mem ∧ (∀ j, j ≠ i → t.relay.egress[j] = s.relay.egress[j]) ∧
        (x.last = true → t.relay.stream[i].sending = none ∧ t.relay.stream[i].sent = s.relay.stream[i].sent + 1)) ∧
    (c.en = true → ∀ f : RxFrame,
      (f.queueFull = true → ∃ t, exec (.ethernetFrameReceived f) s = .next t ∧ t.relay = { s.relay with rxDrop := true, rxDropCount := s.relay.rxDropCount + 1 } ∧
        (fabricOn s = true → edged s t 271) ∧ t.mem = s.mem) ∧
      (f.queueFull = false → f.fcsOk = false → exec (.ethernetFrameReceived f) s = .next s) ∧
      ∀ (body : List Byte) (g : IngestId) (k : IngestCfg) (x : RxSlice), f.queueFull = false → f.fcsOk = true → frameBody c f.bytes = some body →
        x = readSlice f.bytes body → ingestOf s x = some (g, k) →
        (x.valid k = false → ∃ t, exec (.ethernetFrameReceived f) s = .next t ∧ t.relay.ingest[g].lost = s.relay.ingest[g].lost + 1 ∧ t.mem = s.mem) ∧
        (x.valid k = true → memAvail s = true → s.relay.ingest[g].session = some x.session →
          (∀ b l, x.seq = s.relay.ingest[g].expect → x.first = false → x.last = false → s.relay.ingest[g].filling = true → s.relay.ingest[g].curFrame = x.frame →
            s.relay.ingest[g].buf = some b → x.pixels = some l → ∃ t, exec (.ethernetFrameReceived f) s = .next t ∧
              t.relay.ingest[g].expect = x.seq + 1 ∧ t.relay.ingest[g].lost = s.relay.ingest[g].lost ∧
              (Memory.wf s.mem = true → readMem t.mem (ingestBase s k b + x.line * roundUp (4 * k.w) 32 + 4 * x.x) (l.flatMap fun p => p ++ [0]).length = (l.flatMap fun p => p ++ [0])) ∧
              sameBytesOutside s t (ingestBase s k b + x.line * roundUp (4 * k.w) 32 + 4 * x.x) (l.flatMap fun p => p ++ [0]).length) ∧
          (x.seq ≠ s.relay.ingest[g].expect → (x.seq - s.relay.ingest[g].expect).toNat < 0x80000000 → ∃ t, exec (.ethernetFrameReceived f) s = .next t ∧
            t.relay.ingest[g].lost = s.relay.ingest[g].lost + (x.seq - s.relay.ingest[g].expect) ∧ t.relay.ingest[g].expect = x.seq + 1) ∧
          (0x80000000 ≤ (x.seq - s.relay.ingest[g].expect).toNat → ∃ t, exec (.ethernetFrameReceived f) s = .next t ∧ t.relay = s.relay ∧ t.mem = s.mem)))) ∧
  ∀ (s : State) (g : IngestId),
    (s.relay.ingest[g].enabled = true → s.relay.ingest[g].stale = false → ∃ t, exec (.ingestStale g) s = .next t ∧
      t.relay.ingest[g] = { s.relay.ingest[g] with stale := true } ∧ (∀ j, j ≠ g → t.relay.ingest[j] = s.relay.ingest[j]) ∧ t.mem = s.mem) ∧
    (s.relay.ingest[g].enabled = false ∨ s.relay.ingest[g].stale = true → exec (.ingestStale g) s = .next s)

/-- QUEUE_CONFIG and POLICER_CONFIG set a queue; credit, grants and samples follow the policer and the tags. After 10.7 Configuration, 10.3 The two-bucket policer, 10.4 Two tiers and virtual time, 10.8 Depth and delay, 09.8 Scrub and zeroing. -/
def Obligations.QueuesAreConfiguredAndServed : Prop :=
  (∀ (s : State) (w : WinId) (a : Cmd), ready s w 0 = true →
    (queueBad a = false → ∃ t, exec (.queueConfig w a) s = .next t ∧ answered s t w a.tag .ok 0 0 ∧ t.mem = s.mem ∧
      (∀ q : QueueId, t.fetch.queue[q].pol.weight = if argQueue a = some (.fetch q) then fld a.a1 0 16 else s.fetch.queue[q].pol.weight) ∧
      (∀ q : QueueId, t.fetch.queue[q].reqs = s.fetch.queue[q].reqs ∧ t.fetch.queue[q].tc = s.fetch.queue[q].tc ∧ t.fetch.queue[q].tp = s.fetch.queue[q].tp) ∧
      ∀ i : StreamId, t.relay.egress[i].pol.weight = if argQueue a = some (.egress i) then fld a.a1 0 16 else s.relay.egress[i].pol.weight) ∧
    (policerBad a = false →
      (∀ r h l, policerReject (taken s w 0x39 a 0) a = some (r, h, l) → ∃ t, exec (.policerConfig w a) s = .next t ∧
        answered s t w a.tag .rejected (put r 0 8 ||| put h 8 2) (put l 0 13) ∧ t.fetch = s.fetch ∧ t.relay = s.relay ∧ t.mem = s.mem) ∧
      (policerReject (taken s w 0x39 a 0) a = none → ∃ t, exec (.policerConfig w a) s = .next t ∧ answered s t w a.tag .ok 0 0 ∧ t.mem = s.mem ∧
        (∀ q, argQueue a = some (.fetch q) → (sealedQueue s q && started s (queueHead q)) = false →
          t.fetch.queue[q].pol = argPolicer a s.fetch.queue[q].pol.weight ∧ t.fetch.queue[q].tc = fld a.a3 0 16 * 64 * 256 ∧ t.fetch.queue[q].tp = fld a.a3 16 16 * 64 * 256) ∧
        (∀ q, argQueue a = some (.fetch q) → (sealedQueue s q && started s (queueHead q)) = true →
          t.fetch.queue[q].pol = s.fetch.queue[q].pol ∧ t.fetch.queue[q].polNext = some (argPolicer a s.fetch.queue[q].pol.weight)) ∧
        ∀ i, argQueue a = some (.egress i) → t.relay.egress[i].pol = argPolicer a s.relay.egress[i].pol.weight))) ∧
  ∀ s : State, fabricOn s = true →
    (∃ t, exec .tokenCredit s = .next t ∧ t.fetch.fclk = s.fetch.fclk + 500 ∧ t.mem = s.mem ∧
      (∀ q : QueueId, t.fetch.queue[q].tc = min (s.fetch.queue[q].pol.cbs * 64 * 256) (s.fetch.queue[q].tc + s.fetch.queue[q].pol.cir) ∧
        t.fetch.queue[q].tp = min (s.fetch.queue[q].pol.pbs * 64 * 256) (s.fetch.queue[q].tp + s.fetch.queue[q].pol.pir)) ∧
      ∀ i : StreamId, t.relay.egress[i].tc = min (s.relay.egress[i].pol.cbs * 64 * 256) (s.relay.egress[i].tc + s.relay.egress[i].pol.cir) ∧
        t.relay.egress[i].tp = min (s.relay.egress[i].pol.pbs * 64 * 256) (s.relay.egress[i].tp + s.relay.egress[i].pol.pir)) ∧
    (∃ t, exec .queueSample s = .next t ∧ t.mem = s.mem ∧ ∀ q : QueueId, t.fetch.queue[q] = { s.fetch.queue[q] with delay := none, rawDelay := none }) ∧
    ((mayGrant s = false ∨ (bestQueue s .committed = none ∧ bestQueue s .excess = none)) → exec .schedulerGrant s = .next s) ∧
    (mayGrant s = true → ∀ (q : QueueId) (tag : Nat) (cls : ReqClass) (r : Request) (l : List Request), s.fetch.queue[q].reqs = r :: l →
      ((cls = .committed ∧ bestQueue s .committed = some (q, tag)) ∨ (cls = .excess ∧ bestQueue s .committed = none ∧ bestQueue s .excess = some (q, tag))) →
      ∃ t, exec .schedulerGrant s = .next t ∧
        (r.kind.isRead = true → t.mem = s.mem ∧ t.fetch.inflight[channelOf r.addr] = s.fetch.inflight[channelOf r.addr] ++ [(q, r)] ∧
          t.fetch.queue[q].tp = s.fetch.queue[q].tp - r.len * 256 ∧
          t.fetch.queue[q].tc = (if cls = .committed then s.fetch.queue[q].tc - r.len * 256 else s.fetch.queue[q].tc) ∧
          t.fetch.vc = (if cls = .committed then tag else s.fetch.vc) ∧ t.fetch.ve = (if cls = .committed then s.fetch.ve else tag)) ∧
        (r.kind = .zero → (Memory.wf s.mem = true → readMem t.mem r.addr 256 = List.replicate 256 0) ∧ sameBytesOutside s t r.addr 256) ∧
        ∀ (v : WinId) (d : List Byte), r.kind = .copyWrite v d → (r.current s = false → t.mem = s.mem) ∧
          (r.current s = true → (Memory.wf s.mem = true → readMem t.mem r.addr d.length = d) ∧ sameBytesOutside s t r.addr d.length))

/-- Reads return with their ECC; sealed reads wait for their release time; scrub, calibration and MR4 keep memory's contents. After 09.4 Inline ECC, 09.8 Scrub and zeroing, 09.6 Periodic calibration, 10.6 Sealed service, 09.7 Refresh and temperature. -/
def Obligations.MemoryIsRefreshedAndScrubbed : Prop :=
  (∀ (s : State) (ch : Channel) (q : QueueId) (r : Request) (l : List (QueueId × Request)), s.fetch.inflight[ch] = (q, r) :: l →
    s.fetch.queue[q].held = [{ req := r, data := none, due := false }] → r.release = none →
    (firstBad s r.addr r.len = none → exec (.memoryReadReturn ch .good) s =
      .next (deliver r (s.read r.addr (r.len - r.addr % 32)) false
        (({ s with fetch := { s.fetch with inflight := s.fetch.inflight.set ch l, readIn := s.fetch.readIn.set ch true } }).modQueue q fun y =>
          { y with held := [] }))) ∧
    (r.kind = .scrub → s.memc.ecc = true → ∀ w : Nat, r.addr < 8 * w + 8 → 8 * w < r.addr + r.len →
      (fabricOn s = true → ∃ t, exec (.memoryReadReturn ch (.uncorrectable w)) s = .next t ∧ w ∈ t.memc.badWords ∧ t.mem = s.mem ∧ t.fetch.inflight[ch] = l ∧
        ∃ e, t.faults.entries.getLast? = some e ∧ e.code = 0x03) ∧
      (firstBad s r.addr r.len = none → ∃ t, exec (.memoryReadReturn ch (.corrected w)) s = .next t ∧ t.memc.badWords = s.memc.badWords ∧ t.mem = s.mem ∧
        ∃ x ∈ t.fetch.queue[(132 : QueueId)].reqs ++ t.fetch.queue[(132 : QueueId)].waiting, x.kind = .correct ∧ x.addr = w / 8 * 64))) ∧
  (∀ (s : State) (q : QueueId) (x : Held) (l : List Held) (time : Nat), fabricOn s = true → s.fetch.queue[q].held = x :: l → x.req.release = some time →
    (s.fetch.fclk < time → exec (.sealedRelease q) s = .next s) ∧
    (time ≤ s.fetch.fclk → x.data = none →
      exec (.sealedRelease q) s = .next (s.modQueue q fun y => { y with held := { x with due := true } :: l })) ∧
    ∀ (h : ContHead) (z : SlotId) (f k : Nat) (d : List Byte), time ≤ s.fetch.fclk → l = [] → x.due = false → x.data = some (d, .good) → x.req.current s = true →
      x.req.kind = .pixel h z s.head[h].frame.toNat f k → (z, f, k) ∈ s.comp[h].missing →
      ∃ t, exec (.sealedRelease q) s = .next t ∧ t.fetch.queue[q].held = [] ∧ t.fetch.queue[q].late = s.fetch.queue[q].late ∧ t.mem = s.mem ∧
        t.comp[h].bursts = s.comp[h].bursts ++ [{ slot := z, frame := s.head[h].frame.toNat, first := f, last := k, addr := x.req.addr, bytes := d }] ∧
        t.comp[h].missing = s.comp[h].missing.erase (z, f, k)) ∧
  (∀ s : State, memAvail s = true →
    (s.memc.ecc = false → exec .dramScrub s = .next s) ∧
    (s.memc.ecc = true → fabricOn s = true → inQueue132 s .scrub = false → ∃ t, exec .dramScrub s = .next t ∧ t.mem = s.mem ∧
      t.memc.scrubNext = (if s.memc.scrubNext + 256 < usable s then s.memc.scrubNext + 256 else 0) ∧
      ∃ x ∈ t.fetch.queue[(132 : QueueId)].reqs ++ t.fetch.queue[(132 : QueueId)].waiting, x.kind = .scrub ∧ x.addr = s.memc.scrubNext) ∧
    (∀ r : Mr4Values, ∃ t, exec (.mr4Poll r) s = .next t ∧ t.mem = s.mem ∧ ∀ i : Fin 4, t.memc.mr4[i] = if i.1 % 2 < s.memc.ranks then r.v[i] else s.memc.mr4[i]) ∧
    (∃ t, exec .calibrationDue s = .next t ∧ t.mem = s.mem ∧ t.memc.calDue = !calQualifies s) ∧
    (s.memc.calDue = true → ∃ t, exec .forcedCalibration s = .next t ∧ t.mem = s.mem ∧ t.memc.calDue = false ∧ t.memc.forcedCount = satInc s.memc.forcedCount) ∧
    (s.memc.calDue = false → exec .forcedCalibration s = .next s)) ∧
  ∀ s : State, pdOn .sram s = true → fabricOn s = true →
    exec (.sramScrub .clean) s = .next { s with memc := { s.memc with sramNext := (s.memc.sramNext + 1) % 262144 } } ∧
    (∃ t, exec (.sramScrub .corrected) s = .next t ∧ t.memc.sramNext = (s.memc.sramNext + 1) % 262144 ∧ edged s t 190 ∧ t.mem = s.mem) ∧
    ∀ (u : SramUnit) (n : Nat), u ≠ .relief → ∃ t, exec (.sramScrub (.uncorrectable u n)) s = .next t ∧ t.memc.sramNext = (s.memc.sramNext + 1) % 262144 ∧
      t.mem = s.mem ∧ ∃ e, t.faults.entries.getLast? = some e ∧ e.code = 0x04 ∧ e.arg = BitVec.ofNat 32 n

/-- EVT_ROUTE moves a source, an EXTINT edge is pending once, an acknowledge claims the offer and drives its vector. After 22.2 Ownership and routing, 22.3 Sensing, 22.5 Vector ports, 05.6 Event and vector registers. -/
def Obligations.EventsReachTheVectorPorts : Prop :=
  (∀ (s : State) (w : WinId) (a : Cmd) (n : SourceId), ready s w 0 = true → n.1 = fld a.a0 0 9 → checkEvtRoute w 0 a (taken s w 0x70 a 0) = none →
    ∃ t, exec (.evtRoute w a) s = .next t ∧ answered s t w a.tag .ok 0 0 ∧ t.mem = s.mem ∧
      t.evu.src[n].owner = argCtx a.a1 ∧ t.evu.src[n].prio = a.a1.extractLsb' 16 4 ∧ t.evu.src[n].mask = a.a1.extractLsb' 8 4 ∧
      (s.evu.src[n].owner ≠ argCtx a.a1 → t.evu.src[n].pending = false ∧ t.evu.src[n].enable = false ∧ t.evu.src[n].merge = 0 ∧ t.evu.src[n].service = 0) ∧
      (s.evu.src[n].owner = argCtx a.a1 → t.evu.src[n] = { s.evu.src[n] with prio := a.a1.extractLsb' 16 4, mask := a.a1.extractLsb' 8 4 }) ∧
      ∀ m : SourceId, m ≠ n → m ≠ 0 → t.evu.src[m] = s.evu.src[m]) ∧
  (∀ (s : State) (p : PinId), (pinDriven s p = true → exec (.extintEdge p) s = .next s) ∧
    (pinDriven s p = false → fabricOn s = true → ∀ n : SourceId, n.1 = 248 + p.1 → ∃ t, exec (.extintEdge p) s = .next t ∧ edged s t n ∧ t.mem = s.mem ∧
      ∀ m : SourceId, m ≠ n → t.evu.src[m] = s.evu.src[m])) ∧
  ∀ (s : State) (p : PortId), fabricOn s = true →
    (s.evu.vec = none →
      (∀ n : SourceId, offer s p = some n → ∃ t, exec (.vpAckRecognized p) s = .next t ∧ t.evu.vec = some (p, vecAddr s p n.1) ∧ inService t n p.1 = true ∧
        t.mem = s.mem ∧ ((∀ m : MonId, s.mon[m].bound = none) → t.evu.src[n].pending = false ∧ t.evu.src[n].merge = 0)) ∧
      (offer s p = none → exec (.vpAckRecognized p) s = .next { s with evu := { s.evu with vec := some (p, vecAddr s p 511) } })) ∧
    (∀ (q : PortId) (v : HalfWord), s.evu.vec = some (q, v) → q ≠ p →
      (∃ t, exec (.vpAckRecognized p) s = .next t ∧ t.evu.port[p].waiting = true ∧ t.evu.vec = s.evu.vec ∧ t.evu.src = s.evu.src) ∧
      ∃ t, exec (.vpAckRelease p) s = .next t ∧ t.evu.port[p].waiting = false ∧ t.evu.vec = s.evu.vec ∧ t.evu.src = s.evu.src) ∧
    ∀ v : HalfWord, s.evu.vec = some (p, v) →
      ((∀ q : PortId, s.evu.port[q].waiting = false) → exec (.vpAckRelease p) s = .next { s with evu := { s.evu with vec := none } }) ∧
      ∀ q : PortId, s.evu.port[q].waiting = true → (∀ j : PortId, j < q → s.evu.port[j].waiting = false) →
        ∃ t, exec (.vpAckRelease p) s = .next t ∧ t.evu.vec.map Prod.fst = some q ∧ t.evu.port[q].waiting = false ∧ t.mem = s.mem

/-- A tick takes one counting step with its events; MONITOR_BIND binds and unbinds a channel under its checks. After 23.3 Counting, 23.4 Compares and outputs, 24.1 Channels and binding, 24.2 Probes. -/
def Obligations.TimersCountAndMonitorsAreBound : Prop :=
  (∀ (s : State) (i : TimerId),
    ((s.timer[i].en && clkRuns s i) = false → exec (.timerTick i) s = .next s) ∧
    ((s.timer[i].en && clkRuns s i) = true →
      ∃ t x, x = { s.timer[i] with acc := s.timer[i].acc + 256 * ceilDiv (s.timer[i].div - s.timer[i].acc) 256 - s.timer[i].div } ∧
        exec (.timerTick i) s = .next t ∧ t.timer[i] = (x.tick (effOf s i)).1 ∧ t.mem = s.mem ∧
        (∀ n : SourceId, n.1 = 216 + 2 * i.1 → fabricOn s = true → t.evu.src[n] = if (x.tick (effOf s i)).2.1 then s.evu.src[n].edge else s.evu.src[n]) ∧
        (s.timer[i].mode = 0 → s.timer[i].count ≠ s.timer[i].period → s.timer[i].count ≠ 0xFFFFFFFF → t.timer[i].count = s.timer[i].count + 1 ∧ t.timer[i].en = true) ∧
        (s.timer[i].mode = 1 → s.timer[i].count ≠ 0 → t.timer[i].count = s.timer[i].count - 1 ∧ t.timer[i].en = true))) ∧
  ∀ (s : State) (w : WinId) (c : CtxId) (a : Cmd) (m : MonId), ready s w c = true → m.1 = fld a.a0 0 5 → argBits a 0x1001F 0xFFFF 0 0 = true →
    (a.a0.getLsbD 16 = false → ∀ n, probeRange (fld a.a1 0 8) = some n → fld a.a1 8 8 < n →
      (probeAllowed s c (fld a.a1 0 8) (fld a.a1 8 8) = false → ∃ t, exec (.monitorBind w a) s = .next t ∧ answered s t w a.tag .denied 0 0 ∧ t.mon = s.mon ∧ t.mem = s.mem) ∧
      (probeAllowed s c (fld a.a1 0 8) (fld a.a1 8 8) = true →
        (∀ d, s.mon[m].bound = some d → d ≠ c → ∃ t, exec (.monitorBind w a) s = .next t ∧ answered s t w a.tag .busy 0 0 ∧ t.mon = s.mon ∧ t.mem = s.mem) ∧
        ((s.mon[m].bound = none ∨ s.mon[m].bound = some c) → ∃ t, exec (.monitorBind w a) s = .next t ∧ answered s t w a.tag .ok 0 0 ∧ t.mem = s.mem ∧
          t.mon[m] = { Monitor.reset with bound := some c, probe := BitVec.ofNat 8 (fld a.a1 0 8), probeIndex := BitVec.ofNat 8 (fld a.a1 8 8), en := true, fresh := true } ∧
          ∀ k, k ≠ m → t.mon[k] = s.mon[k]))) ∧
    (a.a0.getLsbD 16 = true → a.a1 = 0 → ∀ d, s.mon[m].bound = some d → (d = c ∨ c = 0) → ∃ t, exec (.monitorBind w a) s = .next t ∧
      answered s t w a.tag .ok 0 0 ∧ t.mon[m] = Monitor.reset ∧ (∀ k, k ≠ m → t.mon[k] = s.mon[k]) ∧ t.mem = s.mem)

/-- MAQUETTE stages a snapshot and writes it; the short form replaces the context's capture. After 07.1 Capture and the quiet point, 07.4 The short form, 06.4 Opcodes (Table 06-3), 05.5 Summary and memory windows. -/
def Obligations.MaquettesCaptureTheState : Prop :=
  (∀ (s : State) (w : WinId) (c : CtxId) (a : Cmd), ready s w c = true →
    (checkMaquette w c a (taken s w 0x50 a c) = none → ∃ t, exec (.maquette w a) s = .next t ∧ t.mem = s.mem ∧ t.ctx = s.ctx ∧
      (if s.port.staging.length < 2 then underway t w 0x50 a.tag .maqQuiet ∧ t.port.staging = s.port.staging ++ [(w, none)]
        else underway t w 0x50 a.tag .maqStage ∧ t.port.staging = s.port.staging)) ∧
    (argBits a 0 0 0 0 = true → ∃ t, exec (.maquetteShort w a) s = .next t ∧ answered s t w a.tag .ok (put (s.ctx[c].captures + 1).toNat 0 8) 0 ∧ t.mem = s.mem ∧
      t.ctx[c].capture = shortForm (taken s w 0x51 a c) w c ∧ t.ctx[c].captures = s.ctx[c].captures + 1 ∧ ∀ d, d ≠ c → t.ctx[d] = s.ctx[d])) ∧
  ∀ (s : State) (w : WinId) (e : Exec), s.win[w].exec = some e → e.discard = false → fabricOn s = true →
    (e.phase = .maqQuiet → (w, none) ∈ s.port.staging → ∃ t, exec (.maquetteQuietPoint w) s = .next t ∧ t.mem = s.mem ∧
      if fld e.entry.cmd.a1 0 17 < (snapshot s w e.ctx).length then
        t.win[w].exec = none ∧ (∀ p ∈ t.port.staging, p.1 ≠ w) ∧
          t.win[w].done = s.win[w].done ++ [{ tag := e.entry.cmd.tag, code := .noResource, q0 := BitVec.ofNat 32 (snapshot s w e.ctx).length, q1 := 0 }]
      else staged t w = some (snapshot s w e.ctx) ∧ underway t w e.entry.op e.entry.cmd.tag .maqWrite ∧ t.win[w].done = s.win[w].done) ∧
    ∀ (b : List Byte) (l : List (WinId × Option (List Byte))), e.phase = .maqWrite → s.port.staging = (w, some b) :: l → memAvail s = true →
      ∃ t, exec (.maquetteWritten w) s = .next t ∧ t.win[w].exec = none ∧ (∀ p ∈ t.port.staging, p.1 ≠ w) ∧
        t.win[w].done = s.win[w].done ++ [{ tag := e.entry.cmd.tag, code := .ok, q0 := BitVec.ofNat 32 b.length, q1 := BitVec.ofNat 32 (leAt b 8 4) }] ∧
        (Memory.wf s.mem = true → readMem t.mem (partBase s e.ctx + woff e.entry.cmd.a0) b.length = b) ∧ sameBytesOutside s t (partBase s e.ctx + woff e.entry.cmd.a0) b.length

/-- POWER_MODE changes between RUN and DIM at once and begins entry to HOLD or OFF; wakes begin the exit; the heartbeat lapses into the fallback. After 25.2 Modes and requests, 25.3 Entering HOLD and OFF, 25.5 Wake and exit, 25.6 The power step table, 02.5 The picture outlives its hosts, 07.6 Heartbeat lapse and the fallback commit set. -/
def Obligations.PowerModesChangeAndWake : Prop :=
  (∀ (s : State) (w : WinId) (a : Cmd) (m : Mode), ready s w 0 = true → unclaimed s [.power] = true → useBlock a = false →
    argBits a 0x10007 wholeWord 0 0 = true → Mode.ofCode (fld a.a0 0 3) = some m →
    ((m.sleeps && lockForbids (taken s w 0x60 a 0)) = true → ∃ t, exec (.powerMode w a) s = .next t ∧ answered s t w a.tag .locked 0 0 ∧
      t.power.refused = true ∧ t.power.mode = s.power.mode ∧ t.power.trans = s.power.trans ∧ t.mem = s.mem) ∧
    ((m.sleeps && lockForbids (taken s w 0x60 a 0)) = false →
      ((m = s.power.mode ∨ m.sleeps = false) → ∃ t, exec (.powerMode w a) s = .next t ∧ answered s t w a.tag .ok (BitVec.ofNat 32 m.num) 0 ∧
        t.power.mode = m ∧ t.power.refused = false ∧ t.power.trans = s.power.trans ∧ t.mem = s.mem ∧ t.head = s.head) ∧
      (m ≠ s.power.mode → m.sleeps = true → ∃ t x, exec (.powerMode w a) s = .next t ∧ underway t w 0x60 a.tag .power ∧ t.power.mode = s.power.mode ∧
        t.power.trans = some x ∧ x.target = m ∧ x.exiting = false ∧ x.step = 1 ∧ x.byWindow = some w ∧ t.mem = s.mem))) ∧
  (∀ s : State, asleep s = true → s.power.trans = none → s.power.wakeKept = none →
    (∀ x : WakeSource, (wakeEnabled s x = false → exec (.wakeRequest x) s = .next s) ∧
      (wakeEnabled s x = true → ∃ t y, exec (.wakeRequest x) s = .next t ∧ t.power.wakeKept = some x ∧ t.power.wake = WakeSource.code x ∧
        t.power.trans = some y ∧ y.exiting = true ∧ y.step = 1 ∧ t.power.mode = s.power.mode ∧ t.mem = s.mem)) ∧
    (pdOn .host s = false → wakeEnabled s .hostBus = true → exec .hostBusWake s =
      .next { s with power := { s.power with wakeKept := some .hostBus, wake := 4 } })) ∧
  (∀ s : State, pdOn .host s = true → exec .hostBusWake s = .next s) ∧
  (∀ (s : State) (x : Transition) (y : SeqStep) (l : List SeqStep), s.power.trans = some x → x.list = y :: l → y.op = .waitPin →
    (x.exiting = false → exec .powerStepWaitTimeout s = .next { s with power := { s.power with trans := some { x with list := [], at_ := 0 } } }) ∧
    (x.exiting = true → fabricOn s = false → s.faults.held.length < 4 → ∃ t e, exec .powerStepWaitTimeout s = .next t ∧
      t.power.trans = some { x with list := [], at_ := 0 } ∧ t.faults.held = s.faults.held ++ [e] ∧ e.code = 0x26 ∧ e.arg = BitVec.ofNat 32 x.at_)) ∧
  ∀ s : State, beatRuns s = true →
    (s.drone.lapsed = true → exec .heartbeatLapse s = .next s) ∧
    (s.drone.lapsed = false → ∃ t e, exec .heartbeatLapse s = .next t ∧ t.drone = { s.drone with lapsed := true, second := decide (s.drone.fallback ≠ 0) } ∧
      t.faults.entries.getLast? = some e ∧ e.code = 0x32 ∧ t.port = s.port ∧ t.mem = s.mem) ∧
    (s.drone.second = false → exec .fallbackSubmission s = .next s) ∧
    (s.drone.second = true → s.drone.fallback ≠ 0 → s.boot.fallback ≠ [] → ∃ t, exec .fallbackSubmission s = .next t ∧ t.drone.second = false ∧ t.mem = s.mem ∧
      if s.drone.hbDirty && Config.sameDroneCycle s.free then
        t.drone.lapsed = false ∧ t.drone.armed = true ∧ t.drone.hbDirty = false ∧ t.drone.fallbackShown = s.drone.fallbackShown ∧ t.port = s.port
      else t.drone.fallbackShown = true ∧ t.port.fallbackQueue = s.port.fallbackQueue ++ s.boot.fallback.mapIdx (fun i r => (i, r)) ∧
        ∃ e, t.faults.entries.getLast? = some e ∧ e.code = 0x33)

/-- A cold reset resets every block; registers, image, training and application follow; crystals and the JTAG TAP take their events. After 26.1 Cold reset and straps, 26.2 Order of start-up, 26.3 Serial flash and image location, 26.4 Header, directory and validation, 26.6 Applying the image, 09.2 Training and readiness, 27.7 Loss of the 25 MHz crystal, 28.2 Operating conditions, sequencing and supply monitors, 28.6 Clock inputs and AC timing. -/
def Obligations.ResetAndStartUpRunInOrder : Prop :=
  (∀ (s : State) (st : Straps), (∃ t, exec (.coldReset st) s = .next t ∧ t.mem = [] ∧ t.win = State.reset.win ∧ t.ctx = State.reset.ctx ∧ t.evu = State.reset.evu ∧
      t.faults = State.reset.faults ∧ t.port = State.reset.port ∧ t.head = State.reset.head ∧ t.commits = [] ∧ t.power = State.reset.power ∧
      t.boot = Boot.reset st ∧ t.pending = s.pending) ∧
    ∀ x : Supply, exec (.brownOut x st) s = if monitored s x then exec (.coldReset st) s else .next s) ∧
  (∀ s : State, s.boot.phase = .reset → fabricOn s = true → s.drone.pllLock = true →
    exec .registerFileReady s = .next { s with boot := { s.boot with phase := .registers } }) ∧
  (∀ (s : State) (f : FlashRead), s.boot.phase = .registers → s.boot.straps.flashBoot = true →
    (∀ b, usedImage s f = some b → ∃ t, exec (.bootImageValidation f) s = .next t ∧ t.boot.phase = .validated ∧ t.boot.valid = true ∧ t.boot.sections = sectionsOf b ∧
      t.boot.doneFlag = s.boot.doneFlag ∧ t.mem = s.mem) ∧
    (usedImage s f = none → ∃ t, exec (.bootImageValidation f) s = .next t ∧ t.boot.phase = .validated ∧ t.boot.doneFlag = true ∧ t.boot.valid = s.boot.valid ∧
      t.faults.bootFault = true ∧ t.mem = s.mem)) ∧
  (∀ s : State, mayTrain s = true →
    (∀ code ranks, 1 ≤ code → code ≤ 5 → ∃ t, exec (.memoryTraining (.pass code ranks)) s = .next t ∧ t.memc.ready = true ∧ t.memc.sizeCode = code ∧
      t.memc.ranks = ranks ∧ t.mem = s.mem ∧ (s.boot.valid = true → t.boot.phase = .trained ∧ t.boot.doneFlag = s.boot.doneFlag) ∧
      (s.boot.valid = false → t.boot.phase = .done ∧ t.boot.doneFlag = true)) ∧
    ∀ c0 c1 m : Bool, (c0 || c1 || m) = true → fabricOn s = true → ∃ t e, exec (.memoryTraining (.fail c0 c1 m)) s = .next t ∧ t.memc.ready = s.memc.ready ∧
      t.boot.phase = .done ∧ t.boot.doneFlag = true ∧ t.faults.entries.getLast? = some e ∧ e.code = 0x05 ∧ t.mem = s.mem) ∧
  (∀ (s : State) (k : Option Nat), s.boot.phase = .trained → s.boot.valid = true → s.boot.doneFlag = false →
    ∃ t, exec (.bootImageApply k) s = .next t ∧ t.boot.phase = .done ∧ t.boot.doneFlag = true ∧ t.port.deviceGen = s.port.deviceGen) ∧
  ∀ s : State, (s.drone.xtalOk = true → fabricOn s = true → ∃ t, exec (.clkLoss false) s = .next t ∧ t.drone.xtalOk = false ∧ t.drone.pllLock = false ∧
      t.drone.xtalLost = true ∧ t.faults.seen.clkLoss = true) ∧
    (s.drone.pllLock = false → ∃ t, exec .xtalReturn s = .next t ∧ t.drone = { s.drone with xtalOk := true, pllLock := true } ∧ t.mem = s.mem) ∧
    exec .xtal32Loss s = .next { s with drone := { s.drone with xtal32Ok := false } } ∧
    exec .xtal32Return s = .next { s with drone := { s.drone with xtal32Ok := true } } ∧
    ∀ e : TckEdge, ∃ t, exec (.jtagTckEdge e) s = .next t ∧ t.mem = s.mem ∧ t.win = s.win ∧ t.pins.gpio = s.pins.gpio ∧
      t.pins.jtag.tap = (if e.trstN = false then .testLogicReset else if e.rising then s.pins.jtag.tap.next e.tms else s.pins.jtag.tap) ∧
      (e.trstN = false → t.pins.jtag.inst = .idcode)

/-- RESET_CTL resets the block its bit names, refuses a locked head and a reserved CAL_3, and is the supervisor's alone. After 05.13 Heartbeat, doorbell, generation, reset and lock (Table 05-37), 15.6 Starting and stopping, 18.7 EPD_UPDATE, 20.9 Events, power and reset, 21.9 Reset, detach and power, 19.7 Start, stop, reset and power modes, 23.7 Drone channels, power and reset. -/
def Obligations.ResetControlResetsBlocks : Prop :=
  ∀ (s : State) (acc : WriteAccess) (w : WinId) (v : Word), committed s resetReg acc = some (w, v) →
    (winCtx s w = some 0 →
      (∀ h : ContHead, v ||| reqBit h.1 = reqBit h.1 →
        (protLocked s h = true → ∃ t, exec (.resetHead acc h) s = .next t ∧ t.port.resetRefused = true ∧ t.head = s.head ∧ t.panel = s.panel ∧ t.mem = s.mem) ∧
        (protLocked s h = false → (∀ k : ContHead, s.panel[k].run = none) → (∀ (x : WinId) (e : Exec), s.win[x].exec = some e → e.phase ≠ .headStart h ∧ e.phase ≠ .headStop h) →
          s.port.auto = [] → ∃ t, exec (.resetHead acc h) s = .next t ∧ t.head[h].run = .stopped ∧ t.head[h].cfg = none ∧ t.head[h].next = [] ∧ ∀ k : ContHead, k ≠ h → t.head[k] = s.head[k])) ∧
      (v ||| reqBit 2 = reqBit 2 →
        (s.epd.run = none → ∃ t, exec (.resetHeadE acc) s = .next t ∧ t.epd = s.epd ∧ t.mem = s.mem) ∧
        (∀ (r : EpdRun) (c : EpdCfg), s.epd.run = some r → s.epd.cfg = some c → r.step = .sample → ∃ t, exec (.resetHeadE acc) s = .next t ∧ t.epd.run = none ∧ t.mem = s.mem) ∧
        ∀ (r : EpdRun) (c : EpdCfg), s.epd.run = some r → s.epd.cfg = some c → (r.step = .railsUp ∨ r.step = .drive) → ∃ t q, exec (.resetHeadE acc) s = .next t ∧
          t.epd.rails = .falling ∧ t.epd.run = some q ∧ q.step = .railsDown ∧ q.outcome = .aborted) ∧
      (v ||| reqBit 3 = reqBit 3 → ∃ t, exec (.resetRelayPort acc) s = .next t ∧ t.relay.up = false ∧ t.relay.cfg = none ∧ (∀ i : StreamId, t.relay.stream[i].enabled = false) ∧
        (∀ g : IngestId, t.relay.ingest[g].enabled = false) ∧ t.mem = s.mem) ∧
      (∀ u : CalId, v ||| reqBit (4 + u.1) = reqBit (4 + u.1) →
        (((u = 3 ∧ cal3Reserved s = true) ∨ (u = 0 ∧ s.boot.doneFlag = false)) → ∃ t, exec (.resetCal acc u) s = .next t ∧ t.port.resetRefused = true ∧ t.cal = s.cal ∧ t.mem = s.mem) ∧
        (¬ ((u = 3 ∧ cal3Reserved s = true) ∨ (u = 0 ∧ s.boot.doneFlag = false)) → s.epd.run = none → ∃ t, exec (.resetCal acc u) s = .next t ∧
          t.cal[u].op = none ∧ t.cal[u].epoch = s.cal[u].epoch + 1 ∧ (∀ k : CalId, k ≠ u → t.cal[k] = s.cal[k]) ∧ t.mem = s.mem)) ∧
      (v ||| reqBit 8 = reqBit 8 → ∃ t, exec (.resetSegmentDriver acc) s = .next t ∧ t.mem = s.mem ∧
        (segRuns s = true → t.seg.run = .stopping true) ∧ (segRuns s = false → t.seg = s.seg.clear)) ∧
      (v ||| reqBit 9 = reqBit 9 → ∃ t, exec (.resetTimers acc) s = .next t ∧ t.mem = s.mem ∧ ∀ i : TimerId,
        t.timer[i] = if 12 ≤ i.1 ∨ (backlightHead s i).isSome = true then s.timer[i] else { Timer.reset with owner := s.timer[i].owner })) ∧
    (∀ c : CtxId, winCtx s w = some c → c ≠ 0 → ∀ u : CalId, ∀ i ∈ [Instr.resetHead acc 0, .resetHead acc 1, .resetHeadE acc, .resetRelayPort acc, .resetCal acc u, .resetSegmentDriver acc, .resetTimers acc],
      ∃ t, exec i s = .next t ∧ t.head = s.head ∧ t.epd = s.epd ∧ t.relay = s.relay ∧ t.cal = s.cal ∧ t.seg = s.seg ∧ t.timer = s.timer ∧ t.mem = s.mem)

/-- A freed resource goes to the oldest waiter, which acts; a bounded wait ends TIMEOUT, a waiting-all stall STALLED; FAULT_CLEAR empties the log. After 06.5 Resources, waits and ordering, 27.3 Resource order and the wait timeout, 27.4 The waiting-all detector, 27.1 The fault log. -/
def Obligations.WaitsAreGrantedOrReleased : Prop :=
  (∀ (s : State) (r : Resource), fabricOn s = true → s.port.auto = [] → (s.power.queued = none ∨ r ≠ .power) →
    (oldestWaiter s r = none → exec (.resourceGrant r) s = .next s) ∧
    ∀ (w : WinId) (e : Exec) (o : Opcode), oldestWaiter s r = some w → s.win[w].exec = some e → e.phase = .acquire [r] → e.entry.op ≠ 0x19 →
      opcodeOf e.entry.op.toNat = some o →
      (resBlocked s (.window w) r = true → exec (.resourceGrant r) s = .next s) ∧
      (resBlocked s (.window w) r = false → exec (.resourceGrant r) s =
        .next (o.go w e.ctx e.entry.cmd { s with port := { s.port with held := s.port.held ++ [(r, .window w)] } }))) ∧
  (∀ (s : State) (w : WinId) (e : Exec) (r : Resource) (l : List Resource), fabricOn s = true → s.win[w].exec = some e → e.phase = .acquire (r :: l) →
    (resHeld s r = false → exec (.waitTimeout (.window w)) s = .next s) ∧
    (resHeld s r = true → e.discard = false → ∃ t f, exec (.waitTimeout (.window w)) s = .next t ∧ t.win[w].exec = none ∧ (∀ x, (x, Holder.window w) ∉ t.port.held) ∧
      t.win[w].done = s.win[w].done ++ [{ tag := e.entry.cmd.tag, code := .timeout, q0 := 0, q1 := 0 }] ∧
      t.faults.entries.getLast? = some f ∧ f.code = 0x31 ∧ f.unit_ = BitVec.ofNat 8 (Resource.order r) ∧ f.ctx = some e.ctx ∧ t.mem = s.mem)) ∧
  (∀ (s : State) (x : Transition), s.power.trans = some x → x.byWindow = none → x.exiting = false → x.step ≤ 2 →
    ∃ t, exec (.waitTimeout .power) s = .next t ∧ t.power.trans = none ∧ t.power.mode = s.power.mode ∧ t.mem = s.mem) ∧
  (∀ s : State, fabricOn s = true → (earliestWait s = none → exec .waitingAllRelease s = .next s) ∧
    ∀ (w : WinId) (n : Nat) (v : Word) (e : Exec), earliestWait s = some (.window w, n, v) → s.win[w].exec = some e → e.phase ≠ .maqStage → e.discard = false →
      ∃ t f, exec .waitingAllRelease s = .next t ∧ t.win[w].exec = none ∧ (∀ x, (x, Holder.window w) ∉ t.port.held) ∧
        t.win[w].done = s.win[w].done ++ [{ tag := e.entry.cmd.tag, code := .stalled, q0 := 0, q1 := 0 }] ∧
        t.faults.entries.getLast? = some f ∧ f.code = 0x30 ∧ f.arg = v ∧ t.mem = s.mem) ∧
  ∀ (s : State) (w : WinId) (a : Cmd), ready s w 0 = true → argBits a 0 0 0 0 = true → ∃ t, exec (.faultClear w a) s = .next t ∧
    answered s t w a.tag .ok (put s.faults.entries.length 0 7) 0 ∧ t.faults = { s.faults with entries := [], overflow := false } ∧ t.mem = s.mem

/-- A register read changes nothing but its own window, what it pops, claims or takes, and what it shows. After 04.3 Half-word access and the holding latches, 05.1 Scope, visibility and selectors, 08.9 Where isolation is enforced. -/
def Obligations.ReadsChangeTheirWindowOnly : Prop :=
  (∀ (s : State) (cs : ChipSelect) (o : RegOffset), busOpen s = true → ∃ t, exec (.hostLowHalfRead cs o) s = .next t ∧ unitsSame s t ∧
    fetchSame s t ∧ (o ≠ 15 → t.fetch = s.fetch) ∧
    (∀ v : WinId, v ≠ csWin cs → t.win[v] = s.win[v]) ∧
    ∀ n : CtxId, t.ctx[n].st = s.ctx[n].st ∧ t.ctx[n].epoch = s.ctx[n].epoch ∧ t.ctx[n].partBase = s.ctx[n].partBase ∧ t.ctx[n].partSize = s.ctx[n].partSize ∧ t.ctx[n].terr = s.ctx[n].terr) ∧
  ∀ (s : State) (acc : ReadAccess) (w : WinId), readWindow s acc = some w →
    ∀ i ∈ [Instr.cmdStatusRead acc, .memWinDataRead acc, .faultLogDataRead acc, .vecClaim acc, .doorbellRead acc],
      ∃ t, exec i s = .next t ∧ unitsSame s t ∧ fetchSame s t ∧ (i ≠ .memWinDataRead acc → t.fetch = s.fetch) ∧ (∀ v : WinId, v ≠ w → t.win[v] = s.win[v]) ∧
        ∀ n : CtxId, t.ctx[n].st = s.ctx[n].st ∧ t.ctx[n].epoch = s.ctx[n].epoch ∧ t.ctx[n].partBase = s.ctx[n].partBase ∧ t.ctx[n].partSize = s.ctx[n].partSize ∧ t.ctx[n].terr = s.ctx[n].terr

/-- Commands that configure contexts, queues, events, monitors and the segment RAM leave memory, the picture and other windows alone. After 01.5 Who reaches what, 06.1 Issue, queue and completion, 08.9 Where isolation is enforced. -/
def Obligations.ConfigurationKeepsThePicture : Prop :=
  ∀ (s : State) (w : WinId) (a : Cmd), ∀ i ∈ [Instr.nop w a, .partitionSet w a, .territorySet w a, .queueConfig w a, .policerConfig w a, .evtRoute w a,
      .monitorBind w a, .maquetteShort w a, .segWrite w a],
    ∃ t, exec i s = .next t ∧ t.mem = s.mem ∧ t.head = s.head ∧ t.panel = s.panel ∧ t.syn = s.syn ∧ t.prot = s.prot ∧ t.slot = s.slot ∧ t.commits = s.commits ∧
      t.comp = s.comp ∧ t.relief = s.relief ∧ t.epd = s.epd ∧ t.cal = s.cal ∧ t.timer = s.timer ∧ t.boot = s.boot ∧ t.drone = s.drone ∧
      ∀ v : WinId, v ≠ w → t.win[v] = s.win[v]

/-- Ticks, edges, acknowledges, credit, samples and upkeep change no memory, no window, no context and no picture. After 22.3 Sensing, 23.3 Counting, 10.3 The two-bucket policer, 10.8 Depth and delay, 09.8 Scrub and zeroing, 03.1 The twelve domains. -/
def Obligations.BackgroundEventsKeepThePicture : Prop :=
  ∀ (s : State) (i : TimerId) (p : PinId) (q : PortId) (f : FnId) (v : VectorId) (r : Mr4Values) (e : TckEdge),
    ∀ c ∈ [Instr.timerTick i, .extintEdge p, .vpAckRecognized q, .vpAckRelease q, .msixVectorUnmask f v, .tokenCredit, .queueSample, .mr4Poll r, .calibrationDue,
      .forcedCalibration, .dramScrub, .sramScrub .clean, .sramScrub .corrected, .heartbeatLapse, .xtal32Loss, .xtal32Return, .jtagTckEdge e],
    ∃ t, exec c s = .next t ∧ t.mem = s.mem ∧ t.win = s.win ∧ t.ctx = s.ctx ∧ t.head = s.head ∧ t.panel = s.panel ∧ t.syn = s.syn ∧ t.prot = s.prot ∧
      t.slot = s.slot ∧ t.commits = s.commits ∧ t.epd = s.epd ∧ t.cal = s.cal

/-- Every step answers a next state, and exactly the command at the front leaves the queue of commands. After 06.1 Issue, queue and completion, The block's queue of commands (NOTES.md, model). -/
def Obligations.EveryStepTakesOneCommand : Prop :=
  ∀ s : State, ∃ t, step s = .next t ∧ t.pending = s.pending.tail

/-- Every step keeps memory in its canonical form: addresses strictly rising, no listed byte 0. After 09.3 Address map and device-owned regions, 09.4 Inline ECC, NOTES.md log 3 (unlisted bytes read 0, the model's choice). -/
def Obligations.MemoryKeepsItsCanonicalForm : Prop :=
  ∀ s t : State, Memory.wf s.mem = true → step s = .next t → Memory.wf t.mem = true

/-- After reset memory is canonical, every tenant unattached, no window bound but CTX_0's, every unit idle, the start-up at its first step. After 26.8 Reset state, 04.7 Reset and power, 08.1 Context states and the context record, 22.1 Sources, 25.1 Domains, 27.1 The fault log. -/
def Obligations.ResetStateIsAsTheSpecGivesIt : Prop :=
  Memory.wf State.reset.mem = true ∧ State.reset.mem = [] ∧ State.reset.memc.ready = false ∧
  (∀ w : WinId, State.reset.win[w].exec = none ∧ State.reset.win[w].queue = [] ∧ State.reset.win[w].done = [] ∧ State.reset.win[w].issued = 0) ∧
  (∀ w : WinId, winCtx State.reset w = if w = 0 ∨ w = 4 then some 0 else none) ∧
  (∀ n : CtxId, n ≠ 0 → State.reset.ctx[n].st = .unattached) ∧ (∀ n : SourceId, State.reset.evu.src[n].pending = false) ∧
  State.reset.faults.entries = [] ∧ State.reset.faults.overflow = false ∧ State.reset.power.mode = .run ∧ State.reset.power.trans = none ∧
  (∀ h : ContHead, State.reset.head[h].run = .stopped ∧ State.reset.panel[h].st = .off ∧ State.reset.prot[h].live = none) ∧
  (∀ y : SynId, State.reset.syn[y].out = .off ∧ State.reset.syn[y].cfg = none) ∧ (∀ u : CalId, State.reset.cal[u].op = none) ∧
  State.reset.seg.run = .stopped ∧ State.reset.epd.run = none ∧ State.reset.epd.rails = .down ∧ State.reset.relay.up = false ∧
  State.reset.port.held = [(.cal 0, .bootLoader)] ∧ State.reset.commits = [] ∧ State.reset.boot.phase = .reset ∧ State.reset.boot.doneFlag = false ∧ State.reset.pending = []
end

