-- ==== Sys2Proof/Laws/State.lean ====
section
/-! SUPPORT. The updates of the state: what each one leaves alone, and what it makes of the element it changes. -/
namespace Sys2Proof.Machine

@[simp] theorem State.modWin_frame (s : State) (w : WinId) (f : Window → Window) :
    (s.modWin w f).pending = s.pending ∧
    (s.modWin w f).mem = s.mem ∧
    (s.modWin w f).memc = s.memc ∧
    (s.modWin w f).ctx = s.ctx ∧
    (s.modWin w f).port = s.port ∧
    (s.modWin w f).evu = s.evu ∧
    (s.modWin w f).pcie = s.pcie ∧
    (s.modWin w f).faults = s.faults ∧
    (s.modWin w f).power = s.power ∧
    (s.modWin w f).drone = s.drone ∧
    (s.modWin w f).timer = s.timer ∧
    (s.modWin w f).timerShadow = s.timerShadow ∧
    (s.modWin w f).mon = s.mon ∧
    (s.modWin w f).fetch = s.fetch ∧
    (s.modWin w f).slot = s.slot ∧
    (s.modWin w f).commits = s.commits ∧
    (s.modWin w f).comp = s.comp ∧
    (s.modWin w f).relief = s.relief ∧
    (s.modWin w f).prot = s.prot ∧
    (s.modWin w f).head = s.head ∧
    (s.modWin w f).panel = s.panel ∧
    (s.modWin w f).syn = s.syn ∧
    (s.modWin w f).epd = s.epd ∧
    (s.modWin w f).seg = s.seg ∧
    (s.modWin w f).adc = s.adc ∧
    (s.modWin w f).relay = s.relay ∧
    (s.modWin w f).cal = s.cal ∧
    (s.modWin w f).boot = s.boot ∧
    (s.modWin w f).pins = s.pins ∧
    (s.modWin w f).free = s.free :=
  by and_intros <;> rfl

@[simp] theorem State.modWin_same (s : State) (w : WinId) (f : Window → Window) : (s.modWin w f).win[w.1] = f s.win[w] := by
  simp [State.modWin]

theorem State.modWin_other (s : State) (w : WinId) (f : Window → Window) (x : WinId) (hx : x ≠ w) : (s.modWin w f).win[x.1] = s.win[x.1] := by
  have : w.1 ≠ x.1 := fun e => hx (Fin.ext e.symm)
  simp [State.modWin, this]

@[simp] theorem State.modCtx_frame (s : State) (n : CtxId) (f : Ctx → Ctx) :
    (s.modCtx n f).pending = s.pending ∧
    (s.modCtx n f).mem = s.mem ∧
    (s.modCtx n f).memc = s.memc ∧
    (s.modCtx n f).win = s.win ∧
    (s.modCtx n f).port = s.port ∧
    (s.modCtx n f).evu = s.evu ∧
    (s.modCtx n f).pcie = s.pcie ∧
    (s.modCtx n f).faults = s.faults ∧
    (s.modCtx n f).power = s.power ∧
    (s.modCtx n f).drone = s.drone ∧
    (s.modCtx n f).timer = s.timer ∧
    (s.modCtx n f).timerShadow = s.timerShadow ∧
    (s.modCtx n f).mon = s.mon ∧
    (s.modCtx n f).fetch = s.fetch ∧
    (s.modCtx n f).slot = s.slot ∧
    (s.modCtx n f).commits = s.commits ∧
    (s.modCtx n f).comp = s.comp ∧
    (s.modCtx n f).relief = s.relief ∧
    (s.modCtx n f).prot = s.prot ∧
    (s.modCtx n f).head = s.head ∧
    (s.modCtx n f).panel = s.panel ∧
    (s.modCtx n f).syn = s.syn ∧
    (s.modCtx n f).epd = s.epd ∧
    (s.modCtx n f).seg = s.seg ∧
    (s.modCtx n f).adc = s.adc ∧
    (s.modCtx n f).relay = s.relay ∧
    (s.modCtx n f).cal = s.cal ∧
    (s.modCtx n f).boot = s.boot ∧
    (s.modCtx n f).pins = s.pins ∧
    (s.modCtx n f).free = s.free :=
  by and_intros <;> rfl

@[simp] theorem State.modCtx_same (s : State) (n : CtxId) (f : Ctx → Ctx) : (s.modCtx n f).ctx[n.1] = f s.ctx[n] := by
  simp [State.modCtx]

theorem State.modCtx_other (s : State) (n : CtxId) (f : Ctx → Ctx) (x : CtxId) (hx : x ≠ n) : (s.modCtx n f).ctx[x.1] = s.ctx[x.1] := by
  have : n.1 ≠ x.1 := fun e => hx (Fin.ext e.symm)
  simp [State.modCtx, this]

@[simp] theorem State.modSrc_frame (s : State) (n : SourceId) (f : Source → Source) :
    (s.modSrc n f).pending = s.pending ∧
    (s.modSrc n f).mem = s.mem ∧
    (s.modSrc n f).memc = s.memc ∧
    (s.modSrc n f).win = s.win ∧
    (s.modSrc n f).ctx = s.ctx ∧
    (s.modSrc n f).port = s.port ∧
    (s.modSrc n f).pcie = s.pcie ∧
    (s.modSrc n f).faults = s.faults ∧
    (s.modSrc n f).power = s.power ∧
    (s.modSrc n f).drone = s.drone ∧
    (s.modSrc n f).timer = s.timer ∧
    (s.modSrc n f).timerShadow = s.timerShadow ∧
    (s.modSrc n f).mon = s.mon ∧
    (s.modSrc n f).fetch = s.fetch ∧
    (s.modSrc n f).slot = s.slot ∧
    (s.modSrc n f).commits = s.commits ∧
    (s.modSrc n f).comp = s.comp ∧
    (s.modSrc n f).relief = s.relief ∧
    (s.modSrc n f).prot = s.prot ∧
    (s.modSrc n f).head = s.head ∧
    (s.modSrc n f).panel = s.panel ∧
    (s.modSrc n f).syn = s.syn ∧
    (s.modSrc n f).epd = s.epd ∧
    (s.modSrc n f).seg = s.seg ∧
    (s.modSrc n f).adc = s.adc ∧
    (s.modSrc n f).relay = s.relay ∧
    (s.modSrc n f).cal = s.cal ∧
    (s.modSrc n f).boot = s.boot ∧
    (s.modSrc n f).pins = s.pins ∧
    (s.modSrc n f).free = s.free :=
  by and_intros <;> rfl

@[simp] theorem State.modSrc_same (s : State) (n : SourceId) (f : Source → Source) : (s.modSrc n f).evu.src[n.1] = f s.evu.src[n] := by
  simp [State.modSrc]

theorem State.modSrc_other (s : State) (n : SourceId) (f : Source → Source) (x : SourceId) (hx : x ≠ n) : (s.modSrc n f).evu.src[x.1] = s.evu.src[x.1] := by
  have : n.1 ≠ x.1 := fun e => hx (Fin.ext e.symm)
  simp [State.modSrc, this]

@[simp] theorem State.modSrc_group (s : State) (n : SourceId) (f : Source → Source) :
    (s.modSrc n f).evu.hold = s.evu.hold ∧
    (s.modSrc n f).evu.port = s.evu.port ∧
    (s.modSrc n f).evu.vec = s.evu.vec ∧
    (s.modSrc n f).evu.pin = s.evu.pin :=
  ⟨rfl, rfl, rfl, rfl⟩

@[simp] theorem State.modFn_frame (s : State) (n : FnId) (f : Function → Function) :
    (s.modFn n f).pending = s.pending ∧
    (s.modFn n f).mem = s.mem ∧
    (s.modFn n f).memc = s.memc ∧
    (s.modFn n f).win = s.win ∧
    (s.modFn n f).ctx = s.ctx ∧
    (s.modFn n f).port = s.port ∧
    (s.modFn n f).evu = s.evu ∧
    (s.modFn n f).faults = s.faults ∧
    (s.modFn n f).power = s.power ∧
    (s.modFn n f).drone = s.drone ∧
    (s.modFn n f).timer = s.timer ∧
    (s.modFn n f).timerShadow = s.timerShadow ∧
    (s.modFn n f).mon = s.mon ∧
    (s.modFn n f).fetch = s.fetch ∧
    (s.modFn n f).slot = s.slot ∧
    (s.modFn n f).commits = s.commits ∧
    (s.modFn n f).comp = s.comp ∧
    (s.modFn n f).relief = s.relief ∧
    (s.modFn n f).prot = s.prot ∧
    (s.modFn n f).head = s.head ∧
    (s.modFn n f).panel = s.panel ∧
    (s.modFn n f).syn = s.syn ∧
    (s.modFn n f).epd = s.epd ∧
    (s.modFn n f).seg = s.seg ∧
    (s.modFn n f).adc = s.adc ∧
    (s.modFn n f).relay = s.relay ∧
    (s.modFn n f).cal = s.cal ∧
    (s.modFn n f).boot = s.boot ∧
    (s.modFn n f).pins = s.pins ∧
    (s.modFn n f).free = s.free :=
  by and_intros <;> rfl

@[simp] theorem State.modFn_same (s : State) (n : FnId) (f : Function → Function) : (s.modFn n f).pcie.fn[n.1] = f s.pcie.fn[n] := by
  simp [State.modFn]

theorem State.modFn_other (s : State) (n : FnId) (f : Function → Function) (x : FnId) (hx : x ≠ n) : (s.modFn n f).pcie.fn[x.1] = s.pcie.fn[x.1] := by
  have : n.1 ≠ x.1 := fun e => hx (Fin.ext e.symm)
  simp [State.modFn, this]

@[simp] theorem State.modFn_group (s : State) (n : FnId) (f : Function → Function) :
    (s.modFn n f).pcie.linkUp = s.pcie.linkUp ∧
    (s.modFn n f).pcie.refclk = s.pcie.refclk ∧
    (s.modFn n f).pcie.vfEnable = s.pcie.vfEnable ∧
    (s.modFn n f).pcie.numVfs = s.pcie.numVfs ∧
    (s.modFn n f).pcie.ari = s.pcie.ari ∧
    (s.modFn n f).pcie.sent = s.pcie.sent :=
  by and_intros <;> rfl

@[simp] theorem State.modTimer_frame (s : State) (n : TimerId) (f : Timer → Timer) :
    (s.modTimer n f).pending = s.pending ∧
    (s.modTimer n f).mem = s.mem ∧
    (s.modTimer n f).memc = s.memc ∧
    (s.modTimer n f).win = s.win ∧
    (s.modTimer n f).ctx = s.ctx ∧
    (s.modTimer n f).port = s.port ∧
    (s.modTimer n f).evu = s.evu ∧
    (s.modTimer n f).pcie = s.pcie ∧
    (s.modTimer n f).faults = s.faults ∧
    (s.modTimer n f).power = s.power ∧
    (s.modTimer n f).drone = s.drone ∧
    (s.modTimer n f).timerShadow = s.timerShadow ∧
    (s.modTimer n f).mon = s.mon ∧
    (s.modTimer n f).fetch = s.fetch ∧
    (s.modTimer n f).slot = s.slot ∧
    (s.modTimer n f).commits = s.commits ∧
    (s.modTimer n f).comp = s.comp ∧
    (s.modTimer n f).relief = s.relief ∧
    (s.modTimer n f).prot = s.prot ∧
    (s.modTimer n f).head = s.head ∧
    (s.modTimer n f).panel = s.panel ∧
    (s.modTimer n f).syn = s.syn ∧
    (s.modTimer n f).epd = s.epd ∧
    (s.modTimer n f).seg = s.seg ∧
    (s.modTimer n f).adc = s.adc ∧
    (s.modTimer n f).relay = s.relay ∧
    (s.modTimer n f).cal = s.cal ∧
    (s.modTimer n f).boot = s.boot ∧
    (s.modTimer n f).pins = s.pins ∧
    (s.modTimer n f).free = s.free :=
  by and_intros <;> rfl

@[simp] theorem State.modTimer_same (s : State) (n : TimerId) (f : Timer → Timer) : (s.modTimer n f).timer[n.1] = f s.timer[n] := by
  simp [State.modTimer]

theorem State.modTimer_other (s : State) (n : TimerId) (f : Timer → Timer) (x : TimerId) (hx : x ≠ n) : (s.modTimer n f).timer[x.1] = s.timer[x.1] := by
  have : n.1 ≠ x.1 := fun e => hx (Fin.ext e.symm)
  simp [State.modTimer, this]

@[simp] theorem State.modMon_frame (s : State) (n : MonId) (f : Monitor → Monitor) :
    (s.modMon n f).pending = s.pending ∧
    (s.modMon n f).mem = s.mem ∧
    (s.modMon n f).memc = s.memc ∧
    (s.modMon n f).win = s.win ∧
    (s.modMon n f).ctx = s.ctx ∧
    (s.modMon n f).port = s.port ∧
    (s.modMon n f).evu = s.evu ∧
    (s.modMon n f).pcie = s.pcie ∧
    (s.modMon n f).faults = s.faults ∧
    (s.modMon n f).power = s.power ∧
    (s.modMon n f).drone = s.drone ∧
    (s.modMon n f).timer = s.timer ∧
    (s.modMon n f).timerShadow = s.timerShadow ∧
    (s.modMon n f).fetch = s.fetch ∧
    (s.modMon n f).slot = s.slot ∧
    (s.modMon n f).commits = s.commits ∧
    (s.modMon n f).comp = s.comp ∧
    (s.modMon n f).relief = s.relief ∧
    (s.modMon n f).prot = s.prot ∧
    (s.modMon n f).head = s.head ∧
    (s.modMon n f).panel = s.panel ∧
    (s.modMon n f).syn = s.syn ∧
    (s.modMon n f).epd = s.epd ∧
    (s.modMon n f).seg = s.seg ∧
    (s.modMon n f).adc = s.adc ∧
    (s.modMon n f).relay = s.relay ∧
    (s.modMon n f).cal = s.cal ∧
    (s.modMon n f).boot = s.boot ∧
    (s.modMon n f).pins = s.pins ∧
    (s.modMon n f).free = s.free :=
  by and_intros <;> rfl

@[simp] theorem State.modMon_same (s : State) (n : MonId) (f : Monitor → Monitor) : (s.modMon n f).mon[n.1] = f s.mon[n] := by
  simp [State.modMon]

theorem State.modMon_other (s : State) (n : MonId) (f : Monitor → Monitor) (x : MonId) (hx : x ≠ n) : (s.modMon n f).mon[x.1] = s.mon[x.1] := by
  have : n.1 ≠ x.1 := fun e => hx (Fin.ext e.symm)
  simp [State.modMon, this]

@[simp] theorem State.modQueue_frame (s : State) (q : QueueId) (f : Queue → Queue) :
    (s.modQueue q f).pending = s.pending ∧
    (s.modQueue q f).mem = s.mem ∧
    (s.modQueue q f).memc = s.memc ∧
    (s.modQueue q f).win = s.win ∧
    (s.modQueue q f).ctx = s.ctx ∧
    (s.modQueue q f).port = s.port ∧
    (s.modQueue q f).evu = s.evu ∧
    (s.modQueue q f).pcie = s.pcie ∧
    (s.modQueue q f).faults = s.faults ∧
    (s.modQueue q f).power = s.power ∧
    (s.modQueue q f).drone = s.drone ∧
    (s.modQueue q f).timer = s.timer ∧
    (s.modQueue q f).timerShadow = s.timerShadow ∧
    (s.modQueue q f).mon = s.mon ∧
    (s.modQueue q f).slot = s.slot ∧
    (s.modQueue q f).commits = s.commits ∧
    (s.modQueue q f).comp = s.comp ∧
    (s.modQueue q f).relief = s.relief ∧
    (s.modQueue q f).prot = s.prot ∧
    (s.modQueue q f).head = s.head ∧
    (s.modQueue q f).panel = s.panel ∧
    (s.modQueue q f).syn = s.syn ∧
    (s.modQueue q f).epd = s.epd ∧
    (s.modQueue q f).seg = s.seg ∧
    (s.modQueue q f).adc = s.adc ∧
    (s.modQueue q f).relay = s.relay ∧
    (s.modQueue q f).cal = s.cal ∧
    (s.modQueue q f).boot = s.boot ∧
    (s.modQueue q f).pins = s.pins ∧
    (s.modQueue q f).free = s.free :=
  by and_intros <;> rfl

@[simp] theorem State.modQueue_same (s : State) (q : QueueId) (f : Queue → Queue) : (s.modQueue q f).fetch.queue[q.1] = f s.fetch.queue[q] := by
  simp [State.modQueue]

theorem State.modQueue_other (s : State) (q : QueueId) (f : Queue → Queue) (x : QueueId) (hx : x ≠ q) : (s.modQueue q f).fetch.queue[x.1] = s.fetch.queue[x.1] := by
  have : q.1 ≠ x.1 := fun e => hx (Fin.ext e.symm)
  simp [State.modQueue, this]

@[simp] theorem State.modQueue_group (s : State) (q : QueueId) (f : Queue → Queue) :
    (s.modQueue q f).fetch.fclk = s.fetch.fclk ∧
    (s.modQueue q f).fetch.vc = s.fetch.vc ∧
    (s.modQueue q f).fetch.ve = s.fetch.ve ∧
    (s.modQueue q f).fetch.inflight = s.fetch.inflight ∧
    (s.modQueue q f).fetch.readIn = s.fetch.readIn ∧
    (s.modQueue q f).fetch.turn = s.fetch.turn :=
  by and_intros <;> rfl

@[simp] theorem State.modComp_frame (s : State) (h : ContHead) (f : Comp → Comp) :
    (s.modComp h f).pending = s.pending ∧
    (s.modComp h f).mem = s.mem ∧
    (s.modComp h f).memc = s.memc ∧
    (s.modComp h f).win = s.win ∧
    (s.modComp h f).ctx = s.ctx ∧
    (s.modComp h f).port = s.port ∧
    (s.modComp h f).evu = s.evu ∧
    (s.modComp h f).pcie = s.pcie ∧
    (s.modComp h f).faults = s.faults ∧
    (s.modComp h f).power = s.power ∧
    (s.modComp h f).drone = s.drone ∧
    (s.modComp h f).timer = s.timer ∧
    (s.modComp h f).timerShadow = s.timerShadow ∧
    (s.modComp h f).mon = s.mon ∧
    (s.modComp h f).fetch = s.fetch ∧
    (s.modComp h f).slot = s.slot ∧
    (s.modComp h f).commits = s.commits ∧
    (s.modComp h f).relief = s.relief ∧
    (s.modComp h f).prot = s.prot ∧
    (s.modComp h f).head = s.head ∧
    (s.modComp h f).panel = s.panel ∧
    (s.modComp h f).syn = s.syn ∧
    (s.modComp h f).epd = s.epd ∧
    (s.modComp h f).seg = s.seg ∧
    (s.modComp h f).adc = s.adc ∧
    (s.modComp h f).relay = s.relay ∧
    (s.modComp h f).cal = s.cal ∧
    (s.modComp h f).boot = s.boot ∧
    (s.modComp h f).pins = s.pins ∧
    (s.modComp h f).free = s.free :=
  by and_intros <;> rfl

@[simp] theorem State.modComp_same (s : State) (h : ContHead) (f : Comp → Comp) : (s.modComp h f).comp[h.1] = f s.comp[h] := by
  simp [State.modComp]

theorem State.modComp_other (s : State) (h : ContHead) (f : Comp → Comp) (x : ContHead) (hx : x ≠ h) : (s.modComp h f).comp[x.1] = s.comp[x.1] := by
  have : h.1 ≠ x.1 := fun e => hx (Fin.ext e.symm)
  simp [State.modComp, this]

@[simp] theorem State.modHead_frame (s : State) (h : ContHead) (f : Head → Head) :
    (s.modHead h f).pending = s.pending ∧
    (s.modHead h f).mem = s.mem ∧
    (s.modHead h f).memc = s.memc ∧
    (s.modHead h f).win = s.win ∧
    (s.modHead h f).ctx = s.ctx ∧
    (s.modHead h f).port = s.port ∧
    (s.modHead h f).evu = s.evu ∧
    (s.modHead h f).pcie = s.pcie ∧
    (s.modHead h f).faults = s.faults ∧
    (s.modHead h f).power = s.power ∧
    (s.modHead h f).drone = s.drone ∧
    (s.modHead h f).timer = s.timer ∧
    (s.modHead h f).timerShadow = s.timerShadow ∧
    (s.modHead h f).mon = s.mon ∧
    (s.modHead h f).fetch = s.fetch ∧
    (s.modHead h f).slot = s.slot ∧
    (s.modHead h f).commits = s.commits ∧
    (s.modHead h f).comp = s.comp ∧
    (s.modHead h f).relief = s.relief ∧
    (s.modHead h f).prot = s.prot ∧
    (s.modHead h f).panel = s.panel ∧
    (s.modHead h f).syn = s.syn ∧
    (s.modHead h f).epd = s.epd ∧
    (s.modHead h f).seg = s.seg ∧
    (s.modHead h f).adc = s.adc ∧
    (s.modHead h f).relay = s.relay ∧
    (s.modHead h f).cal = s.cal ∧
    (s.modHead h f).boot = s.boot ∧
    (s.modHead h f).pins = s.pins ∧
    (s.modHead h f).free = s.free :=
  by and_intros <;> rfl

@[simp] theorem State.modHead_same (s : State) (h : ContHead) (f : Head → Head) : (s.modHead h f).head[h.1] = f s.head[h] := by
  simp [State.modHead]

theorem State.modHead_other (s : State) (h : ContHead) (f : Head → Head) (x : ContHead) (hx : x ≠ h) : (s.modHead h f).head[x.1] = s.head[x.1] := by
  have : h.1 ≠ x.1 := fun e => hx (Fin.ext e.symm)
  simp [State.modHead, this]

@[simp] theorem State.modPanel_frame (s : State) (h : ContHead) (f : Panel → Panel) :
    (s.modPanel h f).pending = s.pending ∧
    (s.modPanel h f).mem = s.mem ∧
    (s.modPanel h f).memc = s.memc ∧
    (s.modPanel h f).win = s.win ∧
    (s.modPanel h f).ctx = s.ctx ∧
    (s.modPanel h f).port = s.port ∧
    (s.modPanel h f).evu = s.evu ∧
    (s.modPanel h f).pcie = s.pcie ∧
    (s.modPanel h f).faults = s.faults ∧
    (s.modPanel h f).power = s.power ∧
    (s.modPanel h f).drone = s.drone ∧
    (s.modPanel h f).timer = s.timer ∧
    (s.modPanel h f).timerShadow = s.timerShadow ∧
    (s.modPanel h f).mon = s.mon ∧
    (s.modPanel h f).fetch = s.fetch ∧
    (s.modPanel h f).slot = s.slot ∧
    (s.modPanel h f).commits = s.commits ∧
    (s.modPanel h f).comp = s.comp ∧
    (s.modPanel h f).relief = s.relief ∧
    (s.modPanel h f).prot = s.prot ∧
    (s.modPanel h f).head = s.head ∧
    (s.modPanel h f).syn = s.syn ∧
    (s.modPanel h f).epd = s.epd ∧
    (s.modPanel h f).seg = s.seg ∧
    (s.modPanel h f).adc = s.adc ∧
    (s.modPanel h f).relay = s.relay ∧
    (s.modPanel h f).cal = s.cal ∧
    (s.modPanel h f).boot = s.boot ∧
    (s.modPanel h f).pins = s.pins ∧
    (s.modPanel h f).free = s.free :=
  by and_intros <;> rfl

@[simp] theorem State.modPanel_same (s : State) (h : ContHead) (f : Panel → Panel) : (s.modPanel h f).panel[h.1] = f s.panel[h] := by
  simp [State.modPanel]

theorem State.modPanel_other (s : State) (h : ContHead) (f : Panel → Panel) (x : ContHead) (hx : x ≠ h) : (s.modPanel h f).panel[x.1] = s.panel[x.1] := by
  have : h.1 ≠ x.1 := fun e => hx (Fin.ext e.symm)
  simp [State.modPanel, this]

@[simp] theorem State.modProt_frame (s : State) (h : ContHead) (f : Prot → Prot) :
    (s.modProt h f).pending = s.pending ∧
    (s.modProt h f).mem = s.mem ∧
    (s.modProt h f).memc = s.memc ∧
    (s.modProt h f).win = s.win ∧
    (s.modProt h f).ctx = s.ctx ∧
    (s.modProt h f).port = s.port ∧
    (s.modProt h f).evu = s.evu ∧
    (s.modProt h f).pcie = s.pcie ∧
    (s.modProt h f).faults = s.faults ∧
    (s.modProt h f).power = s.power ∧
    (s.modProt h f).drone = s.drone ∧
    (s.modProt h f).timer = s.timer ∧
    (s.modProt h f).timerShadow = s.timerShadow ∧
    (s.modProt h f).mon = s.mon ∧
    (s.modProt h f).fetch = s.fetch ∧
    (s.modProt h f).slot = s.slot ∧
    (s.modProt h f).commits = s.commits ∧
    (s.modProt h f).comp = s.comp ∧
    (s.modProt h f).relief = s.relief ∧
    (s.modProt h f).head = s.head ∧
    (s.modProt h f).panel = s.panel ∧
    (s.modProt h f).syn = s.syn ∧
    (s.modProt h f).epd = s.epd ∧
    (s.modProt h f).seg = s.seg ∧
    (s.modProt h f).adc = s.adc ∧
    (s.modProt h f).relay = s.relay ∧
    (s.modProt h f).cal = s.cal ∧
    (s.modProt h f).boot = s.boot ∧
    (s.modProt h f).pins = s.pins ∧
    (s.modProt h f).free = s.free :=
  by and_intros <;> rfl

@[simp] theorem State.modProt_same (s : State) (h : ContHead) (f : Prot → Prot) : (s.modProt h f).prot[h.1] = f s.prot[h] := by
  simp [State.modProt]

theorem State.modProt_other (s : State) (h : ContHead) (f : Prot → Prot) (x : ContHead) (hx : x ≠ h) : (s.modProt h f).prot[x.1] = s.prot[x.1] := by
  have : h.1 ≠ x.1 := fun e => hx (Fin.ext e.symm)
  simp [State.modProt, this]

@[simp] theorem State.modSyn_frame (s : State) (y : SynId) (f : Syn → Syn) :
    (s.modSyn y f).pending = s.pending ∧
    (s.modSyn y f).mem = s.mem ∧
    (s.modSyn y f).memc = s.memc ∧
    (s.modSyn y f).win = s.win ∧
    (s.modSyn y f).ctx = s.ctx ∧
    (s.modSyn y f).port = s.port ∧
    (s.modSyn y f).evu = s.evu ∧
    (s.modSyn y f).pcie = s.pcie ∧
    (s.modSyn y f).faults = s.faults ∧
    (s.modSyn y f).power = s.power ∧
    (s.modSyn y f).drone = s.drone ∧
    (s.modSyn y f).timer = s.timer ∧
    (s.modSyn y f).timerShadow = s.timerShadow ∧
    (s.modSyn y f).mon = s.mon ∧
    (s.modSyn y f).fetch = s.fetch ∧
    (s.modSyn y f).slot = s.slot ∧
    (s.modSyn y f).commits = s.commits ∧
    (s.modSyn y f).comp = s.comp ∧
    (s.modSyn y f).relief = s.relief ∧
    (s.modSyn y f).prot = s.prot ∧
    (s.modSyn y f).head = s.head ∧
    (s.modSyn y f).panel = s.panel ∧
    (s.modSyn y f).epd = s.epd ∧
    (s.modSyn y f).seg = s.seg ∧
    (s.modSyn y f).adc = s.adc ∧
    (s.modSyn y f).relay = s.relay ∧
    (s.modSyn y f).cal = s.cal ∧
    (s.modSyn y f).boot = s.boot ∧
    (s.modSyn y f).pins = s.pins ∧
    (s.modSyn y f).free = s.free :=
  by and_intros <;> rfl

@[simp] theorem State.modSyn_same (s : State) (y : SynId) (f : Syn → Syn) : (s.modSyn y f).syn[y.1] = f s.syn[y] := by
  simp [State.modSyn]

theorem State.modSyn_other (s : State) (y : SynId) (f : Syn → Syn) (x : SynId) (hx : x ≠ y) : (s.modSyn y f).syn[x.1] = s.syn[x.1] := by
  have : y.1 ≠ x.1 := fun e => hx (Fin.ext e.symm)
  simp [State.modSyn, this]

@[simp] theorem State.modCal_frame (s : State) (u : CalId) (f : Cal → Cal) :
    (s.modCal u f).pending = s.pending ∧
    (s.modCal u f).mem = s.mem ∧
    (s.modCal u f).memc = s.memc ∧
    (s.modCal u f).win = s.win ∧
    (s.modCal u f).ctx = s.ctx ∧
    (s.modCal u f).port = s.port ∧
    (s.modCal u f).evu = s.evu ∧
    (s.modCal u f).pcie = s.pcie ∧
    (s.modCal u f).faults = s.faults ∧
    (s.modCal u f).power = s.power ∧
    (s.modCal u f).drone = s.drone ∧
    (s.modCal u f).timer = s.timer ∧
    (s.modCal u f).timerShadow = s.timerShadow ∧
    (s.modCal u f).mon = s.mon ∧
    (s.modCal u f).fetch = s.fetch ∧
    (s.modCal u f).slot = s.slot ∧
    (s.modCal u f).commits = s.commits ∧
    (s.modCal u f).comp = s.comp ∧
    (s.modCal u f).relief = s.relief ∧
    (s.modCal u f).prot = s.prot ∧
    (s.modCal u f).head = s.head ∧
    (s.modCal u f).panel = s.panel ∧
    (s.modCal u f).syn = s.syn ∧
    (s.modCal u f).epd = s.epd ∧
    (s.modCal u f).seg = s.seg ∧
    (s.modCal u f).adc = s.adc ∧
    (s.modCal u f).relay = s.relay ∧
    (s.modCal u f).boot = s.boot ∧
    (s.modCal u f).pins = s.pins ∧
    (s.modCal u f).free = s.free :=
  by and_intros <;> rfl

@[simp] theorem State.modCal_same (s : State) (u : CalId) (f : Cal → Cal) : (s.modCal u f).cal[u.1] = f s.cal[u] := by
  simp [State.modCal]

theorem State.modCal_other (s : State) (u : CalId) (f : Cal → Cal) (x : CalId) (hx : x ≠ u) : (s.modCal u f).cal[x.1] = s.cal[x.1] := by
  have : u.1 ≠ x.1 := fun e => hx (Fin.ext e.symm)
  simp [State.modCal, this]

@[simp] theorem State.modStream_frame (s : State) (i : StreamId) (f : Stream → Stream) :
    (s.modStream i f).pending = s.pending ∧
    (s.modStream i f).mem = s.mem ∧
    (s.modStream i f).memc = s.memc ∧
    (s.modStream i f).win = s.win ∧
    (s.modStream i f).ctx = s.ctx ∧
    (s.modStream i f).port = s.port ∧
    (s.modStream i f).evu = s.evu ∧
    (s.modStream i f).pcie = s.pcie ∧
    (s.modStream i f).faults = s.faults ∧
    (s.modStream i f).power = s.power ∧
    (s.modStream i f).drone = s.drone ∧
    (s.modStream i f).timer = s.timer ∧
    (s.modStream i f).timerShadow = s.timerShadow ∧
    (s.modStream i f).mon = s.mon ∧
    (s.modStream i f).fetch = s.fetch ∧
    (s.modStream i f).slot = s.slot ∧
    (s.modStream i f).commits = s.commits ∧
    (s.modStream i f).comp = s.comp ∧
    (s.modStream i f).relief = s.relief ∧
    (s.modStream i f).prot = s.prot ∧
    (s.modStream i f).head = s.head ∧
    (s.modStream i f).panel = s.panel ∧
    (s.modStream i f).syn = s.syn ∧
    (s.modStream i f).epd = s.epd ∧
    (s.modStream i f).seg = s.seg ∧
    (s.modStream i f).adc = s.adc ∧
    (s.modStream i f).cal = s.cal ∧
    (s.modStream i f).boot = s.boot ∧
    (s.modStream i f).pins = s.pins ∧
    (s.modStream i f).free = s.free :=
  by and_intros <;> rfl

@[simp] theorem State.modStream_same (s : State) (i : StreamId) (f : Stream → Stream) : (s.modStream i f).relay.stream[i.1] = f s.relay.stream[i] := by
  simp [State.modStream]

theorem State.modStream_other (s : State) (i : StreamId) (f : Stream → Stream) (x : StreamId) (hx : x ≠ i) : (s.modStream i f).relay.stream[x.1] = s.relay.stream[x.1] := by
  have : i.1 ≠ x.1 := fun e => hx (Fin.ext e.symm)
  simp [State.modStream, this]

@[simp] theorem State.modStream_group (s : State) (i : StreamId) (f : Stream → Stream) :
    (s.modStream i f).relay.cfg = s.relay.cfg ∧
    (s.modStream i f).relay.up = s.relay.up ∧
    (s.modStream i f).relay.speed = s.relay.speed ∧
    (s.modStream i f).relay.duplexFault = s.relay.duplexFault ∧
    (s.modStream i f).relay.egress = s.relay.egress ∧
    (s.modStream i f).relay.vc = s.relay.vc ∧
    (s.modStream i f).relay.ve = s.relay.ve ∧
    (s.modStream i f).relay.ingest = s.relay.ingest ∧
    (s.modStream i f).relay.rxDrop = s.relay.rxDrop ∧
    (s.modStream i f).relay.txDrop = s.relay.txDrop ∧
    (s.modStream i f).relay.dropCount = s.relay.dropCount ∧
    (s.modStream i f).relay.erx = s.relay.erx ∧
    (s.modStream i f).relay.wire = s.relay.wire :=
  by and_intros <;> rfl

@[simp] theorem State.modEgress_frame (s : State) (i : StreamId) (f : EgressQueue → EgressQueue) :
    (s.modEgress i f).pending = s.pending ∧
    (s.modEgress i f).mem = s.mem ∧
    (s.modEgress i f).memc = s.memc ∧
    (s.modEgress i f).win = s.win ∧
    (s.modEgress i f).ctx = s.ctx ∧
    (s.modEgress i f).port = s.port ∧
    (s.modEgress i f).evu = s.evu ∧
    (s.modEgress i f).pcie = s.pcie ∧
    (s.modEgress i f).faults = s.faults ∧
    (s.modEgress i f).power = s.power ∧
    (s.modEgress i f).drone = s.drone ∧
    (s.modEgress i f).timer = s.timer ∧
    (s.modEgress i f).timerShadow = s.timerShadow ∧
    (s.modEgress i f).mon = s.mon ∧
    (s.modEgress i f).fetch = s.fetch ∧
    (s.modEgress i f).slot = s.slot ∧
    (s.modEgress i f).commits = s.commits ∧
    (s.modEgress i f).comp = s.comp ∧
    (s.modEgress i f).relief = s.relief ∧
    (s.modEgress i f).prot = s.prot ∧
    (s.modEgress i f).head = s.head ∧
    (s.modEgress i f).panel = s.panel ∧
    (s.modEgress i f).syn = s.syn ∧
    (s.modEgress i f).epd = s.epd ∧
    (s.modEgress i f).seg = s.seg ∧
    (s.modEgress i f).adc = s.adc ∧
    (s.modEgress i f).cal = s.cal ∧
    (s.modEgress i f).boot = s.boot ∧
    (s.modEgress i f).pins = s.pins ∧
    (s.modEgress i f).free = s.free :=
  by and_intros <;> rfl

@[simp] theorem State.modEgress_same (s : State) (i : StreamId) (f : EgressQueue → EgressQueue) : (s.modEgress i f).relay.egress[i.1] = f s.relay.egress[i] := by
  simp [State.modEgress]

theorem State.modEgress_other (s : State) (i : StreamId) (f : EgressQueue → EgressQueue) (x : StreamId) (hx : x ≠ i) : (s.modEgress i f).relay.egress[x.1] = s.relay.egress[x.1] := by
  have : i.1 ≠ x.1 := fun e => hx (Fin.ext e.symm)
  simp [State.modEgress, this]

@[simp] theorem State.modEgress_group (s : State) (i : StreamId) (f : EgressQueue → EgressQueue) :
    (s.modEgress i f).relay.cfg = s.relay.cfg ∧
    (s.modEgress i f).relay.up = s.relay.up ∧
    (s.modEgress i f).relay.speed = s.relay.speed ∧
    (s.modEgress i f).relay.duplexFault = s.relay.duplexFault ∧
    (s.modEgress i f).relay.stream = s.relay.stream ∧
    (s.modEgress i f).relay.vc = s.relay.vc ∧
    (s.modEgress i f).relay.ve = s.relay.ve ∧
    (s.modEgress i f).relay.ingest = s.relay.ingest ∧
    (s.modEgress i f).relay.rxDrop = s.relay.rxDrop ∧
    (s.modEgress i f).relay.txDrop = s.relay.txDrop ∧
    (s.modEgress i f).relay.dropCount = s.relay.dropCount ∧
    (s.modEgress i f).relay.erx = s.relay.erx ∧
    (s.modEgress i f).relay.wire = s.relay.wire :=
  by and_intros <;> rfl

@[simp] theorem State.modIngest_frame (s : State) (g : IngestId) (f : Ingest → Ingest) :
    (s.modIngest g f).pending = s.pending ∧
    (s.modIngest g f).mem = s.mem ∧
    (s.modIngest g f).memc = s.memc ∧
    (s.modIngest g f).win = s.win ∧
    (s.modIngest g f).ctx = s.ctx ∧
    (s.modIngest g f).port = s.port ∧
    (s.modIngest g f).evu = s.evu ∧
    (s.modIngest g f).pcie = s.pcie ∧
    (s.modIngest g f).faults = s.faults ∧
    (s.modIngest g f).power = s.power ∧
    (s.modIngest g f).drone = s.drone ∧
    (s.modIngest g f).timer = s.timer ∧
    (s.modIngest g f).timerShadow = s.timerShadow ∧
    (s.modIngest g f).mon = s.mon ∧
    (s.modIngest g f).fetch = s.fetch ∧
    (s.modIngest g f).slot = s.slot ∧
    (s.modIngest g f).commits = s.commits ∧
    (s.modIngest g f).comp = s.comp ∧
    (s.modIngest g f).relief = s.relief ∧
    (s.modIngest g f).prot = s.prot ∧
    (s.modIngest g f).head = s.head ∧
    (s.modIngest g f).panel = s.panel ∧
    (s.modIngest g f).syn = s.syn ∧
    (s.modIngest g f).epd = s.epd ∧
    (s.modIngest g f).seg = s.seg ∧
    (s.modIngest g f).adc = s.adc ∧
    (s.modIngest g f).cal = s.cal ∧
    (s.modIngest g f).boot = s.boot ∧
    (s.modIngest g f).pins = s.pins ∧
    (s.modIngest g f).free = s.free :=
  by and_intros <;> rfl

@[simp] theorem State.modIngest_same (s : State) (g : IngestId) (f : Ingest → Ingest) : (s.modIngest g f).relay.ingest[g.1] = f s.relay.ingest[g] := by
  simp [State.modIngest]

theorem State.modIngest_other (s : State) (g : IngestId) (f : Ingest → Ingest) (x : IngestId) (hx : x ≠ g) : (s.modIngest g f).relay.ingest[x.1] = s.relay.ingest[x.1] := by
  have : g.1 ≠ x.1 := fun e => hx (Fin.ext e.symm)
  simp [State.modIngest, this]

@[simp] theorem State.modIngest_group (s : State) (g : IngestId) (f : Ingest → Ingest) :
    (s.modIngest g f).relay.cfg = s.relay.cfg ∧
    (s.modIngest g f).relay.up = s.relay.up ∧
    (s.modIngest g f).relay.speed = s.relay.speed ∧
    (s.modIngest g f).relay.duplexFault = s.relay.duplexFault ∧
    (s.modIngest g f).relay.stream = s.relay.stream ∧
    (s.modIngest g f).relay.egress = s.relay.egress ∧
    (s.modIngest g f).relay.vc = s.relay.vc ∧
    (s.modIngest g f).relay.ve = s.relay.ve ∧
    (s.modIngest g f).relay.rxDrop = s.relay.rxDrop ∧
    (s.modIngest g f).relay.txDrop = s.relay.txDrop ∧
    (s.modIngest g f).relay.dropCount = s.relay.dropCount ∧
    (s.modIngest g f).relay.erx = s.relay.erx ∧
    (s.modIngest g f).relay.wire = s.relay.wire :=
  by and_intros <;> rfl

@[simp] theorem State.modSlot_frame (s : State) (h : HeadId) (z : SlotId) (x : Option Layer) :
    (s.modSlot h z x).pending = s.pending ∧
    (s.modSlot h z x).mem = s.mem ∧
    (s.modSlot h z x).memc = s.memc ∧
    (s.modSlot h z x).win = s.win ∧
    (s.modSlot h z x).ctx = s.ctx ∧
    (s.modSlot h z x).port = s.port ∧
    (s.modSlot h z x).evu = s.evu ∧
    (s.modSlot h z x).pcie = s.pcie ∧
    (s.modSlot h z x).faults = s.faults ∧
    (s.modSlot h z x).power = s.power ∧
    (s.modSlot h z x).drone = s.drone ∧
    (s.modSlot h z x).timer = s.timer ∧
    (s.modSlot h z x).timerShadow = s.timerShadow ∧
    (s.modSlot h z x).mon = s.mon ∧
    (s.modSlot h z x).fetch = s.fetch ∧
    (s.modSlot h z x).commits = s.commits ∧
    (s.modSlot h z x).comp = s.comp ∧
    (s.modSlot h z x).relief = s.relief ∧
    (s.modSlot h z x).prot = s.prot ∧
    (s.modSlot h z x).head = s.head ∧
    (s.modSlot h z x).panel = s.panel ∧
    (s.modSlot h z x).syn = s.syn ∧
    (s.modSlot h z x).epd = s.epd ∧
    (s.modSlot h z x).seg = s.seg ∧
    (s.modSlot h z x).adc = s.adc ∧
    (s.modSlot h z x).relay = s.relay ∧
    (s.modSlot h z x).cal = s.cal ∧
    (s.modSlot h z x).boot = s.boot ∧
    (s.modSlot h z x).pins = s.pins ∧
    (s.modSlot h z x).free = s.free :=
  by and_intros <;> rfl

@[simp] theorem State.modSlot_same (s : State) (h : HeadId) (z : SlotId) (x : Option Layer) :
    (s.modSlot h z x).slot[h.1][z.1] = x := by
  simp [State.modSlot]

@[simp] theorem State.write_frame (s : State) (a : Nat) (b : List Byte) :
    (s.write a b).pending = s.pending ∧
    (s.write a b).win = s.win ∧
    (s.write a b).ctx = s.ctx ∧
    (s.write a b).port = s.port ∧
    (s.write a b).evu = s.evu ∧
    (s.write a b).pcie = s.pcie ∧
    (s.write a b).faults = s.faults ∧
    (s.write a b).power = s.power ∧
    (s.write a b).drone = s.drone ∧
    (s.write a b).timer = s.timer ∧
    (s.write a b).timerShadow = s.timerShadow ∧
    (s.write a b).mon = s.mon ∧
    (s.write a b).fetch = s.fetch ∧
    (s.write a b).slot = s.slot ∧
    (s.write a b).commits = s.commits ∧
    (s.write a b).comp = s.comp ∧
    (s.write a b).relief = s.relief ∧
    (s.write a b).prot = s.prot ∧
    (s.write a b).head = s.head ∧
    (s.write a b).panel = s.panel ∧
    (s.write a b).syn = s.syn ∧
    (s.write a b).epd = s.epd ∧
    (s.write a b).seg = s.seg ∧
    (s.write a b).adc = s.adc ∧
    (s.write a b).relay = s.relay ∧
    (s.write a b).cal = s.cal ∧
    (s.write a b).boot = s.boot ∧
    (s.write a b).pins = s.pins ∧
    (s.write a b).free = s.free :=
  by and_intros <;> rfl

@[simp] theorem setPd_frame (s : State) (p : Pd) (on : Bool) :
    (setPd p on s).pending = s.pending ∧
    (setPd p on s).mem = s.mem ∧
    (setPd p on s).memc = s.memc ∧
    (setPd p on s).win = s.win ∧
    (setPd p on s).ctx = s.ctx ∧
    (setPd p on s).port = s.port ∧
    (setPd p on s).evu = s.evu ∧
    (setPd p on s).pcie = s.pcie ∧
    (setPd p on s).faults = s.faults ∧
    (setPd p on s).drone = s.drone ∧
    (setPd p on s).timer = s.timer ∧
    (setPd p on s).timerShadow = s.timerShadow ∧
    (setPd p on s).mon = s.mon ∧
    (setPd p on s).fetch = s.fetch ∧
    (setPd p on s).slot = s.slot ∧
    (setPd p on s).commits = s.commits ∧
    (setPd p on s).comp = s.comp ∧
    (setPd p on s).relief = s.relief ∧
    (setPd p on s).prot = s.prot ∧
    (setPd p on s).head = s.head ∧
    (setPd p on s).panel = s.panel ∧
    (setPd p on s).syn = s.syn ∧
    (setPd p on s).epd = s.epd ∧
    (setPd p on s).seg = s.seg ∧
    (setPd p on s).adc = s.adc ∧
    (setPd p on s).relay = s.relay ∧
    (setPd p on s).cal = s.cal ∧
    (setPd p on s).boot = s.boot ∧
    (setPd p on s).pins = s.pins ∧
    (setPd p on s).free = s.free :=
  by and_intros <;> rfl

@[simp] theorem bumpDevice_frame (s : State) :
    (bumpDevice s).pending = s.pending ∧
    (bumpDevice s).mem = s.mem ∧
    (bumpDevice s).memc = s.memc ∧
    (bumpDevice s).win = s.win ∧
    (bumpDevice s).ctx = s.ctx ∧
    (bumpDevice s).evu = s.evu ∧
    (bumpDevice s).pcie = s.pcie ∧
    (bumpDevice s).faults = s.faults ∧
    (bumpDevice s).power = s.power ∧
    (bumpDevice s).drone = s.drone ∧
    (bumpDevice s).timer = s.timer ∧
    (bumpDevice s).timerShadow = s.timerShadow ∧
    (bumpDevice s).mon = s.mon ∧
    (bumpDevice s).fetch = s.fetch ∧
    (bumpDevice s).slot = s.slot ∧
    (bumpDevice s).commits = s.commits ∧
    (bumpDevice s).comp = s.comp ∧
    (bumpDevice s).relief = s.relief ∧
    (bumpDevice s).prot = s.prot ∧
    (bumpDevice s).head = s.head ∧
    (bumpDevice s).panel = s.panel ∧
    (bumpDevice s).syn = s.syn ∧
    (bumpDevice s).epd = s.epd ∧
    (bumpDevice s).seg = s.seg ∧
    (bumpDevice s).adc = s.adc ∧
    (bumpDevice s).relay = s.relay ∧
    (bumpDevice s).cal = s.cal ∧
    (bumpDevice s).boot = s.boot ∧
    (bumpDevice s).pins = s.pins ∧
    (bumpDevice s).free = s.free :=
  by and_intros <;> rfl

@[simp] theorem bumpCtx_frame (s : State) (n : CtxId) :
    (bumpCtx n s).pending = s.pending ∧
    (bumpCtx n s).mem = s.mem ∧
    (bumpCtx n s).memc = s.memc ∧
    (bumpCtx n s).win = s.win ∧
    (bumpCtx n s).port = s.port ∧
    (bumpCtx n s).evu = s.evu ∧
    (bumpCtx n s).pcie = s.pcie ∧
    (bumpCtx n s).faults = s.faults ∧
    (bumpCtx n s).power = s.power ∧
    (bumpCtx n s).drone = s.drone ∧
    (bumpCtx n s).timer = s.timer ∧
    (bumpCtx n s).timerShadow = s.timerShadow ∧
    (bumpCtx n s).mon = s.mon ∧
    (bumpCtx n s).fetch = s.fetch ∧
    (bumpCtx n s).slot = s.slot ∧
    (bumpCtx n s).commits = s.commits ∧
    (bumpCtx n s).comp = s.comp ∧
    (bumpCtx n s).relief = s.relief ∧
    (bumpCtx n s).prot = s.prot ∧
    (bumpCtx n s).head = s.head ∧
    (bumpCtx n s).panel = s.panel ∧
    (bumpCtx n s).syn = s.syn ∧
    (bumpCtx n s).epd = s.epd ∧
    (bumpCtx n s).seg = s.seg ∧
    (bumpCtx n s).adc = s.adc ∧
    (bumpCtx n s).relay = s.relay ∧
    (bumpCtx n s).cal = s.cal ∧
    (bumpCtx n s).boot = s.boot ∧
    (bumpCtx n s).pins = s.pins ∧
    (bumpCtx n s).free = s.free :=
  by and_intros <;> rfl

@[simp] theorem bumpFree_frame (s : State) :
    (bumpFree s).pending = s.pending ∧
    (bumpFree s).mem = s.mem ∧
    (bumpFree s).memc = s.memc ∧
    (bumpFree s).win = s.win ∧
    (bumpFree s).ctx = s.ctx ∧
    (bumpFree s).port = s.port ∧
    (bumpFree s).evu = s.evu ∧
    (bumpFree s).pcie = s.pcie ∧
    (bumpFree s).faults = s.faults ∧
    (bumpFree s).power = s.power ∧
    (bumpFree s).drone = s.drone ∧
    (bumpFree s).timer = s.timer ∧
    (bumpFree s).timerShadow = s.timerShadow ∧
    (bumpFree s).mon = s.mon ∧
    (bumpFree s).fetch = s.fetch ∧
    (bumpFree s).slot = s.slot ∧
    (bumpFree s).commits = s.commits ∧
    (bumpFree s).comp = s.comp ∧
    (bumpFree s).relief = s.relief ∧
    (bumpFree s).prot = s.prot ∧
    (bumpFree s).head = s.head ∧
    (bumpFree s).panel = s.panel ∧
    (bumpFree s).syn = s.syn ∧
    (bumpFree s).epd = s.epd ∧
    (bumpFree s).seg = s.seg ∧
    (bumpFree s).adc = s.adc ∧
    (bumpFree s).relay = s.relay ∧
    (bumpFree s).cal = s.cal ∧
    (bumpFree s).boot = s.boot ∧
    (bumpFree s).pins = s.pins :=
  by and_intros <;> rfl

@[simp] theorem take_frame (s : State) (h : Holder) (r : Resource) :
    (take h r s).pending = s.pending ∧
    (take h r s).mem = s.mem ∧
    (take h r s).memc = s.memc ∧
    (take h r s).win = s.win ∧
    (take h r s).ctx = s.ctx ∧
    (take h r s).evu = s.evu ∧
    (take h r s).pcie = s.pcie ∧
    (take h r s).faults = s.faults ∧
    (take h r s).power = s.power ∧
    (take h r s).drone = s.drone ∧
    (take h r s).timer = s.timer ∧
    (take h r s).timerShadow = s.timerShadow ∧
    (take h r s).mon = s.mon ∧
    (take h r s).fetch = s.fetch ∧
    (take h r s).slot = s.slot ∧
    (take h r s).commits = s.commits ∧
    (take h r s).comp = s.comp ∧
    (take h r s).relief = s.relief ∧
    (take h r s).prot = s.prot ∧
    (take h r s).head = s.head ∧
    (take h r s).panel = s.panel ∧
    (take h r s).syn = s.syn ∧
    (take h r s).epd = s.epd ∧
    (take h r s).seg = s.seg ∧
    (take h r s).adc = s.adc ∧
    (take h r s).relay = s.relay ∧
    (take h r s).cal = s.cal ∧
    (take h r s).boot = s.boot ∧
    (take h r s).pins = s.pins ∧
    (take h r s).free = s.free :=
  by and_intros <;> rfl

@[simp] theorem releaseHolder_frame (s : State) (h : Holder) :
    (releaseHolder h s).pending = s.pending ∧
    (releaseHolder h s).mem = s.mem ∧
    (releaseHolder h s).memc = s.memc ∧
    (releaseHolder h s).win = s.win ∧
    (releaseHolder h s).ctx = s.ctx ∧
    (releaseHolder h s).evu = s.evu ∧
    (releaseHolder h s).pcie = s.pcie ∧
    (releaseHolder h s).faults = s.faults ∧
    (releaseHolder h s).power = s.power ∧
    (releaseHolder h s).drone = s.drone ∧
    (releaseHolder h s).timer = s.timer ∧
    (releaseHolder h s).timerShadow = s.timerShadow ∧
    (releaseHolder h s).mon = s.mon ∧
    (releaseHolder h s).fetch = s.fetch ∧
    (releaseHolder h s).slot = s.slot ∧
    (releaseHolder h s).commits = s.commits ∧
    (releaseHolder h s).comp = s.comp ∧
    (releaseHolder h s).relief = s.relief ∧
    (releaseHolder h s).prot = s.prot ∧
    (releaseHolder h s).head = s.head ∧
    (releaseHolder h s).panel = s.panel ∧
    (releaseHolder h s).syn = s.syn ∧
    (releaseHolder h s).epd = s.epd ∧
    (releaseHolder h s).seg = s.seg ∧
    (releaseHolder h s).adc = s.adc ∧
    (releaseHolder h s).relay = s.relay ∧
    (releaseHolder h s).cal = s.cal ∧
    (releaseHolder h s).boot = s.boot ∧
    (releaseHolder h s).pins = s.pins ∧
    (releaseHolder h s).free = s.free :=
  by and_intros <;> rfl

@[simp] theorem setPhase_frame (s : State) (w : WinId) (p : Phase) :
    (setPhase w p s).pending = s.pending ∧
    (setPhase w p s).mem = s.mem ∧
    (setPhase w p s).memc = s.memc ∧
    (setPhase w p s).ctx = s.ctx ∧
    (setPhase w p s).evu = s.evu ∧
    (setPhase w p s).pcie = s.pcie ∧
    (setPhase w p s).faults = s.faults ∧
    (setPhase w p s).power = s.power ∧
    (setPhase w p s).drone = s.drone ∧
    (setPhase w p s).timer = s.timer ∧
    (setPhase w p s).timerShadow = s.timerShadow ∧
    (setPhase w p s).mon = s.mon ∧
    (setPhase w p s).fetch = s.fetch ∧
    (setPhase w p s).slot = s.slot ∧
    (setPhase w p s).commits = s.commits ∧
    (setPhase w p s).comp = s.comp ∧
    (setPhase w p s).relief = s.relief ∧
    (setPhase w p s).prot = s.prot ∧
    (setPhase w p s).head = s.head ∧
    (setPhase w p s).panel = s.panel ∧
    (setPhase w p s).syn = s.syn ∧
    (setPhase w p s).epd = s.epd ∧
    (setPhase w p s).seg = s.seg ∧
    (setPhase w p s).adc = s.adc ∧
    (setPhase w p s).relay = s.relay ∧
    (setPhase w p s).cal = s.cal ∧
    (setPhase w p s).boot = s.boot ∧
    (setPhase w p s).pins = s.pins ∧
    (setPhase w p s).free = s.free :=
  by and_intros <;> rfl

end Sys2Proof.Machine
end

