-- ==== Sys2Proof/Laws/Fetch.lean ====
section
/-! SUPPORT. The fetch queues: entering requests changes the one queue they enter, and nothing else. -/
namespace Sys2Proof.Machine

/-- A change of one queue keeps the state but for that queue. -/
def oneQueue (n : QueueId) (s t : State) : Prop := ∃ q, t = s.modQueue n fun _ => q

theorem oneQueue_mod (n : QueueId) (s : State) (f : Queue → Queue) : oneQueue n s (s.modQueue n f) := ⟨f s.fetch.queue[n], rfl⟩

theorem oneQueue_refl (n : QueueId) (s : State) : oneQueue n s s :=
  ⟨s.fetch.queue[n], by simp [State.modQueue]⟩

theorem oneQueue_trans {n : QueueId} {s t u : State} (h : oneQueue n s t) (k : oneQueue n t u) : oneQueue n s u := by
  obtain ⟨q, rfl⟩ := h
  obtain ⟨r, rfl⟩ := k
  exact ⟨r, by simp [State.modQueue]⟩

theorem settle_oneQueue (n : QueueId) (s : State) : oneQueue n s (settle n s) := by
  unfold settle
  exact oneQueue_mod _ _ _

theorem enqueue_oneQueue (n : QueueId) (r : Request) (s : State) : oneQueue n s (enqueue n r s) :=
  oneQueue_trans (oneQueue_mod n s _) (settle_oneQueue n _)

/-- The requests of a byte range enter one queue. -/
theorem enqueueRange_oneQueue (n : QueueId) (k : ReqKind) (c : CtxId) (a len : Nat) (s : State) :
    oneQueue n s (enqueueRange n k c a len s) := by
  have fold : ∀ (l : List (Nat × Nat)) (t : State), oneQueue n s t →
      oneQueue n s (forEach l (fun p u => enqueue n (mkRequest u k c p.1 p.2) u) t) := by
    intro l
    induction l with
    | nil => exact fun _ h => h
    | cons p l ih => exact fun t h => ih _ (oneQueue_trans h (enqueue_oneQueue n _ t))
  exact fold _ s (oneQueue_refl n s)

theorem access_oneQueue (n : QueueId) (write : Bool) (c : CtxId) (a len : Nat) (s : State) :
    oneQueue n s (access n write c a len s) := enqueueRange_oneQueue n _ c a len s

/-- The reads of a command's blocks enter their queues: the rest of the state stays. -/
theorem Opcode.fetch_eq (o : Opcode) (w : WinId) (c : CtxId) (a : Cmd) (s : State) :
    ∃ q, o.fetch w c a s = { s with fetch := { s.fetch with queue := q } } := by
  have fold : ∀ (l : List (QueueId × Nat × Nat)) (t : State), (∃ q, t = { s with fetch := { s.fetch with queue := q } }) →
      ∃ q, forEach l (fun x s => access x.1 false c x.2.1 x.2.2 s) t = { s with fetch := { s.fetch with queue := q } } := by
    intro l
    induction l with
    | nil => exact fun _ h => h
    | cons x l ih =>
      rintro t ⟨q, rfl⟩
      obtain ⟨r, hr⟩ := access_oneQueue x.1 false c x.2.1 x.2.2 { s with fetch := { s.fetch with queue := q } }
      exact ih _ ⟨q.set x.1 r, hr⟩
  exact fold _ s ⟨s.fetch.queue, rfl⟩

end Sys2Proof.Machine
end

