-- ==== Sys2Proof/Laws/Memory.lean ====
section
/-! SUPPORT. Memory: a byte written is the byte read, other bytes stay, and every write keeps the canonical form. -/
namespace Sys2Proof.Machine

/-- The addresses of a list of cells all lie above a bound. -/
def above (x : Nat) : List Host.Cell → Prop
  | [] => True
  | (a, _) :: _ => x < a

theorem wf_cons (a : Nat) (b : Byte) (m : List Host.Cell) :
    Memory.wf ((a, b) :: m) = true ↔ b ≠ 0 ∧ above a m ∧ Memory.wf m = true := by
  cases m with
  | nil => simp [Memory.wf, above]
  | cons p m => obtain ⟨a', b'⟩ := p; simp [Memory.wf, above, and_assoc]

theorem above_mono {x y : Nat} {m : List Host.Cell} (h : above x m) (hy : y ≤ x) : above y m := by
  cases m with
  | nil => trivial
  | cons p m => simp only [above] at *; omega

theorem above_writeCell {y x : Nat} {v : Byte} {m : List Host.Cell} (hm : Memory.wf m = true) (h : above y m) (hy : y < x) :
    above y (writeCell m x v) := by
  cases m with
  | nil => simp only [writeCell]; split <;> simp_all [above]
  | cons p m =>
    obtain ⟨a, b⟩ := p
    have ha := (wf_cons a b m).1 hm
    simp only [writeCell]
    split
    · split <;> simp_all [above]
    · split
      · split
        · exact above_mono ha.2.1 (by simp only [above] at h; omega)
        · simpa [above] using hy
      · exact h

/-- Writing one byte keeps the canonical form. -/
theorem writeCell_wf {m : List Host.Cell} (h : Memory.wf m = true) (x : Nat) (v : Byte) :
    Memory.wf (writeCell m x v) = true := by
  induction m with
  | nil => simp only [writeCell]; split <;> simp_all [Memory.wf]
  | cons p m ih =>
    obtain ⟨a, b⟩ := p
    have ha := (wf_cons a b m).1 h
    simp only [writeCell]
    split
    · next hx =>
      split
      · exact h
      · next hv => exact (wf_cons x v _).2 ⟨hv, hx, h⟩
    · split
      · next hx =>
        split
        · exact ha.2.2
        · next hv => exact (wf_cons x v m).2 ⟨hv, hx ▸ ha.2.1, ha.2.2⟩
      · next hx hne =>
        exact (wf_cons a b _).2 ⟨ha.1, above_writeCell ha.2.2 ha.2.1 (by omega), ih ha.2.2⟩

/-- Writing a byte string keeps the canonical form. -/
theorem writeMem_wf (bs : List Byte) (m : List Host.Cell) (h : Memory.wf m = true) (a : Nat) :
    Memory.wf (writeMem m a bs) = true := by
  induction bs generalizing m a with
  | nil => exact h
  | cons b bs ih => exact ih _ (writeCell_wf h a b) _

theorem State.write_wf (s : State) (h : Memory.wf s.mem = true) (a : Nat) (bs : List Byte) :
    Memory.wf (s.write a bs).mem = true := writeMem_wf bs s.mem h a

/-- Another byte reads as before. -/
theorem readCell_writeCell_other (m : List Host.Cell) (x y : Nat) (v : Byte) (h : y ≠ x) :
    readCell (writeCell m x v) y = readCell m y := by
  induction m with
  | nil => simp only [writeCell]; split <;> simp [readCell, Ne.symm h]
  | cons p m ih =>
    obtain ⟨a, b⟩ := p
    simp only [writeCell]
    split
    · split <;> simp [readCell, Ne.symm h]
    · split
      · next hx => subst hx; split <;> simp [readCell, Ne.symm h]
      · simp only [readCell, ih]

theorem readCell_below {m : List Host.Cell} {x : Nat} (hm : Memory.wf m = true) (h : above x m) : readCell m x = 0 := by
  induction m with
  | nil => rfl
  | cons p m ih =>
    obtain ⟨a, b⟩ := p
    have ha := (wf_cons a b m).1 hm
    simp only [above] at h
    have : a ≠ x := by omega
    simp only [readCell, this, if_false]
    exact ih ha.2.2 (above_mono ha.2.1 (by omega))

/-- The byte written is the byte read. -/
theorem readCell_writeCell_same {m : List Host.Cell} (hm : Memory.wf m = true) (x : Nat) (v : Byte) :
    readCell (writeCell m x v) x = v := by
  induction m with
  | nil => simp only [writeCell]; split <;> simp_all [readCell]
  | cons p m ih =>
    obtain ⟨a, b⟩ := p
    have ha := (wf_cons a b m).1 hm
    simp only [writeCell]
    split
    · next hx =>
      split
      · next hv => rw [hv]; exact readCell_below hm hx
      · simp [readCell]
    · split
      · next hx =>
        subst hx
        split
        · next hv => rw [hv]; exact readCell_below ha.2.2 ha.2.1
        · simp [readCell]
      · next hx hne =>
        have : a ≠ x := fun e => hne e.symm
        simp only [readCell, this, if_false]
        exact ih ha.2.2

/-- Bytes outside a written range read as before. -/
theorem readCell_writeMem_other (bs : List Byte) (m : List Host.Cell) (a y : Nat) (h : y < a ∨ a + bs.length ≤ y) :
    readCell (writeMem m a bs) y = readCell m y := by
  induction bs generalizing m a with
  | nil => rfl
  | cons b bs ih =>
    simp only [List.length_cons] at h
    simp only [writeMem]
    rw [ih _ _ (by omega), readCell_writeCell_other _ _ _ _ (by omega)]

/-- Bytes of a written range read as written. -/
theorem readCell_writeMem_same (bs : List Byte) (m : List Host.Cell) (hm : Memory.wf m = true) (a i : Nat) (h : i < bs.length) :
    readCell (writeMem m a bs) (a + i) = bs[i] := by
  induction bs generalizing m a i with
  | nil => simp at h
  | cons b bs ih =>
    simp only [writeMem]
    cases i with
    | zero => rw [readCell_writeMem_other _ _ _ _ (by omega)]; simpa using readCell_writeCell_same hm a b
    | succ i =>
      have := ih (writeCell m a b) (writeCell_wf hm a b) (a + 1) i (by simpa using h)
      rw [show a + (i + 1) = a + 1 + i by omega, this]; rfl

/-- A write of the state leaves the bytes outside it. -/
theorem State.write_other (s : State) (a : Nat) (bs : List Byte) : sameBytesOutside s (s.write a bs) a bs.length :=
  fun y h => readCell_writeMem_other bs s.mem a y h

/-- What is written reads back whole. -/
theorem State.read_write_same (s : State) (hm : Memory.wf s.mem = true) (a : Nat) (bs : List Byte) :
    (s.write a bs).read a bs.length = bs := by
  apply List.ext_getElem
  · simp [State.read, readMem]
  · intro i h1 h2
    simp only [State.read, readMem, State.write, List.getElem_map, List.getElem_range]
    exact readCell_writeMem_same bs s.mem hm a i h2

end Sys2Proof.Machine
end

