-- ==== Sys2Proof/Laws/Ops.lean ====
section
/-! SUPPORT. What the shared operations do: events and messages, the fault log, completions and resources. Each lemma says
everything its operation leaves alone, or what it makes of the part it changes. -/
namespace Sys2Proof.Machine

/-! ## Messages and events -/

@[simp] theorem sendMsix_frame (s : State) (f : FnId) (v : VectorId) :
    (sendMsix f v s).pending = s.pending ∧
    (sendMsix f v s).mem = s.mem ∧
    (sendMsix f v s).memc = s.memc ∧
    (sendMsix f v s).win = s.win ∧
    (sendMsix f v s).ctx = s.ctx ∧
    (sendMsix f v s).port = s.port ∧
    (sendMsix f v s).evu = s.evu ∧
    (sendMsix f v s).faults = s.faults ∧
    (sendMsix f v s).power = s.power ∧
    (sendMsix f v s).drone = s.drone ∧
    (sendMsix f v s).timer = s.timer ∧
    (sendMsix f v s).timerShadow = s.timerShadow ∧
    (sendMsix f v s).mon = s.mon ∧
    (sendMsix f v s).fetch = s.fetch ∧
    (sendMsix f v s).slot = s.slot ∧
    (sendMsix f v s).commits = s.commits ∧
    (sendMsix f v s).comp = s.comp ∧
    (sendMsix f v s).relief = s.relief ∧
    (sendMsix f v s).prot = s.prot ∧
    (sendMsix f v s).head = s.head ∧
    (sendMsix f v s).panel = s.panel ∧
    (sendMsix f v s).syn = s.syn ∧
    (sendMsix f v s).epd = s.epd ∧
    (sendMsix f v s).seg = s.seg ∧
    (sendMsix f v s).adc = s.adc ∧
    (sendMsix f v s).relay = s.relay ∧
    (sendMsix f v s).cal = s.cal ∧
    (sendMsix f v s).boot = s.boot ∧
    (sendMsix f v s).pins = s.pins ∧
    (sendMsix f v s).free = s.free :=
  by
  simp only [sendMsix]
  split
  · simp
  · split <;> simp

@[simp] theorem sendMsix_group (s : State) (f : FnId) (v : VectorId) :
    (sendMsix f v s).pcie.linkUp = s.pcie.linkUp ∧
    (sendMsix f v s).pcie.refclk = s.pcie.refclk ∧
    (sendMsix f v s).pcie.vfEnable = s.pcie.vfEnable ∧
    (sendMsix f v s).pcie.numVfs = s.pcie.numVfs ∧
    (sendMsix f v s).pcie.ari = s.pcie.ari :=
  by
  simp only [sendMsix]
  split
  · simp
  · split <;> simp

@[simp] theorem clearPba_frame (s : State) (f : FnId) (v : VectorId) :
    (clearPba f v s).pending = s.pending ∧
    (clearPba f v s).mem = s.mem ∧
    (clearPba f v s).memc = s.memc ∧
    (clearPba f v s).win = s.win ∧
    (clearPba f v s).ctx = s.ctx ∧
    (clearPba f v s).port = s.port ∧
    (clearPba f v s).evu = s.evu ∧
    (clearPba f v s).faults = s.faults ∧
    (clearPba f v s).power = s.power ∧
    (clearPba f v s).drone = s.drone ∧
    (clearPba f v s).timer = s.timer ∧
    (clearPba f v s).timerShadow = s.timerShadow ∧
    (clearPba f v s).mon = s.mon ∧
    (clearPba f v s).fetch = s.fetch ∧
    (clearPba f v s).slot = s.slot ∧
    (clearPba f v s).commits = s.commits ∧
    (clearPba f v s).comp = s.comp ∧
    (clearPba f v s).relief = s.relief ∧
    (clearPba f v s).prot = s.prot ∧
    (clearPba f v s).head = s.head ∧
    (clearPba f v s).panel = s.panel ∧
    (clearPba f v s).syn = s.syn ∧
    (clearPba f v s).epd = s.epd ∧
    (clearPba f v s).seg = s.seg ∧
    (clearPba f v s).adc = s.adc ∧
    (clearPba f v s).relay = s.relay ∧
    (clearPba f v s).cal = s.cal ∧
    (clearPba f v s).boot = s.boot ∧
    (clearPba f v s).pins = s.pins ∧
    (clearPba f v s).free = s.free :=
  by
  simp [clearPba]

@[simp] theorem clearPba_group (s : State) (f : FnId) (v : VectorId) :
    (clearPba f v s).pcie.linkUp = s.pcie.linkUp ∧
    (clearPba f v s).pcie.refclk = s.pcie.refclk ∧
    (clearPba f v s).pcie.vfEnable = s.pcie.vfEnable ∧
    (clearPba f v s).pcie.numVfs = s.pcie.numVfs ∧
    (clearPba f v s).pcie.ari = s.pcie.ari ∧
    (clearPba f v s).pcie.sent = s.pcie.sent :=
  by
  simp [clearPba]

@[simp] theorem msixNotify_frame (s : State) (c : CtxId) (v : VectorId) (b : Bool) :
    (msixNotify c v b s).pending = s.pending ∧
    (msixNotify c v b s).mem = s.mem ∧
    (msixNotify c v b s).memc = s.memc ∧
    (msixNotify c v b s).win = s.win ∧
    (msixNotify c v b s).ctx = s.ctx ∧
    (msixNotify c v b s).port = s.port ∧
    (msixNotify c v b s).evu = s.evu ∧
    (msixNotify c v b s).faults = s.faults ∧
    (msixNotify c v b s).power = s.power ∧
    (msixNotify c v b s).drone = s.drone ∧
    (msixNotify c v b s).timer = s.timer ∧
    (msixNotify c v b s).timerShadow = s.timerShadow ∧
    (msixNotify c v b s).mon = s.mon ∧
    (msixNotify c v b s).fetch = s.fetch ∧
    (msixNotify c v b s).slot = s.slot ∧
    (msixNotify c v b s).commits = s.commits ∧
    (msixNotify c v b s).comp = s.comp ∧
    (msixNotify c v b s).relief = s.relief ∧
    (msixNotify c v b s).prot = s.prot ∧
    (msixNotify c v b s).head = s.head ∧
    (msixNotify c v b s).panel = s.panel ∧
    (msixNotify c v b s).syn = s.syn ∧
    (msixNotify c v b s).epd = s.epd ∧
    (msixNotify c v b s).seg = s.seg ∧
    (msixNotify c v b s).adc = s.adc ∧
    (msixNotify c v b s).relay = s.relay ∧
    (msixNotify c v b s).cal = s.cal ∧
    (msixNotify c v b s).boot = s.boot ∧
    (msixNotify c v b s).pins = s.pins ∧
    (msixNotify c v b s).free = s.free :=
  by
  simp only [msixNotify]
  split <;> simp

@[simp] theorem msixNotify_group (s : State) (c : CtxId) (v : VectorId) (b : Bool) :
    (msixNotify c v b s).pcie.linkUp = s.pcie.linkUp ∧
    (msixNotify c v b s).pcie.refclk = s.pcie.refclk ∧
    (msixNotify c v b s).pcie.vfEnable = s.pcie.vfEnable ∧
    (msixNotify c v b s).pcie.numVfs = s.pcie.numVfs ∧
    (msixNotify c v b s).pcie.ari = s.pcie.ari :=
  by
  simp only [msixNotify]
  split <;> simp

@[simp] theorem withSrc_frame (s : State) (n : SourceId) (f : Source → Source) :
    (withSrc n f s).pending = s.pending ∧
    (withSrc n f s).mem = s.mem ∧
    (withSrc n f s).memc = s.memc ∧
    (withSrc n f s).win = s.win ∧
    (withSrc n f s).ctx = s.ctx ∧
    (withSrc n f s).port = s.port ∧
    (withSrc n f s).faults = s.faults ∧
    (withSrc n f s).power = s.power ∧
    (withSrc n f s).drone = s.drone ∧
    (withSrc n f s).timer = s.timer ∧
    (withSrc n f s).timerShadow = s.timerShadow ∧
    (withSrc n f s).mon = s.mon ∧
    (withSrc n f s).fetch = s.fetch ∧
    (withSrc n f s).slot = s.slot ∧
    (withSrc n f s).commits = s.commits ∧
    (withSrc n f s).comp = s.comp ∧
    (withSrc n f s).relief = s.relief ∧
    (withSrc n f s).prot = s.prot ∧
    (withSrc n f s).head = s.head ∧
    (withSrc n f s).panel = s.panel ∧
    (withSrc n f s).syn = s.syn ∧
    (withSrc n f s).epd = s.epd ∧
    (withSrc n f s).seg = s.seg ∧
    (withSrc n f s).adc = s.adc ∧
    (withSrc n f s).relay = s.relay ∧
    (withSrc n f s).cal = s.cal ∧
    (withSrc n f s).boot = s.boot ∧
    (withSrc n f s).pins = s.pins ∧
    (withSrc n f s).free = s.free :=
  by
  simp [withSrc]

@[simp] theorem withSrc_group (s : State) (n : SourceId) (f : Source → Source) :
    (withSrc n f s).pcie.linkUp = s.pcie.linkUp ∧
    (withSrc n f s).pcie.refclk = s.pcie.refclk ∧
    (withSrc n f s).pcie.vfEnable = s.pcie.vfEnable ∧
    (withSrc n f s).pcie.numVfs = s.pcie.numVfs ∧
    (withSrc n f s).pcie.ari = s.pcie.ari :=
  by
  simp [withSrc]

/-- A change of one source changes nothing else in the EVU. -/
@[simp] theorem withSrc_evu (s : State) (n : SourceId) (f : Source → Source) :
    (withSrc n f s).evu = { s.evu with src := s.evu.src.set n (f s.evu.src[n]) } := by
  simp [withSrc, State.modSrc]

@[simp] theorem raise_frame (s : State) (n : Nat) :
    (raise n s).pending = s.pending ∧
    (raise n s).mem = s.mem ∧
    (raise n s).memc = s.memc ∧
    (raise n s).win = s.win ∧
    (raise n s).ctx = s.ctx ∧
    (raise n s).port = s.port ∧
    (raise n s).faults = s.faults ∧
    (raise n s).power = s.power ∧
    (raise n s).drone = s.drone ∧
    (raise n s).timer = s.timer ∧
    (raise n s).timerShadow = s.timerShadow ∧
    (raise n s).mon = s.mon ∧
    (raise n s).fetch = s.fetch ∧
    (raise n s).slot = s.slot ∧
    (raise n s).commits = s.commits ∧
    (raise n s).comp = s.comp ∧
    (raise n s).relief = s.relief ∧
    (raise n s).prot = s.prot ∧
    (raise n s).head = s.head ∧
    (raise n s).panel = s.panel ∧
    (raise n s).syn = s.syn ∧
    (raise n s).epd = s.epd ∧
    (raise n s).seg = s.seg ∧
    (raise n s).adc = s.adc ∧
    (raise n s).relay = s.relay ∧
    (raise n s).cal = s.cal ∧
    (raise n s).boot = s.boot ∧
    (raise n s).pins = s.pins ∧
    (raise n s).free = s.free :=
  by
  simp only [raise]
  split
  · split
    · simp
    · split <;> simp
  · simp

@[simp] theorem raise_group (s : State) (n : Nat) :
    (raise n s).pcie.linkUp = s.pcie.linkUp ∧
    (raise n s).pcie.refclk = s.pcie.refclk ∧
    (raise n s).pcie.vfEnable = s.pcie.vfEnable ∧
    (raise n s).pcie.numVfs = s.pcie.numVfs ∧
    (raise n s).pcie.ari = s.pcie.ari :=
  by
  simp only [raise]
  split
  · split
    · simp
    · split <;> simp
  · simp

@[simp] theorem raise_evu (s : State) (n : Nat) :
    (raise n s).evu.hold = s.evu.hold ∧
    (raise n s).evu.port = s.evu.port ∧
    (raise n s).evu.vec = s.evu.vec ∧
    (raise n s).evu.pin = s.evu.pin :=
  by
  simp only [raise]
  split
  · split
    · simp
    · split <;> simp
  · simp

@[simp] theorem raiseIf_frame (s : State) (b : Bool) (n : Nat) :
    (raiseIf b n s).pending = s.pending ∧
    (raiseIf b n s).mem = s.mem ∧
    (raiseIf b n s).memc = s.memc ∧
    (raiseIf b n s).win = s.win ∧
    (raiseIf b n s).ctx = s.ctx ∧
    (raiseIf b n s).port = s.port ∧
    (raiseIf b n s).faults = s.faults ∧
    (raiseIf b n s).power = s.power ∧
    (raiseIf b n s).drone = s.drone ∧
    (raiseIf b n s).timer = s.timer ∧
    (raiseIf b n s).timerShadow = s.timerShadow ∧
    (raiseIf b n s).mon = s.mon ∧
    (raiseIf b n s).fetch = s.fetch ∧
    (raiseIf b n s).slot = s.slot ∧
    (raiseIf b n s).commits = s.commits ∧
    (raiseIf b n s).comp = s.comp ∧
    (raiseIf b n s).relief = s.relief ∧
    (raiseIf b n s).prot = s.prot ∧
    (raiseIf b n s).head = s.head ∧
    (raiseIf b n s).panel = s.panel ∧
    (raiseIf b n s).syn = s.syn ∧
    (raiseIf b n s).epd = s.epd ∧
    (raiseIf b n s).seg = s.seg ∧
    (raiseIf b n s).adc = s.adc ∧
    (raiseIf b n s).relay = s.relay ∧
    (raiseIf b n s).cal = s.cal ∧
    (raiseIf b n s).boot = s.boot ∧
    (raiseIf b n s).pins = s.pins ∧
    (raiseIf b n s).free = s.free :=
  by
  cases b <;> simp [raiseIf]

/-- Raising a source of the EVU is one edge at that source, with PD_FABRIC on. -/
theorem raise_src (s : State) (n : SourceId) (h : fabricOn s = true) :
    (raise n.1 s).evu = { s.evu with src := s.evu.src.set n s.evu.src[n].edge } := by
  simp [raise, n.isLt, h]

theorem raise_edged (s : State) (n : SourceId) (h : fabricOn s = true) : edged s (raise n.1 s) n := by
  simp [edged, raise_src s n h]

/-- Another source is as before. -/
theorem raise_src_other (s : State) (n : Nat) (m : SourceId) (h : m.1 ≠ n) : (raise n s).evu.src[m] = s.evu.src[m] := by
  simp only [raise]
  split
  · have hx : m ≠ ⟨n, ‹_›⟩ := fun e => h (congrArg Fin.val e)
    have hx' : n ≠ m.1 := fun e => h e.symm
    split
    · simp [hx']
    · split
      · exact State.modSrc_other _ _ _ _ hx
      · rfl
  · rfl

/-! ## The fault log -/

@[simp] theorem enterFault_frame (s : State) (e : FaultEntry) :
    (enterFault e s).pending = s.pending ∧
    (enterFault e s).mem = s.mem ∧
    (enterFault e s).memc = s.memc ∧
    (enterFault e s).win = s.win ∧
    (enterFault e s).ctx = s.ctx ∧
    (enterFault e s).port = s.port ∧
    (enterFault e s).power = s.power ∧
    (enterFault e s).drone = s.drone ∧
    (enterFault e s).timer = s.timer ∧
    (enterFault e s).timerShadow = s.timerShadow ∧
    (enterFault e s).mon = s.mon ∧
    (enterFault e s).fetch = s.fetch ∧
    (enterFault e s).slot = s.slot ∧
    (enterFault e s).commits = s.commits ∧
    (enterFault e s).comp = s.comp ∧
    (enterFault e s).relief = s.relief ∧
    (enterFault e s).prot = s.prot ∧
    (enterFault e s).head = s.head ∧
    (enterFault e s).panel = s.panel ∧
    (enterFault e s).syn = s.syn ∧
    (enterFault e s).epd = s.epd ∧
    (enterFault e s).seg = s.seg ∧
    (enterFault e s).adc = s.adc ∧
    (enterFault e s).relay = s.relay ∧
    (enterFault e s).cal = s.cal ∧
    (enterFault e s).boot = s.boot ∧
    (enterFault e s).pins = s.pins ∧
    (enterFault e s).free = s.free :=
  by
  simp [enterFault]

/-- An entry entered in a log with room stands at its end. -/
theorem enterFault_entries (s : State) (e : FaultEntry) (h : s.faults.entries.length < 64) :
    (enterFault e s).faults.entries = s.faults.entries ++ [e] := by
  simp [enterFault, Nat.not_le.2 h]

@[simp] theorem logFault_frame (s : State) (code unit : Nat) (arg : Word) (c : Option CtxId) :
    (logFault code unit arg s c).pending = s.pending ∧
    (logFault code unit arg s c).mem = s.mem ∧
    (logFault code unit arg s c).memc = s.memc ∧
    (logFault code unit arg s c).win = s.win ∧
    (logFault code unit arg s c).ctx = s.ctx ∧
    (logFault code unit arg s c).port = s.port ∧
    (logFault code unit arg s c).power = s.power ∧
    (logFault code unit arg s c).drone = s.drone ∧
    (logFault code unit arg s c).timer = s.timer ∧
    (logFault code unit arg s c).timerShadow = s.timerShadow ∧
    (logFault code unit arg s c).mon = s.mon ∧
    (logFault code unit arg s c).fetch = s.fetch ∧
    (logFault code unit arg s c).slot = s.slot ∧
    (logFault code unit arg s c).commits = s.commits ∧
    (logFault code unit arg s c).comp = s.comp ∧
    (logFault code unit arg s c).relief = s.relief ∧
    (logFault code unit arg s c).prot = s.prot ∧
    (logFault code unit arg s c).head = s.head ∧
    (logFault code unit arg s c).panel = s.panel ∧
    (logFault code unit arg s c).syn = s.syn ∧
    (logFault code unit arg s c).epd = s.epd ∧
    (logFault code unit arg s c).seg = s.seg ∧
    (logFault code unit arg s c).adc = s.adc ∧
    (logFault code unit arg s c).relay = s.relay ∧
    (logFault code unit arg s c).cal = s.cal ∧
    (logFault code unit arg s c).boot = s.boot ∧
    (logFault code unit arg s c).pins = s.pins ∧
    (logFault code unit arg s c).free = s.free :=
  by
  simp only [logFault]
  split
  · simp
  · split
    · split <;> simp
    · simp

/-- With PD_FABRIC on, a fault is entered in the log. -/
theorem logFault_on (s : State) (code unit : Nat) (arg : Word) (c : Option CtxId) (h : fabricOn s = true) :
    logFault code unit arg s c = enterFault { time := s.drone.time, code := BitVec.ofNat 8 code, unit_ := BitVec.ofNat 8 unit, ctx := c, cls := faultClass code, arg := arg } s := by
  simp [logFault, h]

@[simp] theorem logUe_frame (s : State) (x : Option Nat) :
    (logUe x s).pending = s.pending ∧
    (logUe x s).mem = s.mem ∧
    (logUe x s).memc = s.memc ∧
    (logUe x s).win = s.win ∧
    (logUe x s).ctx = s.ctx ∧
    (logUe x s).port = s.port ∧
    (logUe x s).power = s.power ∧
    (logUe x s).drone = s.drone ∧
    (logUe x s).timer = s.timer ∧
    (logUe x s).timerShadow = s.timerShadow ∧
    (logUe x s).mon = s.mon ∧
    (logUe x s).fetch = s.fetch ∧
    (logUe x s).slot = s.slot ∧
    (logUe x s).commits = s.commits ∧
    (logUe x s).comp = s.comp ∧
    (logUe x s).relief = s.relief ∧
    (logUe x s).prot = s.prot ∧
    (logUe x s).head = s.head ∧
    (logUe x s).panel = s.panel ∧
    (logUe x s).syn = s.syn ∧
    (logUe x s).epd = s.epd ∧
    (logUe x s).seg = s.seg ∧
    (logUe x s).adc = s.adc ∧
    (logUe x s).relay = s.relay ∧
    (logUe x s).cal = s.cal ∧
    (logUe x s).boot = s.boot ∧
    (logUe x s).pins = s.pins ∧
    (logUe x s).free = s.free :=
  by
  simp only [logUe]
  split <;> simp

/-! ## Completions -/

@[simp] theorem finish_frame (s : State) (w : WinId) (c : Code) (q0 q1 : Word) :
    (finish w c q0 q1 s).pending = s.pending ∧
    (finish w c q0 q1 s).mem = s.mem ∧
    (finish w c q0 q1 s).memc = s.memc ∧
    (finish w c q0 q1 s).ctx = s.ctx ∧
    (finish w c q0 q1 s).faults = s.faults ∧
    (finish w c q0 q1 s).power = s.power ∧
    (finish w c q0 q1 s).drone = s.drone ∧
    (finish w c q0 q1 s).timer = s.timer ∧
    (finish w c q0 q1 s).timerShadow = s.timerShadow ∧
    (finish w c q0 q1 s).mon = s.mon ∧
    (finish w c q0 q1 s).fetch = s.fetch ∧
    (finish w c q0 q1 s).slot = s.slot ∧
    (finish w c q0 q1 s).commits = s.commits ∧
    (finish w c q0 q1 s).comp = s.comp ∧
    (finish w c q0 q1 s).relief = s.relief ∧
    (finish w c q0 q1 s).prot = s.prot ∧
    (finish w c q0 q1 s).head = s.head ∧
    (finish w c q0 q1 s).panel = s.panel ∧
    (finish w c q0 q1 s).syn = s.syn ∧
    (finish w c q0 q1 s).epd = s.epd ∧
    (finish w c q0 q1 s).seg = s.seg ∧
    (finish w c q0 q1 s).adc = s.adc ∧
    (finish w c q0 q1 s).relay = s.relay ∧
    (finish w c q0 q1 s).cal = s.cal ∧
    (finish w c q0 q1 s).boot = s.boot ∧
    (finish w c q0 q1 s).pins = s.pins ∧
    (finish w c q0 q1 s).free = s.free :=
  by
  simp only [finish]
  split <;> simp

@[simp] theorem finish_port (s : State) (w : WinId) (c : Code) (q0 q1 : Word) :
    (finish w c q0 q1 s).port.csBound = s.port.csBound ∧
    (finish w c q0 q1 s).port.csLock = s.port.csLock ∧
    (finish w c q0 q1 s).port.freeze = s.port.freeze ∧
    (finish w c q0 q1 s).port.nextOrder = s.port.nextOrder ∧
    (finish w c q0 q1 s).port.nextWait = s.port.nextWait ∧
    (finish w c q0 q1 s).port.budgetCtx = s.port.budgetCtx ∧
    (finish w c q0 q1 s).port.deviceGen = s.port.deviceGen ∧
    (finish w c q0 q1 s).port.resetRefused = s.port.resetRefused ∧
    (finish w c q0 q1 s).port.doorQueue = s.port.doorQueue ∧
    (finish w c q0 q1 s).port.staging = s.port.staging ∧
    (finish w c q0 q1 s).port.fallbackQueue = s.port.fallbackQueue ∧
    (finish w c q0 q1 s).port.auto = s.port.auto :=
  by
  simp only [finish]
  split <;> simp [releaseHolder]

/-- A completed command leaves its executor, its completion at the end of its window's queue. -/
theorem finish_win (s : State) (w : WinId) (c : Code) (q0 q1 : Word) (e : Exec) (h : s.win[w].exec = some e)
    (hd : e.discard = false) :
    (finish w c q0 q1 s).win[w] = { s.win[w] with
      exec := none, completed := s.win[w].completed + 1,
      done := s.win[w].done ++ [{ tag := e.entry.cmd.tag, code := c, q0 := q0, q1 := q1 }] } := by
  unfold finish
  rw [h]
  simp [hd, releaseHolder]

/-- The resources of a completed command are free. -/
theorem finish_held (s : State) (w : WinId) (c : Code) (q0 q1 : Word) (e : Exec) (h : s.win[w].exec = some e) :
    (finish w c q0 q1 s).port.held = s.port.held.filter fun p => p.2 ≠ .window w := by
  unfold finish
  rw [h]
  simp [releaseHolder]

/-- The other windows are as before. -/
theorem finish_win_other (s : State) (w v : WinId) (c : Code) (q0 q1 : Word) (h : v ≠ w) :
    (finish w c q0 q1 s).win[v] = s.win[v] := by
  unfold finish
  rcases s.win[w].exec with _ | e
  · rfl
  · simp [releaseHolder, State.modWin_other _ _ _ _ h]


@[simp] theorem reject_frame (s : State) (w : WinId) (a b c : Nat) :
    (reject w a b c s).pending = s.pending ∧
    (reject w a b c s).mem = s.mem ∧
    (reject w a b c s).memc = s.memc ∧
    (reject w a b c s).ctx = s.ctx ∧
    (reject w a b c s).faults = s.faults ∧
    (reject w a b c s).power = s.power ∧
    (reject w a b c s).drone = s.drone ∧
    (reject w a b c s).timer = s.timer ∧
    (reject w a b c s).timerShadow = s.timerShadow ∧
    (reject w a b c s).mon = s.mon ∧
    (reject w a b c s).fetch = s.fetch ∧
    (reject w a b c s).slot = s.slot ∧
    (reject w a b c s).commits = s.commits ∧
    (reject w a b c s).comp = s.comp ∧
    (reject w a b c s).relief = s.relief ∧
    (reject w a b c s).prot = s.prot ∧
    (reject w a b c s).head = s.head ∧
    (reject w a b c s).panel = s.panel ∧
    (reject w a b c s).syn = s.syn ∧
    (reject w a b c s).epd = s.epd ∧
    (reject w a b c s).seg = s.seg ∧
    (reject w a b c s).adc = s.adc ∧
    (reject w a b c s).relay = s.relay ∧
    (reject w a b c s).cal = s.cal ∧
    (reject w a b c s).boot = s.boot ∧
    (reject w a b c s).pins = s.pins ∧
    (reject w a b c s).free = s.free :=
  by
  simp [reject]

@[simp] theorem turnAway_frame (s : State) (w : WinId) (v : Verdict) :
    (turnAway w v s).pending = s.pending ∧
    (turnAway w v s).mem = s.mem ∧
    (turnAway w v s).memc = s.memc ∧
    (turnAway w v s).ctx = s.ctx ∧
    (turnAway w v s).power = s.power ∧
    (turnAway w v s).drone = s.drone ∧
    (turnAway w v s).timer = s.timer ∧
    (turnAway w v s).timerShadow = s.timerShadow ∧
    (turnAway w v s).mon = s.mon ∧
    (turnAway w v s).fetch = s.fetch ∧
    (turnAway w v s).slot = s.slot ∧
    (turnAway w v s).commits = s.commits ∧
    (turnAway w v s).comp = s.comp ∧
    (turnAway w v s).relief = s.relief ∧
    (turnAway w v s).prot = s.prot ∧
    (turnAway w v s).head = s.head ∧
    (turnAway w v s).panel = s.panel ∧
    (turnAway w v s).syn = s.syn ∧
    (turnAway w v s).epd = s.epd ∧
    (turnAway w v s).seg = s.seg ∧
    (turnAway w v s).adc = s.adc ∧
    (turnAway w v s).relay = s.relay ∧
    (turnAway w v s).cal = s.cal ∧
    (turnAway w v s).boot = s.boot ∧
    (turnAway w v s).pins = s.pins ∧
    (turnAway w v s).free = s.free :=
  by
  simp [turnAway]

/-! ## Resources -/

theorem resWanted_take (s : State) (h : Holder) (r x : Resource) : resWanted (take h x s) r = resWanted s r := rfl

theorem autoWants_take (s : State) (h : Holder) (r x : Resource) : autoWants (take h x s) r = autoWants s r := rfl

theorem unclaimed_cons (s : State) (r : Resource) (rs : List Resource) :
    unclaimed s (r :: rs) = true ↔
      (resHeld s r = false ∧ resWanted s r = false ∧ autoWants s r = false) ∧ unclaimed s rs = true := by
  simp [unclaimed, and_assoc]

/-- A holder of nothing but what it takes itself is blocked by nobody. -/
theorem takeAll_held (h : Holder) (rs : List Resource) (s : State)
    (hb : ∀ r ∈ rs, (∀ p ∈ s.port.held, p.1 = r → p.2 = h) ∧ resWanted s r = false ∧ autoWants s r = false) :
    takeAll h rs s = ({ s with port := { s.port with held := s.port.held ++ rs.map fun r => (r, h) } }, []) := by
  induction rs generalizing s with
  | nil => simp [takeAll]
  | cons r rs ih =>
    have hr := hb r (by simp)
    have hfree : resBlocked s h r = false := by
      simp only [resBlocked, List.any_eq_false]
      intro p hp
      by_cases e : p.1 = r
      · simp [hr.1 p hp e]
      · simp [e]
    simp only [takeAll, hfree, hr.2.1, hr.2.2, Bool.or_self, Bool.false_eq_true, if_false]
    rw [ih (take h r s)]
    · simp [take]
    · intro x hx
      have hx' := hb x (by simp [hx])
      refine ⟨fun p hp e => ?_, hx'.2.1, hx'.2.2⟩
      simp only [take, List.mem_append, List.mem_singleton] at hp
      cases hp with
      | inl hp => exact hx'.1 p hp e
      | inr hp => rw [hp]

/-- Unclaimed resources are all taken, and the action runs. -/
theorem acquire_unclaimed (w : WinId) (rs : List Resource) (act : State → State) (s : State) (h : unclaimed s rs = true) :
    acquire w rs act s = act { s with port := { s.port with held := s.port.held ++ rs.map fun r => (r, .window w) } } := by
  have := takeAll_held (.window w) rs s (fun r hr => by
    simp only [unclaimed, List.all_eq_true] at h
    have := h r hr
    simp only [Bool.and_eq_true, Bool.not_eq_true'] at this
    refine ⟨fun p hp e => ?_, this.1.2, this.2⟩
    have hh := this.1.1
    simp only [resHeld, List.any_eq_false] at hh
    exact absurd e (by simpa using hh p hp))
  simp [acquire, this]

end Sys2Proof.Machine
end

