-- ==== Sys2Proof/Laws/Port.lean ====
section
/-! SUPPORT. The command port: what a command issued in a ready window finds as it begins, and how it is answered. -/
namespace Sys2Proof.Machine

theorem ready_iff (s : State) (w : WinId) (c : CtxId) : ready s w c = true ↔
    portOpen s = true ∧ s.boot.doneFlag = true ∧ winCtx s w = some c ∧ s.win[w].exec = none ∧ s.win[w].queue = [] ∧
      s.win[w].done.length < 16 := by
  simp [ready, and_assoc]

/-- The binding of a window reads the bindings, the contexts and the virtual functions only. -/
theorem winCtx_congr (s t : State) (w : WinId) (hb : t.port.csBound = s.port.csBound) (hc : t.ctx = s.ctx)
    (hp : t.pcie = s.pcie) : winCtx t w = winCtx s w := by
  simp only [winCtx, attached, vfExists, hb, hc, hp]

/-- A command issued in a ready window is its only queued command. -/
theorem issue_ready (s : State) (w : WinId) (c : CtxId) (op : Byte) (a : Cmd) (h : ready s w c = true) :
    issue w op a s = { s with
      port := { s.port with nextOrder := s.port.nextOrder + 1 }
      win := s.win.set w { s.win[w] with
        queue := [{ op := op, cmd := a, order := s.port.nextOrder }], issued := s.win[w].issued + 1 } } := by
  obtain ⟨ho, hd, hc, he, hq, hl⟩ := (ready_iff s w c).1 h
  have hocc : ¬ 16 ≤ s.win[w].occupancy := by
    simp only [Window.occupancy, he, hq, List.length_nil, Option.any_none]
    simp only [Bool.false_eq_true, if_false]
    omega
  simp only [issue, ho, hc, hocc, Option.isNone_some, Bool.not_true, Bool.or_self, Bool.false_eq_true, if_false]
  simp only [State.modWin, hq, List.nil_append]

/-- The executor of a ready window takes what is issued in it. -/
theorem startNext_ready (s : State) (w : WinId) (c : CtxId) (op : Byte) (a : Cmd)
    (run : Byte → WinId → CtxId → Cmd → State → State) (h : ready s w c = true) :
    startNext w run (issue w op a s) = run op w c a (taken s w op a c) := by
  obtain ⟨ho, hd, hc, he, hq, hl⟩ := (ready_iff s w c).1 h
  rw [issue_ready s w c op a h]
  generalize hs : ({ s with
      port := { s.port with nextOrder := s.port.nextOrder + 1 }
      win := s.win.set w { s.win[w] with
        queue := [{ op := op, cmd := a, order := s.port.nextOrder }], issued := s.win[w].issued + 1 } } : State) = s'
  have hw : s'.win[w] = { s.win[w] with
      queue := [{ op := op, cmd := a, order := s.port.nextOrder }], issued := s.win[w].issued + 1 } := by
    subst hs; simp
  have hc' : winCtx s' w = some c := by
    rw [← hc]; subst hs; rfl
  unfold startNext
  simp only [hw, he, hc', State.modWin]
  subst hs
  congr 1
  simp only [taken]
  congr 1
  simp

/-- A command issued in a ready window begins to run in the same step. -/
theorem portRow_ready (s : State) (w : WinId) (c : CtxId) (op : Byte) (a : Cmd)
    (run : WinId → CtxId → Cmd → State → State) (h : ready s w c = true) :
    portRow w op a run s = run w c a (taken s w op a c) := by
  obtain ⟨ho, hd, hc, he, hq, hl⟩ := (ready_iff s w c).1 h
  have hd' : (taken s w op a c).boot.doneFlag = true := hd
  unfold portRow
  simp only [he, hq, Option.isNone_none, List.isEmpty_nil, Bool.and_self, if_true]
  rw [startNext_ready s w c op a _ h]
  simp only [bootGate, hd', Bool.true_or, if_true]

/-- The same for a command of any opcode. -/
theorem issueAny_ready (s : State) (w : WinId) (c : CtxId) (op : Byte) (a : Cmd) (h : ready s w c = true) :
    issueAny w op a s = runTaken op w c a (taken s w op a c) := by
  obtain ⟨ho, hd, hc, he, hq, hl⟩ := (ready_iff s w c).1 h
  unfold issueAny
  simp only [he, hq, Option.isNone_none, List.isEmpty_nil, Bool.and_self, if_true]
  exact startNext_ready s w c op a runTaken h

@[simp] theorem taken_frame (s : State) (w : WinId) (op : Byte) (a : Cmd) (c : CtxId) (rs : List Resource) :
    (takenWith s w op a c rs).port.held = s.port.held ++ (rs.map fun r => (r, .window w)) ∧
    (taken s w op a c).port.held = s.port.held ∧
    (takenWith s w op a c rs).win = (taken s w op a c).win := ⟨rfl, rfl, rfl⟩

/-- The window of a command that begins to run. -/
theorem taken_win (s : State) (w : WinId) (op : Byte) (a : Cmd) (c : CtxId) :
    (taken s w op a c).win[w] = { s.win[w] with
      queue := []
      exec := some { entry := { op := op, cmd := a, order := s.port.nextOrder }, ctx := c, epoch := s.ctx[c].epoch,
                     phase := .acquire [], discard := false, since := s.port.nextWait }
      issued := s.win[w].issued + 1 } := by
  simp [taken]

theorem taken_unclaimed (s : State) (w : WinId) (op : Byte) (a : Cmd) (c : CtxId) (rs : List Resource)
    (he : s.win[w].exec = none) (h : unclaimed s rs = true) : unclaimed (taken s w op a c) rs = true := by
  simp only [unclaimed, List.all_eq_true, Bool.and_eq_true, Bool.not_eq_true'] at *
  intro r hr
  refine ⟨⟨(h r hr).1.1, ?_⟩, (h r hr).2⟩
  have hw := (h r hr).1.2
  simp only [resWanted, List.any_eq_false] at *
  intro v hv
  by_cases e : v = w
  · subst e; rw [taken_win]; simp
  · have : (taken s w op a c).win[v] = s.win[v] := by
      have : w.1 ≠ v.1 := fun x => e (Fin.ext x.symm)
      simp [taken, this]
    rw [this]; exact hw v hv

/-- A command of one opcode whose checks pass and whose resources nobody claims acts at once, holding them. -/
theorem run_unclaimed (s : State) (w : WinId) (c : CtxId) (op : Byte) (a : Cmd) (o : Opcode)
    (h : ready s w c = true) (hk : o.check w c a (taken s w op a c) = none)
    (hn : unclaimed s (o.needs c a (taken s w op a c)) = true)
    (hk' : o.check w c a (takenWith s w op a c (o.needs c a (taken s w op a c))) = none) :
    portRow w op a o.run s = o.act w c a (o.fetch w c a (takenWith s w op a c (o.needs c a (taken s w op a c)))) := by
  rw [portRow_ready s w c op a o.run h]
  simp only [Opcode.run, hk]
  rw [acquire_unclaimed _ _ _ _ (taken_unclaimed s w op a c _ ((ready_iff s w c).1 h).2.2.2.1 hn)]
  change o.go w c a (takenWith s w op a c (o.needs c a (taken s w op a c))) = _
  simp only [Opcode.go, hk']

/-- A check that turns a command away answers it. -/
theorem run_turned (s : State) (w : WinId) (c : CtxId) (op : Byte) (a : Cmd) (o : Opcode) (v : Verdict)
    (h : ready s w c = true) (hk : o.check w c a (taken s w op a c) = some v) :
    portRow w op a o.run s = turnAway w v (o.fetch w c a (taken s w op a c)) := by
  rw [portRow_ready s w c op a o.run h]
  simp only [Opcode.run, hk]

/-- A command that completes with its window otherwise as it began is answered. -/
theorem answered_finish (s t : State) (w : WinId) (op : Byte) (a : Cmd) (c : CtxId) (code : Code) (q0 q1 : Word)
    (h : ready s w c = true) (hw : t.win[w] = (taken s w op a c).win[w]) :
    answered s (finish w code q0 q1 t) w a.tag code q0 q1 := by
  obtain ⟨ho, hd, hc, he, hq, hl⟩ := (ready_iff s w c).1 h
  rw [taken_win] at hw
  have hx := congrArg Window.exec hw
  have hf := finish_win t w code q0 q1 _ hx rfl
  refine ⟨?_, ?_, ?_, ?_, ?_, ?_⟩
  · rw [hf]
  · rw [hf, hw]
  · rw [hf, hw]
  · rw [hf, hw]
  · rw [hf, hw]
  · intro r hr
    rw [finish_held t w code q0 q1 _ hx] at hr
    simp at hr

end Sys2Proof.Machine
end

