-- ==== Sys2Proof/Tests/Slice0.lean ====
section
/-! SUPPORT. The model's own tests: ill-formed commands that the check refuses, and for every statement with hypotheses a
state and operands that meet them. -/
namespace Sys2Proof.Tests

-- One theorem after another: each evaluates a whole state, and many at once take too much memory.
set_option Elab.async false

open Sys2Proof.Machine

/-! ## Small states -/

/-- The block after BOOT_DONE with nothing configured, and every source with the attributes of source 200. -/
def up : State :=
  { State.reset with
    boot := { State.reset.boot with phase := .done, doneFlag := true }
    evu := { State.reset.evu with src := Vector.replicate 288 (Source.reset 200) } }

/-- The same with a low half held for a register. -/
def latched (cs : ChipSelect) (o : RegOffset) (lo : HalfWord) : State :=
  up.modWin (csWin cs) fun x => { x with writeLatch := some (o, lo) }

/-- The same with a command in the executor of a window. -/
def busy (w : WinId) : State :=
  up.modWin w fun x => { x with
    exec := some { entry := { op := 0x30, cmd := ⟨5, 0, 0, 0, 0⟩, order := 0 }, ctx := 0, epoch := 1, phase := .drain, discard := false, since := 0 } }

/-- The PCIe link with VF_1, CTX_1 attached, and the source of its commands its own. -/
def tenant1 : State :=
  { up with
    boot := { up.boot with straps := { Straps.none_ with pcieEn := true } }
    pcie := { up.pcie with linkUp := true, vfEnable := true, numVfs := 1 }
    ctx := up.ctx.set 1 { Ctx.unattached with st := .shared, epoch := 1 } }

/-- Memory trained, and a partition of one granule for CTX_0. -/
def withPart : State :=
  { tenant1 with
    memc := { up.memc with ready := true, sizeCode := 1, deliverable := 20000 }
    ctx := tenant1.ctx.set 0 { Ctx.supervisor with partBase := 2, partSize := 1 } }

/-- One entry in the fault log. -/
def oneFault : State :=
  { up with faults := { up.faults with entries := [{ time := 9, code := 1, unit_ := 0, ctx := none, cls := 1, arg := 5 }] } }

/-- A source that is pending and enabled. -/
def pendingSrc (n : SourceId) : State := up.modSrc n fun x => { x with pending := true, enable := true }

/-- The PF is bus master. -/
def copying : State := withPart.modFn 0 fun x => { x with busMaster := true }

/-- A COPY_IN of the PF waits for four bytes. -/
def copyBusy : State :=
  copying.modWin 4 fun x => { x with
    exec := some { entry := { op := 0x08, cmd := ⟨5, 0, 0, 0, 4⟩, order := 0 }, ctx := 0, epoch := 1, discard := false, since := 0
                   phase := .copy { out := false, host := 0, off := 0, toAsk := 0, asked := 4, moved := 0, total := 4 } } }

/-! ## Ill-formed commands -/

theorem test_opcode_ill : WellFormed (.unassignedOpcode 0 0x01 ⟨0, 0, 0, 0, 0⟩) = false ∧ WellFormed (.unassignedOpcode 0 0x07 ⟨0, 0, 0, 0, 0⟩) = true := by decide

theorem test_conflict_ill : WellFormed (.hostBusConflict { cs := 1, oe := true, we := false }) = false := by decide

/-- A TLP on BAR_0 with every byte enabled. -/
def wholeReq (peer write : Bool) (off dwords : Nat) : InvalidTlp :=
  { peer := peer, write := write, off := off, dwords := dwords, enables := List.replicate (4 * dwords) true, data := if write then List.replicate (4 * dwords) 5 else [] }

theorem test_invalid_tlp_ill : WellFormed (.bar0InvalidTlp 0 (wholeReq false false 0 1)) = false ∧ WellFormed (.bar0InvalidTlp 0 (wholeReq false false 4096 2)) = false ∧
    WellFormed (.bar0InvalidTlp 0 (wholeReq false false 0x104 1)) = true := by decide

theorem test_bar2_ill : WellFormed (.bar2Read 0 4095 2) = false ∧ WellFormed (.bar2Read 0 0 0) = false ∧ WellFormed (.bar2Write 0 0x3FFFFFFF [1, 2]) = false := by
  decide

theorem test_shadow_ill : WellFormed (.droneShadowTransfer (.timer 11)) = false ∧ WellFormed (.droneShadowTransfer (.timer 12)) = true := by decide

theorem test_vf_ill : WellFormed (.vfFunctionLevelReset 0) = false ∧ WellFormed (.detachDrainComplete 0) = false ∧ WellFormed (.vfEnableClear true 64) = false ∧
    WellFormed (.vfEnableSet true 64) = false := by decide

theorem test_training_ill : WellFormed (.memoryTraining (.pass 6 1)) = false ∧ WellFormed (.memoryTraining (.pass 1 3)) = false ∧
    WellFormed (.memoryTraining (.fail false false false)) = false := by decide

theorem test_completion_ill : WellFormed (.pcieCompletionReceived 3 .error) = false ∧ WellFormed (.pcieCompletionReceived 4 (.data [])) = false := by decide

theorem test_frame_ill : WellFormed (.ethernetFrameReceived { bytes := [1], fcsOk := true, queueFull := false, time := 0 }) = false := by decide

theorem test_ecc_ill : WellFormed (.memoryReadReturn 0 (.corrected (2 ^ 30))) = false ∧ WellFormed (.sramScrub (.uncorrectable .maps 262144)) = false := by decide

/-! ## Single steps on small states, with the spec's own values -/

/-- R115: with BASE 0x10 and STRIDE 1 (8 bytes), source 5's address is 0x40 + 40, and VEC shows bits 17 to 2. -/
theorem test_vector_address : vecAddr { up with evu := { up.evu with port := up.evu.port.set 1 { up.evu.port[1] with base := 0x10, stride := 1 } } } 1 5 = 0x1A := by
  decide +kernel

/-- R155: the CRC-32C of the nine digits, as published for its parameters. -/
theorem test_crc32c : crc32c [0x31, 0x32, 0x33, 0x34, 0x35, 0x36, 0x37, 0x38, 0x39] = 0xE3069283 := by decide +kernel

/-- R499: a count of PERIOD wraps to 0 in mode 0; in mode 1 a count of 0 wraps to PERIOD. -/
theorem test_count_wraps : (({ Timer.reset with period := 7, count := 7 } : Timer).countStep.map fun k => (k.count, k.ovf)) = some (0, true) ∧
    (({ Timer.reset with mode := 1, period := 7, count := 0 } : Timer).countStep.map fun k => (k.count, k.unf)) = some (7, true) := by decide

/-- R219: a bucket of CBS 1 holds at most 64 bytes, in 1/256 byte. -/
theorem test_credit_limit : credit { weight := 1, cir := 512, cbs := 1, pir := 3, pbs := 2 } 16000 0 = (16384, 3) := by decide

/-- R440: a run of four equal pixels and a literal one. -/
theorem test_rle : (takeTokens (rleTokens 11 [] [[1, 2, 3], [1, 2, 3], [1, 2, 3], [1, 2, 3], [9, 9, 9]]) [] 0) = ([0x82, 1, 2, 3, 0, 9, 9, 9], 5) := by
  decide +kernel

/-- R597: the TAP reaches Test-Logic-Reset from any state with five TMS ones. -/
theorem test_tap_reset : ∀ t ∈ [Tap.shiftDr, .pauseIr, .runTestIdle, .updateDr], (((((t.next true).next true).next true).next true).next true) = .testLogicReset := by
  decide

/-! ## Witnesses of the statements' hypotheses -/

/-! ### StepRunsFrontCommand -/

theorem witness_front : (State.reset.withFront .xtal32Loss).pending = .xtal32Loss :: [] := rfl

theorem witness_idle : State.reset.pending = [] ∧ State.reset.power.trans = none ∧ State.reset.power.wakeKept = none ∧
    State.reset.power.queued = none := by decide

/-! ### IdReadsSteppingA1 -/

theorem witness_bus_open : busOpen up = true := by decide +kernel

/-! ### ReservedOffsetsReadZero -/

theorem witness_reserved : busOpen up = true ∧ (57 : RegOffset).1 = 57 ∧ (58 : RegOffset).1 = 58 ∧ (59 : RegOffset).1 = 59 := by decide +kernel

theorem witness_reserved_write : (committed (latched 0 57 5) 57 (.half 0 1)).isSome = true := by decide +kernel

/-! ### BusConflictPerformsNoAccess -/

theorem witness_conflict : ({ cs := 3, oe := true, we := false } : HostStrobes).conflict = true := by decide

/-! ### LowHalfReadLoadsReadLatch -/

theorem witness_low_read : busOpen up = true ∧ (readReg (csWin 0) (RegOffset.byte 9) up).1 = 0 := by decide +kernel

/-! ### HighHalfReadUsesTheLatch -/

theorem witness_high_read : busOpen up = true ∧ up.win[csWin 0].readLatch = none := by decide +kernel

theorem witness_high_read_latched : busOpen (up.modWin 0 fun x => { x with readLatch := some (9, 7) }) = true ∧
    (up.modWin 0 fun x => { x with readLatch := some (9, 7) }).win[csWin 0].readLatch = some (9, 7) := by decide +kernel

/-! ### WriteHalvesCommitTogether -/

theorem witness_write_halves : busOpen up = true ∧ up.win[csWin 0].writeLatch = none := by decide +kernel

theorem witness_write_commit : busOpen (latched 0 3 5) = true ∧ (latched 0 3 5).win[csWin 0].writeLatch = some (3, 5) := by decide +kernel

/-! ### UnboundWindowReachesNothing -/

theorem witness_unbound : winCtx up 1 = none ∧ winCtx up 5 = none := by decide +kernel

/-! ### CmdStatusReadPopsOldest -/

theorem witness_pop : readWindow (up.modWin 0 fun x => { x with done := [⟨7, .ok, 1, 2⟩] }) (.half 0) = some 0 ∧
    winCtx (up.modWin 0 fun x => { x with done := [⟨7, .ok, 1, 2⟩] }) 0 = some 0 ∧
    (up.modWin 0 fun x => { x with done := [⟨7, .ok, 1, 2⟩] }).win[0].done = [⟨7, .ok, 1, 2⟩] := by decide +kernel

theorem witness_queued : (busy 0).win[0].done = [] ∧ ((busy 0).win[0].exec.any fun e => !e.discard) = true ∧ readWindow (busy 0) (.half 0) = some 0 := by decide +kernel

theorem witness_no_completion : readWindow up (.half 0) = some 0 ∧ winCtx up 0 = some 0 ∧ up.win[0].done = [] ∧ up.win[0].exec = none ∧
    up.win[0].queue = [] := by decide +kernel

/-! ### CmdIssueTakesArgumentsAsTheyStand -/

theorem witness_issue_idle : committed (latched 0 8 0x700) 8 (.half 0 0) = some (0, 0x700) ∧ ready (latched 0 8 0x700) 0 0 = true := by decide +kernel

theorem witness_issue_busy : committed (busy 0) 8 (.dword 0 0x700) = none ∧ committed ((busy 0).modWin 0 fun x => { x with writeLatch := some (8, 0x700) }) 8 (.half 0 0) = some (0, 0x700) ∧
    ((busy 0).win[0].occupancy = 1) := by decide +kernel

theorem witness_issue_full : ((busy 0).modWin 0 fun x => { x with done := List.replicate 15 ⟨1, .ok, 0, 0⟩, writeLatch := some (8, 0x700) }).win[0].occupancy = 16 := by decide +kernel

/-! ### MemoryWindowReadsOwnPartition -/

theorem witness_mem_read : readWindow withPart (.half 0) = some 0 ∧ winCtx withPart 0 = some 0 ∧ withPart.win[0].mwAddr.getLsbD 0 = false ∧
    memAvail withPart = true ∧ inPart withPart 0 0 4 = true ∧ badRange withPart (partBase withPart 0) 4 = false := by decide +kernel

theorem witness_mem_read_outside : memAvail up = false ∧ inPart (withPart.modWin 0 fun x => { x with mwAddr := 0x10000 }) 0 0x10000 4 = false := by decide +kernel

/-! ### MemoryWindowWritesOwnPartition -/

theorem witness_mem_write : committed (withPart.modWin 0 fun x => { x with writeLatch := some (15, 7) }) 15 (.half 0 9) = some (0, 0x90007) ∧
    winCtx withPart 0 = some 0 ∧ Memory.wf withPart.mem = true ∧ inPart withPart 0 0 4 = true := by decide +kernel

theorem witness_mem_write_device : ((1 : Word).getLsbD 0 = true) ∧ memAvail up = false ∧ inPart withPart 0 0x10000 4 = false := by decide +kernel

/-! ### Bar2ReachesOwnPartition -/

theorem witness_bar2 : pcieOpen withPart 0 = true ∧ barRequest 16 8 = true ∧ barReaches withPart 0 16 8 = true ∧ badPart withPart 0 16 8 = false ∧
    Memory.wf withPart.mem = true := by decide +kernel

theorem witness_bar2_outside : barRequest 0x10000 8 = true ∧ barReaches withPart 0 0x10000 8 = false ∧
    barReaches { withPart with memc := { withPart.memc with badWords := [16386] } } 0 16 8 = true ∧
    badPart { withPart with memc := { withPart.memc with badWords := [16386] } } 0 16 8 = true := by decide +kernel

/-! ### InvalidTlpIsTurnedAway -/

theorem witness_invalid_tlp : pcieOpen withPart 0 = true ∧ (wholeReq false true 16 2).invalid = true ∧ (wholeReq false false 16 2).invalid = true ∧
    (wholeReq true false 0 1).invalid = true ∧ msixRange 16 8 = false ∧ (wholeReq false false 16 2).wholeDword = false := by decide +kernel

theorem witness_msix_tlp : (wholeReq false true 0x800 4).invalid = true ∧ msixRange 0x800 16 = true ∧ (wholeReq false false 0xC00 2).invalid = true ∧ msixRange 0xC00 8 = true ∧
    (wholeReq false false 0x104 1).invalid = true ∧ (wholeReq false false 0x104 1).wholeDword = true ∧ msixRange 0x104 4 = false := by decide +kernel

/-! ### FaultLogDataReadsTheEntry -/

theorem witness_fault_read : readWindow oneFault (.half 0) = some 0 ∧ winCtx oneFault 0 = some 0 ∧ cursorWord oneFault.win[0] = 0 ∧
    (oneFault.faults.entries[cursorEntry oneFault.win[0]]?).isSome = true := by decide +kernel

theorem witness_fault_snapshot : cursorWord (oneFault.modWin 0 fun x => { x with cursor := 1, snapshot := some (0, #v[1, 2, 3, 4]) }).win[0] = 1 := by decide +kernel

theorem witness_fault_tenant : readWindow tenant1 (.dword 1) = some 5 ∧ winCtx tenant1 5 = some 1 := by decide +kernel

/-! ### VecClaimTakesTheHighestPriority -/

theorem witness_claim : readWindow (pendingSrc 200) (.half 0) = some 0 ∧ winCtx (pendingSrc 200) 0 = some 0 ∧
    (pendingSrc 200).evu.src[200].owner = 0 ∧ (pendingSrc 200).evu.src[200].pending = true ∧ (pendingSrc 200).evu.src[200].enable = true ∧
    claimOf (pendingSrc 200) 0 = some 200 := by decide +kernel

theorem witness_claim_none : claimOf up 0 = none := by decide +kernel

/-! ### EventWritesTouchOwnedSourcesOnly -/

theorem witness_event_writes : winCtx (latched 0 17 1) 0 = some 0 ∧ committed (latched 0 17 1) 17 (.half 0 0) = some (0, 1) ∧
    committed (latched 0 22 0x40C8) 22 (.half 0 0) = some (0, 0x40C8) ∧ fld (0x40C8 : Word) 0 9 = 200 ∧ fld (0x40C8 : Word) 12 3 = 4 ∧
    committed (latched 0 22 0xC8) 22 (.half 0 0) = some (0, 0xC8) ∧ fld (0xC8 : Word) 12 3 = 0 ∧
    committed (latched 0 19 0) 19 (.half 0 200) = some (0, 0xC80000) ∧ ((0xC80000 : Word).extractLsb' 16 9 : BitVec 9).toNat = 200 := by decide +kernel

theorem witness_event_not_owned : (tenant1.evu.src[200].owner = (0 : CtxId)) ∧ winCtx tenant1 5 = some 1 ∧ committed tenant1 22 (.dword 1 0x40C8) = some (5, 0x40C8) ∧
    committed tenant1 19 (.dword 1 0xC80000) = some (5, 0xC80000) := by decide +kernel

/-! ### TimerWritesTakeEffectAtTheCommit -/

theorem witness_timer_writes : winCtx (latched 0 24 5) 0 = some 0 ∧ (latched 0 24 5).win[0].timSel = 0 ∧ timVisible (latched 0 24 5) 0 0 = true ∧
    backlightHead (latched 0 24 5) 0 = none ∧ committed (latched 0 24 5) 24 (.half 0 0) = some (0, 5) ∧
    committed (latched 0 29 5) 29 (.half 0 0) = some (0, 5) ∧ committed (latched 0 28 1) 28 (.half 0 0) = some (0, 1) ∧ fld (1 : Word) 1 3 = 0 ∧
    fld (0xA : Word) 1 3 = 5 ∧ committed (latched 0 30 1) 30 (.half 0 2) = some (0, 0x20001) := by decide +kernel

theorem witness_timer_shadow : committed ((latched 0 24 5).modWin 0 fun x => { x with timSel := 12 }) 24 (.half 0 0) = some (0, 5) ∧
    ((latched 0 24 5).modWin 0 fun x => { x with timSel := 12 }).win[0].timSel = 12 ∧
    committed ((latched 0 29 5).modWin 0 fun x => { x with timSel := 12 }) 29 (.half 0 0) = some (0, 5) := by decide +kernel

/-! ### MonitorClearAndDoorbells -/

theorem witness_mon_clear : committed (latched 0 37 0) 37 (.half 0 0) = some (0, 0) ∧ winCtx (latched 0 37 0) 0 = some 0 ∧ monVisible (latched 0 37 0) 0 0 = true := by decide +kernel

theorem witness_doorbell_tenant : winCtx tenant1 5 = some 1 ∧ committed tenant1 60 (.dword 1 0x300) = some (5, 0x300) ∧ ((0x300 : Word).extractLsb' 8 8 : Byte) ≠ 0 ∧
    readWindow tenant1 (.dword 1) = some 5 := by decide +kernel

theorem witness_doorbell_supervisor : committed tenant1 60 (.dword 0 0x01030000) = some (4, 0x01030000) ∧ winCtx tenant1 4 = some 0 ∧ attached tenant1 1 = true ∧
    ((0x01030000 : Word).extractLsb' 16 8 : Byte) ≠ 0 ∧ fld (0x01030000 : Word) 24 6 = 1 ∧ readWindow tenant1 (.dword 0) = some 4 := by decide +kernel

/-! ### HeartbeatAndPowerRequestCrossToDrone -/

theorem witness_heartbeat : winCtx (latched 0 47 7000) 0 = some 0 ∧ committed (latched 0 47 7000) 47 (.half 0 9) = some (0, 0x91B58) ∧
    (latched 0 47 7000).port.freeze = false ∧ committed (latched 0 45 1) 45 (.half 0 0) = some (0, 1) ∧ fld (1 : Word) 0 3 = 1 ∧
    committed (latched 0 45 5) 45 (.half 0 0) = some (0, 5) ∧ fld (5 : Word) 0 3 = 5 := by decide +kernel

theorem witness_shadow_taken : ({ up with drone := { up.drone with hbDirty := true } } : State).drone.hbDirty = true ∧
    ({ up with power := { up.power with reqDirty := true } } : State).power.reqDirty = true ∧
    droneTimer 12 = some 0 ∧ ({ up with timerShadow := [.reg 0 0x60 7] } : State).timerShadow.any (TimerWrite.concerns 0) = true ∧
    up.timerShadow.any (TimerWrite.concerns 0) = false ∧ (1 ||| 2 : BitVec 4).getLsbD 0 = true := by decide +kernel

/-! ### NopAndUnassignedOpcodesAnswer -/

theorem witness_ready : ready up 0 0 = true ∧ listedOpcode (0x7F : Byte).toNat = false := by decide +kernel

theorem witness_dispatch : portOpen (up.modWin 0 fun x => { x with queue := [⟨0, ⟨1, 2, 0, 0, 0⟩, 0⟩] }) = true ∧
    winCtx (up.modWin 0 fun x => { x with queue := [⟨0, ⟨1, 2, 0, 0, 0⟩, 0⟩] }) 0 = some 0 ∧
    (up.modWin 0 fun x => { x with queue := [⟨0, ⟨1, 2, 0, 0, 0⟩, 0⟩] }).win[0].queue = [⟨0, ⟨1, 2, 0, 0, 0⟩, 0⟩] := by decide +kernel

/-! ### SupervisorCommandsAreDeniedToTenants -/

theorem witness_tenant_ready : ready tenant1 5 1 = true := by decide +kernel

/-! ### AttachAndDetachMoveTheEpoch -/

theorem witness_attach : ready up 0 0 = true ∧ unclaimed up [.ctxSet 3] = true ∧ up.ctx[3].st = .unattached ∧
    up.ctx[3].guardA = false ∧ up.ctx[3].guardB = false := by decide +kernel

theorem witness_modify : ready tenant1 0 0 = true ∧ attached tenant1 1 = true ∧ anyLocked tenant1 = false ∧ unclaimed tenant1 [.gate 0, .gate 1, .gate 2, .ctxSet 1] = true ∧
    tenant1.prot[0].orphaned = false ∧ tenant1.prot[1].orphaned = false := by decide +kernel

theorem witness_modify_roles : ∀ m : CtxId, m ≠ 1 → tenant1.ctx[m].guardA = false ∧ tenant1.ctx[m].guardB = false := by decide +kernel

theorem witness_drained : (tenant1.modCtx 1 fun c => { c with st := .detaching }).ctx[1].st = .detaching ∧
    drained (tenant1.modCtx 1 fun c => { c with st := .detaching }) 1 = true := by decide +kernel

/-! ### BindWindowRebindsChipSelects -/

theorem witness_bind : ready tenant1 0 0 = true ∧ attached tenant1 1 = true ∧ tenant1.port.csLock.getLsbD 0 = false ∧ tenant1.port.csBound[0] = none := by decide +kernel

theorem witness_bind_locked : ({ tenant1 with port := { tenant1.port with csLock := 1 } } : State).port.csLock.getLsbD 0 = true ∧
    ready { tenant1 with port := { tenant1.port with csLock := 1 } } 0 0 = true := by decide +kernel

/-! ### PartitionAndTerritoryAreSet -/

theorem witness_partition : ready withPart 0 0 = true ∧ unclaimed withPart [.ctxSet 1] = true ∧
    partitionState (takenWith withPart 0 0x05 ⟨1, 1, 8, 4, 0⟩ 0 [.ctxSet 1]) 1 8 4 = none := by decide +kernel

theorem witness_territory : ready tenant1 0 0 = true ∧ unclaimed tenant1 [.gate 0, .ctxSet 1] = true ∧ argHead (1 : Word) = some 0 ∧ argCtx (1 : Word) = 1 ∧
    terrFails (takenWith tenant1 0 0x06 ⟨1, 1, 0, 0x00100010, 0x20⟩ 0 [.gate 0, .ctxSet 1]) 1 0 0 (argTerr ⟨1, 1, 0, 0x00100010, 0x20⟩) = none ∧
    (argTerr ⟨1, 1, 0, 0x00100010, 0x20⟩).isSome = true := by decide +kernel

/-! ### CopiesGoThroughPcieOnly -/

theorem witness_copy_denied : ready up 0 0 = true ∧ (0 : WinId).1 < 4 := by decide +kernel

theorem witness_copy : ready copying 4 0 = true ∧ (4 : WinId) = fnWin 0 ∧ copying.pcie.fn[0].busMaster = true ∧ memAvail copying = true ∧
    inPart copying 0 (woff 4) 64 = true ∧ copying.power.trans = none := by decide +kernel

/-! ### PcieFunctionsComeAndGo -/

theorem witness_functions : vfExists tenant1 1 = true ∧ attached tenant1 1 = true ∧ tenant1.pcie.vfEnable = true ∧ up.pcie.vfEnable = false ∧
    tenant1.boot.straps.pcieEn = true := by decide +kernel

theorem witness_copy_error : ∃ e, (copyBusy.win[4].exec = some e) ∧ e.discard = false ∧ e.phase = .copy { out := false, host := 0, off := 0, toAsk := 0, asked := 4, moved := 0, total := 4 } := by
  refine ⟨_, rfl, ?_, ?_⟩ <;> rfl

/-! ### CommitIsReadThenWaitsForItsSlot -/

/-- A list of one entry that clears slot 1 of head A stands at offset 64 of the partition. -/
def listed : State := { withPart with mem := [(131136, 4), (131137, 1)] }

/-- The command that names it. -/
def listCmd : Cmd := ⟨1, 16, 1, 0, 0⟩

theorem witness_commit : ready listed 0 0 = true ∧ listed.power.trans = none ∧ memAvail listed = true ∧ inPart listed 0 (woff 16) 8 = true ∧
    badPart listed 0 (woff 16) 8 = false ∧ listBad (rawList listed 0 listCmd) = false ∧
    (∀ e ∈ rawList listed 0 listCmd, e.clear = true) ∧ unclaimed listed (needsCommit 0 listCmd listed) = true := by decide +kernel

theorem witness_seal : ready tenant1 0 0 = true ∧ attached tenant1 1 = true ∧ unclaimed tenant1 [.ctxSet 1] = true := by decide +kernel

/-! ### BudgetSlotDecidesTheOldestRequest -/

/-- A commit of no entries, as a statement about the budget checker sees it. -/
def emptyReq (chk : Bool) : CommitReq := { check := chk, joint := false, fallback := false, listOff := 0, entries := 0, list := [], boot := none }

/-- A request waits for a slot of CTX_0. -/
def waitingExec (p : Phase) (a0 : Word) : Exec :=
  { entry := { op := 0x10, cmd := ⟨5, a0, 0, 0, 0⟩, order := 0 }, ctx := 0, epoch := 1, phase := p, discard := false, since := 0 }

def waiting (p : Phase) (a0 : Word) : State := tenant1.modWin 0 fun x => { x with exec := some (waitingExec p a0) }

theorem witness_slot_idle : oldestReady up 0 = none ∧ fabricOn up = true ∧ up.port.budgetCtx = 0 ∧ up.port.fallbackQueue = [] := by decide +kernel

theorem witness_slot_commit : oldestReady (waiting (.budget (emptyReq false)) 0) 0 = some (0, waitingExec (.budget (emptyReq false)) 0) ∧
    decideCommit (waiting (.budget (emptyReq false)) 0) 0 (emptyReq false) = .accept [] := by decide +kernel

/-- A list that places a layer in slot 1, where CTX_0 has no territory. -/
def badReq : CommitReq := { emptyReq false with entries := 1, list := [(0, 1, some (List.replicate 64 0))] }

theorem witness_slot_reject : oldestReady (waiting (.budget badReq) 0) 0 = some (0, waitingExec (.budget badReq) 0) ∧
    decideCommit (waiting (.budget badReq) 0) 0 badReq = .reject 0x05 0 0 := by decide +kernel

theorem witness_slot_seal : oldestReady (waiting .budgetSeal 1) 0 = some (0, waitingExec .budgetSeal 1) ∧ argCtx 1 = 1 ∧
    (waiting .budgetSeal 1).ctx[(1 : CtxId)].st = .shared := by decide +kernel

theorem witness_slot_seal_fits : crossOk { (waiting .budgetSeal 1) with memc := { up.memc with deliverable := 20000 } } 1 (fun _ => []) (some 1) (admTerr (waiting .budgetSeal 1)) = true ∧
    crossOk (waiting .budgetSeal 1) 1 (fun _ => []) (some 1) (admTerr (waiting .budgetSeal 1)) = false := by decide +kernel

theorem witness_slot_fallback : decideCommit { up with port := { up.port with fallbackQueue := [(0, emptyReq false)] } } 0 (emptyReq false) = .accept [] := by decide +kernel

/-! ### AbortFlushAndFlatten -/

/-- A commit of CTX_0 for head A waits. -/
def pendingOne : State := { up with commits := [{ ctx := 0, id := 7, parts := [{ head := 0, boundary := none, ops := [.clear 1] }], joint := false, fallback := false, listOff := 0, entries := 1, acceptedAt := 0 }] }

theorem witness_abort : ready pendingOne 0 0 = true ∧ unclaimed pendingOne (needsCommitAbort 0 ⟨1, 7, 0, 0, 0⟩ pendingOne) = true ∧
    (findCommit pendingOne 0 7).isSome = true ∧ (∀ p ∈ pendingOne.commits, p.parts.all (partBeforeCutOff pendingOne) = true) ∧ findCommit pendingOne 0 8 = none := by decide +kernel

theorem witness_flush : ready up 0 0 = true ∧ unclaimed up [.gate (headId 0), .gate (headId 1)] = true := by decide +kernel

/-- A configuration of a 64 × 64 picture. -/
def small : HeadCfg := {
  link := .lvds false false false false, hsPol := false, vsPol := false, genlock := .none, glStream := 0, fsyncFall := false
  hactive := 64, vactive := 64, htotal := 96, vtotal := 66, hsyncStart := 70, hsyncEnd := 80, vsyncStart := 64, vsyncEnd := 65
  live := { depth := 0, dither := 0, degammaEn := false, gammaEn := false, wbEn := false, fsyncOut := false, background := ⟨0, 0, 0⟩, lineEvt := 0
            commitLead := 4, glOffset := 0, glWindow := 0, trimLimit := 0, degammaOff := 0, gammaOff := 0, degamma := [], gamma := [] } }

/-- Head A with one settled run of the given members and one tile that CP_E flattens. -/
def settled (m : List SlotId) : State :=
  let s := withPart.modHead 0 fun x => { x with cfg := some small }
  setRuns 0 [{ members := m, settle := 8, serving := true, tiles := [⟨0, 0, .flattening⟩] }] s

theorem witness_flatten : nextTile (settled []) 0 = some ({ members := [], settle := 8, serving := true, tiles := [⟨0, 0, .flattening⟩] }, ⟨0, 0, .flattening⟩) ∧
    tileBad (settled []) 0 small [] 0 0 = none ∧ freeSlot 170 (chipSlots (settled [])) = some 0 ∧ memAvail (settled []) = true ∧
    (flattenTile (settled []) 0 small [] 0 0).any (· = .mixed) = false := by decide +kernel

/-- An RGB565 layer of 64 × 64 pixels at half alpha. -/
def half : Desc := {
  format := .rgb565, rot := 0, hflip := false, vflip := false, tiled := false, csc := 0, premult := false, static_ := true, relay := none, boot := false
  constAlpha := 128, shedRank := 0, slot := 1, base0 := 0, base1 := 0, stride0 := 128, stride1 := 0, srcW := 64, srcH := 64, srcX := 0, srcY := 0, w := 64, h := 64
  dstX := 0, dstY := 0, colour := 0, m := Vector.replicate 9 0, off := Vector.replicate 3 0 }

/-- The same run with that layer in slot 1. -/
def mixedRun : State :=
  ((settled [1]).modSlot 0 1 (some { desc := half, ctx := 0, commitId := 1, pool := 0 })).modCtx 0 fun c => { c with
    terrShown := Vector.replicate 3 (Terrs.none_.set 0 (some { x := 0, y := 0, w := 64, h := 64, zlo := 0, zhi := 15, overlap := false })) }

theorem witness_mixed : (flattenTile mixedRun 0 small [1] 0 0).any (· = .mixed) = true ∧ tileBad mixedRun 0 small [1] 0 0 = none := by decide +kernel

/-! ### ProtectedContentIsLoadedLockedAndReleased -/

/-- A 16-byte block of one A8 pixel, for a guardian of head A with one granule. -/
def guarded : State :=
  { tenant1 with
    memc := { up.memc with ready := true, sizeCode := 1, deliverable := 20000 }
    ctx := up.ctx.set 1 { Ctx.unattached with st := .shared, epoch := 1, guardA := true, partBase := 0, partSize := 1 }
    mem := [(0, 6), (4, 1), (6, 1), (16, 255)] }

theorem witness_load : ready guarded 5 1 = true ∧ guards guarded 1 0 = true ∧ memAvail guarded = true ∧ inPart guarded 1 0 17 = true ∧
    (parseImage (readPart guarded 1 0 17)).isSome = true ∧ badPart guarded 1 0 17 = false ∧ guarded.prot[(0 : ContHead)].lock = none ∧ guarded.power.trans = none ∧
    (parseImage (readPart guarded 1 0 17)).all (fun i => decide (heldUse guarded.prot[(0 : ContHead)] + i.use ≤ allotBytes guarded.prot[(0 : ContHead)])) = true := by decide +kernel

/-- One opaque pixel. -/
def dot : Image := { format := .a8, premult := false, w := 1, h := 1, colour := 0, palette := [], pixels := [255] }

/-- It is the shadow image of a configured head A. -/
def loaded : State := (guarded.modHead 0 fun x => { x with cfg := some small }).modProt 0 fun p => { p with shadow := some dot }

theorem witness_lock : ready loaded 5 1 = true ∧ loaded.prot[(0 : ContHead)].shadow = some dot ∧ unclaimed loaded [.gate (headId 0), .cal 3] = true ∧
    loaded.cal[(3 : CalId)].op = none ∧ loaded.panel[(0 : ContHead)].run = none := by decide +kernel

/-- It is locked on a head that is stopped, or runs. -/
def lockedDot (run : Bool) : State := (loaded.modProt 0 fun p => { p with live := some dot, guardian := some 1 }).modHead 0 fun x => { x with run := if run then .running else .stopped }

theorem witness_release : ready (lockedDot false) 5 1 = true ∧ boundaryOf (lockedDot false) 0 = none ∧ boundaryOf (lockedDot true) 0 = some 1 ∧
    unclaimed (lockedDot true) [.gate (headId 0)] = true := by decide +kernel

/-- Its PROTECT_LOCK waits for the expected value. -/
def expecting (run : Bool) : State := ((lockedDot run).modProt 0 fun p => { p with lock := some { image := dot, x := 0, y := 0, safe := false, floor := 0, expected := none, loaded := true } }).modWin 5 fun x => { x with
  exec := some { entry := { op := 0x19, cmd := ⟨5, 0, 0, 0, 0⟩, order := 0 }, ctx := 1, epoch := 1, phase := .lockExpected 0, discard := false, since := 0 } }

theorem witness_expected : windowIn (expecting false) (fun p => p = .lockExpected 0) = some 5 ∧ windowIn (expecting true) (lockPhase 0) = some 5 ∧
    windowIn (expecting true) (fun p => p = .lockExpected 0) = some 5 ∧ windowIn (expecting false) (lockPhase 0) = some 5 ∧
    boundaryOf (expecting false) 0 = none ∧ boundaryOf (expecting true) 0 = some 1 := by decide +kernel

/-! ### ProtectedCheckComparesWithTheExpectedValue -/

theorem witness_check : started (lockedDot true) 0 = true ∧ (lockedDot true).prot[(0 : ContHead)].checked = false ∧
    ((lockedDot true).modProt 0 fun p => { p with checked := true }).prot[(0 : ContHead)].checked = true ∧ (lockedDot true).head[(0 : ContHead)].gated = false ∧ (lockedDot true).prot[(0 : ContHead)].live = some dot ∧
    crcFin (lockedDot true).prot[(0 : ContHead)].acc.toNat ≠ (lockedDot true).prot[(0 : ContHead)].expected.toNat := by decide +kernel

theorem witness_check_match :
    let s := (lockedDot true).modProt 0 fun p => { p with expected := BitVec.ofNat 64 (crcFin p.acc.toNat) }
    crcFin s.prot[(0 : ContHead)].acc.toNat = s.prot[(0 : ContHead)].expected.toNat ∧ s.prot[(0 : ContHead)].badWords = [] := by decide +kernel

/-! ### CaliperOperationsStartAndEnd -/

/-- A scan descriptor of the first four bytes of CTX_0's partition, at its start. -/
def scanning1 : State := { withPart with mem := [(131072, 1), (131073, 32), (131077, 16), (131078, 1), (131116, 4)] }

theorem witness_scan : ready scanning1 0 0 = true ∧ unclaimed scanning1 [.cal 1] = true ∧ checkScan 0 0 ⟨1, 1, 0, 0, 0⟩ (takenWith scanning1 0 0x30 ⟨1, 1, 0, 0, 0⟩ 0 [.cal 1]) = none ∧
    scanUnit ⟨1, 1, 0, 0, 0⟩ = 1 := by decide +kernel

theorem witness_selftest : unclaimed up [.cal 3] = true ∧ cal3Reserved up = false ∧ freeCal up = some 1 ∧ (∀ p ∈ up.port.held, p.2 ≠ Holder.window 0) ∧
    selftestPower up 0x10 = true ∧ selftestPower up 0x12 = false := by decide +kernel

/-- An operation of CAL_1 that the command of window 0 started. -/
def onUnit (op : CalOp) (failed : Bool) : State := ((busy 0).modCal 1 fun x => { x with
  op := some { op := op, byWindow := some 0, ctx := 0, crc := CrcCfg.crc32c, reg := 0, rowPos := 0, row := 1, blocks := 0, asked := 0, failed := failed, since := 0 } })

theorem witness_operation : ((onUnit (.memory 0 0 1 4 0) false).cal[(1 : CalId)].op.any fun r => r.fed && !r.failed) = true ∧
    ((onUnit (.memory 0 0 1 4 0) true).cal[(1 : CalId)].op.any fun r => r.failed) = true := by decide +kernel

theorem witness_chunk : (7 : Nat) + 1 < selftestChunks 0x10 ∧ selftestChunks 1 ≤ 7 + 1 ∧ calWanted (onUnit (.selftest 0x10 7 0) false) 1 = false ∧ fabricOn (onUnit (.selftest 1 7 0) false) = true ∧
    addFailures 1 7 0 5 ≠ 0 := by decide +kernel

/-! ### HeadsAreConfigured -/

/-- A configured synthesizer. -/
def synCfg : SynCfg := { period := 160000000, w := 1, log2n := 4, ditherOff := true, autoResume := false, seed := 0 }

/-- The block of a 64 × 64 picture at the start of CTX_0's partition, and a clock for head A. -/
def headBlock : State :=
  { (withPart.modSyn 0 fun x => { x with cfg := some synCfg }) with
    mem := [(131072, 1), (131076, 64), (131078, 64), (131080, 96), (131082, 66), (131084, 70), (131086, 80), (131088, 64), (131090, 65), (131092, 4), (131093, 16)] }

theorem witness_config : ready headBlock 0 0 = true ∧ argCont (0 : Word) = some 0 ∧ unclaimed headBlock [.gate (headId 0)] = true ∧
    checkHeadConfig 0 0 ⟨1, 0, 0, 0, 0⟩ (takenWith headBlock 0 0x20 ⟨1, 0, 0, 0, 0⟩ 0 [.gate (headId 0)]) = none ∧ started headBlock 0 = false := by decide +kernel

/-- The head runs with a configuration that differs in its background only. -/
def headRuns : State := headBlock.modHead 0 fun x => { x with
  run := .running
  cfg := (parseLink (readPart headBlock 0 0 64)).map fun l => { readHead headBlock (readPart headBlock 0 0 64) l none with
    live := { (readHead headBlock (readPart headBlock 0 0 64) l none).live with background := ⟨9, 9, 9⟩ } } }

theorem witness_config_live : ready headRuns 0 0 = true ∧ boundaryOf headRuns 0 = some 1 ∧ headRuns.head[(0 : ContHead)].cfg.isSome = true ∧
    checkHeadConfig 0 0 ⟨1, 0, 0, 0, 0⟩ (takenWith headRuns 0 0x20 ⟨1, 0, 0, 0, 0⟩ 0 [.gate (headId 0)]) = none := by decide +kernel

/-- The block of a 64 × 64 bistable panel, with a table in the waveform region whose only mode is CLEAR, and PCLK_E. -/
def epdBlock : State :=
  { (withPart.modSyn 2 fun x => { x with cfg := some synCfg, out := .running }) with
    mem := [(131072, 64), (131074, 64), (131076, 29), (131078, 1), (131082, 30), (131096, 1), (131097, 1), (131099, 1), (131101, 1), (131103, 1), (131105, 1), (131107, 1), (131109, 1), (131111, 1), (131113, 1), (131115, 1)]
      ++ [(waveBase withPart, 1), (waveBase withPart + 18, 2)] ++ (List.range 16).map fun b => (waveBase withPart + 0x70 + b, 1) }

/-- A byte above every listed address reads 0. -/
theorem readCell_above (m : List Host.Cell) (x : Nat) (h : ∀ p ∈ m, p.1 < x) : readCell m x = 0 := by
  induction m with
  | nil => rfl
  | cons p m ih =>
    obtain ⟨a, b⟩ := p
    have ha : a < x := h (a, b) (by simp)
    rw [readCell, if_neg (by omega), ih fun q hq => h q (by simp [hq])]

/-- A table whose entries are all 0 plays nothing: an entry of one phase is valid. -/
theorem entryOk_zero (t : Nat → Nat) (hz : ∀ o, 0x100 ≤ o → t o = 0) (m b f k : Nat) (hn : wfPhases t m b = 1) : entryOk t m b f k = true := by
  have hc : ∀ p, wfCode t m b f k p = 0 := fun p => by
    rw [wfCode, hz _ (by omega), Nat.zero_div, Nat.zero_mod]
  have hf : wfCode t m b f k = fun _ => 0 := funext hc
  simp only [entryOk, hn, hf]
  decide +kernel

/-- Such a table with the mode CLEAR only is valid where its header is. -/
theorem tableOk_clear (t : Nat → Nat) (hz : ∀ o, 0x100 ≤ o → t o = 0) (hn : ∀ b, b < 16 → wfPhases t 3 b = 1)
    (h0 : modePresent t 0 = false) (h1 : modePresent t 1 = false) (h2 : modePresent t 2 = false) (h3 : modePresent t 3 = true)
    (hh : (t 0 = 1 && ((List.range 3).all fun i => t (1 + i) = 0) && ((List.range 12).all fun i => t (0x14 + i) = 0) && ((List.range 2).all fun i => t (0x3E + i) = 0)
      && ((List.range 128).all fun i => t (0x80 + i) = 0) && ((List.range 14).all fun i => decide (wfThresh t i ≤ wfThresh t (i + 1)))
      && ((List.range 4).all fun m =>
        if modePresent t m then decide (11765 ≤ wfPhaseUs t m ∧ wfPhaseUs t m ≤ 1000000) && (List.range 16).all fun b => wfPhases t m b ≠ 0
        else (List.range 16).all fun b => wfPhases t m b = 0)) = true) : tableOk t = true := by
  have hl : ((List.range 4).all fun m => !modePresent t m || (List.range 16).all fun b => (List.range 16).all fun f =>
      if m = 3 then entryOk t 3 b f 15 else (List.range 16).all fun dst => entryOk t m b f dst) = true := by
    rw [List.all_eq_true]
    intro m hm
    have : m = 0 ∨ m = 1 ∨ m = 2 ∨ m = 3 := by have := List.mem_range.1 hm; omega
    rcases this with rfl | rfl | rfl | rfl
    · simp [h0]
    · simp [h1]
    · simp [h2]
    · simp only [h3, Bool.not_true, Bool.false_or, if_true, List.all_eq_true, List.mem_range]
      exact fun b hb f _ => entryOk_zero t hz 3 b f 15 (hn b hb)
  rw [tableOk, h3, hl, Bool.and_true, Bool.and_true]
  exact hh

/-- The checks of a HEAD_CONFIG of head E that loads no table. -/
theorem check_config_e (s : State) (w : WinId) (a : Cmd) (y : SynCfg) (c : EpdCfg) (h1 : argBits a 0x300 wholeWord 0 0 = true) (h2 : (argHead a.a0).isNone = false)
    (h3 : inPart s 0 (woff a.a1) 64 = true) (h4 : cmdMem s w = true) (h5 : badBlock s 0 (woff a.a1) 64 = none) (h6 : argCont a.a0 = none)
    (h7 : s.syn[2].cfg = some y) (h8 : s.epd.run.isSome = false) (h9 : parseEpd (readPart s 0 (woff a.a1) 64) = some c)
    (h10 : decide (y.period.toNat < 1280 * 65536) = false) (h11 : epdLoads (readPart s 0 (woff a.a1) 64) = false)
    (h12 : tableOk (epdTable s (readPart s 0 (woff a.a1) 64)) = true)
    (h13 : ((List.range 4).any fun m => modePresent (epdTable s (readPart s 0 (woff a.a1) 64)) m
      && !scanFits c y.period.toNat (wfPhaseUs (epdTable s (readPart s 0 (woff a.a1) 64)) m)) = false) : checkHeadConfig w 0 a s = none := by
  have e : checkHeadE s (readPart s 0 (woff a.a1) 64) = none := by
    unfold checkHeadE
    rw [h7]
    simp only [h8, h9, h10, h11, h12, h13]
    rfl
  unfold checkHeadConfig
  simp only [h1, h2, h3, h4, h5, h6, e]
  rfl

def epdTaken : State := takenWith epdBlock 0 0x20 ⟨1, put 2 8 2, 0, 0, 0⟩ 0 [.gate 2]

/-- The panel that the block describes. -/
def epdBlockCfg : EpdCfg := (parseEpd (readPart epdTaken 0 0 64)).getD
  { width := 0, height := 0, rowClks := 0, leW := 0, fbRows := 0, split := false, tempTherm := false, vcom := 0, background := ⟨0, 0, 0⟩, rails := Vector.replicate 5 ⟨0, 0, 0, 0⟩ }

theorem epdTaken_table : tableOk (waveTable epdTaken) = true := by
  refine tableOk_clear _ (fun o ho => ?_) ?_ ?_ ?_ ?_ ?_ ?_
  · rw [waveTable, readCell_above]
    · rfl
    · have : ∀ p ∈ epdTaken.mem, p.1 < waveBase epdTaken + 0x100 := by decide +kernel
      exact fun p hp => Nat.lt_of_lt_of_le (this p hp) (by omega)
  all_goals decide +kernel

theorem witness_config_e : ready epdBlock 0 0 = true ∧ unclaimed epdBlock [.gate 2] = true ∧ checkHeadConfig 0 0 ⟨1, put 2 8 2, 0, 0, 0⟩ epdTaken = none := by
  refine ⟨by decide +kernel, by decide +kernel, ?_⟩
  have ht : epdTable epdTaken (readPart epdTaken 0 (woff (⟨1, put 2 8 2, 0, 0, 0⟩ : Cmd).a1) 64) = waveTable epdTaken := if_neg (by decide +kernel)
  apply check_config_e epdTaken 0 _ synCfg epdBlockCfg
  case h12 => rw [ht]; exact epdTaken_table
  all_goals decide +kernel

/-! ### HeadsStartAndStop -/

/-- Head A in a run state, configured, with a clock. -/
def headIn (r : RunState) (cfg : HeadCfg) : State :=
  (tenant1.modHead 0 fun x => { x with cfg := some cfg, run := r, link := true }).modSyn 0 fun x => { x with cfg := some synCfg, out := .running }

/-- An eDP link. -/
def edpCfg : HeadCfg := { small with link := .edp 1 0 }

theorem witness_start : ready (headIn .stopped small) 0 0 = true ∧ unclaimed (headIn .stopped small) [.power, .syn (headSyn 0), .gate (headId 0)] = true ∧
    protLocked (headIn .stopped small) 0 = false := by decide +kernel

theorem witness_running : ready (headIn .running small) 0 0 = true ∧ unclaimed (headIn .running small) [.power, .syn (headSyn 0), .gate (headId 0)] = true ∧
    (headIn .running small).head[(0 : ContHead)].gated = false ∧ protLocked (headIn .running small) 0 = false := by decide +kernel

theorem witness_pll : (headIn (.starting .pll) small).head[(0 : ContHead)].pll = false ∧ isEdp (headIn (.starting .pll) small) 0 = false ∧
    isEdp (headIn (.starting .pll) edpCfg) 0 = true ∧ (headIn (.starting .hpd) edpCfg).head[(0 : ContHead)].run = .starting .hpd := by decide +kernel

theorem witness_hpd : isEdp (headIn .running edpCfg) 0 = true ∧ (headIn .running edpCfg).head[(0 : ContHead)].link = true ∧
    ((headIn .running edpCfg).modHead 0 fun x => { x with link := false }).head[(0 : ContHead)].link = false ∧
    ((headIn .running edpCfg).modHead 0 fun x => { x with training := true }).head[(0 : ContHead)].training = true := by decide +kernel

/-! ### FramesBegin -/

theorem witness_boundary :
    let s := (headIn .running small).modHead 0 fun x => { x with line := 65 }
    s.head[(0 : ContHead)].cfg = some small ∧ s.head[(0 : ContHead)].run = .running ∧ s.head[(0 : ContHead)].gated = false ∧ small.vtotal ≤ s.head[(0 : ContHead)].line + 1 ∧ stopsHere s 0 = false := by decide +kernel

theorem witness_last_boundary :
    let s := (headIn .stopping small).modHead 0 fun x => { x with line := 65 }
    s.head[(0 : ContHead)].run = .stopping ∧ s.head[(0 : ContHead)].gated = false ∧ small.vtotal ≤ s.head[(0 : ContHead)].line + 1 := by decide +kernel

theorem witness_first_boundary : firstReady (headIn (.starting .firstBoundary) small) 0 = true ∧
    glSource (headIn (.starting .firstBoundary) { small with genlock := .fsyncIn }) 0 = .fsyncIn := by decide +kernel

/-! ### LinesAreComposedAndScanned -/

/-- Head A scans at a line, with the next line to compose. -/
def scanAt (line next : Nat) : State := ((headIn .running small).modHead 0 fun x => { x with line := line, wb := { x.wb with writing := some 1, rows := 64 } }).modComp 0 fun c => { c with nextLine := next }

theorem witness_compose : scanning (scanAt 3 5) 0 = true ∧ leadOf (scanAt 3 5) 0 small ≤ 3 ∧ awaited (scanAt 3 5) 0 small = [] := by decide +kernel

/-- A visible layer in slot 1 whose data is awaited. -/
def awaiting : State :=
  ((((scanAt 3 5).modComp 0 fun c => { c with missing := [(1, 5, 5)] }).modSlot 0 1 (some { desc := half, ctx := 0, commitId := 1, pool := 0 })).modCtx 0 fun c => { c with
    terrShown := Vector.replicate 3 (Terrs.none_.set 0 (some { x := 0, y := 0, w := 64, h := 64, zlo := 0, zhi := 15, overlap := false })) })

theorem witness_shed : scanning awaiting 0 = true ∧ leadOf awaiting 0 small ≤ 2 ∧ awaited awaiting 0 small ≠ [] ∧ shedChoice awaiting 0 small = some 1 := by decide +kernel

theorem witness_line : (scanAt 3 5).head[(0 : ContHead)].line + 1 < small.vactive ∧ (scanAt 3 5).comp[(0 : ContHead)].store = [] ∧
    (((scanAt 3 5).modComp 0 fun c => { c with store := [⟨4, [], [], [], [], []⟩] }).comp[(0 : ContHead)].store.map fun e => e.line) = [4] ∧ (scanAt 64 5).head[(0 : ContHead)].line = small.vactive := by decide +kernel

theorem witness_filling : filling (headIn (.starting .firstBoundary) small) 0 = true ∧ (headIn (.starting .firstBoundary) small).head[(0 : ContHead)].cfg = some small ∧
    (headIn (.starting .firstBoundary) small).comp[(0 : ContHead)].opening = none := by decide +kernel

theorem witness_blank_stream : (scanAt 64 5).head[(0 : ContHead)].edp.stream = false := by decide +kernel

theorem witness_writeback : (scanAt 3 5).head[(0 : ContHead)].wb.writing = some 1 ∧ small.vactive ≤ (scanAt 3 5).head[(0 : ContHead)].wb.rows := by decide +kernel

/-! ### PanelPowerRunsItsSequences -/

/-- A table that asserts VDD_EN, and the panel of head A with it as the boot image's. -/
def table1 : PanelTable := {
  polVdd := true, polBl := true, polPwm := true, clearFrames := 0, dischargeFrames := 0, dischargeKind := 0, gateGpio := 0, blChannel := 0
  pwmPrescale := 1, pwmPeriod := 100, pwmInit := 50, on := [⟨.assert, 0, false, 1, 0⟩, ⟨.frames, 0, false, 0, 0⟩], off := [⟨.frames, 0, false, 0, 0⟩, ⟨.deassert, 0, false, 1, 0⟩] }

def panelOf (st : PanelState) (r : Option PanelRun) : State := (busy 0).modPanel 0 fun p => { p with st := st, boot := some table1, table := some table1, run := r }

def panelReady (st : PanelState) : State := (panelOf st none).modWin 0 fun x => { x with exec := none }

theorem witness_panel : ready (panelReady .off) 0 0 = true ∧ argCont (0x30000 : Word) = some 0 ∧ unclaimed (panelReady .off) [.power] = true ∧
    checkPanelPower 0 0 ⟨1, 0x30000, 0, 0, 0⟩ (takenWith (panelReady .off) 0 0x23 ⟨1, 0x30000, 0, 0, 0⟩ 0 [.power]) = none ∧
    panelTable (panelReady .off) 0 ⟨1, 0x30000, 0, 0, 0⟩ = some table1 ∧ (panelReady .off).panel[(0 : ContHead)].st = .off := by decide +kernel

theorem witness_panel_same : checkPanelPower 0 0 ⟨1, 0x30000, 0, 0, 0⟩ (takenWith (panelReady .on) 0 0x23 ⟨1, 0x30000, 0, 0, 0⟩ 0 [.power]) = none ∧
    checkPanelPower 0 0 ⟨1, 0x20000, 0, 0, 0⟩ (takenWith (panelReady .off) 0 0x23 ⟨1, 0x20000, 0, 0, 0⟩ 0 [.power]) = none ∧
    (panelReady .on).panel[(0 : ContHead)].st = .on ∧ (0x20000 : Word).getLsbD 16 = false := by decide +kernel

/-- A run of window 0 with the given steps left. -/
def runWith (l : List SeqStep) (x : SeqWait) : PanelRun := { PanelRun.fresh false l 0 .powered (some 0) with wait := x }

theorem witness_panel_step : (panelOf .off (some (runWith table1.on .delay))).panel[(0 : ContHead)].run = some (runWith table1.on .delay) ∧
    (panelOf .off (some (runWith [] .pin))).panel[(0 : ContHead)].table = some table1 ∧ ((panelOf .off (some (runWith [] .delay))).win[(0 : WinId)].exec.any fun e => !e.discard) = true := by decide +kernel

/-! ### SynthesizersLockAndLose -/

theorem witness_clock : ready up 0 0 = true ∧ argSyn ⟨1, 0, 160000000, 0x21, 0⟩ = some 0 ∧ unclaimed up [.syn 0] = true ∧
    checkClockConfig 0 0 ⟨1, 0, 160000000, 0x21, 0⟩ (takenWith up 0 0x68 ⟨1, 0, 160000000, 0x21, 0⟩ 0 [.syn 0]) = none := by decide +kernel

/-- A synthesizer whose output runs. -/
def clocked (b : BoreState) (o : OutState) (p : Option Phase) : State :=
  let s := up.modSyn 0 fun x => { x with cfg := some synCfg, bore := b, out := o, steps := 3 }
  s.modWin 0 fun x => { x with exec := p.map fun p => { entry := { op := 0x68, cmd := ⟨5, 0, 0, 0, 0⟩, order := 0 }, ctx := 0, epoch := 1, phase := p, discard := false, since := 0 } }

theorem witness_phase : ready (clocked .locked .running none) 0 0 = true ∧
    checkPhaseStep 0 0 ⟨1, 0, 3, 0, 0⟩ (takenWith (clocked .locked .running none) 0 0x69 ⟨1, 0, 3, 0, 0⟩ 0 [.syn 0]) = none ∧
    windowIn (clocked .locked .running (some (.phaseSteps 0))) (fun p => p = .phaseSteps 0) = some 0 := by decide +kernel

theorem witness_lock_of_bore : windowIn (clocked .locking .off (some (.clockLock 0))) (fun p => p = .clockLock 0) = some 0 ∧
    (clocked .locking .off (some (.clockLock 0))).drone.pllLock = true ∧ fabricOn (clocked .locked .running none) = true := by decide +kernel

/-! ### BistableUpdatesStart -/

/-- A 64 × 64 panel. -/
def panel64 : EpdCfg := { width := 64, height := 64, rowClks := 29, leW := 1, fbRows := 0, split := false, tempTherm := true, vcom := 30, background := ⟨0, 0, 0⟩, rails := Vector.replicate 5 ⟨1, 1, 1, 1⟩ }

/-- The engine with that panel, PCLK_E, a table whose mode 0 is present, and a command in hand. -/
def epdState (r : Option EpdRun) (rails : RailState) : State :=
  let s := { ((busy 0).modSyn 2 fun x => { x with cfg := some synCfg, out := .running }) with memc := withPart.memc, ctx := withPart.ctx }
  { s with epd := { s.epd with cfg := some panel64, run := r, rails := rails }, mem := [(waveBase withPart + 6, 2)] }

/-- No command in hand. -/
def epdFree (composing : Bool) : State := let s := (epdState none .down).modWin 0 fun x => { x with exec := none }; { s with epd := { s.epd with composing := composing } }

theorem witness_epd : ready (epdFree false) 0 0 = true ∧ unclaimed (epdFree false) [.power, .syn 2] = true ∧ freeCal (epdFree false) = some 1 ∧
    (∀ p ∈ (epdFree false).port.held, p.2 ≠ Holder.window 0) ∧ checkEpdUpdate 0 0 ⟨1, 0, 0, 0, 0⟩ (takenWith (epdFree false) 0 0x28 ⟨1, 0, 0, 0, 0⟩ 0 [.power, .syn 2]) = none ∧
    checkEpdClear 0 0 ⟨1, 0, 0, 0, 0⟩ (takenWith (epdFree false) 0 0x29 ⟨1, 0, 0, 0, 0⟩ 0 [.power, .syn 2]) = none := by decide +kernel

theorem witness_canvas : (epdFree true).epd.cfg = some panel64 ∧ memAvail (epdFree true) = true ∧ (epdFree true).epd.composing = true ∧ (epdFree true).epd.run = none := by decide +kernel

/-- An update that waits for the composition. -/
def epdRun (st : EpdStep) : EpdRun := { newRun 0 false 0 (0, 0, 0, 0) (some 1) with step := st, b := 1, p := 2 }

/-- A panel of one row, with an empty ledger and its check value. -/
def row32 : EpdCfg := { panel64 with width := 32, height := 1 }

def sound : State := let s := epdFree false; { s with epd := { s.epd with cfg := some row32 }, mem := (List.range 4).map fun i => (crcAddr withPart 0 + i, (toLe 4 (crc32c (List.replicate 32 0))).getD i 0) }

theorem witness_ledger : memAvail sound = true ∧ sound.epd.run = none ∧ sound.power.mode = .run ∧ ∀ k, k < row32.blocks → blockFails sound row32 k = false := by decide +kernel

/-! ### BistableDriveRunsItsSteps -/

theorem witness_sample : (epdState (some (epdRun .sample)) .down).epd.run = some (epdRun .sample) ∧ (epdState (some (epdRun .sample)) .down).adc.hold = none ∧
    (epdState (some (epdRun .sample)) .down).memc.badWords = [] ∧ (epdState (some (epdRun .railsUp)) (.rising 4)).epd.rails = .rising 4 := by decide +kernel

/-- The drive at a phase and a row. -/
def driving (phase row : Nat) : EpdRun := { epdRun .drive with phase := phase, row := row }

theorem witness_drive : pclkE (epdState (some (driving 0 0)) .up) = true ∧ (driving 0 0).phase < (driving 0 0).b + (driving 0 0).p ∧ (driving 1 0).row < panel64.height ∧
    panel64.height ≤ (driving 3 63).row + 1 ∧ (driving 3 63).b + (driving 3 63).p ≤ (driving 3 63).phase ∧ (driving 3 63).stuck = [] := by decide +kernel

theorem witness_rails_down : ((epdState (some (epdRun .railsDown)) .falling).win[(0 : WinId)].exec.any fun e => !e.discard) = true ∧ (epdRun .railsDown).outcome ≠ .rejected ∧
    (epdState (some (epdRun .railsDown)) .falling).epd.rails = .falling := by decide +kernel

/-! ### SegmentDriverAndAdc -/

theorem witness_seg_write : ready up 0 0 = true ∧ checkSegWrite 0 0 ⟨1, 0x10054, 1, 2, 3⟩ (taken up 0 0x2C ⟨1, 0x10054, 1, 2, 3⟩ 0) = none := by decide +kernel

/-- A segment driver in a run state. -/
def segIn (r : SegRun) (com : Nat) (neg : Bool) : State :=
  { epdState (some (epdRun .sample)) .down with seg := { Seg.reset with run := r, com := com, negative := neg, counted := true, outCount := 1, cfg := { SegCfg.reset with en := true } } }

theorem witness_seg : (segIn .running 4 false).seg.cfg.mux ≤ (segIn .running 4 false).seg.com ∧ segRuns (segIn .running 0 false) = true ∧
    (segIn .running 0 false).seg.com < (segIn .running 0 false).seg.cfg.mux ∧ (segIn (.stopping false) 0 true).seg.negative = true ∧
    (segIn .starting 0 false).seg.next = none ∧ (segIn .starting 0 false).seg.cfg.en = true := by decide +kernel

theorem witness_adc : bistableAsks (segIn .running 0 false) = true ∧ (segIn .running 0 false).adc.contrastLate = false ∧
    bistableAsks { segIn .running 0 false with epd := Epd.reset } = false ∧ (segIn .running 0 false).adc.hold = none ∧
    vlcdOk (segIn .running 0 false).seg.target 3000 = false ∧ vlcdOk 300 3000 = true := by decide +kernel

theorem witness_therm : 115 * 16 < (0x0740 : HalfWord).toInt ∧ up.faults.thermArmed = true ∧ fabricOn up = true := by decide +kernel

/-! ### RelayPortIsConfigured -/

/-- The port block. -/
def portCfg : RelayCfg := { en := true, tag := false, autoneg := false, txDelay := false, rxDelay := false, speed := 0, phyAddr := 0, mac := [2, 0, 0, 0, 0, 0], ethertype := 0x88B5, tci := 0, group := List.replicate 6 0, linkDelay := 0 }

/-- A port block, a stream block and an ingest block in CTX_0's partition. -/
def blocks : State := { withPart with mem := [(131072, 1), (131076, 2), (131082, 0xB5), (131083, 0x88), (131138, 1), (131144, 64), (131146, 64), (131154, 100), (131210, 16), (131212, 16), (131216, 1)] }

/-- The port is enabled, its link is up, and head A is configured. -/
def portUp : State := let s := setPd .link true (blocks.modHead 0 fun x => { x with cfg := some small }); { s with relay := { s.relay with cfg := some portCfg, up := true } }

theorem witness_port : ready blocks 0 0 = true ∧ unclaimed blocks [.power] = true ∧ blocks.relay.cfg = none ∧ parsePort (readPart blocks 0 0 32) = some portCfg ∧
    checkRelayConfig 0 0 ⟨1, 0, 0, 0, 0⟩ (takenWith blocks 0 0x40 ⟨1, 0, 0, 0, 0⟩ 0 [.power]) = none := by decide +kernel

theorem witness_streams : ready portUp 0 0 = true ∧ checkRelayStream 0 0 ⟨1, 0x10003, 16, 0, 0⟩ (taken portUp 0 0x41 ⟨1, 0x10003, 16, 0, 0⟩ 0) = none ∧
    checkRelayStream 0 0 ⟨1, 3, 0, 0, 0⟩ (taken portUp 0 0x41 ⟨1, 3, 0, 0, 0⟩ 0) = none ∧
    checkRelayIngest 0 0 ⟨1, 0x10002, 32, 0, 0⟩ (taken portUp 0 0x42 ⟨1, 0x10002, 32, 0, 0⟩ 0) = none ∧
    checkRelayIngest 0 0 ⟨1, 2, 0, 0, 0⟩ (taken portUp 0 0x42 ⟨1, 2, 0, 0, 0⟩ 0) = none ∧ ∀ u : CalId, portUp.cal[u].op = none := by decide +kernel

theorem witness_poll : portEnabled portUp = true ∧ pdOn .link portUp = true ∧ portUp.relay.duplexFault = false ∧ fabricOn portUp = true ∧ portEnabled up = false := by decide +kernel

/-! ### RelayCarriesFrames -/

/-- The last slice of a frame. -/
def slice1 : Slice := { entered := 0, dst := [2, 0, 0, 0, 0, 9], first := false, last := true, header := List.replicate 32 0, payload := [1, 2, 3] }

/-- Stream 3 has a slice that may go. -/
def sliceWaits (tc : Nat) : State := portUp.modEgress 3 fun q => { q with frames := [slice1], tc := tc, tp := 100000, headFc := some 5, headFe := some 6 }

theorem witness_egress : bestEgress (sliceWaits 100000) .committed = some (3, 5) ∧ bestEgress (sliceWaits 0) .committed = none ∧ bestEgress (sliceWaits 0) .excess = some (3, 6) ∧
    portUp.relay.up = true ∧ pdOn .link portUp = true ∧ portUp.relay.cfg = some portCfg ∧ bestEgress portUp .committed = none ∧ bestEgress portUp .excess = none := by decide +kernel

/-- An ingest stream of 16 × 16 pixels in hand of frame 7. -/
def ingest16 : IngestCfg := { headB := false, src := 0, srcMac := [2, 0, 0, 0, 0, 1], w := 16, h := 16, unit_ := 0, staleMs := 1 }

def receiving : State := portUp.modIngest 2 fun x => { x with cfg := some ingest16, enabled := true, session := some 1, expect := 5, curFrame := 7, filling := true, buf := some 0 }

/-- A frame with one pixel of that stream, of a sequence number. -/
def sliceBytes : List Byte :=
  [1, 0, 0, 24] ++ toLe 4 0 ++ toLe 4 7 ++ toLe 4 0 ++ toLe 2 1 ++ toLe 2 3 ++ toLe 2 16 ++ toLe 2 16 ++ toLe 4 0 ++ toLe 2 1 ++ toLe 2 1 ++ [9, 8, 7]

def rxBytes (seq : Nat) : List Byte :=
  let b := sliceBytes.take 4 ++ toLe 4 seq ++ sliceBytes.drop 8
  [2, 0, 0, 0, 0, 0, 2, 0, 0, 0, 0, 1, 0x88, 0xB5] ++ b ++ toLe 4 (crc32c (toLe 4 seq ++ b))

def rxFrame (seq : Nat) : RxFrame := { bytes := rxBytes seq, fcsOk := true, queueFull := false, time := 0 }

def rxSlice (seq : Nat) : RxSlice := readSlice (rxBytes seq) ((rxBytes seq).drop 14)

theorem witness_slice : frameBody portCfg (rxBytes 5) = some ((rxBytes 5).drop 14) ∧ ingestOf receiving (rxSlice 5) = some (2, ingest16) ∧ (rxSlice 5).valid ingest16 = true ∧
    memAvail receiving = true ∧ receiving.relay.ingest[(2 : IngestId)].session = some (rxSlice 5).session ∧ (rxSlice 5).seq = receiving.relay.ingest[(2 : IngestId)].expect ∧
    (rxSlice 5).first = false ∧ (rxSlice 5).last = false ∧ receiving.relay.ingest[(2 : IngestId)].curFrame = (rxSlice 5).frame ∧ (rxSlice 5).pixels = some [[9, 8, 7]] ∧ Memory.wf receiving.mem = true := by decide +kernel

theorem witness_slice_gap : (rxSlice 9).valid ingest16 = true ∧ (rxSlice 9).seq ≠ 5 ∧ ((rxSlice 9).seq - 5).toNat < 0x80000000 ∧ (rxSlice 4).valid ingest16 = true ∧
    0x80000000 ≤ ((rxSlice 4).seq - 5).toNat ∧ (rxSlice 5).valid { ingest16 with w := 8 } = false ∧ receiving.relay.ingest[(2 : IngestId)].stale = false := by decide +kernel

/-! ### QueuesAreConfiguredAndServed -/

theorem witness_queue_config : ready up 0 0 = true ∧ queueBad ⟨1, 5, 3, 0, 0⟩ = false ∧ argQueue ⟨1, 5, 3, 0, 0⟩ = some (.fetch 5) ∧ queueBad ⟨1, 0x10002, 3, 0, 0⟩ = false ∧
    argQueue ⟨1, 0x10002, 3, 0, 0⟩ = some (.egress 2) := by decide +kernel

/-- CTX_1 is sealed and head A runs. -/
def sealedRuns : State := (withPart.modCtx 1 fun c => { c with st := .sealed }).modHead 0 fun x => { x with run := .running }

theorem witness_policer : ready withPart 0 0 = true ∧ policerBad ⟨1, 5, 1, 1, 0x40004⟩ = false ∧ policerReject (taken withPart 0 0x39 ⟨1, 5, 1, 1, 0x40004⟩ 0) ⟨1, 5, 1, 1, 0x40004⟩ = none ∧
    policerReject (taken withPart 0 0x39 ⟨1, 5, 0xFFFFFF, 0xFFFFFF, 0x40004⟩ 0) ⟨1, 5, 0xFFFFFF, 0xFFFFFF, 0x40004⟩ = some (0x44, 0, 0) ∧ policerBad ⟨1, 5, 0xFFFFFF, 0xFFFFFF, 0x40004⟩ = false := by decide +kernel

theorem witness_policer_sealed : ready sealedRuns 0 0 = true ∧ sealedQueue sealedRuns 2 = true ∧ started sealedRuns (queueHead 2) = true ∧ policerBad ⟨1, 2, 1, 1, 0x40004⟩ = false ∧
    policerReject (taken sealedRuns 0 0x39 ⟨1, 2, 1, 1, 0x40004⟩ 0) ⟨1, 2, 1, 1, 0x40004⟩ = none ∧ policerBad ⟨1, 0x10002, 1, 1, 0x180018⟩ = false ∧
    policerReject (taken withPart 0 0x39 ⟨1, 0x10002, 1, 1, 0x180018⟩ 0) ⟨1, 0x10002, 1, 1, 0x180018⟩ = none := by decide +kernel

/-- A request of CTX_0 at the head of queue_132, of a class. -/
def granting (k : ReqKind) (tc : Nat) : State := withPart.modQueue 132 fun q => { q with
  reqs := [{ kind := k, ctx := 0, epoch := withPart.ctx[(0 : CtxId)].epoch, addr := 131072, len := 32, entered := 0, release := none }], tc := tc, tp := 100000, headFc := some 5, headFe := some 6 }

theorem witness_grant : mayGrant (granting .scrub 100000) = true ∧ fabricOn (granting .scrub 0) = true ∧ bestQueue (granting .scrub 100000) .committed = some (132, 5) ∧
    bestQueue (granting .zero 0) .committed = none ∧ bestQueue (granting .zero 0) .excess = some (132, 6) ∧ Memory.wf (granting .zero 0).mem = true ∧ mayGrant up = false ∧ bestQueue withPart .committed = none ∧ bestQueue withPart .excess = none := by decide +kernel

theorem witness_grant_write : ((granting (.copyWrite 4 [1, 2]) 0).fetch.queue[(132 : QueueId)].reqs.all fun r => r.current (granting (.copyWrite 4 [1, 2]) 0)) = true ∧
    bestQueue (granting (.copyWrite 4 [1, 2]) 0) .excess = some (132, 6) := by decide +kernel

/-! ### MemoryIsRefreshedAndScrubbed -/

/-- A read of CTX_0 in flight on channel 0. -/
def scrubRead : Request := { kind := .scrub, ctx := 0, epoch := 1, addr := 0, len := 256, entered := 0, release := none }

def flying (ecc : Bool) : State := { withPart with
  memc := { withPart.memc with ecc := ecc }
  fetch := { withPart.fetch with inflight := withPart.fetch.inflight.set 0 [(132, scrubRead)], queue := withPart.fetch.queue.set 132 { withPart.fetch.queue[132] with held := [{ req := scrubRead, data := none, due := false }] } } }

theorem witness_return : (flying true).fetch.queue[(132 : QueueId)].held = [{ req := scrubRead, data := none, due := false }] ∧ firstBad (flying true) 0 256 = none ∧ fabricOn (flying true) = true ∧ (flying true).memc.ecc = true ∧
    (flying true).fetch.inflight[(0 : Channel)].length = 1 := by decide +kernel

/-- A read of head A's slot 2, held on queue_2 until its release. -/
def heldRead (d : Option (List Byte × ReadOutcome)) : State := (withPart.modQueue 2 fun q => { q with
    held := [{ req := { kind := .pixel 0 2 0 4 4, ctx := 1, epoch := 1, addr := 0, len := 32, entered := 0, release := some 0 }, data := d, due := false }] }).modComp 0 fun c => { c with missing := [(2, 4, 4)] }

theorem witness_sealed_release : fabricOn (heldRead (some ([1], .good))) = true ∧ (heldRead (some ([1], .good))).head[(0 : ContHead)].frame.toNat = 0 ∧ (heldRead none).fetch.fclk = 0 ∧
    ((heldRead (some ([1], .good))).fetch.queue[(2 : QueueId)].held.all fun x => x.req.current (heldRead (some ([1], .good)))) = true := by decide +kernel

theorem witness_scrub : memAvail (flying true) = true ∧ inQueue132 (flying true) .scrub = false ∧ (flying false).memc.ecc = false ∧ pdOn .sram up = true ∧ fabricOn up = true ∧
    memAvail { withPart with memc := { withPart.memc with calDue := true } } = true ∧ withPart.memc.calDue = false := by decide +kernel

/-! ### EventsReachTheVectorPorts -/

theorem witness_route : ready tenant1 0 0 = true ∧ checkEvtRoute 0 0 ⟨1, 250, 0x50001, 0, 0⟩ (taken tenant1 0 0x70 ⟨1, 250, 0x50001, 0, 0⟩ 0) = none ∧
    tenant1.evu.src[(250 : SourceId)].owner = 0 ∧ checkEvtRoute 0 0 ⟨1, 250, 0x50300, 0, 0⟩ (taken tenant1 0 0x70 ⟨1, 250, 0x50300, 0, 0⟩ 0) = none := by decide +kernel

/-- Source 250 is deliverable at VP_1, VEC is held or free, and a port waits. -/
def offering (vec : Option (PortId × HalfWord)) (w : Bool) : State :=
  let s := (pendingSrc 250).modSrc 250 fun x => { x with owner := 0, mask := 2, prio := 5 }
  { s with evu := { s.evu with vec := vec, port := (s.evu.port.set 1 { s.evu.port[1] with en := true, thresh := 0 }).set 2 { s.evu.port[2] with waiting := w } } }

theorem witness_ports : offer (offering none false) 1 = some 250 ∧ offer (offering none false) 0 = none ∧ fabricOn (offering none false) = true ∧ (offering (some (1, 0)) true).evu.port[(2 : PortId)].waiting = true ∧
    (offering (some (1, 0)) true).evu.port[(0 : PortId)].waiting = false ∧ (offering (some (1, 0)) true).evu.port[(1 : PortId)].waiting = false ∧
    (∀ q : PortId, (offering (some (1, 0)) false).evu.port[q].waiting = false) ∧ (∀ m : MonId, (offering none false).mon[m].bound = none) := by decide +kernel

theorem witness_edge : pinDriven up 3 = false ∧ pinDriven { up with pins := { up.pins with gpio := up.pins.gpio.set 3 .high } } 3 = true := by decide +kernel

/-! ### TimersCountAndMonitorsAreBound -/

/-- TIM_3 counts in a mode. -/
def counting (m : BitVec 3) : State := up.modTimer 3 fun x => { x with en := true, mode := m, count := 5, period := 9 }

theorem witness_tick : ((counting 0).timer[(3 : TimerId)].en && clkRuns (counting 0) 3) = true ∧ ((counting 1).timer[(3 : TimerId)].en && clkRuns (counting 1) 3) = true ∧
    (up.timer[(3 : TimerId)].en && clkRuns up 3) = false := by decide +kernel

/-- Channel 2 is bound to a context. -/
def boundTo (c : CtxId) : State := tenant1.modMon 2 fun x => { x with bound := some c }

theorem witness_monitor_bind : ready tenant1 5 1 = true ∧ argBits ⟨1, 2, 0x0201, 0, 0⟩ 0x1001F 0xFFFF 0 0 = true ∧ probeRange 1 = some 136 ∧ probeAllowed tenant1 1 1 2 = true ∧ probeAllowed tenant1 1 1 9 = false ∧
    tenant1.mon[(2 : MonId)].bound = none ∧ ready (boundTo 0) 5 1 = true ∧ (boundTo 0).mon[(2 : MonId)].bound = some 0 ∧ probeAllowed (boundTo 0) 1 1 2 = true := by decide +kernel

theorem witness_unbind : ready (boundTo 1) 0 0 = true ∧ argBits ⟨1, 0x10002, 0, 0, 0⟩ 0x1001F 0xFFFF 0 0 = true ∧ (boundTo 1).mon[(2 : MonId)].bound = some 1 := by decide +kernel

/-! ### MaquettesCaptureTheState -/

theorem witness_maquette : ready withPart 0 0 = true ∧ checkMaquette 0 0 ⟨1, 0, 0x8000, 0, 0⟩ (taken withPart 0 0x50 ⟨1, 0, 0x8000, 0, 0⟩ 0) = none ∧ withPart.port.staging.length < 2 ∧
    argBits ⟨1, 0, 0, 0, 0⟩ 0 0 0 0 = true := by decide +kernel

theorem witness_staging_full : ready { withPart with port := { withPart.port with staging := [(1, none), (2, none)] } } 0 0 = true ∧
    checkMaquette 0 0 ⟨1, 0, 64, 0, 0⟩ (taken { withPart with port := { withPart.port with staging := [(1, none), (2, none)] } } 0 0x50 ⟨1, 0, 64, 0, 0⟩ 0) = none := by decide +kernel

/-- A MAQUETTE of CTX_0 at a phase, with its buffer. -/
def maqAt (p : Phase) (b : Option (List Byte)) : State :=
  let s := waiting p 0
  { s with memc := withPart.memc, ctx := withPart.ctx, port := { s.port with staging := [(0, b)] } }

theorem witness_quiet : ((maqAt .maqQuiet none).win[(0 : WinId)].exec.any fun e => e.phase = .maqQuiet && !e.discard) = true ∧ fabricOn (maqAt .maqQuiet none) = true ∧
    ((maqAt .maqWrite (some [1])).win[(0 : WinId)].exec.any fun e => e.phase = .maqWrite && !e.discard) = true ∧ memAvail (maqAt .maqWrite (some [1])) = true ∧ Memory.wf (maqAt .maqWrite (some [1])).mem = true := by decide +kernel

/-! ### PowerModesChangeAndWake -/

theorem witness_mode : ready up 0 0 = true ∧ unclaimed up [.power] = true ∧ useBlock ⟨1, 1, 0, 0, 0⟩ = false ∧ argBits ⟨1, 1, 0, 0, 0⟩ 0x10007 wholeWord 0 0 = true ∧ Mode.ofCode (fld (1 : Word) 0 3) = some .dim ∧
    Mode.ofCode (fld (2 : Word) 0 3) = some .hold ∧ lockForbids (taken up 0 0x60 ⟨1, 2, 0, 0, 0⟩ 0) = false ∧ up.power.mode = .run ∧ Mode.hold.sleeps = true := by decide +kernel

theorem witness_mode_locked : ready (lockedDot false) 0 0 = true ∧ unclaimed (lockedDot false) [.power] = true ∧ lockForbids (taken (lockedDot false) 0 0x60 ⟨1, 2, 0, 0, 0⟩ 0) = true := by decide +kernel

/-- In HOLD, with wake by the host bus. -/
def held (t : Option Transition) : State := { up with power := { up.power with mode := .hold, req := 0x20, domains := 1, trans := t } }

theorem witness_wake : asleep (held none) = true ∧ (held none).power.wakeKept = none ∧ wakeEnabled (held none) .hostBus = true ∧ wakeEnabled (held none) (.extint 0) = false ∧ pdOn .host (held none) = false ∧
    pdOn .host up = true := by decide +kernel

/-- A transition that waits for a pin. -/
def pinWait (exiting : Bool) : Transition := { target := .hold, exiting := exiting, step := 9, byWindow := none, order := 0, list := [{ op := .waitPin, target := 16, level := true, delay := 0, timeout := 1 }], at_ := 2, since := 0 }

theorem witness_pin : (held (some (pinWait true))).power.trans = some (pinWait true) ∧ fabricOn (held (some (pinWait true))) = false ∧ (held (some (pinWait true))).faults.held.length < 4 := by decide +kernel

/-- The heartbeat is monitored. -/
def beating (second lapsed : Bool) : State := { up with drone := { up.drone with armed := true, second := second, lapsed := lapsed, fallback := 5 }, boot := { up.boot with fallback := [emptyReq false] } }

theorem witness_beat_waits : ({ beating true true with drone := { (beating true true).drone with hbDirty := true } } : State).drone.hbDirty = true ∧
    (beating true true).drone.hbDirty = false := by decide +kernel

theorem witness_beat : beatRuns (beating false false) = true ∧ (beating false false).drone.second = false ∧ (beating true true).drone.second = true ∧ (beating true true).drone.fallback ≠ 0 ∧
    (beating true true).boot.fallback ≠ [] ∧ beatRuns (beating true true) = true := by decide +kernel

/-! ### ResetAndStartUpRunInOrder -/

/-- A boot that has reached a phase. -/
def booting (p : BootPhase) (valid : Bool) : State := { State.reset with boot := { State.reset.boot with straps := { Straps.none_ with flashBoot := true }, phase := p, valid := valid } }

/-- An image with one section: MEMORY with the lowest rate. -/
def oneSection : List Byte :=
  let dir := toLe 2 1 ++ [0, 0] ++ toLe 4 80 ++ toLe 4 16 ++ toLe 4 (crc32c (List.replicate 16 0))
  let hd := toLe 4 0x4B524C4F ++ toLe 2 1 ++ toLe 2 64 ++ toLe 2 1 ++ [0, 0] ++ toLe 4 96 ++ List.replicate 44 0
  hd ++ toLe 4 (crc32c (hd ++ dir)) ++ dir ++ List.replicate 16 0

theorem witness_image : usedImage (booting .registers false) { sfdp := [], primary := oneSection, alternate := [] } = some oneSection ∧
    usedImage (booting .registers false) { sfdp := [], primary := [], alternate := [] } = none := by decide +kernel

theorem witness_boot : mayTrain (booting .validated true) = true ∧ mayTrain (booting .validated false) = true ∧ (booting .trained true).boot.doneFlag = false ∧ fabricOn (booting .validated true) = true ∧
    (booting .reset false).drone.pllLock = true ∧ monitored up .vddDrone = true ∧ monitored (held none) .vddCore = false ∧ up.drone.xtalOk = true ∧
    ({ up with drone := { up.drone with pllLock := false } } : State).drone.pllLock = false := by decide +kernel

/-! ### ResetControlResetsBlocks -/

theorem witness_reset_ctl : committed (latched 0 resetReg 0) resetReg (.half 0 0) = some (0, 0) ∧ winCtx (latched 0 resetReg 0) 0 = some 0 ∧ protLocked (latched 0 resetReg 0) 0 = false ∧
    (∀ k : ContHead, (latched 0 resetReg 0).panel[k].run = none) ∧ (∀ x : WinId, (latched 0 resetReg 0).win[x].exec.isNone = true) ∧ (latched 0 resetReg 0).port.auto = [] ∧
    (latched 0 resetReg 0).epd.run = none ∧ segRuns (latched 0 resetReg 0) = false ∧ (0 : Word) ||| reqBit 9 = reqBit 9 := by decide +kernel

/-- The lower half of a RESET_CTL write is held, in a state. -/
def resetting (s : State) : State := s.modWin 0 fun x => { x with writeLatch := some (resetReg, 0) }

theorem witness_reset_busy : committed (resetting (lockedDot false)) resetReg (.half 0 0) = some (0, 0) ∧ protLocked (resetting (lockedDot false)) 0 = true ∧ cal3Reserved (resetting (lockedDot false)) = true ∧
    committed (resetting (epdState (some (driving 1 0)) .up)) resetReg (.half 0 0) = some (0, 0) ∧ (resetting (epdState (some (driving 1 0)) .up)).epd.cfg = some panel64 ∧
    committed (resetting (segIn .running 0 false)) resetReg (.half 0 0) = some (0, 0) ∧ segRuns (resetting (segIn .running 0 false)) = true ∧
    committed tenant1 resetReg (.dword 1 0) = some (5, 0) ∧ winCtx tenant1 5 = some 1 := by decide +kernel

/-! ### WaitsAreGrantedOrReleased -/

/-- A HEAD_STOP of head A waits for its gate, which window 1 holds or nobody does. -/
def gateWaits (h : Bool) : State :=
  let s := up.modWin 0 fun x => { x with exec := some { entry := { op := 0x22, cmd := ⟨5, 0, 0, 0, 0⟩, order := 0 }, ctx := 0, epoch := 1, phase := .acquire [.gate 0], discard := false, since := 0 } }
  { s with port := { s.port with held := if h then [(.gate 0, .window 1)] else [] } }

theorem witness_grant_resource : oldestWaiter (gateWaits false) (.gate 0) = some 0 ∧ resBlocked (gateWaits false) (.window 0) (.gate 0) = false ∧ resBlocked (gateWaits true) (.window 0) (.gate 0) = true ∧
    (gateWaits false).port.auto = [] ∧ (gateWaits false).power.queued = none ∧ oldestWaiter up (.gate 0) = none ∧ (opcodeOf 0x22).isSome = true := by decide +kernel

theorem witness_expires : resHeld (gateWaits true) (.gate 0) = true ∧ resHeld (gateWaits false) (.gate 0) = false ∧ fabricOn (gateWaits true) = true ∧
    earliestWait (gateWaits true) = some (.window 0, 0, 0xFFFFFFFF) ∧ earliestWait up = none := by decide +kernel

theorem witness_entry_expires : ({ up with power := { up.power with trans := some { pinWait false with step := 1, list := [] } } } : State).power.trans.isSome = true := by decide +kernel

theorem witness_fault_clear : ready oneFault 0 0 = true ∧ argBits ⟨1, 0, 0, 0, 0⟩ 0 0 0 0 = true := by decide +kernel

/-! ### ReadsChangeTheirWindowOnly -/

theorem witness_reads : busOpen up = true ∧ readWindow up (.half 0) = some 0 ∧ readWindow tenant1 (.dword 1) = some 5 := by decide +kernel

/-! ### MemoryKeepsItsCanonicalForm -/

theorem witness_wf_step : Memory.wf State.reset.mem = true ∧ step State.reset = .next (idle State.reset) := by
  constructor
  · decide
  · rfl

end Sys2Proof.Tests
end

section
/-! SUPPORT. The register file as the host bus reaches it: what each half access does while the file answers, and the
registers that no read or write moves. -/
namespace Sys2Proof.Machine

/-! ## Half accesses while the register file answers (04.3) -/

theorem busOpen_iff (s : State) : busOpen s = true ↔ hostAnswers s = true ∧ fabricOn s = true := by
  simp [busOpen]

/-- Whether the file answers depends on the power domains and the boot phase only. -/
theorem busOpen_congr (s t : State) (hp : t.power = s.power) (hb : t.boot = s.boot) : busOpen t = busOpen s := by
  simp only [busOpen, hostAnswers, fabricOn, pdOn, hp, hb]

/-- A low-half read shows the low half and latches the high half of one whole read (R85). -/
theorem lowRead_open {s u : State} {cs : ChipSelect} {o : RegOffset} {v : Word} (hs : busOpen s = true)
    (hr : readReg (csWin cs) (RegOffset.byte o) s = (v, u)) :
    lowRead cs o s = endAccess (driveBus (v.extractLsb' 0 16)
      (u.modWin (csWin cs) fun x => { x with readLatch := some (o, v.extractLsb' 16 16) })) := by
  obtain ⟨hh, hf⟩ := (busOpen_iff s).mp hs
  simp [lowRead, hh, hf, hr]

/-- A high-half read shows the half latched for its register, and empties the latch (R86). -/
theorem highRead_latched {s : State} {cs : ChipSelect} {o : RegOffset} {h : HalfWord} (hs : busOpen s = true)
    (hl : s.win[csWin cs].readLatch = some (o, h)) :
    highRead cs o s = endAccess (driveBus h (s.modWin (csWin cs) fun x => { x with readLatch := none })) := by
  obtain ⟨hh, hf⟩ := (busOpen_iff s).mp hs
  simp only [Fin.getElem_fin] at hl
  simp [highRead, hh, hf, hl]

/-- A high-half write with the low half held for its register empties the latch and writes the whole register (R87). -/
theorem highWrite_held {s : State} {cs : ChipSelect} {o : RegOffset} {hi lo : HalfWord} (set : Word)
    (hs : busOpen s = true) (hl : s.win[csWin cs].writeLatch = some (o, lo)) :
    highWrite cs o hi set s = endAccess (writeReg (csWin cs) (RegOffset.byte o) ((hi ++ lo) ||| set)
      (s.modWin (csWin cs) fun x => { x with writeLatch := none })) := by
  obtain ⟨hh, hf⟩ := (busOpen_iff s).mp hs
  simp only [Fin.getElem_fin] at hl
  simp [highWrite, hh, hf, hl]

/-- A write on the host bus commits exactly where the file answers and the low half is held for its register. -/
theorem committed_half_iff (s : State) (o : RegOffset) (cs : ChipSelect) (hi : HalfWord) (w : WinId) (v : Word) :
    committed s o (.half cs hi) = some (w, v) ↔
      ∃ lo, s.win[csWin cs].writeLatch = some (o, lo) ∧ busOpen s = true ∧ w = csWin cs ∧ v = hi ++ lo := by
  cases hl : s.win[csWin cs].writeLatch with
  | none => simp only [committed, hl, reduceCtorEq, false_and, exists_false]
  | some l =>
    obtain ⟨t, lo⟩ := l
    simp only [committed, hl, guardSome, Option.ite_none_right_eq_some, Bool.and_eq_true, decide_eq_true_eq,
      Option.some.injEq, Prod.mk.injEq]
    constructor
    · rintro ⟨⟨hs, rfl⟩, rfl, rfl⟩
      exact ⟨lo, ⟨rfl, rfl⟩, hs, rfl, rfl⟩
    · rintro ⟨_, ⟨rfl, rfl⟩, hs, rfl, rfl⟩
      exact ⟨⟨hs, rfl⟩, rfl, rfl⟩

/-- A committed write on the host bus is a whole write through its window, with the latch emptied. -/
theorem exec_registerWrite_half {s : State} {o : RegOffset} {cs : ChipSelect} {hi : HalfWord} {w : WinId} {v : Word}
    (h : committed s o (.half cs hi) = some (w, v)) :
    exec (.registerWrite o (.half cs hi)) s =
      .next (endAccess (writeReg w (RegOffset.byte o) v (s.modWin w fun x => { x with writeLatch := none }))) := by
  obtain ⟨lo, hl, hs, rfl, rfl⟩ := (committed_half_iff s o cs hi w v).mp h
  have hw := highWrite_held (hi := hi) 0 hs hl
  have hz : (hi ++ lo) ||| (0 : Word) = hi ++ lo := BitVec.or_zero
  rw [hz] at hw
  exact congrArg Host.Outcome.next hw

/-- The two half reads of a register whose read has no side effect show the two halves of its value. -/
theorem halfReads_of_readReg_pure {s : State} {cs : ChipSelect} {o : RegOffset} {v : Word} (hs : busOpen s = true)
    (hr : readReg (csWin cs) (RegOffset.byte o) s = (v, s)) :
    ∃ t u, exec (.hostLowHalfRead cs o) s = .next t ∧ t.pins.hbD = v.extractLsb' 0 16 ∧
      exec (.hostHighHalfRead cs o) t = .next u ∧ u.pins.hbD = v.extractLsb' 16 16 := by
  have ht : busOpen (lowRead cs o s) = true := by
    rw [lowRead_open hs hr, ← hs]
    exact busOpen_congr _ _ rfl rfl
  have hl : (lowRead cs o s).win[csWin cs].readLatch = some (o, v.extractLsb' 16 16) := by
    rw [lowRead_open hs hr]
    simp [endAccess, driveBus]
  refine ⟨lowRead cs o s, highRead cs o (lowRead cs o s), rfl, ?_, rfl, ?_⟩
  · rw [lowRead_open hs hr]
    rfl
  · rw [highRead_latched ht hl]
    rfl

/-! ## Registers that no access moves (R1, R8) -/

/-- ID is the same in a bound and in an unbound window, and a read of it has no side effect. -/
theorem readReg_id (w : WinId) (s : State) : readReg w 0 s = (0x00A10640, s) := by
  cases h : winCtx s w with
  | none => simp [readReg, regWord, h]
  | some c => simp [readReg, regWord, boundWord, readEffect, h]

/-- The byte offsets that R8 reserves. -/
def reservedByte (off : Nat) : Prop := off = 0xE4 ∨ off = 0xE8 ∨ off = 0xEC

theorem reservedByte_of_index {o : RegOffset} (h : o.1 = 57 ∨ o.1 = 58 ∨ o.1 = 59) : reservedByte (RegOffset.byte o) := by
  unfold reservedByte RegOffset.byte
  omega

/-- A reserved offset reads zero without side effect, in a bound and in an unbound window. -/
theorem readReg_reserved (w : WinId) {off : Nat} (h : reservedByte off) (s : State) : readReg w off s = (0, s) := by
  cases hc : winCtx s w with
  | none => rcases h with rfl | rfl | rfl <;> simp [readReg, regWord, hc]
  | some c => rcases h with rfl | rfl | rfl <;> simp [readReg, regWord, boundWord, readEffect, hc]

/-- A write to a reserved offset is ignored, in a bound and in an unbound window. -/
theorem writeReg_reserved (w : WinId) {off : Nat} (h : reservedByte off) (v : Word) (s : State) : writeReg w off v s = s := by
  cases hc : winCtx s w with
  | none => simp [writeReg, hc]
  | some c => rcases h with rfl | rfl | rfl <;> simp [writeReg, writeBound, hc]

/-! ## The obligations -/

/-- Settles O3: a read of ID has no side effect, so its two half reads show the two halves of its value. -/
theorem idReadsSteppingA1 : Obligations.IdReadsSteppingA1 := by
  refine ⟨fun s cs hs => ?_, fun s w => congrArg Prod.fst (readReg_id w s)⟩
  exact halfReads_of_readReg_pure (o := 0) hs (readReg_id (csWin cs) s)

/-- Settles O4: neither a read nor a write of a reserved offset has an effect in any window, so what is left of a half
access is its holding latch and the bus pins. -/
theorem reservedOffsetsReadZero : Obligations.ReservedOffsetsReadZero := by
  intro s o ho
  have hres : reservedByte (RegOffset.byte o) := reservedByte_of_index ho
  refine ⟨fun cs hs => ?_, fun w => readReg_reserved w hres s, fun w v => writeReg_reserved w hres v s, ?_⟩
  · exact halfReads_of_readReg_pure hs (readReg_reserved (csWin cs) hres s)
  · intro cs hi w v hcommit
    rw [exec_registerWrite_half hcommit, writeReg_reserved w hres]

end Sys2Proof.Machine
end

section
/-! SUPPORT. Accesses on the host bus: the latches at reset, the strobes that make no access, and the low-half read as
one whole read of the register. -/
namespace Sys2Proof.Machine

/-! ## The windows at reset (R100) -/

/-- Every window starts with its reset values, whatever the straps are. -/
theorem State.resetWith_win (straps : Straps) (w : WinId) : (State.resetWith straps).win[w] = Window.reset := by
  simp [State.resetWith]

/-! ## Strobes that conflict (R77, R78) -/

/-- A conflict is several chip selects or both strobes. -/
theorem hostStrobes_conflict_iff (x : HostStrobes) : x.conflict = true ↔
    1 < ([0, 1, 2, 3].filter fun i => x.cs.getLsbD i).length ∨ x.oe = true ∧ x.we = true := by
  simp only [HostStrobes.conflict, Bool.or_eq_true, Bool.and_eq_true, decide_eq_true_eq]

/-- Without one chip select alone, HB_WAIT_N is high-impedance. -/
theorem waitPin_of_not_one_select (s : State) (x : HostStrobes)
    (h : ([0, 1, 2, 3].filter fun i => x.cs.getLsbD i).length ≠ 1) : waitPin s x = .highZ := by
  simp only [waitPin, h, decide_false, Bool.and_false, Bool.false_and, Bool.false_eq_true, if_false]

/-- With both strobes or neither, HB_WAIT_N is high-impedance. -/
theorem waitPin_of_equal_strobes (s : State) (x : HostStrobes) (h : x.oe = x.we) : waitPin s x = .highZ := by
  simp only [waitPin, h, bne_self_eq_false, Bool.and_false, Bool.false_eq_true, if_false]

theorem waitPin_conflict (s : State) {x : HostStrobes} (h : x.conflict = true) : waitPin s x = .highZ := by
  rcases (hostStrobes_conflict_iff x).mp h with hselects | ⟨hoe, hwe⟩
  · exact waitPin_of_not_one_select s x (Nat.ne_of_gt hselects)
  · exact waitPin_of_equal_strobes s x (hoe.trans hwe.symm)

/-! ## The low-half read (R85) -/

@[simp] theorem endAccess_win (s : State) : (endAccess s).win = s.win := rfl

@[simp] theorem driveBus_win (v : HalfWord) (s : State) : (driveBus v s).win = s.win := rfl

/-- After the whole read of the register, a low-half read loads the latch of its window and drives the bus. -/
theorem exec_hostLowHalfRead_open {s u : State} {cs : ChipSelect} {o : RegOffset} {v : Word} (hs : busOpen s = true)
    (hr : readReg (csWin cs) (RegOffset.byte o) s = (v, u)) :
    exec (.hostLowHalfRead cs o) s = .next (endAccess (driveBus (v.extractLsb' 0 16)
      (u.modWin (csWin cs) fun x => { x with readLatch := some (o, v.extractLsb' 16 16) }))) :=
  congrArg Host.Outcome.next (lowRead_open hs hr)

/-! ## The obligations -/

/-- Settles O2: every window has its reset values, in which both latches are empty and HALF_ERR is clear. -/
theorem resetEmptiesHoldingLatches : Obligations.ResetEmptiesHoldingLatches := by
  intro w
  have hw : State.reset.win[w] = Window.reset := State.resetWith_win Straps.none_ w
  rw [hw]
  exact ⟨rfl, rfl, rfl⟩

/-- Settles O5: the command leaves the state alone, and neither kind of conflict has one chip select with one strobe. -/
theorem busConflictPerformsNoAccess : Obligations.BusConflictPerformsNoAccess :=
  fun s _ hx => ⟨rfl, waitPin_conflict s hx⟩

/-- Settles O6: after the whole read of the register, the access changes only the read latch of its own window, HB_D and
HB_WAIT_N. -/
theorem lowHalfReadLoadsReadLatch : Obligations.LowHalfReadLoadsReadLatch := by
  intro s cs o v u hs hr
  refine ⟨_, exec_hostLowHalfRead_open hs hr, rfl, ?latch, rfl, rfl, ?own, ?other⟩
  case latch => simp
  case own => simp
  case other =>
    intro x hx
    simp [State.modWin_other _ _ _ x hx]

end Sys2Proof.Machine
end

section
/-! SUPPORT. Register accesses that are answered, on the host bus and through a function alike: an access comes down to
one whole read or write of the register through its window. -/
namespace Sys2Proof.Machine

/-! ## What answers an access (R99, R101, R180) -/

theorem portOpen_of_busOpen {s : State} (h : busOpen s = true) : portOpen s = true := by
  simp only [busOpen, hostAnswers, fabricOn, Bool.and_eq_true] at h
  obtain ⟨⟨hhost, hphase⟩, hfabric⟩ := h
  simp only [portOpen, hhost, hfabric, hphase, Bool.and_self]

theorem pcieOpen_iff (s : State) (f : FnId) : pcieOpen s f = true ↔ fnAnswers s f = true ∧ fabricOn s = true := by
  simp [pcieOpen]

theorem portOpen_of_pcieOpen {s : State} {f : FnId} (h : pcieOpen s f = true) : portOpen s = true := by
  obtain ⟨hf, hfabric⟩ := (pcieOpen_iff s f).mp h
  simp only [fnAnswers, Bool.and_eq_true] at hf
  obtain ⟨⟨hhost, _⟩, _⟩ := hf
  exact portOpen_of_busOpen ((busOpen_iff s).mpr ⟨hhost, hfabric⟩)

theorem guardSome_eq_some_iff {α : Type} (b : Bool) (a x : α) : guardSome b a = some x ↔ b = true ∧ x = a := by
  simp [guardSome, eq_comm]

/-! ## Reads -/

/-- The state in which a read reaches its register. -/
def readArrives : ReadAccess → State → State
  | .half _, s => s
  | .dword _, s => sawLink s

@[simp] theorem readArrives_win (acc : ReadAccess) (s : State) : (readArrives acc s).win = s.win := by
  cases acc <;> rfl

@[simp] theorem winCtx_readArrives (acc : ReadAccess) (s : State) (w : WinId) :
    winCtx (readArrives acc s) w = winCtx s w := by
  cases acc <;> rfl

theorem dwordRead_open {s u : State} {f : FnId} {o : RegOffset} {v : Word} (hs : pcieOpen s f = true)
    (hr : readReg (fnWin f) (RegOffset.byte o) (sawLink s) = (v, u)) :
    dwordRead f o s = sendTlp (.completion f (wordBytes v) false) u := by
  obtain ⟨hf, hfabric⟩ := (pcieOpen_iff s f).mp hs
  simp [dwordRead, hf, hfabric, hr]

/-- An answered read shows the value of one whole read of the register, and beside that read's own effects it changes no
more of its window than the read latch (R85, R92). -/
theorem readAt_answered {s u : State} {acc : ReadAccess} {w : WinId} {o : RegOffset} {v : Word}
    (h : readWindow s acc = some w) (hr : readReg w (RegOffset.byte o) (readArrives acc s) = (v, u)) :
    shows (readAt o acc s) o acc v ∧ ∃ l, (readAt o acc s).win[w] = { u.win[w] with readLatch := l } := by
  cases acc with
  | half cs =>
    obtain ⟨hs, rfl⟩ := (guardSome_eq_some_iff _ _ _).mp h
    have ht := lowRead_open hs hr
    refine ⟨?_, some (o, v.extractLsb' 16 16), ?_⟩
    · simp only [shows, readAt, ht]
      simp [endAccess, driveBus]
    · simp only [readAt, ht]
      simp
  | dword f =>
    obtain ⟨hs, rfl⟩ := (guardSome_eq_some_iff _ _ _).mp h
    have ht := dwordRead_open hs hr
    refine ⟨?_, u.win[fnWin f].readLatch, ?_⟩
    · simp [shows, readAt, ht, sendTlp]
    · simp only [readAt, ht]
      rfl

/-! ## Writes -/

/-- The state in which a committed write reaches its register: on the host bus with the write latch emptied (R87). -/
def writeArrives : WriteAccess → State → State
  | .half cs _, s => s.modWin (csWin cs) fun x => { x with writeLatch := none }
  | .dword _ _, s => sawLink s

@[simp] theorem writeArrives_port (acc : WriteAccess) (s : State) : (writeArrives acc s).port = s.port := by
  cases acc <;> rfl

@[simp] theorem winCtx_writeArrives (acc : WriteAccess) (s : State) (w : WinId) :
    winCtx (writeArrives acc s) w = winCtx s w := by
  cases acc <;> rfl

@[simp] theorem portOpen_writeArrives (acc : WriteAccess) (s : State) : portOpen (writeArrives acc s) = portOpen s := by
  cases acc <;> rfl

@[simp] theorem genOf_writeArrives (acc : WriteAccess) (s : State) (c : CtxId) :
    genOf (writeArrives acc s) c = genOf s c := by
  cases acc <;> rfl

/-- Of each window the arrival of a write changes the write latch at most. -/
theorem writeArrives_win (acc : WriteAccess) (s : State) (w : WinId) :
    ∃ l, (writeArrives acc s).win[w] = { s.win[w] with writeLatch := l } := by
  cases acc with
  | half cs hi =>
    by_cases hw : w = csWin cs
    · subst hw
      exact ⟨none, by simp [writeArrives]⟩
    · exact ⟨s.win[w].writeLatch, State.modWin_other s _ _ w hw⟩
  | dword f v => exact ⟨s.win[w].writeLatch, rfl⟩

@[simp] theorem ready_writeArrives (acc : WriteAccess) (s : State) (w : WinId) (c : CtxId) :
    ready (writeArrives acc s) w c = ready s w c := by
  obtain ⟨l, hl⟩ := writeArrives_win acc s w
  have hboot : (writeArrives acc s).boot = s.boot := by cases acc <;> rfl
  simp only [ready, portOpen_writeArrives, winCtx_writeArrives, hboot, hl]

theorem committed_dword_iff (s : State) (o : RegOffset) (f : FnId) (x v : Word) (w : WinId) :
    committed s o (.dword f x) = some (w, v) ↔ pcieOpen s f = true ∧ w = fnWin f ∧ v = x := by
  simp [committed, guardSome_eq_some_iff]

theorem dwordWrite_open {s : State} {f : FnId} (o : RegOffset) (v : Word) (hs : pcieOpen s f = true) :
    dwordWrite f o v s = writeReg (fnWin f) (RegOffset.byte o) v (sawLink s) := by
  obtain ⟨hf, hfabric⟩ := (pcieOpen_iff s f).mp hs
  simp [dwordWrite, hf, hfabric]

/-- A write commits only while the command port is open. -/
theorem portOpen_of_committed {s : State} {o : RegOffset} {acc : WriteAccess} {w : WinId} {v : Word}
    (h : committed s o acc = some (w, v)) : portOpen s = true := by
  cases acc with
  | half cs hi =>
    obtain ⟨_, _, hs, _, _⟩ := (committed_half_iff s o cs hi w v).mp h
    exact portOpen_of_busOpen hs
  | dword f x => exact portOpen_of_pcieOpen ((committed_dword_iff s o f x v w).mp h).1

/-- A committed write leaves the windows and the command port as one whole write of the register does (R87, R92). -/
theorem writeAt_committed {s : State} {o : RegOffset} {acc : WriteAccess} {w : WinId} {v : Word}
    (h : committed s o acc = some (w, v)) :
    (writeAt o 0 acc s).win = (writeReg w (RegOffset.byte o) v (writeArrives acc s)).win ∧
      (writeAt o 0 acc s).port = (writeReg w (RegOffset.byte o) v (writeArrives acc s)).port := by
  cases acc with
  | half cs hi =>
    obtain ⟨lo, hl, hs, rfl, rfl⟩ := (committed_half_iff s o cs hi w v).mp h
    have hw := highWrite_held (hi := hi) 0 hs hl
    rw [show (hi ++ lo) ||| (0 : Word) = hi ++ lo from BitVec.or_zero] at hw
    simp only [writeAt, hw]
    exact ⟨rfl, rfl⟩
  | dword f x =>
    obtain ⟨hs, rfl, rfl⟩ := (committed_dword_iff s o f x v w).mp h
    rw [writeAt, show v ||| (0 : Word) = v from BitVec.or_zero, dwordWrite_open o v hs]
    exact ⟨rfl, rfl⟩

end Sys2Proof.Machine
end

section
/-! SUPPORT. The registers CMD_ISSUE, CMD_ARG and CMD_STATUS (05.4): what a write issues, and what a read shows and
pops. -/
namespace Sys2Proof.Machine

/-! ## A command is issued, or refused (R108) -/

theorem issue_room {s : State} {w : WinId} {c : CtxId} (op : Byte) (a : Cmd) (ho : portOpen s = true)
    (hc : winCtx s w = some c) (hroom : s.win[w].occupancy < 16) :
    (issue w op a s).win[w] = { s.win[w] with
      queue := s.win[w].queue ++ [{ op := op, cmd := a, order := s.port.nextOrder }], issued := s.win[w].issued + 1 } := by
  have hroom' : ¬ 16 ≤ s.win[w].occupancy := Nat.not_le.mpr hroom
  simp only [issue, ho, hc, hroom', Option.isNone_some, Bool.not_true, Bool.or_self, Bool.false_eq_true, if_false]
  simp

theorem issue_full {s : State} {w : WinId} {c : CtxId} (op : Byte) (a : Cmd) (ho : portOpen s = true)
    (hc : winCtx s w = some c) (hfull : 16 ≤ s.win[w].occupancy) :
    (issue w op a s).win[w] = { s.win[w] with issueRefused := true } := by
  simp only [issue, ho, hc, hfull, Option.isNone_some, Bool.not_true, Bool.or_self, Bool.false_eq_true, if_false, if_true]
  simp

theorem startNext_empty {s : State} {w : WinId} (run : Byte → WinId → CtxId → Cmd → State → State)
    (hq : s.win[w].queue = []) : startNext w run s = s := by
  simp only [startNext]
  split
  next hqueue _ => exact absurd (hq.symm.trans hqueue) (List.cons_ne_nil _ _).symm
  next => rfl

/-- A window with a command in its executor queues what is issued, whatever its opcode. -/
theorem issueAny_busy {s : State} {w : WinId} (op : Byte) (a : Cmd) (he : s.win[w].exec ≠ none) :
    issueAny w op a s = issue w op a s := by
  obtain ⟨e, he⟩ := Option.ne_none_iff_exists'.mp he
  simp only [issueAny, he, Option.isNone_some, Bool.false_and, Bool.false_eq_true, if_false]

/-- A refused command does not begin to run either: the executor finds the queue as it was. -/
theorem issueAny_full {s : State} {w : WinId} {c : CtxId} (op : Byte) (a : Cmd) (ho : portOpen s = true)
    (hc : winCtx s w = some c) (hfull : 16 ≤ s.win[w].occupancy) : issueAny w op a s = issue w op a s := by
  have hw := issue_full op a ho hc hfull
  by_cases hq : s.win[w].queue = []
  · have hstart := startNext_empty runTaken (s := issue w op a s) (w := w) (by rw [hw]; exact hq)
    simp only [issueAny, hstart, ite_self]
  · simp only [issueAny, List.isEmpty_eq_false_iff.mpr hq, Bool.and_false, Bool.false_eq_true, if_false]

/-- A NOP that an executor has taken completes OK with its argument and the caller's generation. -/
theorem runTaken_nop (w : WinId) (c : CtxId) (a : Cmd) (s : State) :
    runTaken 0 w c a s = finish w .ok a.a0 ((genOf s c).setWidth 32) s := by
  have hearly : earlyOpcode (0 : Byte).toNat = true := rfl
  change bootGate 0 opNop.run w c a s = _
  simp only [bootGate, hearly, Bool.or_true, if_true]
  rfl

theorem issueAny_nop_answered {s : State} {w : WinId} {c : CtxId} (a : Cmd) (h : ready s w c = true) :
    answered s (issueAny w 0 a s) w a.tag .ok a.a0 ((genOf s c).setWidth 32) := by
  rw [issueAny_ready s w c 0 a h, runTaken_nop]
  exact answered_finish s _ w 0 a c .ok _ _ h rfl

/-- Whether a command is answered depends on the completions and the two counters before, and on the windows and the
command port after. -/
theorem answered_congr {s s' t t' : State} {w : WinId} {tag : Byte} {code : Code} {q0 q1 : Word}
    (hdone : s'.win[w].done = s.win[w].done) (hissued : s'.win[w].issued = s.win[w].issued)
    (hcompleted : s'.win[w].completed = s.win[w].completed) (hwin : t'.win = t.win) (hport : t'.port = t.port)
    (h : answered s t w tag code q0 q1) : answered s' t' w tag code q0 q1 := by
  simpa only [answered, hdone, hissued, hcompleted, hwin, hport] using h

/-! ## The registers written -/

/-- The command that a write of CMD_ISSUE issues (R108). -/
def issuedCmd (x : Window) (v : Word) : Cmd :=
  { tag := v.extractLsb' 8 8, a0 := x.args[0], a1 := x.args[1], a2 := x.args[2], a3 := x.args[3] }

theorem writeReg_cmdIssue {s : State} {w : WinId} {c : CtxId} (v : Word) (hc : winCtx s w = some c) :
    writeReg w (RegOffset.byte 8) v s = issueAny w (v.extractLsb' 0 8) (issuedCmd s.win[w] v) s := by
  simp only [writeReg, hc]
  rfl

/-- A write of CMD_ARG_k through a bound window replaces that argument only. -/
theorem writeBound_cmdArg (w : WinId) (c : CtxId) (k : Fin 4) (v : Word) (s : State) :
    writeBound w c (0x10 + 4 * k.1) v s = s.modWin w fun x => { x with args := x.args.set k v } := by
  fin_cases k <;> rfl

theorem writeReg_cmdArg_queue (w : WinId) (k : Fin 4) (v : Word) (s : State) :
    (writeReg w (0x10 + 4 * k.1) v s).win[w].queue = s.win[w].queue := by
  cases hc : winCtx s w with
  | none => simp only [writeReg, hc]
  | some c =>
    simp only [writeReg, hc, writeBound_cmdArg]
    simp

/-! ## Fields of a word that is put together -/

theorem getLsbD_put (x lo n i : Nat) :
    (put x lo n).getLsbD i = (decide (i < 32 ∧ lo ≤ i ∧ i < lo + n) && x.testBit (i - lo)) := by
  simp only [put, BitVec.getLsbD_ofNat, Nat.testBit_mul_two_pow, Nat.testBit_mod_two_pow]
  by_cases hlo : lo ≤ i
  · have hn : i - lo < n ↔ i < lo + n := by omega
    simp [hlo, hn, Bool.and_assoc]
  · simp [hlo]

theorem putB_true (lo : Nat) : putB true lo = put 1 lo 1 := by
  simp [putB, put]

/-- A field reads back what was put in its place. -/
theorem extractLsb'_put_same {lo n : Nat} (x : Nat) (h : lo + n ≤ 32) :
    (put x lo n).extractLsb' lo n = BitVec.ofNat n x := by
  refine BitVec.eq_of_getLsbD_eq fun i hi => ?_
  have hin : lo + i < 32 ∧ lo ≤ lo + i ∧ lo + i < lo + n := by omega
  simp only [BitVec.getLsbD_extractLsb', getLsbD_put, BitVec.getLsbD_ofNat, hi, hin, Nat.add_sub_cancel_left]
  simp

/-- A field reads 0 in a word that has something put beside it only. -/
theorem extractLsb'_put_beside {lo n i m : Nat} (x : Nat) (h : lo + n ≤ i ∨ i + m ≤ lo) :
    (put x lo n).extractLsb' i m = 0#m := by
  refine BitVec.eq_of_getLsbD_eq fun j hj => ?_
  have hout : ¬ (i + j < 32 ∧ lo ≤ i + j ∧ i + j < lo + n) := by omega
  simp only [BitVec.getLsbD_extractLsb', getLsbD_put, hout]
  simp

/-! ## CMD_STATUS (R109, R110) -/

/-- A read of CMD_STATUS shows the status word and pops the oldest completion. -/
theorem readReg_cmdStatus {s : State} {w : WinId} {c : CtxId} (hc : winCtx s w = some c) :
    readReg w (RegOffset.byte 9) s = (cmdStatusWord s.win[w], popCompletion w s) := by
  simp only [readReg, regWord, hc]
  rfl

theorem popCompletion_cons {s : State} {w : WinId} {d : Completion} {rest : List Completion}
    (h : s.win[w].done = d :: rest) :
    (popCompletion w s).win[w] = { s.win[w] with done := rest, result0 := d.q0, result1 := d.q1 } := by
  simp only [Fin.getElem_fin] at h
  simp [popCompletion, h]

theorem popCompletion_nil {s : State} {w : WinId} (h : s.win[w].done = []) :
    (popCompletion w s).win[w] = s.win[w] := by
  simp only [Fin.getElem_fin] at h
  simp [popCompletion, h]

/-- With a completion waiting, the status word has its TAG and CODE, with VALID 1. -/
theorem cmdStatusWord_cons {x : Window} {d : Completion} {rest : List Completion} (h : x.done = d :: rest) :
    (cmdStatusWord x).extractLsb' 0 8 = d.tag ∧ (cmdStatusWord x).extractLsb' 8 8 = BitVec.ofNat 8 d.code.num ∧
      (cmdStatusWord x).getLsbD 16 = true := by
  simp only [cmdStatusWord, h]
  simp [BitVec.extractLsb'_or, extractLsb'_put_same, extractLsb'_put_beside, putB_true, getLsbD_put]

/-- The oldest command of the present binding that is not answered: in the executor, else at the front of the queue. -/
def Window.oldestOpen (x : Window) : Option QEntry :=
  match x.exec with
  | some e => if e.discard then x.queue.head? else some e.entry
  | none => x.queue.head?

theorem Window.oldestOpen_of_executing {x : Window} {e : Exec} (he : x.exec = some e) (hd : e.discard = false) :
    x.oldestOpen = some e.entry := by
  simp [Window.oldestOpen, he, hd]

theorem Window.oldestOpen_of_not_executing {x : Window} (he : x.exec = none) : x.oldestOpen = x.queue.head? := by
  simp [Window.oldestOpen, he]

theorem cmdStatusWord_nil {x : Window} (h : x.done = []) :
    cmdStatusWord x = (match x.oldestOpen with
      | some e => put e.cmd.tag.toNat 0 8 ||| put Code.queued.num 8 8
      | none => 0) ||| put x.occupancy 17 5 := by
  simp only [cmdStatusWord, h]
  rfl

/-- With no completion waiting, VALID reads 0. -/
theorem cmdStatusWord_nil_valid {x : Window} (h : x.done = []) : (cmdStatusWord x).getLsbD 16 = false := by
  rw [cmdStatusWord_nil h]
  split <;> simp only [BitVec.getLsbD_or, getLsbD_put] <;> simp

/-- With no completion waiting, TAG shows the oldest open command and CODE reads QUEUED. -/
theorem cmdStatusWord_open {x : Window} {e : QEntry} (h : x.done = []) (he : x.oldestOpen = some e) :
    (cmdStatusWord x).extractLsb' 0 8 = e.cmd.tag ∧ ((cmdStatusWord x).extractLsb' 8 8 : Byte) = 1 := by
  simp only [cmdStatusWord_nil h, he]
  simp [BitVec.extractLsb'_or, extractLsb'_put_same, extractLsb'_put_beside, Code.num]

/-- With neither, TAG and CODE read 0. -/
theorem cmdStatusWord_idle {x : Window} (h : x.done = []) (he : x.oldestOpen = none) :
    ((cmdStatusWord x).extractLsb' 0 16 : HalfWord) = 0 := by
  simp only [cmdStatusWord_nil h, he]
  simp [extractLsb'_put_beside]

/-- A CMD_STATUS read that is answered shows the status word of its window, and pops. -/
theorem exec_cmdStatusRead_answered {s : State} {acc : ReadAccess} {w : WinId} {c : CtxId}
    (hw : readWindow s acc = some w) (hc : winCtx s w = some c) :
    ∃ t l, exec (.cmdStatusRead acc) s = .next t ∧ shows t 9 acc (cmdStatusWord s.win[w]) ∧
      t.win[w] = { (popCompletion w (readArrives acc s)).win[w] with readLatch := l } := by
  have hc' : winCtx (readArrives acc s) w = some c := by rw [winCtx_readArrives, hc]
  obtain ⟨hshow, l, ht⟩ := readAt_answered hw (readReg_cmdStatus hc')
  rw [readArrives_win] at hshow
  exact ⟨_, l, rfl, hshow, ht⟩

/-! ## The obligations -/

/-- Settles O10: the word shown is the status word before the pop, by the cases of the completion queue and, where that is
empty, of the oldest open command. -/
theorem cmdStatusReadPopsOldest : Obligations.CmdStatusReadPopsOldest := by
  intro s acc w c hw hc
  obtain ⟨t, l, hexec, hshow, ht⟩ := exec_cmdStatusRead_answered hw hc
  refine ⟨fun d rest hd => ?waiting, fun hd => ?none⟩
  case waiting =>
    have hpop := popCompletion_cons (s := readArrives acc s) (w := w) (by rw [readArrives_win]; exact hd)
    obtain ⟨htag, hcode, hvalid⟩ := cmdStatusWord_cons hd
    rw [hpop] at ht
    exact ⟨t, _, hexec, hshow, htag, hcode, hvalid, by rw [ht], by rw [ht], by rw [ht]⟩
  case none =>
    have hpop := popCompletion_nil (s := readArrives acc s) (w := w) (by rw [readArrives_win]; exact hd)
    rw [hpop, readArrives_win] at ht
    refine ⟨t, _, hexec, hshow, cmdStatusWord_nil_valid hd, by rw [ht]; exact hd, by rw [ht], by rw [ht], by rw [ht],
      by rw [ht], ?executing, ?queued, ?idle⟩
    case executing => exact fun e he hdiscard => cmdStatusWord_open hd (Window.oldestOpen_of_executing he hdiscard)
    case queued =>
      exact fun e rest he hq => cmdStatusWord_open hd (by rw [Window.oldestOpen_of_not_executing he, hq, List.head?_cons])
    case idle =>
      exact fun he hq => cmdStatusWord_idle hd (by rw [Window.oldestOpen_of_not_executing he, hq, List.head?_nil])

/-- Settles O11: a committed write of CMD_ISSUE issues its command in a window that has lost at most its write latch; by
the room in the window and the state of its executor. -/
theorem cmdIssueTakesArgumentsAsTheyStand : Obligations.CmdIssueTakesArgumentsAsTheyStand := by
  intro s acc w v c hcommit hc
  have ho : portOpen (writeArrives acc s) = true := by rw [portOpen_writeArrives, portOpen_of_committed hcommit]
  have hc' : winCtx (writeArrives acc s) w = some c := by rw [winCtx_writeArrives, hc]
  obtain ⟨l, hl⟩ := writeArrives_win acc s w
  obtain ⟨hwin, hport⟩ := writeAt_committed hcommit
  rw [writeReg_cmdIssue v hc'] at hwin hport
  refine ⟨fun he hroom => ?room, fun hfull => ?full, fun k x => writeReg_cmdArg_queue w k x s, fun hready hop => ?nop⟩
  case room =>
    have he' : (writeArrives acc s).win[w].exec ≠ none := by rw [hl]; exact he
    have hroom' : (writeArrives acc s).win[w].occupancy < 16 := by rw [hl]; exact hroom
    rw [issueAny_busy _ _ he'] at hwin
    have ht := issue_room (v.extractLsb' 0 8) (issuedCmd (writeArrives acc s).win[w] v) ho hc' hroom'
    rw [← hwin, hl, writeArrives_port] at ht
    exact ⟨_, rfl, by rw [ht], by rw [ht]; rfl⟩
  case full =>
    have hfull' : 16 ≤ (writeArrives acc s).win[w].occupancy := by rw [hl]; exact hfull
    rw [issueAny_full _ _ ho hc' hfull'] at hwin
    have ht := issue_full (v.extractLsb' 0 8) (issuedCmd (writeArrives acc s).win[w] v) ho hc' hfull'
    rw [← hwin, hl] at ht
    exact ⟨_, rfl, by rw [ht], by rw [ht], by rw [ht], by rw [ht], by rw [ht]⟩
  case nop =>
    rw [hop] at hwin hport
    have ha := issueAny_nop_answered (issuedCmd (writeArrives acc s).win[w] v) ((ready_writeArrives acc s w c).trans hready)
    rw [genOf_writeArrives] at ha
    have ha' := answered_congr (s' := s) (by rw [hl]) (by rw [hl]) (by rw [hl]) hwin hport ha
    rw [hl] at ha'
    exact ⟨_, rfl, ha'⟩

end Sys2Proof.Machine
end

section
/-! SUPPORT. What a change of the state leaves alone, as a relation between the state before and the state after: the
    parts
outside a list are as they were. -/
namespace Sys2Proof.Machine

/-- The parts of the state that a change has to name. The queue of commands is none of them: no change touches it.
    Memory
is one, and keeps its canonical form where it changes. -/
inductive Part where
  | mem | memc | win | ctx | port | evu | pcie | faults | power | drone | timer | timerShadow | mon | fetch | slot |
      commits
  | comp | relief | prot | head | panel | syn | epd | seg | adc | relay | cal | boot | pins | free
deriving DecidableEq

def Part.all : List Part :=
  [.mem, .memc, .win, .ctx, .port, .evu, .pcie, .faults, .power, .drone, .timer, .timerShadow, .mon, .fetch, .slot,
      .commits,
    .comp, .relief, .prot, .head, .panel, .syn, .epd, .seg, .adc, .relay, .cal, .boot, .pins, .free]

/-- Each part of the first list is in the second one, as a check that evaluates. -/
def Part.within (H G : List Part) : Bool := H.all fun p => G.any fun q => decide (p = q)

theorem Part.within_iff {H G : List Part} : Part.within H G = true ↔ H ⊆ G := by
  simp [Part.within, List.subset_def]

theorem Part.within_trans {F H G : List Part} (h : Part.within F H = true) (hG : Part.within H G = true) :
    Part.within F G = true := by
  rw [Part.within_iff] at *
  exact List.Subset.trans h hG

/-- The state with the parts of a list put to their reset values: what is left are the parts outside the list. -/
noncomputable def State.without (G : List Part) (s : State) : State where
  pending := s.pending
  mem := (Part.within [.mem] G).rec s.mem State.reset.mem
  memc := (Part.within [.memc] G).rec s.memc State.reset.memc
  win := (Part.within [.win] G).rec s.win State.reset.win
  ctx := (Part.within [.ctx] G).rec s.ctx State.reset.ctx
  port := (Part.within [.port] G).rec s.port State.reset.port
  evu := (Part.within [.evu] G).rec s.evu State.reset.evu
  pcie := (Part.within [.pcie] G).rec s.pcie State.reset.pcie
  faults := (Part.within [.faults] G).rec s.faults State.reset.faults
  power := (Part.within [.power] G).rec s.power State.reset.power
  drone := (Part.within [.drone] G).rec s.drone State.reset.drone
  timer := (Part.within [.timer] G).rec s.timer State.reset.timer
  timerShadow := (Part.within [.timerShadow] G).rec s.timerShadow State.reset.timerShadow
  mon := (Part.within [.mon] G).rec s.mon State.reset.mon
  fetch := (Part.within [.fetch] G).rec s.fetch State.reset.fetch
  slot := (Part.within [.slot] G).rec s.slot State.reset.slot
  commits := (Part.within [.commits] G).rec s.commits State.reset.commits
  comp := (Part.within [.comp] G).rec s.comp State.reset.comp
  relief := (Part.within [.relief] G).rec s.relief State.reset.relief
  prot := (Part.within [.prot] G).rec s.prot State.reset.prot
  head := (Part.within [.head] G).rec s.head State.reset.head
  panel := (Part.within [.panel] G).rec s.panel State.reset.panel
  syn := (Part.within [.syn] G).rec s.syn State.reset.syn
  epd := (Part.within [.epd] G).rec s.epd State.reset.epd
  seg := (Part.within [.seg] G).rec s.seg State.reset.seg
  adc := (Part.within [.adc] G).rec s.adc State.reset.adc
  relay := (Part.within [.relay] G).rec s.relay State.reset.relay
  cal := (Part.within [.cal] G).rec s.cal State.reset.cal
  boot := (Part.within [.boot] G).rec s.boot State.reset.boot
  pins := (Part.within [.pins] G).rec s.pins State.reset.pins
  free := (Part.within [.free] G).rec s.free State.reset.free

theorem State.without_without {G H : List Part} (hG : Part.within H G = true) (s : State) :
    (s.without H).without G = s.without G := by
  have keep : ∀ {α : Type} (p : Part) (a b : α),
      ((Part.within [p] G).rec ((Part.within [p] H).rec b a) a : α) = (Part.within [p] G).rec b a := by
    intro α p a b
    rw [Part.within_iff] at hG
    cases hp : Part.within [p] G
    · have hq : Part.within [p] H = false := by
        rw [← Bool.not_eq_true, Part.within_iff] at hp ⊢
        exact fun h => hp (List.Subset.trans h hG)
      rw [hq]
    · rfl
  simp only [State.without, keep]

/-- A change touches the named parts only, and keeps memory in its canonical form. -/
structure Changes (G : List Part) (s t : State) : Prop where
  without : t.without G = s.without G
  wf : Memory.wf s.mem = true → Memory.wf t.mem = true

namespace Changes

variable {G H : List Part} {s₀ s t : State}

theorem pending_eq (h : Changes G s t) : t.pending = s.pending :=
  show (t.without G).pending = (s.without G).pending from congrArg State.pending h.without

theorem mem_eq (h : Changes G s t) (hp : Part.within [.mem] G = false) : t.mem = s.mem := by
  simpa only [State.without, hp] using congrArg State.mem h.without

theorem memc_eq (h : Changes G s t) (hp : Part.within [.memc] G = false) : t.memc = s.memc := by
  simpa only [State.without, hp] using congrArg State.memc h.without

theorem win_eq (h : Changes G s t) (hp : Part.within [.win] G = false) : t.win = s.win := by
  simpa only [State.without, hp] using congrArg State.win h.without

theorem ctx_eq (h : Changes G s t) (hp : Part.within [.ctx] G = false) : t.ctx = s.ctx := by
  simpa only [State.without, hp] using congrArg State.ctx h.without

theorem port_eq (h : Changes G s t) (hp : Part.within [.port] G = false) : t.port = s.port := by
  simpa only [State.without, hp] using congrArg State.port h.without

theorem evu_eq (h : Changes G s t) (hp : Part.within [.evu] G = false) : t.evu = s.evu := by
  simpa only [State.without, hp] using congrArg State.evu h.without

theorem pcie_eq (h : Changes G s t) (hp : Part.within [.pcie] G = false) : t.pcie = s.pcie := by
  simpa only [State.without, hp] using congrArg State.pcie h.without

theorem faults_eq (h : Changes G s t) (hp : Part.within [.faults] G = false) : t.faults = s.faults := by
  simpa only [State.without, hp] using congrArg State.faults h.without

theorem power_eq (h : Changes G s t) (hp : Part.within [.power] G = false) : t.power = s.power := by
  simpa only [State.without, hp] using congrArg State.power h.without

theorem drone_eq (h : Changes G s t) (hp : Part.within [.drone] G = false) : t.drone = s.drone := by
  simpa only [State.without, hp] using congrArg State.drone h.without

theorem timer_eq (h : Changes G s t) (hp : Part.within [.timer] G = false) : t.timer = s.timer := by
  simpa only [State.without, hp] using congrArg State.timer h.without

theorem timerShadow_eq (h : Changes G s t) (hp : Part.within [.timerShadow] G = false) : t.timerShadow =
    s.timerShadow := by
  simpa only [State.without, hp] using congrArg State.timerShadow h.without

theorem mon_eq (h : Changes G s t) (hp : Part.within [.mon] G = false) : t.mon = s.mon := by
  simpa only [State.without, hp] using congrArg State.mon h.without

theorem fetch_eq (h : Changes G s t) (hp : Part.within [.fetch] G = false) : t.fetch = s.fetch := by
  simpa only [State.without, hp] using congrArg State.fetch h.without

theorem slot_eq (h : Changes G s t) (hp : Part.within [.slot] G = false) : t.slot = s.slot := by
  simpa only [State.without, hp] using congrArg State.slot h.without

theorem commits_eq (h : Changes G s t) (hp : Part.within [.commits] G = false) : t.commits = s.commits := by
  simpa only [State.without, hp] using congrArg State.commits h.without

theorem comp_eq (h : Changes G s t) (hp : Part.within [.comp] G = false) : t.comp = s.comp := by
  simpa only [State.without, hp] using congrArg State.comp h.without

theorem relief_eq (h : Changes G s t) (hp : Part.within [.relief] G = false) : t.relief = s.relief := by
  simpa only [State.without, hp] using congrArg State.relief h.without

theorem prot_eq (h : Changes G s t) (hp : Part.within [.prot] G = false) : t.prot = s.prot := by
  simpa only [State.without, hp] using congrArg State.prot h.without

theorem head_eq (h : Changes G s t) (hp : Part.within [.head] G = false) : t.head = s.head := by
  simpa only [State.without, hp] using congrArg State.head h.without

theorem panel_eq (h : Changes G s t) (hp : Part.within [.panel] G = false) : t.panel = s.panel := by
  simpa only [State.without, hp] using congrArg State.panel h.without

theorem syn_eq (h : Changes G s t) (hp : Part.within [.syn] G = false) : t.syn = s.syn := by
  simpa only [State.without, hp] using congrArg State.syn h.without

theorem epd_eq (h : Changes G s t) (hp : Part.within [.epd] G = false) : t.epd = s.epd := by
  simpa only [State.without, hp] using congrArg State.epd h.without

theorem seg_eq (h : Changes G s t) (hp : Part.within [.seg] G = false) : t.seg = s.seg := by
  simpa only [State.without, hp] using congrArg State.seg h.without

theorem adc_eq (h : Changes G s t) (hp : Part.within [.adc] G = false) : t.adc = s.adc := by
  simpa only [State.without, hp] using congrArg State.adc h.without

theorem relay_eq (h : Changes G s t) (hp : Part.within [.relay] G = false) : t.relay = s.relay := by
  simpa only [State.without, hp] using congrArg State.relay h.without

theorem cal_eq (h : Changes G s t) (hp : Part.within [.cal] G = false) : t.cal = s.cal := by
  simpa only [State.without, hp] using congrArg State.cal h.without

theorem boot_eq (h : Changes G s t) (hp : Part.within [.boot] G = false) : t.boot = s.boot := by
  simpa only [State.without, hp] using congrArg State.boot h.without

theorem pins_eq (h : Changes G s t) (hp : Part.within [.pins] G = false) : t.pins = s.pins := by
  simpa only [State.without, hp] using congrArg State.pins h.without

theorem free_eq (h : Changes G s t) (hp : Part.within [.free] G = false) : t.free = s.free := by
  simpa only [State.without, hp] using congrArg State.free h.without

protected theorem refl : Changes G s s := ⟨rfl, id⟩

/-- A change that follows another one, and touches no other parts. -/
theorem via (h : Changes G s₀ s) (k : Changes H s t) (hG : Part.within H G = true) : Changes G s₀ t where
  without := by rw [← State.without_without hG t, k.without, State.without_without hG, h.without]
  wf hs := k.wf (h.wf hs)

theorem mono (h : Changes H s t) (hG : Part.within H G = true) : Changes G s t := Changes.refl.via h hG

theorem set_memc {x} (h : Changes G s₀ s) (hG : Part.within [.memc] G = true) : Changes G s₀ { s with memc := x } :=
  h.via (H := [.memc]) ⟨rfl, id⟩ hG

theorem set_win {x} (h : Changes G s₀ s) (hG : Part.within [.win] G = true) : Changes G s₀ { s with win := x } :=
  h.via (H := [.win]) ⟨rfl, id⟩ hG

theorem set_ctx {x} (h : Changes G s₀ s) (hG : Part.within [.ctx] G = true) : Changes G s₀ { s with ctx := x } :=
  h.via (H := [.ctx]) ⟨rfl, id⟩ hG

theorem set_port {x} (h : Changes G s₀ s) (hG : Part.within [.port] G = true) : Changes G s₀ { s with port := x } :=
  h.via (H := [.port]) ⟨rfl, id⟩ hG

theorem set_evu {x} (h : Changes G s₀ s) (hG : Part.within [.evu] G = true) : Changes G s₀ { s with evu := x } :=
  h.via (H := [.evu]) ⟨rfl, id⟩ hG

theorem set_pcie {x} (h : Changes G s₀ s) (hG : Part.within [.pcie] G = true) : Changes G s₀ { s with pcie := x } :=
  h.via (H := [.pcie]) ⟨rfl, id⟩ hG

theorem set_faults {x} (h : Changes G s₀ s) (hG : Part.within [.faults] G = true) : Changes G s₀
    { s with faults := x } :=
  h.via (H := [.faults]) ⟨rfl, id⟩ hG

theorem set_power {x} (h : Changes G s₀ s) (hG : Part.within [.power] G = true) : Changes G s₀
    { s with power := x } :=
  h.via (H := [.power]) ⟨rfl, id⟩ hG

theorem set_drone {x} (h : Changes G s₀ s) (hG : Part.within [.drone] G = true) : Changes G s₀
    { s with drone := x } :=
  h.via (H := [.drone]) ⟨rfl, id⟩ hG

theorem set_timer {x} (h : Changes G s₀ s) (hG : Part.within [.timer] G = true) : Changes G s₀
    { s with timer := x } :=
  h.via (H := [.timer]) ⟨rfl, id⟩ hG

theorem set_timerShadow {x} (h : Changes G s₀ s) (hG : Part.within [.timerShadow] G = true) : Changes G s₀
    { s with timerShadow := x } :=
  h.via (H := [.timerShadow]) ⟨rfl, id⟩ hG

theorem set_mon {x} (h : Changes G s₀ s) (hG : Part.within [.mon] G = true) : Changes G s₀ { s with mon := x } :=
  h.via (H := [.mon]) ⟨rfl, id⟩ hG

theorem set_fetch {x} (h : Changes G s₀ s) (hG : Part.within [.fetch] G = true) : Changes G s₀
    { s with fetch := x } :=
  h.via (H := [.fetch]) ⟨rfl, id⟩ hG

theorem set_slot {x} (h : Changes G s₀ s) (hG : Part.within [.slot] G = true) : Changes G s₀ { s with slot := x } :=
  h.via (H := [.slot]) ⟨rfl, id⟩ hG

theorem set_commits {x} (h : Changes G s₀ s) (hG : Part.within [.commits] G = true) : Changes G s₀
    { s with commits := x } :=
  h.via (H := [.commits]) ⟨rfl, id⟩ hG

theorem set_comp {x} (h : Changes G s₀ s) (hG : Part.within [.comp] G = true) : Changes G s₀ { s with comp := x } :=
  h.via (H := [.comp]) ⟨rfl, id⟩ hG

theorem set_relief {x} (h : Changes G s₀ s) (hG : Part.within [.relief] G = true) : Changes G s₀
    { s with relief := x } :=
  h.via (H := [.relief]) ⟨rfl, id⟩ hG

theorem set_prot {x} (h : Changes G s₀ s) (hG : Part.within [.prot] G = true) : Changes G s₀ { s with prot := x } :=
  h.via (H := [.prot]) ⟨rfl, id⟩ hG

theorem set_head {x} (h : Changes G s₀ s) (hG : Part.within [.head] G = true) : Changes G s₀ { s with head := x } :=
  h.via (H := [.head]) ⟨rfl, id⟩ hG

theorem set_panel {x} (h : Changes G s₀ s) (hG : Part.within [.panel] G = true) : Changes G s₀
    { s with panel := x } :=
  h.via (H := [.panel]) ⟨rfl, id⟩ hG

theorem set_syn {x} (h : Changes G s₀ s) (hG : Part.within [.syn] G = true) : Changes G s₀ { s with syn := x } :=
  h.via (H := [.syn]) ⟨rfl, id⟩ hG

theorem set_epd {x} (h : Changes G s₀ s) (hG : Part.within [.epd] G = true) : Changes G s₀ { s with epd := x } :=
  h.via (H := [.epd]) ⟨rfl, id⟩ hG

theorem set_seg {x} (h : Changes G s₀ s) (hG : Part.within [.seg] G = true) : Changes G s₀ { s with seg := x } :=
  h.via (H := [.seg]) ⟨rfl, id⟩ hG

theorem set_adc {x} (h : Changes G s₀ s) (hG : Part.within [.adc] G = true) : Changes G s₀ { s with adc := x } :=
  h.via (H := [.adc]) ⟨rfl, id⟩ hG

theorem set_relay {x} (h : Changes G s₀ s) (hG : Part.within [.relay] G = true) : Changes G s₀
    { s with relay := x } :=
  h.via (H := [.relay]) ⟨rfl, id⟩ hG

theorem set_cal {x} (h : Changes G s₀ s) (hG : Part.within [.cal] G = true) : Changes G s₀ { s with cal := x } :=
  h.via (H := [.cal]) ⟨rfl, id⟩ hG

theorem set_boot {x} (h : Changes G s₀ s) (hG : Part.within [.boot] G = true) : Changes G s₀ { s with boot := x } :=
  h.via (H := [.boot]) ⟨rfl, id⟩ hG

theorem set_pins {x} (h : Changes G s₀ s) (hG : Part.within [.pins] G = true) : Changes G s₀ { s with pins := x } :=
  h.via (H := [.pins]) ⟨rfl, id⟩ hG

theorem set_free {x} (h : Changes G s₀ s) (hG : Part.within [.free] G = true) : Changes G s₀ { s with free := x } :=
  h.via (H := [.free]) ⟨rfl, id⟩ hG

theorem set_win_faults {x y} (h : Changes G s₀ s) (hG : Part.within [.win, .faults] G = true) :
    Changes G s₀ { s with win := x, faults := y } :=
  h.via (H := [.win, .faults]) ⟨rfl, id⟩ hG

theorem set_port_adc {x y} (h : Changes G s₀ s) (hG : Part.within [.port, .adc] G = true) :
    Changes G s₀ { s with port := x, adc := y } :=
  h.via (H := [.port, .adc]) ⟨rfl, id⟩ hG

theorem set_port_power {x y} (h : Changes G s₀ s) (hG : Part.within [.port, .power] G = true) :
    Changes G s₀ { s with port := x, power := y } :=
  h.via (H := [.port, .power]) ⟨rfl, id⟩ hG

theorem set_evu_power {x y} (h : Changes G s₀ s) (hG : Part.within [.evu, .power] G = true) :
    Changes G s₀ { s with evu := x, power := y } :=
  h.via (H := [.evu, .power]) ⟨rfl, id⟩ hG

theorem set_drone_syn {x y} (h : Changes G s₀ s) (hG : Part.within [.drone, .syn] G = true) :
    Changes G s₀ { s with drone := x, syn := y } :=
  h.via (H := [.drone, .syn]) ⟨rfl, id⟩ hG

theorem set_memc_boot {x y} (h : Changes G s₀ s) (hG : Part.within [.memc, .boot] G = true) :
    Changes G s₀ { s with memc := x, boot := y } :=
  h.via (H := [.memc, .boot]) ⟨rfl, id⟩ hG

theorem set_fetch_relay {x y} (h : Changes G s₀ s) (hG : Part.within [.fetch, .relay] G = true) :
    Changes G s₀ { s with fetch := x, relay := y } :=
  h.via (H := [.fetch, .relay]) ⟨rfl, id⟩ hG

theorem set_port_drone {x y} (h : Changes G s₀ s) (hG : Part.within [.port, .drone] G = true) :
    Changes G s₀ { s with port := x, drone := y } :=
  h.via (H := [.port, .drone]) ⟨rfl, id⟩ hG

protected theorem ite {c : Prop} [Decidable c] (h : Changes G s₀ s) (k : Changes G s₀ t) :
    Changes G s₀ (if c then s else t) := by
  split
  · exact h
  · exact k

protected theorem dite {c : Prop} [Decidable c] {f : c → State} {g : ¬c → State} (h : ∀ hc, Changes G s₀ (f hc))
    (k : ∀ hc, Changes G s₀ (g hc)) : Changes G s₀ (if hc : c then f hc else g hc) := by
  split
  · exact h _
  · exact k _

/-- What every step of a fold keeps, the fold keeps. -/
theorem foldl {α : Type} {l : List α} {f : State → α → State} (h : Changes G s₀ s)
    (hf : ∀ a s, Changes G s₀ s → Changes G s₀ (f s a)) : Changes G s₀ (l.foldl f s) := by
  induction l generalizing s with
  | nil => exact h
  | cons a l ih => exact ih (hf a s h)

theorem forEach {α : Type} {l : List α} {f : α → State → State} (h : Changes G s₀ s)
    (hf : ∀ a s, Changes G s₀ s → Changes G s₀ (f a s)) : Changes G s₀ (forEach l f s) :=
  h.foldl hf

end Changes

/-- A command answers a next state that differs in the named parts only. -/
def Answers (G : List Part) (s : State) (o : Host.Outcome State Fault Refusal) : Prop := ∃ t, o = .next t ∧ Changes G
    s t

theorem Answers.mono {G H : List Part} {s : State} {o : Host.Outcome State Fault Refusal} (h : Answers H s o)
    (hG : Part.within H G = true) : Answers G s o :=
  let ⟨t, ht, hc⟩ := h
  ⟨t, ht, hc.mono hG⟩

theorem Answers.ite {G : List Part} {s : State} {p : Prop} [Decidable p] {a b : Host.Outcome State Fault Refusal}
    (ha : Answers G s a) (hb : Answers G s b) : Answers G s (if p then a else b) := by
  split
  · exact ha
  · exact hb

/-! ## Memory -/

theorem write_changes {G : List Part} {s₀ s : State} {a : Nat} {bs : List Byte} (h : Changes G s₀ s)
    (hG : Part.within [.mem, .memc] G = true) : Changes G s₀ (s.write a bs) :=
  h.via ⟨rfl, fun hs => s.write_wf hs a bs⟩ hG

end Sys2Proof.Machine
end

section
/-! SUPPORT. Which parts of the state each function of the model may change, one lemma per function in the order of their
definitions: from a change so far to a change by the function's result. -/
namespace Sys2Proof.Machine

/-! ## Ops -/

theorem modWin_changes {G} {s₀ s : State} {w f} (h : Changes G s₀ s)
    (hG : Part.within [.win] G = true) :
    Changes G s₀ (s.modWin w f) := by
  refine h.via ?_ hG
  unfold State.modWin
  exact .set_win .refl rfl

theorem modCtx_changes {G} {s₀ s : State} {n f} (h : Changes G s₀ s)
    (hG : Part.within [.ctx] G = true) :
    Changes G s₀ (s.modCtx n f) := by
  refine h.via ?_ hG
  unfold State.modCtx
  exact .set_ctx .refl rfl

theorem modSrc_changes {G} {s₀ s : State} {n f} (h : Changes G s₀ s)
    (hG : Part.within [.evu] G = true) :
    Changes G s₀ (s.modSrc n f) := by
  refine h.via ?_ hG
  unfold State.modSrc
  exact .set_evu .refl rfl

theorem modFn_changes {G} {s₀ s : State} {n f} (h : Changes G s₀ s)
    (hG : Part.within [.pcie] G = true) :
    Changes G s₀ (s.modFn n f) := by
  refine h.via ?_ hG
  unfold State.modFn
  exact .set_pcie .refl rfl

theorem modTimer_changes {G} {s₀ s : State} {n f} (h : Changes G s₀ s)
    (hG : Part.within [.timer] G = true) :
    Changes G s₀ (s.modTimer n f) := by
  refine h.via ?_ hG
  unfold State.modTimer
  exact .set_timer .refl rfl

theorem modMon_changes {G} {s₀ s : State} {n f} (h : Changes G s₀ s)
    (hG : Part.within [.mon] G = true) :
    Changes G s₀ (s.modMon n f) := by
  refine h.via ?_ hG
  unfold State.modMon
  exact .set_mon .refl rfl

theorem modQueue_changes {G} {s₀ s : State} {q f} (h : Changes G s₀ s)
    (hG : Part.within [.fetch] G = true) :
    Changes G s₀ (s.modQueue q f) := by
  refine h.via ?_ hG
  unfold State.modQueue
  exact .set_fetch .refl rfl

theorem modComp_changes {G} {s₀ s : State} {h' f} (h : Changes G s₀ s)
    (hG : Part.within [.comp] G = true) :
    Changes G s₀ (s.modComp h' f) := by
  refine h.via ?_ hG
  unfold State.modComp
  exact .set_comp .refl rfl

theorem modHead_changes {G} {s₀ s : State} {h' f} (h : Changes G s₀ s)
    (hG : Part.within [.head] G = true) :
    Changes G s₀ (s.modHead h' f) := by
  refine h.via ?_ hG
  unfold State.modHead
  exact .set_head .refl rfl

theorem modPanel_changes {G} {s₀ s : State} {h' f} (h : Changes G s₀ s)
    (hG : Part.within [.panel] G = true) :
    Changes G s₀ (s.modPanel h' f) := by
  refine h.via ?_ hG
  unfold State.modPanel
  exact .set_panel .refl rfl

theorem modProt_changes {G} {s₀ s : State} {h' f} (h : Changes G s₀ s)
    (hG : Part.within [.prot] G = true) :
    Changes G s₀ (s.modProt h' f) := by
  refine h.via ?_ hG
  unfold State.modProt
  exact .set_prot .refl rfl

theorem modSyn_changes {G} {s₀ s : State} {y f} (h : Changes G s₀ s)
    (hG : Part.within [.syn] G = true) :
    Changes G s₀ (s.modSyn y f) := by
  refine h.via ?_ hG
  unfold State.modSyn
  exact .set_syn .refl rfl

theorem modCal_changes {G} {s₀ s : State} {u f} (h : Changes G s₀ s)
    (hG : Part.within [.cal] G = true) :
    Changes G s₀ (s.modCal u f) := by
  refine h.via ?_ hG
  unfold State.modCal
  exact .set_cal .refl rfl

theorem modSlot_changes {G} {s₀ s : State} {h' z x} (h : Changes G s₀ s)
    (hG : Part.within [.slot] G = true) :
    Changes G s₀ (s.modSlot h' z x) := by
  refine h.via ?_ hG
  unfold State.modSlot
  exact .set_slot .refl rfl

theorem modStream_changes {G} {s₀ s : State} {i f} (h : Changes G s₀ s)
    (hG : Part.within [.relay] G = true) :
    Changes G s₀ (s.modStream i f) := by
  refine h.via ?_ hG
  unfold State.modStream
  exact .set_relay .refl rfl

theorem modEgress_changes {G} {s₀ s : State} {i f} (h : Changes G s₀ s)
    (hG : Part.within [.relay] G = true) :
    Changes G s₀ (s.modEgress i f) := by
  refine h.via ?_ hG
  unfold State.modEgress
  exact .set_relay .refl rfl

theorem modIngest_changes {G} {s₀ s : State} {g f} (h : Changes G s₀ s)
    (hG : Part.within [.relay] G = true) :
    Changes G s₀ (s.modIngest g f) := by
  refine h.via ?_ hG
  unfold State.modIngest
  exact .set_relay .refl rfl

theorem setPd_changes {G} {s₀ s : State} {p on} (h : Changes G s₀ s)
    (hG : Part.within [.power] G = true) :
    Changes G s₀ (setPd p on s) := by
  refine h.via ?_ hG
  unfold setPd
  exact .set_power .refl rfl

theorem bumpDevice_changes {G} {s₀ s : State} (h : Changes G s₀ s)
    (hG : Part.within [.port] G = true) :
    Changes G s₀ (bumpDevice s) := by
  refine h.via ?_ hG
  unfold bumpDevice
  exact .set_port .refl rfl

theorem bumpCtx_changes {G} {s₀ s : State} {n} (h : Changes G s₀ s)
    (hG : Part.within [.ctx] G = true) :
    Changes G s₀ (bumpCtx n s) := by
  refine h.via ?_ hG
  unfold bumpCtx
  exact modCtx_changes .refl rfl

theorem sendMsix_changes {G} {s₀ s : State} {f v} (h : Changes G s₀ s)
    (hG : Part.within [.pcie] G = true) :
    Changes G s₀ (sendMsix f v s) := by
  refine h.via ?_ hG
  unfold sendMsix
  exact .ite .refl (.ite (.set_pcie (modFn_changes .refl rfl) rfl) (modFn_changes .refl rfl))

theorem clearPba_changes {G} {s₀ s : State} {f v} (h : Changes G s₀ s)
    (hG : Part.within [.pcie] G = true) :
    Changes G s₀ (clearPba f v s) := by
  refine h.via ?_ hG
  unfold clearPba
  exact modFn_changes .refl rfl

theorem msixNotify_changes {G} {s₀ s : State} {c v before} (h : Changes G s₀ s)
    (hG : Part.within [.pcie] G = true) :
    Changes G s₀ (msixNotify c v before s) := by
  refine h.via ?_ hG
  unfold msixNotify
  split
  · exact sendMsix_changes .refl rfl
  · exact clearPba_changes .refl rfl
  · exact .refl

theorem withSrc_changes {G} {s₀ s : State} {n f} (h : Changes G s₀ s)
    (hG : Part.within [.evu, .pcie] G = true) :
    Changes G s₀ (withSrc n f s) := by
  refine h.via ?_ hG
  unfold withSrc
  exact msixNotify_changes (modSrc_changes .refl rfl) rfl

theorem raise_changes {G} {s₀ s : State} {n} (h : Changes G s₀ s)
    (hG : Part.within [.evu, .pcie] G = true) :
    Changes G s₀ (raise n s) := by
  refine h.via ?_ hG
  unfold raise
  exact .dite (fun _ => (.ite (withSrc_changes .refl rfl) (.ite (modSrc_changes .refl rfl) .refl))) (fun _ => .refl)

theorem raiseIf_changes {G} {s₀ s : State} {b n} (h : Changes G s₀ s)
    (hG : Part.within [.evu, .pcie] G = true) :
    Changes G s₀ (raiseIf b n s) := by
  refine h.via ?_ hG
  unfold raiseIf
  exact .ite (raise_changes .refl rfl) .refl

theorem raiseHead_changes {G} {s₀ s : State} {h' off} (h : Changes G s₀ s)
    (hG : Part.within [.evu, .pcie] G = true) :
    Changes G s₀ (raiseHead h' off s) := by
  refine h.via ?_ hG
  unfold raiseHead
  exact raise_changes .refl rfl

theorem enterFault_changes {G} {s₀ s : State} {e} (h : Changes G s₀ s)
    (hG : Part.within [.evu, .pcie, .faults] G = true) :
    Changes G s₀ (enterFault e s) := by
  refine h.via ?_ hG
  unfold enterFault
  exact raise_changes (.set_faults .refl rfl) rfl

theorem logFault_changes {G} {s₀ s : State} {code unit arg ctx} (h : Changes G s₀ s)
    (hG : Part.within [.evu, .pcie, .faults] G = true) :
    Changes G s₀ (logFault code unit arg s ctx) := by
  refine h.via ?_ hG
  unfold logFault
  exact .ite (enterFault_changes .refl rfl) (.ite (.ite (.set_faults .refl rfl) (.set_faults .refl rfl)) .refl)

theorem logUe_changes {G} {s₀ s : State} {word} (h : Changes G s₀ s)
    (hG : Part.within [.evu, .pcie, .faults] G = true) :
    Changes G s₀ (logUe word s) := by
  refine h.via ?_ hG
  unfold logUe
  split
  · exact raise_changes (logFault_changes .refl rfl) rfl
  · exact .refl

theorem logUeIn_changes {G} {s₀ s : State} {a n} (h : Changes G s₀ s)
    (hG : Part.within [.evu, .pcie, .faults] G = true) :
    Changes G s₀ (logUeIn a n s) := by
  refine h.via ?_ hG
  unfold logUeIn
  exact logUe_changes .refl rfl

theorem logUePart_changes {G} {s₀ s : State} {c off n} (h : Changes G s₀ s)
    (hG : Part.within [.evu, .pcie, .faults] G = true) :
    Changes G s₀ (logUePart c off n s) := by
  refine h.via ?_ hG
  unfold logUePart
  exact logUeIn_changes .refl rfl

theorem releaseHolder_changes {G} {s₀ s : State} {h'} (h : Changes G s₀ s)
    (hG : Part.within [.port] G = true) :
    Changes G s₀ (releaseHolder h' s) := by
  refine h.via ?_ hG
  unfold releaseHolder
  exact .set_port .refl rfl

theorem finish_changes {G} {s₀ s : State} {w code q0 q1} (h : Changes G s₀ s)
    (hG : Part.within [.win, .port, .evu, .pcie] G = true) :
    Changes G s₀ (finish w code q0 q1 s) := by
  refine h.via ?_ hG
  unfold finish
  dsimp only
  split
  · exact .refl
  · exact raiseIf_changes (raiseIf_changes (releaseHolder_changes (modWin_changes .refl rfl) rfl) rfl) rfl

theorem finish0_changes {G} {s₀ s : State} {w code} (h : Changes G s₀ s)
    (hG : Part.within [.win, .port, .evu, .pcie] G = true) :
    Changes G s₀ (finish0 w code s) := by
  refine h.via ?_ hG
  unfold finish0
  exact finish_changes .refl rfl

theorem reject_changes {G} {s₀ s : State} {w reason head line} (h : Changes G s₀ s)
    (hG : Part.within [.win, .port, .evu, .pcie] G = true) :
    Changes G s₀ (reject w reason head line s) := by
  refine h.via ?_ hG
  unfold reject
  exact finish_changes .refl rfl

theorem setPhase_changes {G} {s₀ s : State} {w p} (h : Changes G s₀ s)
    (hG : Part.within [.win, .port] G = true) :
    Changes G s₀ (setPhase w p s) := by
  refine h.via ?_ hG
  unfold setPhase
  exact modWin_changes (.set_port .refl rfl) rfl

theorem take_changes {G} {s₀ s : State} {h' r} (h : Changes G s₀ s)
    (hG : Part.within [.port] G = true) :
    Changes G s₀ (take h' r s) := by
  refine h.via ?_ hG
  unfold take
  exact .set_port .refl rfl

theorem takeAll_changes {G} {s₀ s : State} {holder rs} (h : Changes G s₀ s) (hG : Part.within [.port] G = true) :
    Changes G s₀ (takeAll holder rs s).1 := by
  induction rs generalizing s with
  | nil => exact h
  | cons r rs ih =>
    unfold takeAll
    split
    · exact h
    · exact ih (take_changes h hG)

theorem takeAll_eq_changes {G} {s₀ s t : State} {holder rs l} (heq : takeAll holder rs s = (t, l))
    (h : Changes G s₀ s)
    (hG : Part.within [.port] G = true) : Changes G s₀ t := by
  have ht := takeAll_changes (holder := holder) (rs := rs) h hG
  rwa [heq] at ht

theorem acquire_changes {G} {s₀ s : State} {w rs act} (h : Changes G s₀ s)
    (hact : ∀ s, Changes G s₀ s → Changes G s₀ (act s)) (hG : Part.within [.win, .port] G = true) :
    Changes G s₀ (acquire w rs act s) := by
  unfold acquire
  split
  next heq => exact hact _ (takeAll_eq_changes heq h (Part.within_trans rfl hG))
  next heq => exact setPhase_changes (takeAll_eq_changes heq h (Part.within_trans rfl hG)) hG

theorem wakeRequest_changes {G} {s₀ s : State} {x} (h : Changes G s₀ s)
    (hG : Part.within [.power] G = true) :
    Changes G s₀ (wakeRequest x s) := by
  refine h.via ?_ hG
  unfold wakeRequest
  exact .ite (.set_power .refl rfl) .refl

theorem bumpFree_changes {G} {s₀ s : State} (h : Changes G s₀ s)
    (hG : Part.within [.free] G = true) :
    Changes G s₀ (bumpFree s) := by
  refine h.via ?_ hG
  unfold bumpFree
  exact .set_free .refl rfl

/-! ## Monitors -/

theorem sampleOne_changes {G} {s₀ s : State} {c v} (h : Changes G s₀ s)
    (hG : Part.within [.evu, .pcie, .mon] G = true) :
    Changes G s₀ (sampleOne c v s) := by
  refine h.via ?_ hG
  unfold sampleOne
  dsimp only
  split
  · exact .refl
  · exact .ite .refl (.foldl (modMon_changes .refl rfl) fun _ _ h => (raise_changes h rfl))

theorem sample_changes {G} {s₀ s : State} {probe idx v} (h : Changes G s₀ s)
    (hG : Part.within [.evu, .pcie, .mon] G = true) :
    Changes G s₀ (sample probe idx v s) := by
  refine h.via ?_ hG
  unfold sample
  exact .forEach .refl fun _ _ h => (.ite (sampleOne_changes h rfl) h)

theorem actMonitorBind_changes {G} {s₀ s : State} {w c a} (h : Changes G s₀ s)
    (hG : Part.within [.win, .port, .evu, .pcie, .mon] G = true) :
    Changes G s₀ (actMonitorBind w c a s) := by
  refine h.via ?_ hG
  unfold actMonitorBind
  exact .ite (finish0_changes .refl rfl) (.ite (finish0_changes .refl rfl)
      (.ite (finish0_changes .refl rfl) (.ite (finish0_changes .refl rfl)
      (.ite (finish0_changes .refl rfl) (.ite (.ite (finish0_changes .refl rfl)
      (finish0_changes (bumpDevice_changes (modMon_changes .refl rfl) rfl) rfl))
      (finish0_changes (bumpDevice_changes (modMon_changes .refl rfl) rfl) rfl))))))

/-! ## Fetch -/

theorem settle_changes {G} {s₀ s : State} {n} (h : Changes G s₀ s)
    (hG : Part.within [.fetch] G = true) :
    Changes G s₀ (settle n s) := by
  refine h.via ?_ hG
  unfold settle
  exact modQueue_changes .refl rfl

theorem enqueue_changes {G} {s₀ s : State} {n r} (h : Changes G s₀ s)
    (hG : Part.within [.fetch] G = true) :
    Changes G s₀ (enqueue n r s) := by
  refine h.via ?_ hG
  unfold enqueue
  exact settle_changes (modQueue_changes .refl rfl) rfl

theorem enqueueRange_changes {G} {s₀ s : State} {n k c a len} (h : Changes G s₀ s)
    (hG : Part.within [.fetch] G = true) :
    Changes G s₀ (enqueueRange n k c a len s) := by
  refine h.via ?_ hG
  unfold enqueueRange
  exact .forEach .refl fun _ _ h => (enqueue_changes h rfl)

theorem access_changes {G} {s₀ s : State} {n write c a len} (h : Changes G s₀ s)
    (hG : Part.within [.fetch] G = true) :
    Changes G s₀ (access n write c a len s) := by
  refine h.via ?_ hG
  unfold access
  exact enqueueRange_changes .refl rfl

theorem removeRequests_changes {G} {s₀ s : State} {n p} (h : Changes G s₀ s)
    (hG : Part.within [.fetch] G = true) :
    Changes G s₀ (removeRequests n p s) := by
  refine h.via ?_ hG
  unfold removeRequests
  exact settle_changes (modQueue_changes .refl rfl) rfl

theorem setPolicer_changes {G} {s₀ s : State} {n p} (h : Changes G s₀ s)
    (hG : Part.within [.fetch] G = true) :
    Changes G s₀ (setPolicer n p s) := by
  refine h.via ?_ hG
  unfold setPolicer
  exact settle_changes (modQueue_changes .refl rfl) rfl

theorem resetQueue_changes {G} {s₀ s : State} {n} (h : Changes G s₀ s)
    (hG : Part.within [.fetch] G = true) :
    Changes G s₀ (resetQueue n s) := by
  refine h.via ?_ hG
  unfold resetQueue
  exact modQueue_changes .refl rfl

theorem recomputeDs_changes {G} {s₀ s : State} {n} (h : Changes G s₀ s)
    (hG : Part.within [.fetch] G = true) :
    Changes G s₀ (recomputeDs n s) := by
  refine h.via ?_ hG
  unfold recomputeDs
  exact .ite (modQueue_changes .refl rfl) .refl

theorem sealQueue_changes {G} {s₀ s : State} {n} (h : Changes G s₀ s)
    (hG : Part.within [.fetch] G = true) :
    Changes G s₀ (sealQueue n s) := by
  refine h.via ?_ hG
  unfold sealQueue
  exact settle_changes (modQueue_changes .refl rfl) rfl

theorem creditQueue_changes {G} {s₀ s : State} {n} (h : Changes G s₀ s)
    (hG : Part.within [.fetch] G = true) :
    Changes G s₀ (creditQueue n s) := by
  refine h.via ?_ hG
  unfold creditQueue
  exact settle_changes (modQueue_changes .refl rfl) rfl

theorem kickZero_changes {G} {s₀ s : State} (h : Changes G s₀ s)
    (hG : Part.within [.fetch] G = true) :
    Changes G s₀ (kickZero s) := by
  refine h.via ?_ hG
  unfold kickZero
  split
  · exact .ite .refl (enqueue_changes .refl rfl)
  · exact .refl

theorem zeroed_changes {G} {s₀ s : State} (h : Changes G s₀ s)
    (hG : Part.within [.memc, .evu, .pcie, .fetch] G = true) :
    Changes G s₀ (zeroed s) := by
  refine h.via ?_ hG
  unfold zeroed
  dsimp only
  split
  · exact .refl
  · exact .ite (kickZero_changes (.set_memc .refl rfl) rfl) (.ite (raise_changes (.set_memc .refl rfl) rfl)
        (kickZero_changes (.set_memc .refl rfl) rfl))

theorem zeroMay_changes {G} {s₀ s : State} {f} (h : Changes G s₀ s)
    (hG : Part.within [.memc, .fetch] G = true) :
    Changes G s₀ (zeroMay f s) := by
  refine h.via ?_ hG
  unfold zeroMay
  exact kickZero_changes (.set_memc .refl rfl) rfl

theorem grantHead_changes {G} {s₀ s : State} {n tag cls} (h : Changes G s₀ s)
    (hG : Part.within [.fetch] G = true) :
    Changes G s₀ (grantHead n tag cls s).1 := by
  refine h.via ?_ hG
  unfold grantHead
  dsimp only
  split
  · exact .refl
  · exact settle_changes (.set_fetch .refl rfl) rfl

theorem schedule_changes {G} {s₀ s : State} (h : Changes G s₀ s) (hG : Part.within [.fetch] G = true) :
    Changes G s₀ (schedule s).1 := by
  unfold schedule
  split
  · exact h
  · split
    · exact grantHead_changes h hG
    · split
      · exact grantHead_changes h hG
      · exact h

/-! ## Port -/

theorem turnAway_changes {G} {s₀ s : State} {w v} (h : Changes G s₀ s)
    (hG : Part.within [.win, .port, .evu, .pcie, .faults] G = true) :
    Changes G s₀ (turnAway w v s) := by
  refine h.via ?_ hG
  unfold turnAway
  exact finish_changes (logUe_changes .refl rfl) rfl

theorem fetch_changes {G} {s₀ s : State} {o w c a} (h : Changes G s₀ s)
    (hG : Part.within [.fetch] G = true) :
    Changes G s₀ (Opcode.fetch o w c a s) := by
  refine h.via ?_ hG
  unfold Opcode.fetch
  exact .forEach .refl fun _ _ h => (access_changes h rfl)

theorem go_changes {G} {s₀ s : State} {o : Opcode} {w c a} (h : Changes G s₀ s)
    (hact : ∀ w c a s, Changes G s₀ s → Changes G s₀ (o.act w c a s))
    (hG : Part.within [.win, .port, .evu, .pcie, .faults, .fetch] G = true) : Changes G s₀ (o.go w c a s) := by
  have hfetch : Changes G s₀ (o.fetch w c a s) := fetch_changes h (Part.within_trans rfl hG)
  unfold Opcode.go
  split
  · exact turnAway_changes hfetch (Part.within_trans rfl hG)
  · exact hact _ _ _ _ hfetch

theorem run_changes {G} {s₀ s : State} {o : Opcode} {w c a} (h : Changes G s₀ s)
    (hact : ∀ w c a s, Changes G s₀ s → Changes G s₀ (o.act w c a s))
    (hG : Part.within [.win, .port, .evu, .pcie, .faults, .fetch] G = true) : Changes G s₀ (o.run w c a s) := by
  unfold Opcode.run
  split
  · exact turnAway_changes (fetch_changes h (Part.within_trans rfl hG)) (Part.within_trans rfl hG)
  · exact acquire_changes h (fun _ h => go_changes h hact hG) (Part.within_trans rfl hG)

theorem startNext_changes {G} {s₀ s : State} {w run} (h : Changes G s₀ s)
    (hrun : ∀ op w c a s, Changes G s₀ s → Changes G s₀ (run op w c a s))
    (hG : Part.within [.win, .port] G = true) : Changes G s₀ (startNext w run s) := by
  unfold startNext
  dsimp only
  split
  · exact hrun _ _ _ _ _ (modWin_changes (h.set_port (Part.within_trans rfl hG)) (Part.within_trans rfl hG))
  · exact h

theorem issue_changes {G} {s₀ s : State} {w op c} (h : Changes G s₀ s)
    (hG : Part.within [.win, .port] G = true) :
    Changes G s₀ (issue w op c s) := by
  refine h.via ?_ hG
  unfold issue
  exact .ite .refl (.ite (modWin_changes .refl rfl) (modWin_changes (.set_port .refl rfl) rfl))

theorem bootGate_changes {G} {s₀ s : State} {op run w c a} (h : Changes G s₀ s)
    (hrun : ∀ w c a s, Changes G s₀ s → Changes G s₀ (run w c a s))
    (hG : Part.within [.win, .port, .evu, .pcie] G = true) : Changes G s₀ (bootGate op run w c a s) := by
  unfold bootGate
  split
  · exact hrun _ _ _ _ h
  · exact finish0_changes h hG

theorem portRow_changes {G} {s₀ s : State} {w op c run} (h : Changes G s₀ s)
    (hrun : ∀ w c a s, Changes G s₀ s → Changes G s₀ (run w c a s))
    (hG : Part.within [.win, .port, .evu, .pcie] G = true) : Changes G s₀ (portRow w op c run s) := by
  have hissue : Changes G s₀ (issue w op c s) := issue_changes h (Part.within_trans rfl hG)
  unfold portRow
  dsimp only
  split
  · exact startNext_changes hissue (fun _ _ _ _ _ h => bootGate_changes h hrun hG) (Part.within_trans rfl hG)
  · exact hissue

theorem finishGen_changes {G} {s₀ s : State} {w q0 q1} (h : Changes G s₀ s)
    (hG : Part.within [.win, .port, .evu, .pcie] G = true) :
    Changes G s₀ (finishGen w q0 q1 s) := by
  refine h.via ?_ hG
  unfold finishGen
  exact finish_changes (bumpDevice_changes .refl rfl) rfl

/-! ## Events -/

theorem aroundCtx_changes {G} {s₀ s : State} {c f} (h : Changes G s₀ s)
    (hf : ∀ s, Changes G s₀ s → Changes G s₀ (f s)) (hG : Part.within [.pcie] G = true) :
    Changes G s₀ (aroundCtx c f s) :=
  (hf s h).foldl fun _ _ h => msixNotify_changes h hG

theorem claim_changes {G} {s₀ s : State} {n t} (h : Changes G s₀ s)
    (hG : Part.within [.evu, .pcie] G = true) :
    Changes G s₀ (claim n t s) := by
  refine h.via ?_ hG
  unfold claim
  exact withSrc_changes .refl rfl

theorem answer_changes {G} {s₀ s : State} {p} (h : Changes G s₀ s)
    (hG : Part.within [.evu, .pcie, .mon, .free] G = true) :
    Changes G s₀ (answer p s) := by
  refine h.via ?_ hG
  unfold answer
  dsimp only
  split
  · exact .set_evu (sample_changes (bumpFree_changes (claim_changes .refl rfl) rfl) rfl) rfl
  · exact .set_evu .refl rfl

theorem setWaiting_changes {G} {s₀ s : State} {p b} (h : Changes G s₀ s)
    (hG : Part.within [.evu] G = true) :
    Changes G s₀ (setWaiting p b s) := by
  refine h.via ?_ hG
  unfold setWaiting
  exact .set_evu .refl rfl

theorem unmasked_changes {G} {s₀ s : State} {f v} (h : Changes G s₀ s)
    (hG : Part.within [.pcie] G = true) :
    Changes G s₀ (unmasked f v s) := by
  refine h.via ?_ hG
  unfold unmasked
  exact .ite (sendMsix_changes .refl rfl) (clearPba_changes .refl rfl)

theorem claimOwn_changes {G} {s₀ s : State} {c} (h : Changes G s₀ s)
    (hG : Part.within [.evu, .pcie] G = true) :
    Changes G s₀ (claimOwn c s) := by
  refine h.via ?_ hG
  unfold claimOwn
  split
  · exact claim_changes .refl rfl
  · exact .refl

theorem writeVecDone_changes {G} {s₀ s : State} {c v} (h : Changes G s₀ s)
    (hG : Part.within [.evu, .pcie] G = true) :
    Changes G s₀ (writeVecDone c v s) := by
  refine h.via ?_ hG
  unfold writeVecDone
  exact .dite (fun _ => (.ite (withSrc_changes .refl rfl) .refl)) (fun _ => .refl)

theorem writeEvtPend_changes {G} {s₀ s : State} {c g v} (h : Changes G s₀ s)
    (hG : Part.within [.evu, .pcie] G = true) :
    Changes G s₀ (writeEvtPend c g v s) := by
  refine h.via ?_ hG
  unfold writeEvtPend
  exact .forEach .refl fun _ _ h => (by
    split
    · exact .ite (withSrc_changes h rfl) h
    · exact h)

theorem writeEvtEnable_changes {G} {s₀ s : State} {c g v} (h : Changes G s₀ s)
    (hG : Part.within [.evu, .pcie] G = true) :
    Changes G s₀ (writeEvtEnable c g v s) := by
  refine h.via ?_ hG
  unfold writeEvtEnable
  exact .forEach .refl fun _ _ h => (by
    split
    · exact .ite (withSrc_changes h rfl) h
    · exact h)

theorem clearMerge_changes {G} {s₀ s : State} {c m} (h : Changes G s₀ s)
    (hG : Part.within [.evu] G = true) :
    Changes G s₀ (clearMerge c m s) := by
  refine h.via ?_ hG
  unfold clearMerge
  split
  · exact .ite (modSrc_changes .refl rfl) .refl
  · exact .refl

theorem setHold_changes {G} {s₀ s : State} {b} (h : Changes G s₀ s)
    (hG : Part.within [.evu, .pcie] G = true) :
    Changes G s₀ (setHold b s) := by
  refine h.via ?_ hG
  unfold setHold
  exact aroundCtx_changes .refl (fun _ h => (.set_evu h rfl)) rfl

theorem routeSource_changes {G} {s₀ s : State} {n c prio mask} (h : Changes G s₀ s)
    (hG : Part.within [.evu, .pcie] G = true) :
    Changes G s₀ (routeSource n c prio mask s) := by
  refine h.via ?_ hG
  unfold routeSource
  exact aroundCtx_changes .refl (fun _ h => (modSrc_changes h rfl)) rfl

theorem returnSource_changes {G} {s₀ s : State} {n} (h : Changes G s₀ s)
    (hG : Part.within [.evu, .pcie] G = true) :
    Changes G s₀ (returnSource n s) := by
  refine h.via ?_ hG
  unfold returnSource
  exact routeSource_changes .refl rfl

theorem actEvtRoute_changes {G} {s₀ s : State} {w c a} (h : Changes G s₀ s)
    (hG : Part.within [.win, .port, .evu, .pcie] G = true) :
    Changes G s₀ (actEvtRoute w c a s) := by
  refine h.via ?_ hG
  unfold actEvtRoute
  exact .dite (fun _ => (finishGen_changes (routeSource_changes .refl rfl) rfl))
      (fun _ => (finish0_changes .refl rfl))

theorem setTimerOwner_changes {G} {s₀ s : State} {t c} (h : Changes G s₀ s)
    (hG : Part.within [.evu, .pcie, .timer] G = true) :
    Changes G s₀ (setTimerOwner t c s) := by
  refine h.via ?_ hG
  unfold setTimerOwner
  exact .ite .refl (.dite (fun _ => (routeSource_changes (.dite
      (fun _ => (routeSource_changes (modTimer_changes .refl rfl) rfl)) (fun _ => (modTimer_changes .refl rfl))) rfl))
      (fun _ => (.dite (fun _ => (routeSource_changes (modTimer_changes .refl rfl) rfl))
      (fun _ => (modTimer_changes .refl rfl)))))

theorem injectLatches_changes {G} {s₀ s : State} (h : Changes G s₀ s)
    (hG : Part.within [.evu, .pcie] G = true) :
    Changes G s₀ (injectLatches s) := by
  refine h.via ?_ hG
  unfold injectLatches
  exact .forEach .refl fun _ _ h => (.ite (withSrc_changes h rfl) h)

/-! ## Faults -/

theorem clearFaults_changes {G} {s₀ s : State} (h : Changes G s₀ s)
    (hG : Part.within [.win, .faults] G = true) :
    Changes G s₀ (clearFaults s) := by
  refine h.via ?_ hG
  unfold clearFaults
  exact .set_win_faults .refl rfl

theorem actFaultClear_changes {G} {s₀ s : State} {w c a} (h : Changes G s₀ s)
    (hG : Part.within [.win, .port, .evu, .pcie, .faults] G = true) :
    Changes G s₀ (actFaultClear w c a s) := by
  refine h.via ?_ hG
  unfold actFaultClear
  exact finish_changes (clearFaults_changes .refl rfl) rfl

theorem restoreFaults_changes {G} {s₀ s : State} (h : Changes G s₀ s)
    (hG : Part.within [.evu, .pcie, .faults] G = true) :
    Changes G s₀ (restoreFaults s) := by
  refine h.via ?_ hG
  unfold restoreFaults
  exact .ite (.set_faults (.forEach (.set_faults .refl rfl) fun _ _ h => (enterFault_changes h rfl)) rfl)
      (.forEach (.set_faults .refl rfl) fun _ _ h => (enterFault_changes h rfl))

/-! ## Timers -/

theorem timerStep_changes {G} {s₀ s : State} {n i} (h : Changes G s₀ s)
    (hG : Part.within [.timer, .evu, .pcie, .power] G = true) : Changes G s₀ (timerStep n i s) := by
  induction n generalizing i s with
  | zero => exact h
  | succ n ih =>
    have hevu : Part.within [.evu, .pcie] G = true := Part.within_trans rfl hG
    have htimer : Part.within [.timer] G = true := Part.within_trans rfl hG
    have hhit : ∀ {u : State} {b : Bool} {k}, Changes G s₀ u → Changes G s₀ (if b then raise k u else u) :=
      fun h => .ite (raise_changes h hevu) h
    have hwake : ∀ {u : State} {p : Prop} [Decidable p] {x : p → WakeSource},
        Changes G s₀ u → Changes G s₀ (if hp : p then wakeRequest (x hp) u else u) :=
      fun h => .dite (fun _ => wakeRequest_changes h (Part.within_trans rfl hG)) fun _ => h
    unfold timerStep
    generalize s.timer[i].tick (effOf s i) = r
    obtain ⟨y, hit, wrap⟩ := r
    have hs := hwake (x := fun hp : ((hit || wrap) = true ∧ 12 ≤ i.1) => .timer ⟨i.1 - 12, by omega⟩)
      (hhit (b := wrap) (k := 217 + 2 * i.1) (hhit (b := hit) (k := 216 + 2 * i.1)
        (modTimer_changes (n := i) (f := fun _ => y) h htimer)))
    refine .ite hs ?_
    split
    · exact hs
    · exact .ite hs (.ite (ih (modTimer_changes hs htimer)) (modTimer_changes hs htimer))

theorem resetTimers_changes {G} {s₀ s : State} (h : Changes G s₀ s)
    (hG : Part.within [.timer] G = true) :
    Changes G s₀ (resetTimers s) := by
  refine h.via ?_ hG
  unfold resetTimers
  exact .forEach .refl fun _ _ h => (.ite h (modTimer_changes h rfl))

/-! ## Commit -/

theorem composeCanvas_changes {G} {s₀ s : State} (h : Changes G s₀ s)
    (hG : Part.within [.epd] G = true) :
    Changes G s₀ (composeCanvas s) := by
  refine h.via ?_ hG
  unfold composeCanvas
  exact .ite .refl (.ite (.set_epd .refl rfl) (.set_epd .refl rfl))

theorem applyOp_changes {G} {s₀ s : State} {h' c id o} (h : Changes G s₀ s)
    (hG : Part.within [.slot] G = true) :
    Changes G s₀ (applyOp h' c id o s) := by
  refine h.via ?_ hG
  unfold applyOp
  split
  · exact modSlot_changes .refl rfl
  · exact .ite (modSlot_changes .refl rfl) .refl

theorem applyPart_changes {G} {s₀ s : State} {p x} (h : Changes G s₀ s)
    (hG : Part.within [.ctx, .evu, .pcie, .slot] G = true) :
    Changes G s₀ (applyPart p x s) := by
  refine h.via ?_ hG
  unfold applyPart
  exact raise_changes (modCtx_changes (.forEach .refl fun _ _ h => (applyOp_changes h rfl)) rfl) rfl

theorem assignPools_changes {G} {s₀ s : State} {hd l} (h : Changes G s₀ s) (hG : Part.within [.free] G = true) :
    Changes G s₀ (assignPools hd l s).2 := by
  induction l generalizing s with
  | nil => exact h
  | cons p l ih =>
    obtain ⟨z, _ | d⟩ := p
    · exact ih h
    · exact ih (bumpFree_changes h hG)

theorem assignParts_changes {G} {s₀ s : State} {l} (h : Changes G s₀ s) (hG : Part.within [.free] G = true) :
    Changes G s₀ (assignParts l s).2 := by
  induction l generalizing s with
  | nil => exact h
  | cons p l ih => exact ih (assignPools_changes h hG)

theorem replaceHeld_changes {G} {s₀ s : State} {c parts} (h : Changes G s₀ s)
    (hG : Part.within [.evu, .pcie, .commits] G = true) :
    Changes G s₀ (replaceHeld c parts s) := by
  refine h.via ?_ hG
  unfold replaceHeld
  exact .ite (.set_commits .refl rfl) (raise_changes (.set_commits .refl rfl) rfl)

theorem acceptCommit_changes {G} {s₀ s : State} {c r parts} (h : Changes G s₀ s)
    (hG : Part.within [.ctx, .port, .evu, .pcie, .slot, .commits, .epd, .free] G = true) :
    Changes G s₀ (acceptCommit c r parts s) := by
  refine h.via ?_ hG
  unfold acceptCommit
  exact .ite (bumpDevice_changes (bumpCtx_changes (modCtx_changes (.set_commits
      (assignParts_changes (replaceHeld_changes .refl rfl) rfl) rfl) rfl) rfl) rfl)
      (composeCanvas_changes (.forEach (bumpDevice_changes (bumpCtx_changes
      (modCtx_changes (.set_commits (assignParts_changes (replaceHeld_changes .refl rfl) rfl) rfl) rfl) rfl) rfl)
      fun _ _ h => (applyPart_changes h rfl)) rfl)

theorem rejectCommit_changes {G} {s₀ s : State} {w c isCheck reason head line} (h : Changes G s₀ s)
    (hG : Part.within [.win, .port, .evu, .pcie] G = true) :
    Changes G s₀ (rejectCommit w c isCheck reason head line s) := by
  refine h.via ?_ hG
  unfold rejectCommit
  exact .ite (reject_changes .refl rfl) (raise_changes (reject_changes .refl rfl) rfl)

theorem askCommit_changes {G} {s₀ s : State} {w c a descs} (h : Changes G s₀ s)
    (hG : Part.within [.fetch] G = true) :
    Changes G s₀ (askCommit w c a descs s) := by
  refine h.via ?_ hG
  unfold askCommit
  dsimp only
  split
  · exact .refl
  · exact .forEach (enqueueRange_changes .refl rfl) fun _ _ h => (enqueueRange_changes h rfl)

theorem readCommit_changes {G} {s₀ s : State} {isCheck w c a} (h : Changes G s₀ s)
    (hG : Part.within [.win, .port, .evu, .pcie, .faults, .fetch] G = true) :
    Changes G s₀ (readCommit isCheck w c a s) := by
  refine h.via ?_ hG
  unfold readCommit
  exact .ite (rejectCommit_changes (logUePart_changes (askCommit_changes .refl rfl) rfl) rfl)
      (.ite (rejectCommit_changes (askCommit_changes .refl rfl) rfl) (.ite
      (finish0_changes (askCommit_changes .refl rfl) rfl) (.ite
      (rejectCommit_changes (logUe_changes (askCommit_changes .refl rfl) rfl) rfl)
      (.ite (rejectCommit_changes (askCommit_changes .refl rfl) rfl) (setPhase_changes (askCommit_changes .refl rfl)
      rfl)))))

theorem actCommitAbort_changes {G} {s₀ s : State} {w c a} (h : Changes G s₀ s)
    (hG : Part.within [.win, .port, .evu, .pcie, .commits] G = true) :
    Changes G s₀ (actCommitAbort w c a s) := by
  refine h.via ?_ hG
  unfold actCommitAbort
  split
  · exact finish0_changes .refl rfl
  · exact .ite (finish0_changes (raise_changes (.set_commits .refl rfl) rfl) rfl) (finish0_changes .refl rfl)

theorem actSeal_changes {G} {s₀ s : State} {w c a} (h : Changes G s₀ s)
    (hG : Part.within [.win, .port, .evu, .pcie, .faults] G = true) :
    Changes G s₀ (actSeal w c a s) := by
  refine h.via ?_ hG
  unfold actSeal
  split
  · exact turnAway_changes .refl rfl
  · exact setPhase_changes .refl rfl

theorem sealCtx_changes {G} {s₀ s : State} {n} (h : Changes G s₀ s)
    (hG : Part.within [.ctx, .fetch] G = true) :
    Changes G s₀ (sealCtx n s) := by
  refine h.via ?_ hG
  unfold sealCtx
  exact .forEach (modCtx_changes .refl rfl) fun _ _ h => (sealQueue_changes h rfl)

theorem decideSeal_changes {G} {s₀ s : State} {w n} (h : Changes G s₀ s)
    (hG : Part.within [.win, .ctx, .port, .evu, .pcie, .fetch] G = true) :
    Changes G s₀ (decideSeal w n s) := by
  refine h.via ?_ hG
  unfold decideSeal
  exact .ite (finish0_changes .refl rfl) (.ite (finish0_changes .refl rfl)
      (.ite (finish0_changes .refl rfl) (.ite (finishGen_changes (sealCtx_changes .refl rfl) rfl)
      (reject_changes .refl rfl))))

theorem decideRequest_changes {G} {s₀ s : State} {w c r} (h : Changes G s₀ s)
    (hG : Part.within [.win, .ctx, .port, .evu, .pcie, .slot, .commits, .epd, .free] G = true) :
    Changes G s₀ (decideRequest w c r s) := by
  refine h.via ?_ hG
  unfold decideRequest
  dsimp only
  split
  · exact finish0_changes .refl rfl
  · exact rejectCommit_changes .refl rfl
  · exact .ite (finish_changes .refl rfl) (finish_changes (acceptCommit_changes .refl rfl) rfl)

theorem decideFallback_changes {G} {s₀ s : State} {i r} (h : Changes G s₀ s)
    (hG : Part.within [.ctx, .port, .evu, .pcie, .faults, .slot, .commits, .epd, .free] G = true) :
    Changes G s₀ (decideFallback i r s) := by
  refine h.via ?_ hG
  unfold decideFallback
  split
  · exact raise_changes (logFault_changes .refl rfl) rfl
  · exact raise_changes (logFault_changes .refl rfl) rfl
  · exact acceptCommit_changes .refl rfl

/-! ## Relief -/

theorem setRuns_changes {G} {s₀ s : State} {h' l} (h : Changes G s₀ s)
    (hG : Part.within [.relief] G = true) :
    Changes G s₀ (setRuns h' l s) := by
  refine h.via ?_ hG
  unfold setRuns
  exact .set_relief .refl rfl

theorem pruneChip_changes {G} {s₀ s : State} (h : Changes G s₀ s)
    (hG : Part.within [.relief] G = true) :
    Changes G s₀ (pruneChip s) := by
  refine h.via ?_ hG
  unfold pruneChip
  exact .set_relief .refl rfl

theorem setTile_changes {G} {s₀ s : State} {h' members tx ty st} (h : Changes G s₀ s)
    (hG : Part.within [.relief] G = true) :
    Changes G s₀ (setTile h' members tx ty st s) := by
  refine h.via ?_ hG
  unfold setTile
  exact setRuns_changes .refl rfl

theorem putChip_changes {G} {s₀ s : State} {k b} (h : Changes G s₀ s)
    (hG : Part.within [.relief] G = true) :
    Changes G s₀ (putChip k b s) := by
  refine h.via ?_ hG
  unfold putChip
  exact .set_relief .refl rfl

theorem accessSpill_changes {G} {s₀ s : State} {write k} (h : Changes G s₀ s)
    (hG : Part.within [.fetch] G = true) :
    Changes G s₀ (accessSpill write k s) := by
  refine h.via ?_ hG
  unfold accessSpill
  exact access_changes .refl rfl

theorem spillTile_changes {G} {s₀ s : State} {h' m t b k} (h : Changes G s₀ s)
    (hG : Part.within [.mem, .memc, .fetch, .relief] G = true) :
    Changes G s₀ (spillTile h' m t b k s) := by
  refine h.via ?_ hG
  unfold spillTile
  exact setTile_changes (accessSpill_changes (write_changes .refl rfl) rfl) rfl

theorem promote_changes {G} {s₀ s : State} {n} (h : Changes G s₀ s) (hG : Part.within
    [.evu, .pcie, .faults, .fetch, .relief] G = true) :
    Changes G s₀ (promote n s) := by
  induction n generalizing s with
  | zero => exact h
  | succ n ih =>
    unfold promote
    split
    · split
      · refine ih (h.via (.ite ?_ ?_) hG)
        · exact setTile_changes (logUe_changes (accessSpill_changes .refl rfl) rfl) rfl
        · exact setTile_changes (putChip_changes (accessSpill_changes .refl rfl) rfl) rfl
      · exact h
    · exact h

theorem freeSlots_changes {G} {s₀ s : State} (h : Changes G s₀ s)
    (hG : Part.within [.evu, .pcie, .faults, .fetch, .relief] G = true) :
    Changes G s₀ (freeSlots s) := by
  refine h.via ?_ hG
  unfold freeSlots
  exact promote_changes (pruneChip_changes .refl rfl) rfl

theorem demote_changes {G} {s₀ s : State} {x} (h : Changes G s₀ s)
    (hG : Part.within [.mem, .memc, .fetch, .relief] G = true) :
    Changes G s₀ (demote x s) := by
  refine h.via ?_ hG
  unfold demote
  split
  · exact .ite (pruneChip_changes (spillTile_changes .refl rfl) rfl) .refl
  · exact .refl

theorem storeTile_changes {G} {s₀ s : State} {h' m t saving b} (h : Changes G s₀ s)
    (hG : Part.within [.mem, .memc, .fetch, .relief] G = true) :
    Changes G s₀ (storeTile h' m t saving b s) := by
  refine h.via ?_ hG
  unfold storeTile
  dsimp only
  split
  · exact setTile_changes (putChip_changes .refl rfl) rfl
  · split
    · exact setTile_changes (putChip_changes (demote_changes .refl rfl) rfl) rfl
    · exact spillTile_changes (demote_changes .refl rfl) rfl
    · exact setTile_changes (demote_changes .refl rfl) rfl

theorem endFlatten_changes {G} {s₀ s : State} (h : Changes G s₀ s)
    (hG : Part.within [.fetch] G = true) :
    Changes G s₀ (endFlatten s) := by
  refine h.via ?_ hG
  unfold endFlatten
  exact .ite (removeRequests_changes .refl rfl) .refl

theorem dirtyRuns_changes {G} {s₀ s : State} {h' p} (h : Changes G s₀ s)
    (hG : Part.within [.evu, .pcie, .faults, .fetch, .relief] G = true) :
    Changes G s₀ (dirtyRuns h' p s) := by
  refine h.via ?_ hG
  unfold dirtyRuns
  exact .ite (freeSlots_changes (endFlatten_changes (setRuns_changes .refl rfl) rfl) rfl) .refl

theorem dropRuns_changes {G} {s₀ s : State} {h'} (h : Changes G s₀ s)
    (hG : Part.within [.evu, .pcie, .faults, .fetch, .relief] G = true) :
    Changes G s₀ (dropRuns h' s) := by
  refine h.via ?_ hG
  unfold dropRuns
  exact freeSlots_changes (endFlatten_changes (setRuns_changes .refl rfl) rfl) rfl

theorem formRuns_changes {G} {s₀ s : State} {h' changed} (h : Changes G s₀ s)
    (hG : Part.within [.evu, .pcie, .faults, .fetch, .relief] G = true) :
    Changes G s₀ (formRuns h' changed s) := by
  refine h.via ?_ hG
  unfold formRuns
  dsimp only
  split
  · exact dropRuns_changes .refl rfl
  · exact freeSlots_changes (endFlatten_changes (setRuns_changes .refl rfl) rfl) rfl

theorem stopServing_changes {G} {s₀ s : State} {c} (h : Changes G s₀ s)
    (hG : Part.within [.fetch, .relief] G = true) :
    Changes G s₀ (stopServing c s) := by
  refine h.via ?_ hG
  unfold stopServing
  exact endFlatten_changes (.forEach .refl fun _ _ h => (setRuns_changes h rfl)) rfl

theorem snoop_changes {G} {s₀ s : State} {a n} (h : Changes G s₀ s)
    (hG : Part.within [.evu, .pcie, .faults, .fetch, .relief] G = true) :
    Changes G s₀ (snoop a n s) := by
  refine h.via ?_ hG
  unfold snoop
  exact .forEach .refl fun _ _ h => (dirtyRuns_changes h rfl)

theorem startTile_changes {G} {s₀ s : State} {h' cfg r t} (h : Changes G s₀ s)
    (hG : Part.within [.fetch, .relief] G = true) :
    Changes G s₀ (startTile h' cfg r t s) := by
  refine h.via ?_ hG
  unfold startTile
  exact .forEach (setTile_changes (.set_relief .refl rfl) rfl) fun _ _ h =>
      (.forEach h fun _ _ h => (enqueue_changes h rfl))

theorem kickFlatten_changes {G} {s₀ s : State} (h : Changes G s₀ s)
    (hG : Part.within [.fetch, .relief] G = true) :
    Changes G s₀ (kickFlatten s) := by
  refine h.via ?_ hG
  unfold kickFlatten
  dsimp only
  refine .ite ?_ ?_
  · exact .refl
  · split
    · exact startTile_changes .refl rfl
    · exact .refl

theorem failFlatten_changes {G} {s₀ s : State} {n} (h : Changes G s₀ s)
    (hG : Part.within [.fetch, .relief] G = true) :
    Changes G s₀ (failFlatten n s) := by
  refine h.via ?_ hG
  unfold failFlatten
  split
  · exact .ite (kickFlatten_changes (endFlatten_changes (setTile_changes .refl rfl) rfl) rfl) .refl
  · exact .refl

theorem finishTile_changes {G} {s₀ s : State} {h' cfg r t} (h : Changes G s₀ s)
    (hG : Part.within [.mem, .memc, .fetch, .relief] G = true) :
    Changes G s₀ (finishTile h' cfg r t s) := by
  refine h.via ?_ hG
  unfold finishTile
  exact .ite (setTile_changes .refl rfl) (.ite (setTile_changes .refl rfl) (storeTile_changes .refl rfl))

theorem actReliefFlush_changes {G} {s₀ s : State} {w c a} (h : Changes G s₀ s)
    (hG : Part.within [.win, .port, .evu, .pcie, .faults, .fetch, .relief] G = true) :
    Changes G s₀ (actReliefFlush w c a s) := by
  refine h.via ?_ hG
  unfold actReliefFlush
  exact finish_changes (.forEach .refl fun _ _ h => (dirtyRuns_changes h rfl)) rfl

/-! ## Caliper -/

theorem startCal_changes {G} {s₀ s : State} {u op w c crc} (h : Changes G s₀ s)
    (hG : Part.within [.cal] G = true) :
    Changes G s₀ (startCal u op w c crc s) := by
  refine h.via ?_ hG
  unfold startCal
  exact modCal_changes .refl rfl

theorem calEvents_changes {G} {s₀ s : State} {u r code} (h : Changes G s₀ s)
    (hG : Part.within [.evu, .pcie] G = true) :
    Changes G s₀ (calEvents u r code s) := by
  refine h.via ?_ hG
  unfold calEvents
  exact .ite (raise_changes (.ite (raise_changes (raise_changes .refl rfl) rfl) (raise_changes .refl rfl)) rfl)
      (.ite (raise_changes (raise_changes .refl rfl) rfl) (raise_changes .refl rfl))

theorem stopCal_changes {G} {s₀ s : State} {u code keep} (h : Changes G s₀ s)
    (hG : Part.within [.evu, .pcie, .fetch, .cal] G = true) :
    Changes G s₀ (stopCal u code keep s) := by
  refine h.via ?_ hG
  unfold stopCal
  dsimp only
  split
  · exact .refl
  · exact calEvents_changes (removeRequests_changes (modCal_changes .refl rfl) rfl) rfl

theorem endCal_changes {G} {s₀ s : State} {u code} (h : Changes G s₀ s)
    (hG : Part.within [.win, .port, .evu, .pcie, .fetch, .cal] G = true) :
    Changes G s₀ (endCal u code s) := by
  refine h.via ?_ hG
  unfold endCal
  dsimp only
  split
  · exact .refl
  · split
    · exact stopCal_changes .refl rfl
    · exact finish_changes (stopCal_changes .refl rfl) rfl

theorem endYielded_changes {G} {s₀ s : State} {u code} (h : Changes G s₀ s)
    (hG : Part.within [.win, .port, .evu, .pcie, .cal] G = true) :
    Changes G s₀ (endYielded u code s) := by
  refine h.via ?_ hG
  unfold endYielded
  dsimp only
  split
  · exact .refl
  · split
    · exact calEvents_changes (modCal_changes .refl rfl) rfl
    · exact finish_changes (calEvents_changes (modCal_changes .refl rfl) rfl) rfl

theorem preemptScan_changes {G} {s₀ s : State} {u} (h : Changes G s₀ s)
    (hG : Part.within [.win, .port, .evu, .pcie, .fetch, .cal] G = true) :
    Changes G s₀ (preemptScan u s) := by
  refine h.via ?_ hG
  unfold preemptScan
  split
  · exact endCal_changes .refl rfl
  · exact endCal_changes .refl rfl
  · exact endCal_changes .refl rfl
  · exact .refl

theorem resetCalUnit_changes {G} {s₀ s : State} {u} (h : Changes G s₀ s)
    (hG : Part.within [.win, .port, .evu, .pcie, .fetch, .cal] G = true) :
    Changes G s₀ (resetCalUnit u s) := by
  refine h.via ?_ hG
  unfold resetCalUnit
  exact modCal_changes (endYielded_changes (endCal_changes .refl rfl) rfl) rfl

theorem askScan_changes {G} {s₀ s : State} {u} (h : Changes G s₀ s)
    (hG : Part.within [.fetch, .cal] G = true) :
    Changes G s₀ (askScan u s) := by
  refine h.via ?_ hG
  unfold askScan
  dsimp only
  split
  · split
    · exact .ite .refl (enqueue_changes (modCal_changes .refl rfl) rfl)
    · exact .refl
  · exact .refl

theorem actScan_changes {G} {s₀ s : State} {w c a} (h : Changes G s₀ s)
    (hG : Part.within [.win, .port, .fetch, .cal] G = true) :
    Changes G s₀ (actScan w c a s) := by
  refine h.via ?_ hG
  unfold actScan
  exact askScan_changes (setPhase_changes (startCal_changes .refl rfl) rfl) rfl

theorem scanReturn_changes {G} {s₀ s : State} {u epoch data bad} (h : Changes G s₀ s)
    (hG : Part.within [.fetch, .cal] G = true) :
    Changes G s₀ (scanReturn u epoch data bad s) := by
  refine h.via ?_ hG
  unfold scanReturn
  dsimp only
  split
  · split
    · exact .ite .refl (.ite (modCal_changes .refl rfl) (.ite (askScan_changes (modCal_changes .refl rfl) rfl)
          (modCal_changes .refl rfl)))
    · exact .refl
  · exact .refl

theorem tapBegin_changes {G} {s₀ s : State} {h'} (h : Changes G s₀ s)
    (hG : Part.within [.cal] G = true) :
    Changes G s₀ (tapBegin h' s) := by
  refine h.via ?_ hG
  unfold tapBegin
  exact .forEach .refl fun _ _ h => (modCal_changes h rfl)

theorem tapFeed_changes {G} {s₀ s : State} {h' y line} (h : Changes G s₀ s)
    (hG : Part.within [.cal] G = true) :
    Changes G s₀ (tapFeed h' y line s) := by
  refine h.via ?_ hG
  unfold tapFeed
  exact .forEach .refl fun _ _ h => (modCal_changes h rfl)

theorem tapCut_changes {G} {s₀ s : State} {h'} (h : Changes G s₀ s)
    (hG : Part.within [.win, .port, .evu, .pcie, .fetch, .cal] G = true) :
    Changes G s₀ (tapCut h' s) := by
  refine h.via ?_ hG
  unfold tapCut
  exact .forEach .refl fun _ _ h => (by
    split
    · exact .ite (endCal_changes h rfl) h
    · exact h)

theorem ingestFeed_changes {G} {s₀ s : State} {g base stride w hgt} (h : Changes G s₀ s)
    (hG : Part.within [.evu, .pcie, .faults, .fetch, .cal] G = true) :
    Changes G s₀ (ingestFeed g base stride w hgt s) := by
  refine h.via ?_ hG
  unfold ingestFeed
  exact .forEach .refl fun _ _ h => (by
    dsimp only
    split
    · split
      · exact .ite (logUeIn_changes (modCal_changes (.forEach h fun _ _ h => (access_changes h rfl)) rfl) rfl) h
      · exact h
    · exact h)

theorem ingestCut_changes {G} {s₀ s : State} {g} (h : Changes G s₀ s)
    (hG : Part.within [.win, .port, .evu, .pcie, .fetch, .cal] G = true) :
    Changes G s₀ (ingestCut g s) := by
  refine h.via ?_ hG
  unfold ingestCut
  exact .forEach .refl fun _ _ h => (by
    split
    · exact .ite (endCal_changes h rfl) h
    · exact h)

theorem startSelftest_changes {G} {s₀ s : State} {w t} (h : Changes G s₀ s)
    (hG : Part.within [.win, .port, .cal] G = true) :
    Changes G s₀ (startSelftest w t s) := by
  refine h.via ?_ hG
  unfold startSelftest
  split
  · exact .refl
  · exact setPhase_changes (startCal_changes .refl rfl) rfl

theorem actSelftest_changes {G} {s₀ s : State} {w c a} (h : Changes G s₀ s)
    (hG : Part.within [.win, .port, .cal] G = true) :
    Changes G s₀ (actSelftest w c a s) := by
  refine h.via ?_ hG
  unfold actSelftest
  dsimp only
  refine .ite ?_ ?_
  · exact startSelftest_changes .refl rfl
  · split
    · exact startSelftest_changes .refl rfl
    · exact startSelftest_changes (take_changes .refl rfl) rfl
    · exact setPhase_changes .refl rfl

theorem endSelftest_changes {G} {s₀ s : State} {u t f} (h : Changes G s₀ s)
    (hG : Part.within [.win, .port, .evu, .pcie, .faults, .fetch, .cal] G = true) :
    Changes G s₀ (endSelftest u t f s) := by
  refine h.via ?_ hG
  unfold endSelftest
  exact .ite (endCal_changes .refl rfl) (logFault_changes (endCal_changes .refl rfl) rfl)

theorem yieldSelftest_changes {G} {s₀ s : State} {u r} (h : Changes G s₀ s)
    (hG : Part.within [.port, .cal] G = true) :
    Changes G s₀ (yieldSelftest u r s) := by
  refine h.via ?_ hG
  unfold yieldSelftest
  exact .set_port (modCal_changes .refl rfl) rfl

/-! ## Synth -/

theorem loadSyn_changes {G} {s₀ s : State} {y c starts} (h : Changes G s₀ s)
    (hG : Part.within [.syn] G = true) :
    Changes G s₀ (loadSyn y c starts s) := by
  refine h.via ?_ hG
  unfold loadSyn
  exact modSyn_changes .refl rfl

theorem actClockConfig_changes {G} {s₀ s : State} {w c a} (h : Changes G s₀ s)
    (hG : Part.within [.win, .port, .syn] G = true) :
    Changes G s₀ (actClockConfig w c a s) := by
  refine h.via ?_ hG
  unfold actClockConfig
  split
  · exact .refl
  · exact setPhase_changes (loadSyn_changes .refl rfl) rfl

theorem actPhaseStep_changes {G} {s₀ s : State} {w c a} (h : Changes G s₀ s)
    (hG : Part.within [.win, .port, .syn] G = true) :
    Changes G s₀ (actPhaseStep w c a s) := by
  refine h.via ?_ hG
  unfold actPhaseStep
  split
  · exact .refl
  · exact setPhase_changes (modSyn_changes .refl rfl) rfl

theorem cutPhaseStep_changes {G} {s₀ s : State} {y} (h : Changes G s₀ s)
    (hG : Part.within [.win, .port, .evu, .pcie, .syn, .free] G = true) :
    Changes G s₀ (cutPhaseStep y s) := by
  refine h.via ?_ hG
  unfold cutPhaseStep
  dsimp only
  split
  · exact .refl
  · exact finish_changes (modSyn_changes (bumpFree_changes .refl rfl) rfl) rfl

theorem startOutput_changes {G} {s₀ s : State} {y byRelock} (h : Changes G s₀ s)
    (hG : Part.within [.evu, .pcie, .syn] G = true) :
    Changes G s₀ (startOutput y byRelock s) := by
  refine h.via ?_ hG
  unfold startOutput
  exact .ite (raise_changes (modSyn_changes .refl rfl) rfl) (modSyn_changes .refl rfl)

/-! ## Epd -/

theorem epdAccess_changes {G} {s₀ s : State} {write a n} (h : Changes G s₀ s)
    (hG : Part.within [.fetch] G = true) :
    Changes G s₀ (epdAccess write a n s) := by
  refine h.via ?_ hG
  unfold epdAccess
  exact access_changes .refl rfl

theorem writeRows_changes {G} {s₀ s : State} {base c f} (h : Changes G s₀ s)
    (hG : Part.within [.mem, .memc] G = true) :
    Changes G s₀ (writeRows base c f s) := by
  refine h.via ?_ hG
  unfold writeRows
  exact .forEach .refl fun _ _ h => (write_changes h rfl)

theorem writeCrc_changes {G} {s₀ s : State} {c k} (h : Changes G s₀ s)
    (hG : Part.within [.mem, .memc] G = true) :
    Changes G s₀ (writeCrc c k s) := by
  refine h.via ?_ hG
  unfold writeCrc
  exact write_changes .refl rfl

theorem writeCrcs_changes {G} {s₀ s : State} {c} (h : Changes G s₀ s)
    (hG : Part.within [.mem, .memc, .fetch] G = true) :
    Changes G s₀ (writeCrcs c s) := by
  refine h.via ?_ hG
  unfold writeCrcs
  exact epdAccess_changes (.forEach .refl fun _ _ h => (writeCrc_changes h rfl)) rfl

theorem accessPanel_changes {G} {s₀ s : State} {c} (h : Changes G s₀ s)
    (hG : Part.within [.fetch] G = true) :
    Changes G s₀ (accessPanel c s) := by
  refine h.via ?_ hG
  unfold accessPanel
  exact epdAccess_changes (epdAccess_changes .refl rfl) rfl

theorem initPanel_changes {G} {s₀ s : State} {c} (h : Changes G s₀ s)
    (hG : Part.within [.mem, .memc, .fetch] G = true) :
    Changes G s₀ (initPanel c s) := by
  refine h.via ?_ hG
  unfold initPanel
  exact writeCrcs_changes (accessPanel_changes (writeRows_changes (writeRows_changes .refl rfl) rfl) rfl) rfl

theorem takeHeadE_changes {G} {s₀ s : State} {b} (h : Changes G s₀ s)
    (hG : Part.within [.mem, .memc, .fetch, .epd] G = true) :
    Changes G s₀ (takeHeadE b s) := by
  refine h.via ?_ hG
  unfold takeHeadE
  dsimp only
  split
  · exact .ite (composeCanvas_changes (.set_epd (.ite (initPanel_changes
        (.ite (epdAccess_changes (write_changes .refl rfl) rfl) .refl) rfl)
        (.ite (epdAccess_changes (write_changes .refl rfl) rfl) .refl)) rfl) rfl)
        (.set_epd (.ite (initPanel_changes (.ite (epdAccess_changes (write_changes .refl rfl) rfl) .refl) rfl)
        (.ite (epdAccess_changes (write_changes .refl rfl) rfl) .refl)) rfl)
  · exact .refl

theorem accessLayers_changes {G} {s₀ s : State} {c} (h : Changes G s₀ s)
    (hG : Part.within [.fetch] G = true) :
    Changes G s₀ (accessLayers c s) := by
  refine h.via ?_ hG
  unfold accessLayers
  exact .forEach .refl fun _ _ h => (.forEach h fun _ _ h => (access_changes h rfl))

theorem writeCanvas_changes {G} {s₀ s : State} {c} (h : Changes G s₀ s)
    (hG : Part.within [.mem, .memc, .evu, .pcie, .faults, .fetch, .epd, .free] G = true) :
    Changes G s₀ (writeCanvas c s) := by
  refine h.via ?_ hG
  unfold writeCanvas
  exact raise_changes (.set_epd (epdAccess_changes (accessLayers_changes
      (logUe_changes (bumpFree_changes (writeRows_changes .refl rfl) rfl) rfl) rfl) rfl) rfl) rfl

theorem writePanel_changes {G} {s₀ s : State} {r c} (h : Changes G s₀ s)
    (hG : Part.within [.mem, .memc, .fetch] G = true) :
    Changes G s₀ (writePanel r c s) := by
  refine h.via ?_ hG
  unfold writePanel
  exact writeCrcs_changes (accessPanel_changes (writeRows_changes (writeRows_changes .refl rfl) rfl) rfl) rfl

theorem setRun_changes {G} {s₀ s : State} {r} (h : Changes G s₀ s)
    (hG : Part.within [.epd] G = true) :
    Changes G s₀ (setRun r s) := by
  refine h.via ?_ hG
  unfold setRun
  exact .set_epd .refl rfl

theorem releaseAdc_changes {G} {s₀ s : State} (h : Changes G s₀ s)
    (hG : Part.within [.adc] G = true) :
    Changes G s₀ (releaseAdc s) := by
  refine h.via ?_ hG
  unfold releaseAdc
  exact .set_adc .refl rfl

theorem endEpd_changes {G} {s₀ s : State} {r code q0} (h : Changes G s₀ s)
    (hG : Part.within [.win, .port, .evu, .pcie, .power, .epd, .adc] G = true) :
    Changes G s₀ (endEpd r code q0 s) := by
  refine h.via ?_ hG
  unfold endEpd
  exact .ite (.set_epd (.ite (reject_changes (raise_changes (setPd_changes
      (.set_adc (releaseAdc_changes (.set_epd .refl rfl) rfl) rfl) rfl) rfl) rfl)
      (finish_changes (raise_changes (setPd_changes (.set_adc (releaseAdc_changes (.set_epd .refl rfl) rfl) rfl) rfl)
      rfl) rfl)) rfl) (.ite (reject_changes (raise_changes (setPd_changes
      (.set_adc (releaseAdc_changes (.set_epd .refl rfl) rfl) rfl) rfl) rfl) rfl)
      (finish_changes (raise_changes (setPd_changes (.set_adc (releaseAdc_changes (.set_epd .refl rfl) rfl) rfl) rfl)
      rfl) rfl))

theorem railsFall_changes {G} {s₀ s : State} {r code q0} (h : Changes G s₀ s)
    (hG : Part.within [.epd] G = true) :
    Changes G s₀ (railsFall r code q0 s) := by
  refine h.via ?_ hG
  unfold railsFall
  exact setRun_changes (.set_epd .refl rfl) rfl

theorem interruptEpd_changes {G} {s₀ s : State} {code} (h : Changes G s₀ s)
    (hG : Part.within [.mem, .memc, .win, .port, .evu, .pcie, .power, .fetch, .epd, .adc, .cal] G = true) :
    Changes G s₀ (interruptEpd code s) := by
  refine h.via ?_ hG
  unfold interruptEpd
  split
  · split
    · exact endEpd_changes .refl rfl
    · exact endEpd_changes .refl rfl
    · exact endEpd_changes (by
        split
        · exact stopCal_changes .refl rfl
        · exact .refl) rfl
    · exact railsFall_changes .refl rfl
    · exact railsFall_changes (writePanel_changes .refl rfl) rfl
    · exact .refl
  · exact .refl

theorem scanCanvas_changes {G} {s₀ s : State} {r} (h : Changes G s₀ s)
    (hG : Part.within [.fetch, .epd, .cal] G = true) :
    Changes G s₀ (scanCanvas r s) := by
  refine h.via ?_ hG
  unfold scanCanvas
  dsimp only
  split
  · exact setRun_changes (startCal_changes (access_changes .refl rfl) rfl) rfl
  · exact .refl

theorem canvasScanned_changes {G} {s₀ s : State} {u} (h : Changes G s₀ s)
    (hG : Part.within [.win, .port, .evu, .pcie, .faults, .power, .fetch, .epd, .adc, .cal] G = true) :
    Changes G s₀ (canvasScanned u s) := by
  refine h.via ?_ hG
  unfold canvasScanned
  dsimp only
  split
  · refine .ite ?_ ?_
    · exact .refl
    · split
      · exact endEpd_changes (raise_changes (logUe_changes (stopCal_changes .refl rfl) rfl) rfl) rfl
      · exact .ite (setRun_changes (stopCal_changes (modCal_changes .refl rfl) rfl) rfl)
            (endEpd_changes (raise_changes (stopCal_changes (modCal_changes .refl rfl) rfl) rfl) rfl)
  · exact .refl

theorem epdCalReset_changes {G} {s₀ s : State} {u} (h : Changes G s₀ s)
    (hG : Part.within [.win, .port, .evu, .pcie, .power, .epd, .adc] G = true) :
    Changes G s₀ (epdCalReset u s) := by
  refine h.via ?_ hG
  unfold epdCalReset
  split
  · exact .ite (endEpd_changes .refl rfl) .refl
  · exact .refl

theorem repairBlock_changes {G} {s₀ s : State} {c k} (h : Changes G s₀ s)
    (hG : Part.within [.mem, .memc, .evu, .pcie, .faults, .fetch] G = true) :
    Changes G s₀ (repairBlock c k s) := by
  refine h.via ?_ hG
  unfold repairBlock
  exact raise_changes (logFault_changes (epdAccess_changes (.forEach
      (epdAccess_changes (writeCrc_changes (epdAccess_changes (write_changes .refl rfl) rfl) rfl) rfl) fun _ _ h =>
      (write_changes h rfl)) rfl) rfl) rfl

theorem checkLedger_changes {G} {s₀ s : State} {c} (h : Changes G s₀ s)
    (hG : Part.within [.mem, .memc, .evu, .pcie, .faults, .fetch] G = true) :
    Changes G s₀ (checkLedger c s) := by
  refine h.via ?_ hG
  unfold checkLedger
  exact .forEach (epdAccess_changes (epdAccess_changes .refl rfl) rfl) fun _ _ h =>
      (.ite (repairBlock_changes h rfl) h)

theorem startDrive_changes {G} {s₀ s : State} {r c} (h : Changes G s₀ s)
    (hG : Part.within [.evu, .pcie, .epd] G = true) :
    Changes G s₀ (startDrive r c s) := by
  refine h.via ?_ hG
  unfold startDrive
  exact raise_changes (setRun_changes .refl rfl) rfl

theorem reportRail_changes {G} {s₀ s : State} {k arg} (h : Changes G s₀ s)
    (hG : Part.within [.evu, .pcie, .faults] G = true) :
    Changes G s₀ (reportRail k arg s) := by
  refine h.via ?_ hG
  unfold reportRail
  exact raise_changes (logFault_changes .refl rfl) rfl

theorem finishDrive_changes {G} {s₀ s : State} {r c} (h : Changes G s₀ s)
    (hG : Part.within [.mem, .memc, .fetch, .epd] G = true) :
    Changes G s₀ (finishDrive r c s) := by
  refine h.via ?_ hG
  unfold finishDrive
  exact railsFall_changes (writePanel_changes .refl rfl) rfl

theorem accessRow_changes {G} {s₀ s : State} {r c} (h : Changes G s₀ s)
    (hG : Part.within [.fetch] G = true) :
    Changes G s₀ (accessRow r c s) := by
  refine h.via ?_ hG
  unfold accessRow
  exact .ite (epdAccess_changes (epdAccess_changes (epdAccess_changes .refl rfl) rfl) rfl)
      (epdAccess_changes (epdAccess_changes .refl rfl) rfl)

theorem holdErrors_changes {G} {s₀ s : State} {r c} (h : Changes G s₀ s)
    (hG : Part.within [.evu, .pcie, .faults] G = true) :
    Changes G s₀ (holdErrors r c s).2 := by
  have hrow : ∀ (l : List (Nat × Nat)) (q : EpdRun) (u : State), Changes G s₀ u →
      Changes G s₀ (l.foldl (fun (r, s) (x, w) => if (r.heldFrom c x r.row).isSome then (r, s)
        else ({ r with stuck := r.stuck ++ [(r.row * c.width + x, r.phase - 1)] }, logUe (some w) s)) (q, u)).2 := by
    intro l
    induction l with
    | nil => exact fun _ _ h => h
    | cons x l ih =>
      intro q u h
      rw [List.foldl_cons]
      dsimp only
      split
      · exact ih _ _ h
      · exact ih _ _ (logUe_changes h hG)
  exact hrow _ _ _ h

theorem powerEpd_changes {G} {s₀ s : State} (h : Changes G s₀ s)
    (hG : Part.within [.port, .power, .adc, .free] G = true) :
    Changes G s₀ (powerEpd s) := by
  refine h.via ?_ hG
  unfold powerEpd
  exact .ite (.set_port_adc (setPd_changes (bumpFree_changes .refl rfl) rfl) rfl)
      (setPd_changes (bumpFree_changes .refl rfl) rfl)

theorem startUpdate_changes {G} {s₀ s : State} {w a u} (h : Changes G s₀ s)
    (hG : Part.within [.win, .port, .power, .fetch, .epd, .adc, .cal, .free] G = true) :
    Changes G s₀ (startUpdate w a u s) := by
  refine h.via ?_ hG
  unfold startUpdate
  exact .ite (setRun_changes (setPhase_changes (powerEpd_changes .refl rfl) rfl) rfl)
      (scanCanvas_changes (setPhase_changes (powerEpd_changes .refl rfl) rfl) rfl)

theorem actEpdUpdate_changes {G} {s₀ s : State} {w c a} (h : Changes G s₀ s)
    (hG : Part.within [.win, .port, .power, .fetch, .epd, .adc, .cal, .free] G = true) :
    Changes G s₀ (actEpdUpdate w c a s) := by
  refine h.via ?_ hG
  unfold actEpdUpdate
  split
  · exact startUpdate_changes .refl rfl
  · exact startUpdate_changes (take_changes .refl rfl) rfl
  · exact setPhase_changes .refl rfl

theorem actEpdClear_changes {G} {s₀ s : State} {w c a} (h : Changes G s₀ s)
    (hG : Part.within [.win, .port, .power, .epd, .adc, .free] G = true) :
    Changes G s₀ (actEpdClear w c a s) := by
  refine h.via ?_ hG
  unfold actEpdClear
  exact setRun_changes (setPhase_changes (powerEpd_changes (.ite (.set_epd .refl rfl) .refl) rfl) rfl) rfl

/-! ## Links -/

theorem sendMsa_changes {G} {s₀ s : State} {h' next} (h : Changes G s₀ s)
    (hG : Part.within [.head] G = true) :
    Changes G s₀ (sendMsa h' next s) := by
  refine h.via ?_ hG
  unfold sendMsa
  dsimp only
  split
  · exact .ite (modHead_changes .refl rfl) .refl
  · exact .refl

/-! ## Protected -/

theorem protFeed_changes {G} {s₀ s : State} {h' y line} (h : Changes G s₀ s)
    (hG : Part.within [.prot] G = true) :
    Changes G s₀ (protFeed h' y line s) := by
  refine h.via ?_ hG
  unfold protFeed
  exact modProt_changes .refl rfl

theorem actProtectLoad_changes {G} {s₀ s : State} {w c a} (h : Changes G s₀ s)
    (hG : Part.within [.win, .port, .evu, .pcie, .faults, .prot] G = true) :
    Changes G s₀ (actProtectLoad w c a s) := by
  refine h.via ?_ hG
  unfold actProtectLoad
  dsimp only
  refine .ite ?_ ?_
  · exact reject_changes (logUePart_changes .refl rfl) rfl
  · split
    · exact finish0_changes .refl rfl
    · exact .ite (finish_changes .refl rfl) (.ite (reject_changes (logUePart_changes .refl rfl) rfl)
          (finish_changes (modProt_changes .refl rfl) rfl))

theorem holdImage_changes {G} {s₀ s : State} {w a} (h : Changes G s₀ s)
    (hG : Part.within [.win, .port, .evu, .pcie, .prot] G = true) :
    Changes G s₀ (holdImage w a s) := by
  refine h.via ?_ hG
  unfold holdImage
  dsimp only
  split
  · exact finish0_changes .refl rfl
  · exact setPhase_changes (modProt_changes .refl rfl) rfl

theorem lockHeld_changes {G} {s₀ s : State} {w c a} (h : Changes G s₀ s)
    (hG : Part.within [.win, .port, .evu, .pcie, .faults, .prot] G = true) :
    Changes G s₀ (lockHeld w c a s) := by
  refine h.via ?_ hG
  unfold lockHeld
  split
  · exact turnAway_changes .refl rfl
  · exact holdImage_changes .refl rfl

theorem actProtectLock_changes {G} {s₀ s : State} {w c a} (h : Changes G s₀ s)
    (hG : Part.within [.win, .port, .evu, .pcie, .faults, .fetch, .prot, .cal] G = true) :
    Changes G s₀ (actProtectLock w c a s) := by
  refine h.via ?_ hG
  unfold actProtectLock
  exact .ite (lockHeld_changes .refl rfl) (acquire_changes (preemptScan_changes .refl rfl)
      (fun _ h => (lockHeld_changes h rfl)) rfl)

theorem takeLock_changes {G} {s₀ s : State} {h'} (h : Changes G s₀ s)
    (hG : Part.within [.win, .port, .evu, .pcie, .prot] G = true) :
    Changes G s₀ (takeLock h' s) := by
  refine h.via ?_ hG
  unfold takeLock
  dsimp only
  split
  · exact finishGen_changes (modProt_changes .refl rfl) rfl
  · exact .refl

theorem cancelLock_changes {G} {s₀ s : State} {h'} (h : Changes G s₀ s)
    (hG : Part.within [.prot] G = true) :
    Changes G s₀ (cancelLock h' s) := by
  refine h.via ?_ hG
  unfold cancelLock
  exact modProt_changes .refl rfl

theorem takeRelease_changes {G} {s₀ s : State} {h'} (h : Changes G s₀ s)
    (hG : Part.within [.prot] G = true) :
    Changes G s₀ (takeRelease h' s) := by
  refine h.via ?_ hG
  unfold takeRelease
  exact modProt_changes .refl rfl

theorem actProtectRelease_changes {G} {s₀ s : State} {w c a} (h : Changes G s₀ s)
    (hG : Part.within [.win, .port, .evu, .pcie, .prot] G = true) :
    Changes G s₀ (actProtectRelease w c a s) := by
  refine h.via ?_ hG
  unfold actProtectRelease
  dsimp only
  split
  · exact finishGen_changes (takeRelease_changes .refl rfl) rfl
  · exact setPhase_changes .refl rfl

theorem protBoundary_changes {G} {s₀ s : State} {h' all} (h : Changes G s₀ s)
    (hG : Part.within [.win, .port, .evu, .pcie, .prot] G = true) :
    Changes G s₀ (protBoundary h' all s) := by
  refine h.via ?_ hG
  unfold protBoundary
  dsimp only
  split
  · exact .refl
  · split
    · split
      · exact takeLock_changes .refl rfl
      · exact finishGen_changes (takeRelease_changes .refl rfl) rfl
      · exact .refl
    · exact .refl

theorem mismatch_changes {G} {s₀ s : State} {h'} (h : Changes G s₀ s)
    (hG : Part.within [.evu, .pcie, .faults, .prot] G = true) :
    Changes G s₀ (mismatch h' s) := by
  refine h.via ?_ hG
  unfold mismatch
  dsimp only
  split
  · exact .ite (raise_changes (.ite (logFault_changes (.set_faults (modProt_changes .refl rfl) rfl) rfl)
        (.set_faults (modProt_changes .refl rfl) rfl)) rfl) (raise_changes
        (raise_changes (.ite (logFault_changes (.set_faults (modProt_changes .refl rfl) rfl) rfl)
        (.set_faults (modProt_changes .refl rfl) rfl)) rfl) rfl)
  · exact raise_changes (.ite (logFault_changes (.set_faults (modProt_changes .refl rfl) rfl) rfl)
        (.set_faults (modProt_changes .refl rfl) rfl)) rfl

/-! ## Scan -/

theorem applyLive_changes {G} {s₀ s : State} {h'} (h : Changes G s₀ s)
    (hG : Part.within [.head] G = true) :
    Changes G s₀ (applyLive h' s) := by
  refine h.via ?_ hG
  unfold applyLive
  exact modHead_changes .refl rfl

theorem removeGone_changes {G} {s₀ s : State} {h'} (h : Changes G s₀ s)
    (hG : Part.within [.memc, .fetch, .slot, .comp] G = true) :
    Changes G s₀ (removeGone h' s) := by
  refine h.via ?_ hG
  unfold removeGone
  exact zeroMay_changes (modComp_changes (.forEach .refl fun _ _ h => (.ite h (modSlot_changes h rfl))) rfl) rfl

theorem applyTerrs_changes {G} {s₀ s : State} {h'} (h : Changes G s₀ s)
    (hG : Part.within [.ctx] G = true) :
    Changes G s₀ (applyTerrs h' s) := by
  refine h.via ?_ hG
  unfold applyTerrs
  exact .forEach .refl fun _ _ h => (by
    dsimp only
    refine .ite ?_ ?_
    · exact h
    · split
      · exact h
      · exact modCtx_changes h rfl)

theorem applyDue_changes {G} {s₀ s : State} {h'} (h : Changes G s₀ s)
    (hG : Part.within [.ctx, .evu, .pcie, .faults, .mon, .slot, .commits] G = true) :
    Changes G s₀ (applyDue h' s) := by
  refine h.via ?_ hG
  unfold applyDue
  exact .set_commits (.forEach .refl fun _ _ h => (by
    dsimp only
    split
    · exact h
    · exact sample_changes (applyPart_changes (.ite (logFault_changes h rfl) h) rfl) rfl)) rfl

theorem applySafe_changes {G} {s₀ s : State} {h'} (h : Changes G s₀ s)
    (hG : Part.within [.evu, .pcie, .prot] G = true) :
    Changes G s₀ (applySafe h' s) := by
  refine h.via ?_ hG
  unfold applySafe
  exact .ite (.ite (modProt_changes .refl rfl) (raiseHead_changes (modProt_changes .refl rfl) rfl)) .refl

theorem applyIngest_changes {G} {s₀ s : State} {h'} (h : Changes G s₀ s)
    (hG : Part.within [.relay] G = true) :
    Changes G s₀ (applyIngest h' s) := by
  refine h.via ?_ hG
  unfold applyIngest
  exact .forEach .refl fun _ _ h => (.ite (modIngest_changes h rfl) h)

theorem applyPolicers_changes {G} {s₀ s : State} {h'} (h : Changes G s₀ s)
    (hG : Part.within [.fetch] G = true) :
    Changes G s₀ (applyPolicers h' s) := by
  refine h.via ?_ hG
  unfold applyPolicers
  exact .forEach .refl fun _ _ h => (by
    dsimp only
    split
    · exact setPolicer_changes h rfl
    · exact recomputeDs_changes h rfl)

theorem applyBoundary_changes {G} {s₀ s : State} {h'} (h : Changes G s₀ s)
    (hG : Part.within [.memc, .win, .ctx, .port, .evu, .pcie, .faults, .mon, .fetch, .slot, .commits, .comp, .relief,
        .prot, .head, .relay] G = true) :
    Changes G s₀ (applyBoundary h' s) := by
  refine h.via ?_ hG
  unfold applyBoundary
  exact formRuns_changes (applyIngest_changes (applySafe_changes (protBoundary_changes
      (applyPolicers_changes (applyDue_changes (applyTerrs_changes (removeGone_changes
      (applyLive_changes (modHead_changes .refl rfl) rfl) rfl) rfl) rfl) rfl) rfl) rfl) rfl) rfl

theorem viewOf_changes {G} {s₀ s : State} {h' next} (h : Changes G s₀ s)
    (hG : Part.within [.memc, .win, .ctx, .port, .evu, .pcie, .faults, .mon, .fetch, .slot, .commits, .comp, .relief,
        .prot, .head, .relay] G = true) :
    Changes G s₀ (viewOf s h' next) := by
  refine h.via ?_ hG
  unfold viewOf
  exact .ite (applyBoundary_changes .refl rfl) .refl

theorem logExtent_changes {G} {s₀ s : State} {h' z l} (h : Changes G s₀ s)
    (hG : Part.within [.evu, .pcie, .faults, .comp] G = true) :
    Changes G s₀ (logExtent h' z l s) := by
  refine h.via ?_ hG
  unfold logExtent
  exact .ite .refl (logFault_changes (modComp_changes .refl rfl) rfl)

theorem requestRange_changes {G} {s₀ s : State} {h' frame z l v x} (h : Changes G s₀ s)
    (hG : Part.within [.evu, .pcie, .faults, .fetch, .comp] G = true) :
    Changes G s₀ (requestRange h' frame z l v x s) := by
  refine h.via ?_ hG
  unfold requestRange
  exact .ite (enqueue_changes (modComp_changes .refl rfl) rfl) (logExtent_changes .refl rfl)

theorem requestLine_changes {G} {s₀ s : State} {h' y next} (h : Changes G s₀ s)
    (hG : Part.within [.evu, .pcie, .faults, .fetch, .comp] G = true) :
    Changes G s₀ (requestLine h' y next s) := by
  refine h.via ?_ hG
  unfold requestLine
  dsimp only
  split
  · exact .refl
  · exact .forEach (modComp_changes .refl rfl) fun _ _ h => (.forEach h fun _ _ h => (requestRange_changes h rfl))

theorem passLine_changes {G} {s₀ s : State} {h' cfg next y} (h : Changes G s₀ s)
    (hG : Part.within [.evu, .pcie, .faults, .fetch, .comp, .relief] G = true) :
    Changes G s₀ (passLine h' cfg next y s) := by
  refine h.via ?_ hG
  unfold passLine
  exact .ite (modComp_changes .refl rfl) (freeSlots_changes (modComp_changes .refl rfl) rfl)

theorem storeLine_changes {G} {s₀ s : State} {h' cfg} (h : Changes G s₀ s)
    (hG : Part.within [.evu, .pcie, .faults, .fetch, .comp, .relief] G = true) :
    Changes G s₀ (storeLine h' cfg s) := by
  refine h.via ?_ hG
  unfold storeLine
  exact passLine_changes (modComp_changes .refl rfl) rfl

theorem recompose_changes {G} {s₀ s : State} {h'} (h : Changes G s₀ s)
    (hG : Part.within [.comp] G = true) :
    Changes G s₀ (recompose h' s) := by
  refine h.via ?_ hG
  unfold recompose
  split
  · exact .refl
  · exact modComp_changes .refl rfl

theorem calibrate_changes {G} {s₀ s : State} (h : Changes G s₀ s)
    (hG : Part.within [.memc, .evu, .pcie, .mon] G = true) :
    Changes G s₀ (calibrate s) := by
  refine h.via ?_ hG
  unfold calibrate
  exact sample_changes (.set_memc .refl rfl) rfl

theorem tryCal_changes {G} {s₀ s : State} (h : Changes G s₀ s)
    (hG : Part.within [.memc, .evu, .pcie, .mon] G = true) :
    Changes G s₀ (tryCal s) := by
  refine h.via ?_ hG
  unfold tryCal
  exact .ite (calibrate_changes .refl rfl) .refl

theorem loadPalettes_changes {G} {s₀ s : State} {h' cfg next} (h : Changes G s₀ s)
    (hG : Part.within [.evu, .pcie, .faults, .fetch, .comp] G = true) :
    Changes G s₀ (loadPalettes h' cfg next s) := by
  refine h.via ?_ hG
  unfold loadPalettes
  exact .forEach (modComp_changes .refl rfl) fun _ _ h => (.ite
      (.ite (.forEach (modComp_changes h rfl) fun _ _ h => (enqueue_changes h rfl))
      (logExtent_changes (modComp_changes h rfl) rfl)) h)

theorem dropLayerRequests_changes {G} {s₀ s : State} {h'} (h : Changes G s₀ s)
    (hG : Part.within [.fetch] G = true) :
    Changes G s₀ (dropLayerRequests h' s) := by
  refine h.via ?_ hG
  unfold dropLayerRequests
  exact .set_fetch (.forEach (.forEach .refl fun _ _ h => (removeRequests_changes h rfl)) fun _ _ h =>
      (modQueue_changes h rfl)) rfl

theorem openFrame_changes {G} {s₀ s : State} {h' cfg next} (h : Changes G s₀ s)
    (hG : Part.within [.evu, .pcie, .faults, .fetch, .comp, .relief] G = true) :
    Changes G s₀ (openFrame h' cfg next s) := by
  refine h.via ?_ hG
  unfold openFrame
  exact .forEach (loadPalettes_changes (freeSlots_changes (modComp_changes (dropLayerRequests_changes .refl rfl) rfl)
      rfl) rfl) fun _ _ h => (requestLine_changes h rfl)

theorem composeReady_changes {G} {s₀ s : State} {hd cfg n} (h : Changes G s₀ s)
    (hG : Part.within [.evu, .pcie, .faults, .fetch, .comp, .relief] G = true) :
    Changes G s₀ (composeReady hd cfg n s) := by
  induction n generalizing s with
  | zero => exact h
  | succ n ih =>
    unfold composeReady
    exact .ite (ih (storeLine_changes h hG)) h

theorem fillStore_changes {G} {s₀ s : State} {h'} (h : Changes G s₀ s)
    (hG : Part.within [.evu, .pcie, .faults, .fetch, .comp, .relief] G = true) :
    Changes G s₀ (fillStore h' s) := by
  refine h.via ?_ hG
  unfold fillStore
  split
  · exact .refl
  · exact modComp_changes (openFrame_changes .refl rfl) rfl

theorem shedSlots_changes {G} {s₀ s : State} {h' zs next} (h : Changes G s₀ s)
    (hG : Part.within [.evu, .pcie, .faults, .comp] G = true) :
    Changes G s₀ (shedSlots h' zs next s) := by
  refine h.via ?_ hG
  unfold shedSlots
  exact .ite .refl (.ite (raiseHead_changes (.set_faults (modComp_changes .refl rfl) rfl) rfl)
      (.set_faults (modComp_changes .refl rfl) rfl))

theorem shedWithRun_changes {G} {s₀ s : State} {h' z next v} (h : Changes G s₀ s)
    (hG : Part.within [.evu, .pcie, .faults, .comp] G = true) :
    Changes G s₀ (shedWithRun h' z next v s) := by
  refine h.via ?_ hG
  unfold shedWithRun
  split
  · exact shedSlots_changes .refl rfl
  · exact shedSlots_changes .refl rfl

theorem wbWrite_changes {G} {s₀ s : State} {a b} (h : Changes G s₀ s)
    (hG : Part.within [.mem, .memc, .fetch] G = true) :
    Changes G s₀ (wbWrite a b s) := by
  refine h.via ?_ hG
  unfold wbWrite
  exact .ite (access_changes (write_changes .refl rfl) rfl) .refl

theorem writeRecord_changes {G} {s₀ s : State} {h' state} (h : Changes G s₀ s)
    (hG : Part.within [.mem, .memc, .fetch] G = true) :
    Changes G s₀ (writeRecord h' state s) := by
  refine h.via ?_ hG
  unfold writeRecord
  split
  · exact wbWrite_changes .refl rfl
  · exact .refl

theorem wbDropOne_changes {G} {s₀ s : State} {h'} (h : Changes G s₀ s)
    (hG : Part.within [.evu, .pcie, .comp] G = true) :
    Changes G s₀ (wbDropOne h' s) := by
  refine h.via ?_ hG
  unfold wbDropOne
  exact raiseHead_changes (modComp_changes .refl rfl) rfl

theorem beginWriteback_changes {G} {s₀ s : State} {h'} (h : Changes G s₀ s)
    (hG : Part.within [.mem, .memc, .evu, .pcie, .fetch, .comp, .head] G = true) :
    Changes G s₀ (beginWriteback h' s) := by
  refine h.via ?_ hG
  unfold beginWriteback
  dsimp only
  split
  · exact .refl
  · exact .ite (modHead_changes .refl rfl) (.ite (wbDropOne_changes (modHead_changes .refl rfl) rfl)
        (writeRecord_changes (modHead_changes (modHead_changes .refl rfl) rfl) rfl))

theorem writeRow_changes {G} {s₀ s : State} {h' cfg y px} (h : Changes G s₀ s)
    (hG : Part.within [.mem, .memc, .fetch, .head] G = true) :
    Changes G s₀ (writeRow h' cfg y px s) := by
  refine h.via ?_ hG
  unfold writeRow
  dsimp only
  split
  · exact .refl
  · exact .ite .refl (modHead_changes (wbWrite_changes .refl rfl) rfl)

theorem abandonWriteback_changes {G} {s₀ s : State} {h'} (h : Changes G s₀ s)
    (hG : Part.within [.mem, .memc, .fetch, .head] G = true) :
    Changes G s₀ (abandonWriteback h' s) := by
  refine h.via ?_ hG
  unfold abandonWriteback
  exact .ite .refl (modHead_changes (writeRecord_changes .refl rfl) rfl)

theorem shedLatePalettes_changes {G} {s₀ s : State} {h' cfg y} (h : Changes G s₀ s)
    (hG : Part.within [.evu, .pcie, .faults, .comp] G = true) :
    Changes G s₀ (shedLatePalettes h' cfg y s) := by
  refine h.via ?_ hG
  unfold shedLatePalettes
  exact .forEach .refl fun _ _ h => (.ite (shedWithRun_changes h rfl) h)

theorem scanLine_changes {G} {s₀ s : State} {hd cfg y} (h : Changes G s₀ s)
    (hG : Part.within [.mem, .memc, .evu, .pcie, .faults, .fetch, .comp, .relief, .prot, .head, .cal, .free] G = true)
    :
    Changes G s₀ (scanLine hd cfg y s) := by
  refine h.via ?_ hG
  unfold scanLine
  split
  next heq =>
    dsimp only
    refine writeRow_changes (tapFeed_changes (protFeed_changes ?_ rfl) rfl) rfl
    split at heq <;> simp only [Prod.mk.injEq] at heq <;> obtain ⟨-, rfl⟩ := heq
    · exact modComp_changes .refl rfl
    · exact raiseHead_changes (logFault_changes (passLine_changes
        (bumpFree_changes (modComp_changes .refl rfl) rfl) rfl) rfl) rfl

theorem lineWork_changes {G} {s₀ s : State} {h' cfg y} (h : Changes G s₀ s)
    (hG : Part.within [.mem, .memc, .evu, .pcie, .faults, .mon, .fetch, .comp, .relief, .prot, .head, .cal, .free] G =
        true) :
    Changes G s₀ (lineWork h' cfg y s) := by
  refine h.via ?_ hG
  unfold lineWork
  exact .ite (requestLine_changes (.ite (scanLine_changes (shedLatePalettes_changes
      (modComp_changes (bumpFree_changes (sample_changes (.ite (raiseHead_changes (modHead_changes .refl rfl) rfl)
      (modHead_changes .refl rfl)) rfl) rfl) rfl) rfl) rfl) (modComp_changes
      (bumpFree_changes (sample_changes (.ite (raiseHead_changes (modHead_changes .refl rfl) rfl)
      (modHead_changes .refl rfl)) rfl) rfl) rfl)) rfl) (requestLine_changes
      (.ite (scanLine_changes (shedLatePalettes_changes (modComp_changes
      (bumpFree_changes (sample_changes (.ite (raiseHead_changes (modHead_changes .refl rfl) rfl)
      (modHead_changes .refl rfl)) rfl) rfl) rfl) rfl) rfl) (modComp_changes
      (bumpFree_changes (sample_changes (.ite (raiseHead_changes (modHead_changes .refl rfl) rfl)
      (modHead_changes .refl rfl)) rfl) rfl) rfl)) rfl)

/-! ## Panel -/

theorem settleStopped_changes {G} {s₀ s : State} {h'} (h : Changes G s₀ s)
    (hG : Part.within [.memc, .win, .ctx, .port, .evu, .pcie, .fetch, .slot, .commits, .comp, .prot, .head] G = true)
        :
    Changes G s₀ (settleStopped h' s) := by
  refine h.via ?_ hG
  unfold settleStopped
  exact protBoundary_changes (.set_commits (.forEach (removeGone_changes (modHead_changes .refl rfl) rfl) fun _ _ h =>
      (by
    dsimp only
    split
    · exact setPolicer_changes (by
        split
        · exact modCtx_changes h rfl
        · exact h) rfl
    · exact recomputeDs_changes (by
        split
        · exact modCtx_changes h rfl
        · exact h) rfl)) rfl) rfl

theorem haltHead_changes {G} {s₀ s : State} {h'} (h : Changes G s₀ s)
    (hG : Part.within [.mem, .memc, .win, .ctx, .port, .evu, .pcie, .faults, .mon, .fetch, .slot, .commits, .comp,
        .relief, .prot, .head, .syn, .cal] G = true) :
    Changes G s₀ (haltHead h' s) := by
  refine h.via ?_ hG
  unfold haltHead
  dsimp only
  refine .ite ?_ ?_
  · exact .refl
  · split
    · exact .ite (tryCal_changes (raiseHead_changes (dropRuns_changes (settleStopped_changes
          (modComp_changes (dropLayerRequests_changes (modSyn_changes (modHead_changes
          (tapCut_changes (.ite .refl (abandonWriteback_changes .refl rfl)) rfl) rfl) rfl) rfl) rfl) rfl) rfl) rfl)
          rfl) (finishGen_changes (tryCal_changes (raiseHead_changes (dropRuns_changes
          (settleStopped_changes (modComp_changes (dropLayerRequests_changes
          (modSyn_changes (modHead_changes (tapCut_changes (.ite .refl (abandonWriteback_changes .refl rfl)) rfl) rfl)
          rfl) rfl) rfl) rfl) rfl) rfl) rfl) rfl)
    · exact tryCal_changes (raiseHead_changes (dropRuns_changes (settleStopped_changes
          (modComp_changes (dropLayerRequests_changes (modSyn_changes (modHead_changes
          (tapCut_changes (.ite .refl (abandonWriteback_changes .refl rfl)) rfl) rfl) rfl) rfl) rfl) rfl) rfl) rfl)
          rfl

theorem driveTarget_changes {G} {s₀ s : State} {h' t target active} (h : Changes G s₀ s)
    (hG : Part.within [.panel, .pins] G = true) :
    Changes G s₀ (driveTarget h' t target active s) := by
  refine h.via ?_ hG
  unfold driveTarget
  exact .ite (modPanel_changes .refl rfl) (.ite (modPanel_changes .refl rfl)
      (.dite (fun _ => (.set_pins .refl rfl)) (fun _ => .refl)))

theorem pwmStart_changes {G} {s₀ s : State} {h' t} (h : Changes G s₀ s)
    (hG : Part.within [.timer, .panel] G = true) :
    Changes G s₀ (pwmStart h' t s) := by
  refine h.via ?_ hG
  unfold pwmStart
  exact modTimer_changes (modPanel_changes .refl rfl) rfl

theorem pwmStop_changes {G} {s₀ s : State} {h' pol} (h : Changes G s₀ s)
    (hG : Part.within [.timer, .panel] G = true) :
    Changes G s₀ (pwmStop h' pol s) := by
  refine h.via ?_ hG
  unfold pwmStop
  dsimp only
  split
  · exact modPanel_changes .refl rfl
  · exact modTimer_changes (modPanel_changes .refl rfl) rfl

theorem dropAuto_changes {G} {s₀ s : State} {a code} (h : Changes G s₀ s)
    (hG : Part.within [.port, .evu, .pcie, .faults] G = true) :
    Changes G s₀ (dropAuto a code s) := by
  refine h.via ?_ hG
  unfold dropAuto
  exact .ite (.ite (bumpDevice_changes (releaseHolder_changes (.set_port .refl rfl) rfl) rfl)
      (releaseHolder_changes (.set_port .refl rfl) rfl)) (logFault_changes
      (releaseHolder_changes (.set_port .refl rfl) rfl) rfl)

theorem autoDone_changes {G} {s₀ s : State} {h' start code} (h : Changes G s₀ s)
    (hG : Part.within [.port, .evu, .pcie, .faults] G = true) :
    Changes G s₀ (autoDone h' start code s) := by
  refine h.via ?_ hG
  unfold autoDone
  split
  · exact dropAuto_changes .refl rfl
  · exact .refl

theorem failSequence_changes {G} {s₀ s : State} {h' r} (h : Changes G s₀ s)
    (hG : Part.within [.win, .port, .evu, .pcie, .faults, .timer, .panel, .pins] G = true) :
    Changes G s₀ (failSequence h' r s) := by
  refine h.via ?_ hG
  unfold failSequence
  dsimp only
  split
  · exact .refl
  · split
    · exact finish0_changes (modPanel_changes (logFault_changes (.ite
          (pwmStop_changes (.forEach .refl fun _ _ h => (driveTarget_changes h rfl)) rfl)
          (.forEach .refl fun _ _ h => (driveTarget_changes h rfl))) rfl) rfl) rfl
    · exact .ite (autoDone_changes (modPanel_changes (logFault_changes (.ite
          (pwmStop_changes (.forEach .refl fun _ _ h => (driveTarget_changes h rfl)) rfl)
          (.forEach .refl fun _ _ h => (driveTarget_changes h rfl))) rfl) rfl) rfl)
          (modPanel_changes (logFault_changes (.ite (pwmStop_changes (.forEach .refl fun _ _ h =>
          (driveTarget_changes h rfl)) rfl) (.forEach .refl fun _ _ h => (driveTarget_changes h rfl))) rfl) rfl)

theorem endSequence_changes {G} {s₀ s : State} {h' r} (h : Changes G s₀ s)
    (hG : Part.within [.win, .port, .evu, .pcie, .faults, .panel] G = true) :
    Changes G s₀ (endSequence h' r s) := by
  refine h.via ?_ hG
  unfold endSequence
  dsimp only
  split
  · exact finishGen_changes (modPanel_changes .refl rfl) rfl
  · exact .ite (autoDone_changes (modPanel_changes .refl rfl) rfl) (modPanel_changes .refl rfl)

theorem nextStep_changes {G} {s₀ s : State} {hd n r} (h : Changes G s₀ s)
    (hG : Part.within [.mem, .memc, .win, .ctx, .port, .evu, .pcie, .faults, .timer, .mon, .fetch, .slot, .commits,
    .comp, .relief, .prot, .head, .panel, .syn, .cal, .pins] G = true) :
    Changes G s₀ (nextStep hd n r s) := by
  refine h.via ?_ hG
  clear h
  induction n generalizing r s with
  | zero => exact .refl
  | succ n ih =>
    unfold nextStep
    split
    · exact endSequence_changes .refl rfl
    · exact .refl
    · dsimp only
      split
      · exact modPanel_changes (driveTarget_changes .refl rfl) rfl
      · exact modPanel_changes (driveTarget_changes .refl rfl) rfl
      · exact modPanel_changes .refl rfl
      · exact modPanel_changes .refl rfl
      · exact modPanel_changes (pwmStop_changes .refl rfl) rfl
      · exact .ite (failSequence_changes .refl rfl) (modPanel_changes (pwmStart_changes .refl rfl) rfl)
      · refine .ite ih (.ite (.ite (modPanel_changes (recompose_changes (modHead_changes .refl rfl) rfl) rfl) ?_)
          (.ite (modPanel_changes .refl rfl) (modPanel_changes (recompose_changes (modHead_changes .refl rfl) rfl)
              rfl)))
        have hf : ∀ {arg}, Changes [.mem, .memc, .win, .ctx, .port, .evu, .pcie, .faults, .timer, .mon, .fetch, .slot,
            .commits, .comp, .relief, .prot, .head, .panel, .syn, .cal, .pins]
            s (logFault 0x21 hd.1 arg s) := logFault_changes .refl rfl
        exact (Changes.ite (haltHead_changes hf rfl) hf).via ih rfl

theorem startSequence_changes {G} {s₀ s : State} {h' t r} (h : Changes G s₀ s)
    (hG : Part.within [.mem, .memc, .win, .ctx, .port, .evu, .pcie, .faults, .timer, .mon, .fetch, .slot, .commits,
        .comp, .relief, .prot, .head, .panel, .syn, .cal, .pins] G = true) :
    Changes G s₀ (startSequence h' t r s) := by
  refine h.via ?_ hG
  unfold startSequence
  exact nextStep_changes (modPanel_changes .refl rfl) rfl

theorem gatePin_changes {G} {s₀ s : State} {h' before after} (h : Changes G s₀ s)
    (hG : Part.within [.panel, .pins] G = true) :
    Changes G s₀ (gatePin h' before after s) := by
  refine h.via ?_ hG
  unfold gatePin
  split
  · exact .refl
  · split
    · exact driveTarget_changes .refl rfl
    · exact driveTarget_changes .refl rfl
    · exact .refl

theorem framesDone_changes {G} {s₀ s : State} {h'} (h : Changes G s₀ s)
    (hG : Part.within [.panel] G = true) :
    Changes G s₀ (framesDone h' s) := by
  refine h.via ?_ hG
  unfold framesDone
  split
  · exact .ite (modPanel_changes .refl rfl) .refl
  · exact .refl

theorem framesCut_changes {G} {s₀ s : State} {h'} (h : Changes G s₀ s)
    (hG : Part.within [.evu, .pcie, .faults, .panel] G = true) :
    Changes G s₀ (framesCut h' s) := by
  refine h.via ?_ hG
  unfold framesCut
  dsimp only
  split
  · exact .ite (.ite (logFault_changes (modPanel_changes .refl rfl) rfl) (modPanel_changes .refl rfl)) .refl
  · exact .refl

theorem runSecondPhase_changes {G} {s₀ s : State} {h'} (h : Changes G s₀ s)
    (hG : Part.within [.mem, .memc, .win, .ctx, .port, .evu, .pcie, .faults, .timer, .mon, .fetch, .slot, .commits,
        .comp, .relief, .prot, .head, .panel, .syn, .cal, .pins] G = true) :
    Changes G s₀ (runSecondPhase h' s) := by
  refine h.via ?_ hG
  unfold runSecondPhase
  split
  · exact .refl
  · exact startSequence_changes (modPanel_changes .refl rfl) rfl

theorem undoStep_changes {G} {s₀ s : State} {h' t x} (h : Changes G s₀ s)
    (hG : Part.within [.timer, .panel, .pins] G = true) :
    Changes G s₀ (undoStep h' t x s) := by
  refine h.via ?_ hG
  unfold undoStep
  split
  · exact .ite (driveTarget_changes .refl rfl) .refl
  · exact .ite (driveTarget_changes .refl rfl) .refl
  · exact pwmStop_changes .refl rfl
  · exact pwmStart_changes .refl rfl
  · exact .refl

theorem endSecondPhase_changes {G} {s₀ s : State} {h'} (h : Changes G s₀ s)
    (hG : Part.within [.timer, .head, .panel, .pins] G = true) :
    Changes G s₀ (endSecondPhase h' s) := by
  refine h.via ?_ hG
  unfold endSecondPhase
  dsimp only
  split
  · exact .ite .refl (modPanel_changes (modHead_changes (.forEach .refl fun _ _ h => (undoStep_changes h rfl)) rfl)
        rfl)
  · exact .refl

theorem resetPanel_changes {G} {s₀ s : State} {h'} (h : Changes G s₀ s)
    (hG : Part.within [.win, .port, .evu, .pcie, .faults, .timer, .panel, .pins] G = true) :
    Changes G s₀ (resetPanel h' s) := by
  refine h.via ?_ hG
  unfold resetPanel
  dsimp only
  split
  · exact finish0_changes (modPanel_changes (by
      split
      · exact driveTarget_changes (pwmStop_changes .refl rfl) rfl
      · exact .refl) rfl) rfl
  · exact .ite (autoDone_changes (modPanel_changes (by
      split
      · exact driveTarget_changes (pwmStop_changes .refl rfl) rfl
      · exact .refl) rfl) rfl) (modPanel_changes (by
      split
      · exact driveTarget_changes (pwmStop_changes .refl rfl) rfl
      · exact .refl) rfl)

theorem powerHead_changes {G} {s₀ s : State} {h'} (h : Changes G s₀ s)
    (hG : Part.within [.power] G = true) :
    Changes G s₀ (powerHead h' s) := by
  refine h.via ?_ hG
  unfold powerHead
  exact setPd_changes .refl rfl

theorem actPanelPower_changes {G} {s₀ s : State} {w c a} (h : Changes G s₀ s)
    (hG : Part.within [.mem, .memc, .win, .ctx, .port, .evu, .pcie, .faults, .power, .timer, .mon, .fetch, .slot,
        .commits, .comp, .relief, .prot, .head, .panel, .syn, .cal, .pins] G = true) :
    Changes G s₀ (actPanelPower w c a s) := by
  refine h.via ?_ hG
  unfold actPanelPower
  dsimp only
  split
  · exact .refl
  · split
    · exact .refl
    · refine .ite ?_ ?_
      · split
        · exact .ite (startSequence_changes (setPhase_changes (powerHead_changes .refl rfl) rfl) rfl)
              (startSequence_changes (setPhase_changes (powerHead_changes .refl rfl) rfl) rfl)
        · exact finish0_changes .refl rfl
        · exact finish0_changes .refl rfl
        · exact finishGen_changes (modPanel_changes .refl rfl) rfl
      · split
        · exact finish0_changes .refl rfl
        · exact startSequence_changes (setPhase_changes (powerHead_changes (endSecondPhase_changes .refl rfl) rfl)
              rfl) rfl
        · exact .ite (startSequence_changes (setPhase_changes (powerHead_changes .refl rfl) rfl) rfl)
              (startSequence_changes (setPhase_changes (powerHead_changes (logFault_changes .refl rfl) rfl) rfl) rfl)
        · exact startSequence_changes (setPhase_changes (powerHead_changes .refl rfl) rfl) rfl

/-! ## Genlock -/

theorem refEvent_changes {G} {s₀ s : State} {h' t} (h : Changes G s₀ s)
    (hG : Part.within [.head] G = true) :
    Changes G s₀ (refEvent h' t s) := by
  refine h.via ?_ hG
  unfold refEvent
  exact modHead_changes .refl rfl

theorem marker_changes {G} {s₀ s : State} {g t} (h : Changes G s₀ s)
    (hG : Part.within [.head] G = true) :
    Changes G s₀ (marker g t s) := by
  refine h.via ?_ hG
  unfold marker
  exact .forEach .refl fun _ _ h => (.ite (refEvent_changes h rfl) h)

theorem setGenlocked_changes {G} {s₀ s : State} {h' v} (h : Changes G s₀ s)
    (hG : Part.within [.evu, .pcie, .head] G = true) :
    Changes G s₀ (setGenlocked h' v s) := by
  refine h.via ?_ hG
  unfold setGenlocked
  exact .ite .refl (raiseHead_changes (modHead_changes .refl rfl) rfl)

theorem genlockStep_changes {G} {s₀ s : State} {h'} (h : Changes G s₀ s)
    (hG : Part.within [.evu, .pcie, .head, .syn] G = true) :
    Changes G s₀ (genlockStep h' s) := by
  refine h.via ?_ hG
  unfold genlockStep
  dsimp only
  split
  · refine .ite ?_ ?_
    · exact .refl
    · split
      · exact .ite (setGenlocked_changes (modHead_changes (modHead_changes .refl rfl) rfl) rfl)
            (.ite (setGenlocked_changes (modSyn_changes (modHead_changes (modHead_changes .refl rfl) rfl) rfl) rfl)
            (.ite (setGenlocked_changes (modSyn_changes (modHead_changes (modHead_changes .refl rfl) rfl) rfl) rfl)
            (modSyn_changes (modHead_changes (modHead_changes .refl rfl) rfl) rfl)))
      · exact .ite (setGenlocked_changes (modHead_changes (modHead_changes .refl rfl) rfl) rfl)
            (modHead_changes .refl rfl)
  · exact .refl

theorem refToOther_changes {G} {s₀ s : State} {h'} (h : Changes G s₀ s)
    (hG : Part.within [.head] G = true) :
    Changes G s₀ (refToOther h' s) := by
  refine h.via ?_ hG
  unfold refToOther
  exact .ite (refEvent_changes .refl rfl) .refl

/-! ## Relay -/

theorem settleEgress_changes {G} {s₀ s : State} {i} (h : Changes G s₀ s)
    (hG : Part.within [.relay] G = true) :
    Changes G s₀ (settleEgress i s) := by
  refine h.via ?_ hG
  unfold settleEgress
  dsimp only
  split
  · exact modEgress_changes .refl rfl
  · exact modEgress_changes .refl rfl

theorem assemble_changes {G} {s₀ s : State} {i} (h : Changes G s₀ s)
    (hG : Part.within [.evu, .pcie, .faults, .fetch, .relay, .free] G = true) :
    Changes G s₀ (assemble i s) := by
  refine h.via ?_ hG
  unfold assemble
  dsimp only
  split
  · exact .refl
  · exact .ite .refl (settleEgress_changes (modEgress_changes (modStream_changes
        (access_changes (.ite (logUeIn_changes (bumpFree_changes .refl rfl) rfl) .refl) rfl) rfl) rfl) rfl)

theorem beginStream_changes {G} {s₀ s : State} {i h'} (h : Changes G s₀ s)
    (hG : Part.within [.evu, .pcie, .faults, .fetch, .relay, .free] G = true) :
    Changes G s₀ (beginStream i h' s) := by
  refine h.via ?_ hG
  unfold beginStream
  dsimp only
  split
  · exact .ite .refl (assemble_changes (modStream_changes .refl rfl) rfl)
  · exact .refl

theorem completeWriteback_changes {G} {s₀ s : State} {h'} (h : Changes G s₀ s)
    (hG : Part.within [.mem, .memc, .evu, .pcie, .faults, .fetch, .head, .relay, .free] G = true) :
    Changes G s₀ (completeWriteback h' s) := by
  refine h.via ?_ hG
  unfold completeWriteback
  dsimp only
  split
  · exact .ite .refl (.forEach (raiseHead_changes (modHead_changes (writeRecord_changes .refl rfl) rfl) rfl)
        fun _ _ h => (beginStream_changes h rfl))
  · exact .refl

theorem abandonStream_changes {G} {s₀ s : State} {i} (h : Changes G s₀ s)
    (hG : Part.within [.relay] G = true) :
    Changes G s₀ (abandonStream i s) := by
  refine h.via ?_ hG
  unfold abandonStream
  exact .ite .refl (settleEgress_changes (modEgress_changes (modStream_changes .refl rfl) rfl) rfl)

theorem dropFrames_changes {G} {s₀ s : State} {n} (h : Changes G s₀ s)
    (hG : Part.within [.evu, .pcie, .relay] G = true) :
    Changes G s₀ (dropFrames n s) := by
  refine h.via ?_ hG
  unfold dropFrames
  exact .forEach .refl fun _ _ h => (raise_changes (.set_relay h rfl) rfl)

theorem dropEgress_changes {G} {s₀ s : State} (h : Changes G s₀ s)
    (hG : Part.within [.evu, .pcie, .relay] G = true) :
    Changes G s₀ (dropEgress s) := by
  refine h.via ?_ hG
  unfold dropEgress
  exact .forEach (.set_relay (dropFrames_changes .refl rfl) rfl) fun _ _ h =>
      (modEgress_changes (abandonStream_changes (dropFrames_changes h rfl) rfl) rfl)

theorem linkDown_changes {G} {s₀ s : State} (h : Changes G s₀ s)
    (hG : Part.within [.evu, .pcie, .relay] G = true) :
    Changes G s₀ (linkDown s) := by
  refine h.via ?_ hG
  unfold linkDown
  exact .ite .refl (.forEach (dropEgress_changes (raise_changes (.set_relay .refl rfl) rfl) rfl) fun _ _ h =>
      (modIngest_changes h rfl))

theorem releaseSlice_changes {G} {s₀ s : State} {i tag cls} (h : Changes G s₀ s)
    (hG : Part.within [.evu, .pcie, .faults, .fetch, .relay, .free] G = true) :
    Changes G s₀ (releaseSlice i tag cls s) := by
  refine h.via ?_ hG
  unfold releaseSlice
  dsimp only
  split
  · exact .ite (raise_changes (modStream_changes (settleEgress_changes (modEgress_changes
        (.set_relay (bumpFree_changes .refl rfl) rfl) rfl) rfl) rfl) rfl)
        (assemble_changes (settleEgress_changes (modEgress_changes (.set_relay (bumpFree_changes .refl rfl) rfl) rfl)
        rfl) rfl)
  · exact .refl

theorem actRelayConfig_changes {G} {s₀ s : State} {w c a} (h : Changes G s₀ s)
    (hG : Part.within [.win, .port, .evu, .pcie, .power, .relay] G = true) :
    Changes G s₀ (actRelayConfig w c a s) := by
  refine h.via ?_ hG
  unfold actRelayConfig
  dsimp only
  split
  · exact .refl
  · exact finishGen_changes (.set_relay (.ite (setPd_changes (.ite .refl (linkDown_changes .refl rfl)) rfl)
        (.ite .refl (linkDown_changes .refl rfl))) rfl) rfl

theorem actRelayStream_changes {G} {s₀ s : State} {w c a} (h : Changes G s₀ s)
    (hG : Part.within [.win, .port, .evu, .pcie, .relay] G = true) :
    Changes G s₀ (actRelayStream w c a s) := by
  refine h.via ?_ hG
  unfold actRelayStream
  dsimp only
  refine .ite ?_ ?_
  · exact finishGen_changes (modStream_changes (abandonStream_changes .refl rfl) rfl) rfl
  · split
    · exact .refl
    · exact .ite (finishGen_changes (modStream_changes .refl rfl) rfl) (finishGen_changes
          (modStream_changes .refl rfl) rfl)

theorem actRelayIngest_changes {G} {s₀ s : State} {w c a} (h : Changes G s₀ s)
    (hG : Part.within [.win, .port, .evu, .pcie, .fetch, .relay, .cal] G = true) :
    Changes G s₀ (actRelayIngest w c a s) := by
  refine h.via ?_ hG
  unfold actRelayIngest
  dsimp only
  refine .ite ?_ ?_
  · exact finishGen_changes (modIngest_changes (ingestCut_changes .refl rfl) rfl) rfl
  · split
    · exact .refl
    · exact finishGen_changes (modIngest_changes .refl rfl) rfl

theorem countLost_changes {G} {s₀ s : State} {g n} (h : Changes G s₀ s)
    (hG : Part.within [.evu, .pcie, .relay] G = true) :
    Changes G s₀ (countLost g n s) := by
  refine h.via ?_ hG
  unfold countLost
  exact .ite (modIngest_changes .refl rfl) (raise_changes (modIngest_changes .refl rfl) rfl)

theorem startFrame_changes {G} {s₀ s : State} {g x} (h : Changes G s₀ s)
    (hG : Part.within [.relay] G = true) :
    Changes G s₀ (startFrame g x s) := by
  refine h.via ?_ hG
  unfold startFrame
  exact modIngest_changes .refl rfl

theorem writePixels_changes {G} {s₀ s : State} {g c x} (h : Changes G s₀ s)
    (hG : Part.within [.mem, .memc, .fetch] G = true) :
    Changes G s₀ (writePixels g c x s) := by
  refine h.via ?_ hG
  unfold writePixels
  dsimp only
  split
  · exact access_changes (write_changes .refl rfl) rfl
  · exact .refl

theorem frameComplete_changes {G} {s₀ s : State} {g c} (h : Changes G s₀ s)
    (hG : Part.within [.evu, .pcie, .faults, .fetch, .relay, .cal] G = true) :
    Changes G s₀ (frameComplete g c s) := by
  refine h.via ?_ hG
  unfold frameComplete
  dsimp only
  split
  · exact .refl
  · exact ingestFeed_changes (.ite (raise_changes (modIngest_changes .refl rfl) rfl) (modIngest_changes .refl rfl))
        rfl

theorem acceptSlice_changes {G} {s₀ s : State} {g c x} (h : Changes G s₀ s)
    (hG : Part.within [.mem, .memc, .evu, .pcie, .faults, .fetch, .relay, .cal] G = true) :
    Changes G s₀ (acceptSlice g c x s) := by
  refine h.via ?_ hG
  unfold acceptSlice
  exact .ite (.ite .refl (.ite (frameComplete_changes (writePixels_changes
      (modIngest_changes (startFrame_changes .refl rfl) rfl) rfl) rfl) (writePixels_changes
      (modIngest_changes (startFrame_changes .refl rfl) rfl) rfl))) (.ite .refl
      (.ite (.ite (frameComplete_changes (writePixels_changes (startFrame_changes
      (modIngest_changes (.ite .refl (modIngest_changes (countLost_changes .refl rfl) rfl)) rfl) rfl) rfl) rfl)
      (writePixels_changes (startFrame_changes (modIngest_changes (.ite .refl
      (modIngest_changes (countLost_changes .refl rfl) rfl)) rfl) rfl) rfl))
      (.ite (modIngest_changes (.ite .refl (modIngest_changes (countLost_changes .refl rfl) rfl)) rfl)
      (.ite (frameComplete_changes (writePixels_changes (modIngest_changes
      (.ite .refl (modIngest_changes (countLost_changes .refl rfl) rfl)) rfl) rfl) rfl)
      (writePixels_changes (modIngest_changes (.ite .refl (modIngest_changes (countLost_changes .refl rfl) rfl)) rfl)
      rfl)))))

theorem resetRelay_changes {G} {s₀ s : State} (h : Changes G s₀ s)
    (hG : Part.within [.win, .port, .evu, .pcie, .fetch, .relay, .cal] G = true) :
    Changes G s₀ (resetRelay s) := by
  refine h.via ?_ hG
  unfold resetRelay
  exact .set_relay (.forEach (linkDown_changes (dropEgress_changes .refl rfl) rfl) fun _ _ h =>
      (ingestCut_changes h rfl)) rfl

/-! ## Heads -/

theorem takeHead_changes {G} {s₀ s : State} {h' b luts} (h : Changes G s₀ s)
    (hG : Part.within [.prot, .head] G = true) :
    Changes G s₀ (takeHead h' b luts s) := by
  refine h.via ?_ hG
  unfold takeHead
  dsimp only
  split
  · split
    · exact modHead_changes (modProt_changes .refl rfl) rfl
    · exact modHead_changes (modProt_changes .refl rfl) rfl
  · exact .refl

theorem actHeadConfig_changes {G} {s₀ s : State} {w c a} (h : Changes G s₀ s)
    (hG : Part.within [.mem, .memc, .win, .port, .evu, .pcie, .fetch, .prot, .head, .epd] G = true) :
    Changes G s₀ (actHeadConfig w c a s) := by
  refine h.via ?_ hG
  unfold actHeadConfig
  dsimp only
  split
  · exact finishGen_changes (takeHead_changes .refl rfl) rfl
  · exact finishGen_changes (takeHeadE_changes .refl rfl) rfl

theorem newFrame_changes {G} {s₀ s : State} {h' prime} (h : Changes G s₀ s)
    (hG : Part.within [.mem, .memc, .win, .ctx, .port, .evu, .pcie, .faults, .mon, .fetch, .slot, .commits, .comp,
        .relief, .prot, .head, .panel, .syn, .relay, .cal, .pins, .free] G = true) :
    Changes G s₀ (newFrame h' prime s) := by
  refine h.via ?_ hG
  unfold newFrame
  dsimp only
  split
  · exact .ite (framesDone_changes (gatePin_changes (refToOther_changes
        (genlockStep_changes (tapBegin_changes (beginWriteback_changes (modProt_changes
        (raiseHead_changes (modHead_changes (modComp_changes (kickFlatten_changes
        (applyBoundary_changes (.ite (completeWriteback_changes .refl rfl)
        (abandonWriteback_changes (completeWriteback_changes .refl rfl) rfl)) rfl) rfl) rfl) rfl) rfl) rfl) rfl) rfl)
        rfl) rfl) rfl) rfl) (gatePin_changes (refToOther_changes (genlockStep_changes
        (tapBegin_changes (beginWriteback_changes (modProt_changes (raiseHead_changes
        (modHead_changes (modComp_changes (kickFlatten_changes (applyBoundary_changes
        (.ite (completeWriteback_changes .refl rfl) (abandonWriteback_changes (completeWriteback_changes .refl rfl)
        rfl)) rfl) rfl) rfl) rfl) rfl) rfl) rfl) rfl) rfl) rfl) rfl)
  · exact lineWork_changes (.ite (composeReady_changes (openFrame_changes
        (.ite (framesDone_changes (gatePin_changes (refToOther_changes (genlockStep_changes
        (tapBegin_changes (beginWriteback_changes (modProt_changes (raiseHead_changes
        (modHead_changes (modComp_changes (kickFlatten_changes (applyBoundary_changes
        (.ite (completeWriteback_changes .refl rfl) (abandonWriteback_changes (completeWriteback_changes .refl rfl)
        rfl)) rfl) rfl) rfl) rfl) rfl) rfl) rfl) rfl) rfl) rfl) rfl) rfl)
        (gatePin_changes (refToOther_changes (genlockStep_changes (tapBegin_changes
        (beginWriteback_changes (modProt_changes (raiseHead_changes (modHead_changes
        (modComp_changes (kickFlatten_changes (applyBoundary_changes (.ite (completeWriteback_changes .refl rfl)
        (abandonWriteback_changes (completeWriteback_changes .refl rfl) rfl)) rfl) rfl) rfl) rfl) rfl) rfl) rfl) rfl)
        rfl) rfl) rfl)) rfl) rfl) (.ite (framesDone_changes (gatePin_changes
        (refToOther_changes (genlockStep_changes (tapBegin_changes (beginWriteback_changes
        (modProt_changes (raiseHead_changes (modHead_changes (modComp_changes
        (kickFlatten_changes (applyBoundary_changes (.ite (completeWriteback_changes .refl rfl)
        (abandonWriteback_changes (completeWriteback_changes .refl rfl) rfl)) rfl) rfl) rfl) rfl) rfl) rfl) rfl) rfl)
        rfl) rfl) rfl) rfl) (gatePin_changes (refToOther_changes (genlockStep_changes
        (tapBegin_changes (beginWriteback_changes (modProt_changes (raiseHead_changes
        (modHead_changes (modComp_changes (kickFlatten_changes (applyBoundary_changes
        (.ite (completeWriteback_changes .refl rfl) (abandonWriteback_changes (completeWriteback_changes .refl rfl)
        rfl)) rfl) rfl) rfl) rfl) rfl) rfl) rfl) rfl) rfl) rfl) rfl))) rfl

theorem fixParts_changes {G} {s₀ s : State} {h'} (h : Changes G s₀ s)
    (hG : Part.within [.commits] G = true) :
    Changes G s₀ (fixParts h' s) := by
  refine h.via ?_ hG
  unfold fixParts
  exact .set_commits .refl rfl

theorem armedPhase_changes {G} {s₀ s : State} {h'} (h : Changes G s₀ s)
    (hG : Part.within [.mem, .memc, .win, .ctx, .port, .evu, .pcie, .faults, .timer, .mon, .fetch, .slot, .commits,
        .comp, .relief, .prot, .head, .panel, .syn, .cal, .pins] G = true) :
    Changes G s₀ (armedPhase h' s) := by
  refine h.via ?_ hG
  unfold armedPhase
  exact modHead_changes (.ite (runSecondPhase_changes .refl rfl) .refl) rfl

theorem startDone_changes {G} {s₀ s : State} {h'} (h : Changes G s₀ s)
    (hG : Part.within [.win, .port, .evu, .pcie, .faults] G = true) :
    Changes G s₀ (startDone h' s) := by
  refine h.via ?_ hG
  unfold startDone
  dsimp only
  split
  · exact finishGen_changes (autoDone_changes (raiseHead_changes .refl rfl) rfl) rfl
  · exact autoDone_changes (raiseHead_changes .refl rfl) rfl

theorem firstBoundary_changes {G} {s₀ s : State} {h'} (h : Changes G s₀ s)
    (hG : Part.within [.mem, .memc, .win, .ctx, .port, .evu, .pcie, .faults, .timer, .mon, .fetch, .slot, .commits,
        .comp, .relief, .prot, .head, .panel, .syn, .relay, .cal, .pins, .free] G = true) :
    Changes G s₀ (firstBoundary h' s) := by
  refine h.via ?_ hG
  unfold firstBoundary
  exact startDone_changes (newFrame_changes (armedPhase_changes (fixParts_changes (modHead_changes .refl rfl) rfl)
      rfl) rfl) rfl

theorem lastBoundary_changes {G} {s₀ s : State} {h'} (h : Changes G s₀ s)
    (hG : Part.within [.mem, .memc, .win, .ctx, .port, .evu, .pcie, .faults, .mon, .fetch, .slot, .commits, .comp,
        .relief, .prot, .head, .panel, .syn, .relay, .cal, .pins, .free] G = true) :
    Changes G s₀ (lastBoundary h' s) := by
  refine h.via ?_ hG
  unfold lastBoundary
  exact haltHead_changes (framesDone_changes (gatePin_changes (completeWriteback_changes .refl rfl) rfl) rfl) rfl

theorem connectHead_changes {G} {s₀ s : State} {h'} (h : Changes G s₀ s)
    (hG : Part.within [.head, .syn] G = true) :
    Changes G s₀ (connectHead h' s) := by
  refine h.via ?_ hG
  unfold connectHead
  exact modHead_changes (modSyn_changes .refl rfl) rfl

theorem beginStart_changes {G} {s₀ s : State} {h'} (h : Changes G s₀ s)
    (hG : Part.within [.power, .commits, .head, .syn] G = true) :
    Changes G s₀ (beginStart h' s) := by
  refine h.via ?_ hG
  unfold beginStart
  exact .ite (connectHead_changes (modHead_changes (powerHead_changes (fixParts_changes .refl rfl) rfl) rfl) rfl)
      (modHead_changes (powerHead_changes (fixParts_changes .refl rfl) rfl) rfl)

theorem actHeadStart_changes {G} {s₀ s : State} {w c a} (h : Changes G s₀ s)
    (hG : Part.within [.win, .port, .evu, .pcie, .power, .commits, .head, .syn] G = true) :
    Changes G s₀ (actHeadStart w c a s) := by
  refine h.via ?_ hG
  unfold actHeadStart
  split
  · exact .refl
  · exact .ite (finish0_changes .refl rfl) (beginStart_changes (setPhase_changes .refl rfl) rfl)

theorem awaitBoundary_changes {G} {s₀ s : State} {h'} (h : Changes G s₀ s)
    (hG : Part.within [.evu, .pcie, .faults, .fetch, .comp, .relief, .head] G = true) :
    Changes G s₀ (awaitBoundary h' s) := by
  refine h.via ?_ hG
  unfold awaitBoundary
  exact fillStore_changes (modHead_changes .refl rfl) rfl

theorem linkUp_changes {G} {s₀ s : State} {h'} (h : Changes G s₀ s)
    (hG : Part.within [.evu, .pcie, .head] G = true) :
    Changes G s₀ (linkUp h' s) := by
  refine h.via ?_ hG
  unfold linkUp
  exact raiseHead_changes (modHead_changes .refl rfl) rfl

theorem trainWith_changes {G} {s₀ s : State} {h' r} (h : Changes G s₀ s)
    (hG : Part.within [.head] G = true) :
    Changes G s₀ (trainWith h' r s) := by
  refine h.via ?_ hG
  unfold trainWith
  exact modHead_changes .refl rfl

theorem linkLost_changes {G} {s₀ s : State} {h' arg} (h : Changes G s₀ s)
    (hG : Part.within [.evu, .pcie, .faults, .head] G = true) :
    Changes G s₀ (linkLost h' arg s) := by
  refine h.via ?_ hG
  unfold linkLost
  exact .ite .refl (raiseHead_changes (logFault_changes (modHead_changes .refl rfl) rfl) rfl)

theorem stopAtEnd_changes {G} {s₀ s : State} {h'} (h : Changes G s₀ s)
    (hG : Part.within [.mem, .memc, .win, .ctx, .port, .evu, .pcie, .faults, .mon, .fetch, .slot, .commits, .comp,
        .relief, .prot, .head, .syn, .cal] G = true) :
    Changes G s₀ (stopAtEnd h' s) := by
  refine h.via ?_ hG
  unfold stopAtEnd
  exact .ite (modHead_changes .refl rfl) (haltHead_changes .refl rfl)

theorem actHeadStop_changes {G} {s₀ s : State} {w c a} (h : Changes G s₀ s)
    (hG : Part.within [.mem, .memc, .win, .ctx, .port, .evu, .pcie, .faults, .timer, .mon, .fetch, .slot, .commits,
        .comp, .relief, .prot, .head, .panel, .syn, .cal, .pins] G = true) :
    Changes G s₀ (actHeadStop w c a s) := by
  refine h.via ?_ hG
  unfold actHeadStop
  dsimp only
  split
  · exact .refl
  · refine .ite ?_ ?_
    · exact finish0_changes .refl rfl
    · split
      · exact .ite (haltHead_changes (startSequence_changes (setPhase_changes .refl rfl) rfl) rfl)
            (startSequence_changes (setPhase_changes .refl rfl) rfl)
      · exact stopAtEnd_changes (endSecondPhase_changes (setPhase_changes .refl rfl) rfl) rfl

theorem gateHead_changes {G} {s₀ s : State} {h'} (h : Changes G s₀ s)
    (hG : Part.within [.mem, .memc, .win, .ctx, .port, .evu, .pcie, .faults, .mon, .fetch, .slot, .commits, .comp,
        .relief, .prot, .head, .panel, .syn, .relay, .cal, .free] G = true) :
    Changes G s₀ (gateHead h' s) := by
  refine h.via ?_ hG
  unfold gateHead
  exact .ite (tryCal_changes (modHead_changes .refl rfl) rfl) (.ite
      (haltHead_changes (tapCut_changes (abandonWriteback_changes (completeWriteback_changes
      (tryCal_changes (modHead_changes .refl rfl) rfl) rfl) rfl) rfl) rfl)
      (.ite (haltHead_changes (framesCut_changes (tapCut_changes (abandonWriteback_changes
      (completeWriteback_changes (tryCal_changes (modHead_changes .refl rfl) rfl) rfl) rfl) rfl) rfl) rfl)
      (fillStore_changes (tapCut_changes (abandonWriteback_changes (completeWriteback_changes
      (tryCal_changes (modHead_changes .refl rfl) rfl) rfl) rfl) rfl) rfl)))

theorem loseSyn_changes {G} {s₀ s : State} {y reference} (h : Changes G s₀ s)
    (hG : Part.within [.mem, .memc, .win, .ctx, .port, .evu, .pcie, .faults, .power, .mon, .fetch, .slot, .commits,
        .comp, .relief, .prot, .head, .panel, .syn, .epd, .adc, .relay, .cal, .free] G = true) :
    Changes G s₀ (loseSyn y reference s) := by
  refine h.via ?_ hG
  unfold loseSyn
  dsimp only
  refine .ite ?_ ?_
  · exact .refl
  · refine .ite ?_ ?_
    · exact logFault_changes (modSyn_changes .refl rfl) rfl
    · split
      · exact .ite (gateHead_changes (cutPhaseStep_changes (raise_changes
            (logFault_changes (modSyn_changes .refl rfl) rfl) rfl) rfl) rfl)
            (cutPhaseStep_changes (raise_changes (logFault_changes (modSyn_changes .refl rfl) rfl) rfl) rfl)
      · exact interruptEpd_changes (cutPhaseStep_changes (raise_changes
            (logFault_changes (modSyn_changes .refl rfl) rfl) rfl) rfl) rfl

theorem restartHead_changes {G} {s₀ s : State} {h'} (h : Changes G s₀ s)
    (hG : Part.within [.mem, .memc, .win, .ctx, .port, .evu, .pcie, .faults, .mon, .fetch, .slot, .commits, .comp,
        .relief, .prot, .head, .panel, .syn, .relay, .cal, .pins, .free] G = true) :
    Changes G s₀ (restartHead h' s) := by
  refine h.via ?_ hG
  unfold restartHead
  exact .ite .refl (.ite (newFrame_changes (modHead_changes (setGenlocked_changes (modHead_changes .refl rfl) rfl)
      rfl) rfl) (modHead_changes .refl rfl))

theorem outputStarted_changes {G} {s₀ s : State} {y} (h : Changes G s₀ s)
    (hG : Part.within [.mem, .memc, .win, .ctx, .port, .evu, .pcie, .faults, .mon, .fetch, .slot, .commits, .comp,
        .relief, .prot, .head, .panel, .syn, .relay, .cal, .pins, .free] G = true) :
    Changes G s₀ (outputStarted y s) := by
  refine h.via ?_ hG
  unfold outputStarted
  split
  · exact .refl
  · exact .ite (connectHead_changes .refl rfl) (restartHead_changes .refl rfl)

theorem lockBore_changes {G} {s₀ s : State} {y} (h : Changes G s₀ s)
    (hG : Part.within [.mem, .memc, .win, .ctx, .port, .evu, .pcie, .faults, .mon, .fetch, .slot, .commits, .comp,
        .relief, .prot, .head, .panel, .syn, .relay, .cal, .pins, .free] G = true) :
    Changes G s₀ (lockBore y s) := by
  refine h.via ?_ hG
  unfold lockBore
  dsimp only
  refine .ite ?_ ?_
  · exact .refl
  · split
    · exact finishGen_changes (outputStarted_changes (startOutput_changes (modSyn_changes .refl rfl) rfl) rfl) rfl
    · exact .ite (outputStarted_changes (startOutput_changes (modSyn_changes .refl rfl) rfl) rfl)
          (.ite (outputStarted_changes (startOutput_changes (modSyn_changes .refl rfl) rfl) rfl)
          (modSyn_changes .refl rfl))

theorem resetHeadCore_changes {G} {s₀ s : State} {hd} (h : Changes G s₀ s)
    (hG : Part.within [.mem, .memc, .win, .ctx, .port, .evu, .pcie, .faults, .timer, .mon, .fetch, .slot, .commits,
    .comp, .relief, .prot, .head, .panel, .syn, .cal, .pins] G = true) :
    Changes G s₀ (resetHeadCore hd s) := by
  have abort : ∀ {u : State} {x : Option WinId}, Changes G s₀ u →
      Changes G s₀ (match x with | some w => finish0 w .aborted u | none => u) := by
    intro u x h
    split
    · exact finish0_changes h (Part.within_trans rfl hG)
    · exact h
  have hp : Changes G s₀ (resetPanel hd s) := resetPanel_changes h (Part.within_trans rfl hG)
  have hcut : ∀ {u}, Changes G s₀ u → Changes G s₀ (haltHead hd (cancelLock hd u)) := fun h =>
    haltHead_changes (cancelLock_changes h (Part.within_trans rfl hG)) (Part.within_trans rfl hG)
  unfold resetHeadCore
  exact modHead_changes (autoDone_changes (hcut (abort (abort hp))) (Part.within_trans rfl hG))
      (Part.within_trans rfl hG)

theorem resetEpdCore_changes {G} {s₀ s : State} (h : Changes G s₀ s)
    (hG : Part.within [.mem, .memc, .win, .port, .evu, .pcie, .power, .fetch, .epd, .adc, .cal] G = true) :
    Changes G s₀ (resetEpdCore s) := by
  refine h.via ?_ hG
  unfold resetEpdCore
  exact interruptEpd_changes .refl rfl

/-! ## Maquette -/

theorem unstage_changes {G} {s₀ s : State} {w} (h : Changes G s₀ s)
    (hG : Part.within [.win, .port] G = true) :
    Changes G s₀ (unstage w s) := by
  refine h.via ?_ hG
  unfold unstage
  dsimp only
  split
  · exact .set_port .refl rfl
  · exact setPhase_changes (.set_port (.set_port .refl rfl) rfl) rfl

theorem actMaquette_changes {G} {s₀ s : State} {w c a} (h : Changes G s₀ s)
    (hG : Part.within [.win, .port] G = true) :
    Changes G s₀ (actMaquette w c a s) := by
  refine h.via ?_ hG
  unfold actMaquette
  exact .ite (setPhase_changes (.set_port .refl rfl) rfl) (setPhase_changes .refl rfl)

theorem cutWriting_changes {G} {s₀ s : State} {w e} (h : Changes G s₀ s)
    (hG : Part.within [.mem, .memc, .evu, .pcie, .faults, .fetch, .relief, .free] G = true) :
    Changes G s₀ (cutWriting w e s) := by
  refine h.via ?_ hG
  unfold cutWriting
  dsimp only
  split
  · exact .refl
  · exact .ite .refl (access_changes (snoop_changes (write_changes (bumpFree_changes .refl rfl) rfl) rfl) rfl)

theorem actMaquetteShort_changes {G} {s₀ s : State} {w c a} (h : Changes G s₀ s)
    (hG : Part.within [.win, .ctx, .port, .evu, .pcie] G = true) :
    Changes G s₀ (actMaquetteShort w c a s) := by
  refine h.via ?_ hG
  unfold actMaquetteShort
  exact finish_changes (modCtx_changes .refl rfl) rfl

/-! ## Returns -/

theorem setCopy_changes {G} {s₀ s : State} {w c} (h : Changes G s₀ s)
    (hG : Part.within [.win] G = true) :
    Changes G s₀ (setCopy w c s) := by
  refine h.via ?_ hG
  unfold setCopy
  exact modWin_changes .refl rfl

theorem sendTlp_changes {G} {s₀ s : State} {t} (h : Changes G s₀ s)
    (hG : Part.within [.pcie] G = true) :
    Changes G s₀ (sendTlp t s) := by
  refine h.via ?_ hG
  unfold sendTlp
  exact .set_pcie .refl rfl

theorem copyAsk_changes {G} {s₀ s : State} {w} (h : Changes G s₀ s)
    (hG : Part.within [.win, .pcie, .fetch] G = true) :
    Changes G s₀ (copyAsk w s) := by
  refine h.via ?_ hG
  unfold copyAsk
  dsimp only
  split
  · exact .ite .refl (.ite (enqueue_changes (setCopy_changes .refl rfl) rfl)
        (sendTlp_changes (setCopy_changes .refl rfl) rfl))
  · exact .refl

theorem readFailed_changes {G} {s₀ s : State} {w} (h : Changes G s₀ s)
    (hG : Part.within [.win] G = true) :
    Changes G s₀ (readFailed w s) := by
  refine h.via ?_ hG
  unfold readFailed
  split
  · exact setCopy_changes .refl rfl
  · exact .refl

theorem endCopy_changes {G} {s₀ s : State} {w} (h : Changes G s₀ s)
    (hG : Part.within [.pcie, .fetch] G = true) :
    Changes G s₀ (endCopy w s) := by
  refine h.via ?_ hG
  unfold endCopy
  exact removeRequests_changes (by
    split
    · exact .ite (.set_pcie .refl rfl) .refl
    · exact .refl) rfl

theorem dropLate_changes {G} {s₀ s : State} {w} (h : Changes G s₀ s)
    (hG : Part.within [.pcie] G = true) :
    Changes G s₀ (dropLate w s) := by
  refine h.via ?_ hG
  unfold dropLate
  exact .set_pcie .refl rfl

theorem copyMoved_changes {G} {s₀ s : State} {w n} (h : Changes G s₀ s)
    (hG : Part.within [.win, .port, .evu, .pcie, .fetch] G = true) :
    Changes G s₀ (copyMoved w n s) := by
  refine h.via ?_ hG
  unfold copyMoved
  dsimp only
  split
  · exact .ite (finish_changes (setCopy_changes .refl rfl) rfl) (.ite
        (copyAsk_changes (setCopy_changes .refl rfl) rfl) (setCopy_changes .refl rfl))
  · exact .refl

theorem copyStop_changes {G} {s₀ s : State} {w code} (h : Changes G s₀ s)
    (hG : Part.within [.win, .port, .evu, .pcie, .fetch] G = true) :
    Changes G s₀ (copyStop w code s) := by
  refine h.via ?_ hG
  unfold copyStop
  split
  · exact finish_changes (endCopy_changes .refl rfl) rfl
  · exact .refl

theorem copyOutData_changes {G} {s₀ s : State} {w order d bad} (h : Changes G s₀ s)
    (hG : Part.within [.win, .port, .evu, .pcie, .fetch] G = true) :
    Changes G s₀ (copyOutData w order d bad s) := by
  refine h.via ?_ hG
  unfold copyOutData
  dsimp only
  split
  · exact .ite .refl (.ite (copyStop_changes .refl rfl) (copyMoved_changes (.set_pcie (setCopy_changes .refl rfl) rfl)
        rfl))
  · exact .refl

theorem copyInData_changes {G} {s₀ s : State} {w d} (h : Changes G s₀ s)
    (hG : Part.within [.win, .fetch] G = true) :
    Changes G s₀ (copyInData w d s) := by
  refine h.via ?_ hG
  unfold copyInData
  dsimp only
  split
  · exact .ite .refl (.forEach (setCopy_changes .refl rfl) fun _ _ h => (enqueue_changes h rfl))
  · exact .refl

theorem correctedError_changes {G} {s₀ s : State} {word} (h : Changes G s₀ s)
    (hG : Part.within [.memc, .evu, .pcie, .faults, .fetch] G = true) :
    Changes G s₀ (correctedError word s) := by
  refine h.via ?_ hG
  unfold correctedError
  exact enqueue_changes (raise_changes (.ite .refl (logFault_changes (.set_memc .refl rfl) rfl)) rfl) rfl

theorem takeEcc_changes {G} {s₀ s : State} {o r} (h : Changes G s₀ s)
    (hG : Part.within [.memc, .evu, .pcie, .faults, .fetch] G = true) :
    Changes G s₀ (takeEcc o r s) := by
  refine h.via ?_ hG
  unfold takeEcc
  dsimp only
  split
  · exact .ite (correctedError_changes .refl rfl) .refl
  · exact .ite (.set_memc .refl rfl) .refl
  · exact .refl

theorem deliverPixel_changes {G} {s₀ s : State} {h' z frame f t addr d bad} (h : Changes G s₀ s)
    (hG : Part.within [.evu, .pcie, .faults, .comp] G = true) :
    Changes G s₀ (deliverPixel h' z frame f t addr d bad s) := by
  refine h.via ?_ hG
  unfold deliverPixel
  dsimp only
  split
  · exact .ite (shedWithRun_changes (modComp_changes .refl rfl) rfl) (modComp_changes (modComp_changes .refl rfl) rfl)
  · exact .refl

theorem deliverPalette_changes {G} {s₀ s : State} {h' z frame off d bad} (h : Changes G s₀ s)
    (hG : Part.within [.evu, .pcie, .faults, .comp] G = true) :
    Changes G s₀ (deliverPalette h' z frame off d bad s) := by
  refine h.via ?_ hG
  unfold deliverPalette
  exact .ite .refl (.ite (shedWithRun_changes .refl rfl) (modComp_changes .refl rfl))

theorem rejectRead_changes {G} {s₀ s : State} {w order} (h : Changes G s₀ s)
    (hG : Part.within [.win, .port, .evu, .pcie] G = true) :
    Changes G s₀ (rejectRead w order s) := by
  refine h.via ?_ hG
  unfold rejectRead
  split
  · split
    · exact .ite (rejectCommit_changes .refl rfl) .refl
    · exact .refl
  · exact .refl

theorem deliver_changes {G} {s₀ s : State} {r d bad} (h : Changes G s₀ s)
    (hG : Part.within [.win, .port, .evu, .pcie, .faults, .fetch, .comp, .relief, .cal] G = true) :
    Changes G s₀ (deliver r d bad s) := by
  refine h.via ?_ hG
  unfold deliver
  refine .ite ?_ ?_
  · exact .refl
  · split
    · exact deliverPixel_changes .refl rfl
    · exact deliverPalette_changes .refl rfl
    · exact .ite (failFlatten_changes .refl rfl) .refl
    · exact scanReturn_changes .refl rfl
    · exact copyOutData_changes .refl rfl
    · exact .ite (rejectRead_changes .refl rfl) .refl
    · exact .refl

theorem releaseHeld_changes {G} {s₀ s : State} {n q floor} (h : Changes G s₀ s)
    (hG : Part.within [.win, .port, .evu, .pcie, .faults, .mon, .fetch, .comp, .relief, .cal] G = true) :
    Changes G s₀ (releaseHeld n q floor s) := by
  induction n generalizing floor s with
  | zero => exact h
  | succ n ih =>
    have hq : ∀ {f}, Changes G s₀ (s.modQueue q f) := modQueue_changes h (Part.within_trans rfl hG)
    have hd : ∀ {r d b u}, Changes G s₀ u → Changes G s₀ (deliver r d b u) := fun h =>
      deliver_changes h (Part.within_trans rfl hG)
    unfold releaseHeld
    split
    · exact h
    · split
      · exact h
      · exact ih (hd hq)
      · refine .ite h ?_
        split
        · exact hq
        · exact ih (hd (.ite (sample_changes hq (Part.within_trans rfl hG)) hq))

theorem releaseAll_changes {G} {s₀ s : State} {q} (h : Changes G s₀ s)
    (hG : Part.within [.win, .port, .evu, .pcie, .faults, .mon, .fetch, .comp, .relief, .cal] G = true) :
    Changes G s₀ (releaseAll q s) := by
  refine h.via ?_ hG
  unfold releaseAll
  exact releaseHeld_changes .refl rfl

/-! ## Contexts -/

theorem rebind_changes {G} {s₀ s : State} {w} (h : Changes G s₀ s)
    (hG : Part.within [.win] G = true) :
    Changes G s₀ (rebind w s) := by
  refine h.via ?_ hG
  unfold rebind
  exact modWin_changes .refl rfl

theorem abortExec_changes {G} {s₀ s : State} {w} (h : Changes G s₀ s)
    (hG : Part.within [.mem, .memc, .win, .port, .evu, .pcie, .faults, .fetch, .relief, .prot, .cal, .free] G = true)
        :
    Changes G s₀ (abortExec w s) := by
  refine h.via ?_ hG
  unfold abortExec
  split
  · exact .refl
  · split
    · exact copyStop_changes .refl rfl
    · exact unstage_changes (finish0_changes (cutWriting_changes .refl rfl) rfl) rfl
    · exact unstage_changes (finish0_changes (cutWriting_changes .refl rfl) rfl) rfl
    · exact unstage_changes (finish0_changes (cutWriting_changes .refl rfl) rfl) rfl
    · exact finish0_changes (cancelLock_changes .refl rfl) rfl
    · exact finish0_changes (cancelLock_changes .refl rfl) rfl
    · exact finish0_changes (.ite (stopCal_changes .refl rfl) .refl) rfl
    · exact finish0_changes .refl rfl

theorem setRoles_changes {G} {s₀ s : State} {n a} (h : Changes G s₀ s)
    (hG : Part.within [.ctx, .prot] G = true) :
    Changes G s₀ (setRoles n a s) := by
  refine h.via ?_ hG
  unfold setRoles
  exact modCtx_changes (.forEach .refl fun _ _ h => (.ite (modProt_changes h rfl) h)) rfl

theorem actAttach_changes {G} {s₀ s : State} {w c a} (h : Changes G s₀ s)
    (hG : Part.within [.win, .ctx, .port, .evu, .pcie, .faults, .fetch, .prot] G = true) :
    Changes G s₀ (actAttach w c a s) := by
  refine h.via ?_ hG
  unfold actAttach
  dsimp only
  split
  · exact turnAway_changes .refl rfl
  · exact finishGen_changes (.ite (.ite (bumpCtx_changes (setRoles_changes .refl rfl) rfl)
        (setRoles_changes .refl rfl)) (rebind_changes (resetQueue_changes
        (resetQueue_changes (setRoles_changes (modCtx_changes .refl rfl) rfl) rfl) rfl) rfl)) rfl

theorem blankRuns_changes {G} {s₀ s : State} {n h'} (h : Changes G s₀ s)
    (hG : Part.within [.comp] G = true) :
    Changes G s₀ (blankRuns n h' s) := by
  refine h.via ?_ hG
  unfold blankRuns
  dsimp only
  split
  · exact .refl
  · exact modComp_changes .refl rfl

theorem hideLayers_changes {G} {s₀ s : State} {n h'} (h : Changes G s₀ s)
    (hG : Part.within [.fetch, .comp] G = true) :
    Changes G s₀ (hideLayers n h' s) := by
  refine h.via ?_ hG
  unfold hideLayers
  exact recompose_changes (modQueue_changes (removeRequests_changes (modComp_changes (blankRuns_changes .refl rfl)
      rfl) rfl) rfl) rfl

theorem dropSources_changes {G} {s₀ s : State} {n} (h : Changes G s₀ s)
    (hG : Part.within [.evu, .pcie] G = true) :
    Changes G s₀ (dropSources n s) := by
  refine h.via ?_ hG
  unfold dropSources
  exact .forEach .refl fun _ _ h => (.ite (withSrc_changes h rfl) (returnSource_changes h rfl))

theorem beginDetach_changes {G} {s₀ s : State} {n keep} (h : Changes G s₀ s)
    (hG : Part.within [.mem, .memc, .win, .ctx, .port, .evu, .pcie, .faults, .timer, .mon, .fetch, .commits, .comp,
        .relief, .prot, .cal, .free] G = true) :
    Changes G s₀ (beginDetach n keep s) := by
  refine h.via ?_ hG
  unfold beginDetach
  exact .set_mon (.forEach (dropSources_changes (stopServing_changes (hideLayers_changes
      (hideLayers_changes (.set_commits (modFn_changes (.set_port
      (.forEach (.forEach (modCtx_changes .refl rfl) fun _ _ h => (abortExec_changes h rfl)) fun _ _ h =>
      (rebind_changes h rfl)) rfl) rfl) rfl) rfl) rfl) rfl) rfl) fun _ _ h => (.ite (setTimerOwner_changes h rfl) h))
      rfl

theorem actDetach_changes {G} {s₀ s : State} {w c a} (h : Changes G s₀ s)
    (hG : Part.within [.mem, .memc, .win, .ctx, .port, .evu, .pcie, .faults, .timer, .mon, .fetch, .commits, .comp,
        .relief, .prot, .cal, .free] G = true) :
    Changes G s₀ (actDetach w c a s) := by
  refine h.via ?_ hG
  unfold actDetach
  dsimp only
  split
  · exact turnAway_changes .refl rfl
  · exact setPhase_changes (beginDetach_changes .refl rfl) rfl

theorem orphan_changes {G} {s₀ s : State} {n h'} (h : Changes G s₀ s)
    (hG : Part.within [.prot] G = true) :
    Changes G s₀ (orphan n h' s) := by
  refine h.via ?_ hG
  unfold orphan
  exact .ite (modProt_changes (.ite (modProt_changes .refl rfl) .refl) rfl) (.ite (modProt_changes .refl rfl) .refl)

theorem dropStopped_changes {G} {s₀ s : State} {n h'} (h : Changes G s₀ s)
    (hG : Part.within [.slot, .comp] G = true) :
    Changes G s₀ (dropStopped n h' s) := by
  refine h.via ?_ hG
  unfold dropStopped
  dsimp only
  refine .ite ?_ ?_
  · exact .refl
  · split
    · exact modComp_changes (.forEach .refl fun _ _ h => (.ite (modSlot_changes h rfl) h)) rfl
    · exact .forEach .refl fun _ _ h => (.ite (modSlot_changes h rfl) h)

theorem releaseGranules_changes {G} {s₀ s : State} {first count a b e} (h : Changes G s₀ s)
    (hG : Part.within [.memc] G = true) :
    Changes G s₀ (releaseGranules first count a b e s) := by
  refine h.via ?_ hG
  unfold releaseGranules
  exact .ite .refl (.set_memc .refl rfl)

theorem endDetach_changes {G} {s₀ s : State} {n} (h : Changes G s₀ s)
    (hG : Part.within [.memc, .win, .ctx, .port, .evu, .pcie, .fetch, .slot, .comp, .prot, .epd] G = true) :
    Changes G s₀ (endDetach n s) := by
  refine h.via ?_ hG
  unfold endDetach
  dsimp only
  split
  · exact .ite (finishGen_changes (kickZero_changes (.ite (composeCanvas_changes
        (dropStopped_changes (dropStopped_changes (dropStopped_changes (modCtx_changes
        (releaseGranules_changes (orphan_changes (orphan_changes .refl rfl) rfl) rfl) rfl) rfl) rfl) rfl) rfl)
        (dropStopped_changes (dropStopped_changes (dropStopped_changes (modCtx_changes
        (releaseGranules_changes (orphan_changes (orphan_changes .refl rfl) rfl) rfl) rfl) rfl) rfl) rfl)) rfl) rfl)
        (bumpDevice_changes (kickZero_changes (.ite (composeCanvas_changes
        (dropStopped_changes (dropStopped_changes (dropStopped_changes (modCtx_changes
        (releaseGranules_changes (orphan_changes (orphan_changes .refl rfl) rfl) rfl) rfl) rfl) rfl) rfl) rfl)
        (dropStopped_changes (dropStopped_changes (dropStopped_changes (modCtx_changes
        (releaseGranules_changes (orphan_changes (orphan_changes .refl rfl) rfl) rfl) rfl) rfl) rfl) rfl)) rfl) rfl)
  · exact bumpDevice_changes (kickZero_changes (.ite (composeCanvas_changes
        (dropStopped_changes (dropStopped_changes (dropStopped_changes (modCtx_changes
        (releaseGranules_changes (orphan_changes (orphan_changes .refl rfl) rfl) rfl) rfl) rfl) rfl) rfl) rfl)
        (dropStopped_changes (dropStopped_changes (dropStopped_changes (modCtx_changes
        (releaseGranules_changes (orphan_changes (orphan_changes .refl rfl) rfl) rfl) rfl) rfl) rfl) rfl)) rfl) rfl

theorem actBindWindow_changes {G} {s₀ s : State} {w c a} (h : Changes G s₀ s)
    (hG : Part.within [.win, .ctx, .port, .evu, .pcie] G = true) :
    Changes G s₀ (actBindWindow w c a s) := by
  refine h.via ?_ hG
  unfold actBindWindow
  dsimp only
  split
  · exact finish0_changes .refl rfl
  · exact .ite (finish0_changes .refl rfl) (finishGen_changes (.forEach (rebind_changes (.set_port .refl rfl) rfl)
        fun _ _ h => (bumpCtx_changes h rfl)) rfl)

theorem actPartitionSet_changes {G} {s₀ s : State} {w c a} (h : Changes G s₀ s)
    (hG : Part.within [.memc, .win, .ctx, .port, .evu, .pcie, .faults, .fetch] G = true) :
    Changes G s₀ (actPartitionSet w c a s) := by
  refine h.via ?_ hG
  unfold actPartitionSet
  dsimp only
  split
  · exact turnAway_changes .refl rfl
  · exact finishGen_changes (kickZero_changes (bumpCtx_changes (modCtx_changes (releaseGranules_changes .refl rfl)
        rfl) rfl) rfl) rfl

theorem setTerrs_changes {G} {s₀ s : State} {n h' ts} (h : Changes G s₀ s)
    (hG : Part.within [.ctx] G = true) :
    Changes G s₀ (setTerrs n h' ts s) := by
  refine h.via ?_ hG
  unfold setTerrs
  exact modCtx_changes .refl rfl

theorem actTerritorySet_changes {G} {s₀ s : State} {w c a} (h : Changes G s₀ s)
    (hG : Part.within [.win, .ctx, .port, .evu, .pcie, .faults] G = true) :
    Changes G s₀ (actTerritorySet w c a s) := by
  refine h.via ?_ hG
  unfold actTerritorySet
  dsimp only
  split
  · exact finish0_changes .refl rfl
  · split
    · exact turnAway_changes .refl rfl
    · exact .ite (finish0_changes .refl rfl) (finishGen_changes (bumpCtx_changes (setTerrs_changes .refl rfl) rfl)
          rfl)

theorem actCopy_changes {G} {s₀ s : State} {out w c a} (h : Changes G s₀ s)
    (hG : Part.within [.win, .port, .pcie, .fetch] G = true) :
    Changes G s₀ (actCopy out w c a s) := by
  refine h.via ?_ hG
  unfold actCopy
  exact copyAsk_changes (setPhase_changes .refl rfl) rfl

theorem clearMaster_changes {G} {s₀ s : State} {f} (h : Changes G s₀ s)
    (hG : Part.within [.win, .port, .evu, .pcie, .fetch] G = true) :
    Changes G s₀ (clearMaster f s) := by
  refine h.via ?_ hG
  unfold clearMaster
  exact copyStop_changes (modFn_changes .refl rfl) rfl

theorem resetFn_changes {G} {s₀ s : State} {keep f} (h : Changes G s₀ s)
    (hG : Part.within [.win, .port, .evu, .pcie, .fetch] G = true) :
    Changes G s₀ (resetFn keep f s) := by
  refine h.via ?_ hG
  unfold resetFn
  exact modFn_changes (clearMaster_changes .refl rfl) rfl

theorem flrDetach_changes {G} {s₀ s : State} {n} (h : Changes G s₀ s)
    (hG : Part.within [.mem, .memc, .win, .ctx, .port, .evu, .pcie, .faults, .timer, .mon, .fetch, .commits, .comp,
        .relief, .prot, .cal, .free] G = true) :
    Changes G s₀ (flrDetach n s) := by
  refine h.via ?_ hG
  unfold flrDetach
  exact .ite (beginDetach_changes .refl rfl) .refl

theorem setVfs_changes {G} {s₀ s : State} {enable ari numVfs} (h : Changes G s₀ s)
    (hG : Part.within [.mem, .memc, .win, .ctx, .port, .evu, .pcie, .faults, .timer, .mon, .fetch, .commits, .comp,
        .relief, .prot, .cal, .free] G = true) :
    Changes G s₀ (setVfs enable ari numVfs s) := by
  refine h.via ?_ hG
  unfold setVfs
  exact .forEach (.set_pcie (.forEach .refl fun _ _ h => (resetFn_changes (flrDetach_changes h rfl) rfl)) rfl)
      fun _ _ h => (rebind_changes (modFn_changes h rfl) rfl)

theorem resetPf_changes {G} {s₀ s : State} {keep} (h : Changes G s₀ s)
    (hG : Part.within [.win, .port, .evu, .pcie, .fetch] G = true) :
    Changes G s₀ (resetPf keep s) := by
  refine h.via ?_ hG
  unfold resetPf
  exact resetFn_changes (modWin_changes (.forEach .refl fun _ _ h => (raise_changes h rfl)) rfl) rfl

theorem dropReads_changes {G} {s₀ s : State} (h : Changes G s₀ s)
    (hG : Part.within [.pcie] G = true) :
    Changes G s₀ (dropReads s) := by
  refine h.via ?_ hG
  unfold dropReads
  exact .set_pcie .refl rfl

/-! ## Memory -/

theorem pollRank_changes {G} {s₀ s : State} {v i} (h : Changes G s₀ s)
    (hG : Part.within [.memc, .evu, .pcie, .faults] G = true) :
    Changes G s₀ (pollRank v i s) := by
  refine h.via ?_ hG
  unfold pollRank
  exact .ite .refl (.ite (raise_changes (logFault_changes (.set_memc .refl rfl) rfl) rfl) (.set_memc .refl rfl))

theorem protectedError_changes {G} {s₀ s : State} {word} (h : Changes G s₀ s)
    (hG : Part.within [.prot] G = true) :
    Changes G s₀ (protectedError word s) := by
  refine h.via ?_ hG
  unfold protectedError
  exact .forEach .refl fun _ _ h => (by
    dsimp only
    split
    · exact .ite (modProt_changes h rfl) h
    · exact h)

theorem reliefError_changes {G} {s₀ s : State} {word} (h : Changes G s₀ s)
    (hG : Part.within [.evu, .pcie, .faults, .fetch, .comp, .relief] G = true) :
    Changes G s₀ (reliefError word s) := by
  refine h.via ?_ hG
  unfold reliefError
  exact freeSlots_changes (.forEach .refl fun _ _ h => (.forEach (modComp_changes h rfl) fun _ _ h =>
      (setTile_changes h rfl))) rfl

/-! ## Segment -/

theorem modSeg_changes {G} {s₀ s : State} {f} (h : Changes G s₀ s)
    (hG : Part.within [.seg] G = true) :
    Changes G s₀ (modSeg f s) := by
  refine h.via ?_ hG
  unfold modSeg
  exact .set_seg .refl rfl

theorem startSeg_changes {G} {s₀ s : State} (h : Changes G s₀ s)
    (hG : Part.within [.seg] G = true) :
    Changes G s₀ (startSeg s) := by
  refine h.via ?_ hG
  unfold startSeg
  exact modSeg_changes .refl rfl

theorem takeSegRecord_changes {G} {s₀ s : State} {c} (h : Changes G s₀ s)
    (hG : Part.within [.seg] G = true) :
    Changes G s₀ (takeSegRecord c s) := by
  refine h.via ?_ hG
  unfold takeSegRecord
  dsimp only
  split
  · exact .ite (startSeg_changes (modSeg_changes .refl rfl) rfl) (modSeg_changes .refl rfl)
  · exact .ite (modSeg_changes (modSeg_changes .refl rfl) rfl) (modSeg_changes (modSeg_changes .refl rfl) rfl)
  · exact modSeg_changes .refl rfl

theorem stopSeg_changes {G} {s₀ s : State} {reset} (h : Changes G s₀ s)
    (hG : Part.within [.seg] G = true) :
    Changes G s₀ (stopSeg reset s) := by
  refine h.via ?_ hG
  unfold stopSeg
  split
  · exact modSeg_changes .refl rfl
  · exact modSeg_changes .refl rfl
  · exact modSeg_changes .refl rfl

theorem segFrame_changes {G} {s₀ s : State} (h : Changes G s₀ s)
    (hG : Part.within [.evu, .pcie, .seg] G = true) :
    Changes G s₀ (segFrame s) := by
  refine h.via ?_ hG
  unfold segFrame
  exact .ite (raise_changes (modSeg_changes .refl rfl) rfl) (modSeg_changes .refl rfl)

theorem actSegWrite_changes {G} {s₀ s : State} {w c a} (h : Changes G s₀ s)
    (hG : Part.within [.win, .port, .evu, .pcie, .seg] G = true) :
    Changes G s₀ (actSegWrite w c a s) := by
  refine h.via ?_ hG
  unfold actSegWrite
  exact finish_changes (modSeg_changes .refl rfl) rfl

theorem contrast_changes {G} {s₀ s : State} {mv} (h : Changes G s₀ s)
    (hG : Part.within [.evu, .pcie, .faults, .seg] G = true) :
    Changes G s₀ (contrast mv s) := by
  refine h.via ?_ hG
  unfold contrast
  exact .ite (raise_changes (.ite (raise_changes (logFault_changes (.ite
      (raise_changes (modSeg_changes .refl rfl) rfl) (modSeg_changes .refl rfl)) rfl) rfl)
      (.ite (raise_changes (modSeg_changes .refl rfl) rfl) (modSeg_changes .refl rfl))) rfl)
      (.ite (raise_changes (logFault_changes (.ite (raise_changes (modSeg_changes .refl rfl) rfl)
      (modSeg_changes .refl rfl)) rfl) rfl) (.ite (raise_changes (modSeg_changes .refl rfl) rfl)
      (modSeg_changes .refl rfl)))

/-! ## Power -/

theorem setDeliverable_changes {G} {s₀ s : State} {d} (h : Changes G s₀ s)
    (hG : Part.within [.memc, .fetch] G = true) :
    Changes G s₀ (setDeliverable d s) := by
  refine h.via ?_ hG
  unfold setDeliverable
  exact .forEach (.set_memc .refl rfl) fun _ _ h => (.ite h (.forEach h fun _ _ h =>
      (settle_changes (recomputeDs_changes h rfl) rfl)))

theorem applyBlock_changes {G} {s₀ s : State} {b} (h : Changes G s₀ s)
    (hG : Part.within [.memc, .evu, .power, .fetch, .seg] G = true) :
    Changes G s₀ (applyBlock b s) := by
  refine h.via ?_ hG
  unfold applyBlock
  dsimp only
  split
  · exact .set_evu (by
      split
      · exact takeSegRecord_changes (.ite (.set_power .refl rfl) (setDeliverable_changes (.set_power .refl rfl) rfl))
            rfl
      · exact .ite (.set_power .refl rfl) (setDeliverable_changes (.set_power .refl rfl) rfl)) rfl
  · split
    · exact takeSegRecord_changes (.ite (.set_power .refl rfl) (setDeliverable_changes (.set_power .refl rfl) rfl))
          rfl
    · exact .ite (.set_power .refl rfl) (setDeliverable_changes (.set_power .refl rfl) rfl)

theorem reachMode_changes {G} {s₀ s : State} {m} (h : Changes G s₀ s)
    (hG : Part.within [.evu, .pcie, .power] G = true) :
    Changes G s₀ (reachMode m s) := by
  refine h.via ?_ hG
  unfold reachMode
  exact raise_changes (.set_power .refl rfl) rfl

theorem startTrans_changes {G} {s₀ s : State} {target exiting w list} (h : Changes G s₀ s)
    (hG : Part.within [.port, .power] G = true) :
    Changes G s₀ (startTrans target exiting w list s) := by
  refine h.via ?_ hG
  unfold startTrans
  exact .set_port_power .refl rfl

theorem startEntry_changes {G} {s₀ s : State} {target w} (h : Changes G s₀ s)
    (hG : Part.within [.port, .power] G = true) :
    Changes G s₀ (startEntry target w s) := by
  refine h.via ?_ hG
  unfold startEntry
  exact startTrans_changes (.set_power .refl rfl) rfl

theorem refuseMode_changes {G} {s₀ s : State} (h : Changes G s₀ s)
    (hG : Part.within [.evu, .pcie, .power] G = true) :
    Changes G s₀ (refuseMode s) := by
  refine h.via ?_ hG
  unfold refuseMode
  exact raise_changes (.set_power .refl rfl) rfl

theorem noteMode_changes {G} {s₀ s : State} {m} (h : Changes G s₀ s)
    (hG : Part.within [.power] G = true) :
    Changes G s₀ (noteMode m s) := by
  refine h.via ?_ hG
  unfold noteMode
  exact .set_power .refl rfl

theorem changeMode_changes {G} {s₀ s : State} {m w b} (h : Changes G s₀ s)
    (hG : Part.within [.memc, .win, .port, .evu, .pcie, .power, .fetch, .seg] G = true) :
    Changes G s₀ (changeMode m w b s) := by
  refine h.via ?_ hG
  unfold changeMode
  dsimp only
  refine .ite ?_ ?_
  · split
    · exact .ite (finishGen_changes (by
        split
        · exact applyBlock_changes .refl rfl
        · exact .ite .refl (applyBlock_changes .refl rfl)) rfl) (finish_changes (by
        split
        · exact applyBlock_changes .refl rfl
        · exact .ite .refl (applyBlock_changes .refl rfl)) rfl)
    · split
      · exact applyBlock_changes .refl rfl
      · exact .ite .refl (applyBlock_changes .refl rfl)
  · refine .ite ?_ ?_
    · exact startEntry_changes (by
        split
        · exact setPhase_changes (by
            split
            · exact applyBlock_changes .refl rfl
            · exact .ite .refl (applyBlock_changes .refl rfl)) rfl
        · split
          · exact applyBlock_changes .refl rfl
          · exact .ite .refl (applyBlock_changes .refl rfl)) rfl
    · split
      · exact finishGen_changes (reachMode_changes (by
          split
          · exact applyBlock_changes .refl rfl
          · exact .ite .refl (applyBlock_changes .refl rfl)) rfl) rfl
      · exact bumpDevice_changes (reachMode_changes (by
          split
          · exact applyBlock_changes .refl rfl
          · exact .ite .refl (applyBlock_changes .refl rfl)) rfl) rfl

theorem actPowerMode_changes {G} {s₀ s : State} {w c a} (h : Changes G s₀ s)
    (hG : Part.within [.memc, .win, .port, .evu, .pcie, .power, .fetch, .seg] G = true) :
    Changes G s₀ (actPowerMode w c a s) := by
  refine h.via ?_ hG
  unfold actPowerMode
  dsimp only
  split
  · exact reject_changes (refuseMode_changes (noteMode_changes .refl rfl) rfl) rfl
  · exact finish0_changes (refuseMode_changes (noteMode_changes .refl rfl) rfl) rfl
  · exact changeMode_changes (.set_power (noteMode_changes .refl rfl) rfl) rfl
  · exact noteMode_changes .refl rfl

theorem runRequest_changes {G} {s₀ s : State} {m} (h : Changes G s₀ s)
    (hG : Part.within [.memc, .win, .port, .evu, .pcie, .power, .fetch, .seg] G = true) :
    Changes G s₀ (runRequest m s) := by
  refine h.via ?_ hG
  unfold runRequest
  dsimp only
  split
  · exact .set_power .refl rfl
  · exact .ite (refuseMode_changes (.set_power .refl rfl) rfl) (.ite
        (changeMode_changes (take_changes (.set_power (.set_power .refl rfl) rfl) rfl) rfl)
        (changeMode_changes (.set_power (.set_power .refl rfl) rfl) rfl))

theorem requestMode_changes {G} {s₀ s : State} {m} (h : Changes G s₀ s)
    (hG : Part.within [.memc, .win, .port, .evu, .pcie, .power, .fetch, .seg] G = true) :
    Changes G s₀ (requestMode m s) := by
  refine h.via ?_ hG
  unfold requestMode
  exact .ite (refuseMode_changes (noteMode_changes .refl rfl) rfl) (.ite (.set_power (noteMode_changes .refl rfl) rfl)
      (runRequest_changes (noteMode_changes .refl rfl) rfl))

theorem modTrans_changes {G} {s₀ s : State} {f} (h : Changes G s₀ s)
    (hG : Part.within [.power] G = true) :
    Changes G s₀ (modTrans f s) := by
  refine h.via ?_ hG
  unfold modTrans
  exact .set_power .refl rfl

theorem goStep_changes {G} {s₀ s : State} {k} (h : Changes G s₀ s)
    (hG : Part.within [.port, .power] G = true) :
    Changes G s₀ (goStep k s) := by
  refine h.via ?_ hG
  unfold goStep
  exact modTrans_changes (.set_port .refl rfl) rfl

theorem stopUnits_changes {G} {s₀ s : State} (h : Changes G s₀ s)
    (hG : Part.within [.win, .port, .evu, .pcie, .fetch, .cal] G = true) :
    Changes G s₀ (stopUnits s) := by
  refine h.via ?_ hG
  unfold stopUnits
  exact .forEach .refl fun _ _ h => (endYielded_changes (by
    split
    · exact endCal_changes h rfl
    · exact endCal_changes h rfl
    · exact h) rfl)

theorem stopForEntry_changes {G} {s₀ s : State} {h'} (h : Changes G s₀ s)
    (hG : Part.within [.mem, .memc, .win, .ctx, .port, .evu, .pcie, .faults, .power, .timer, .mon, .fetch, .slot,
        .commits, .comp, .relief, .prot, .head, .panel, .syn, .cal, .pins] G = true) :
    Changes G s₀ (stopForEntry h' s) := by
  refine h.via ?_ hG
  unfold stopForEntry
  dsimp only
  refine .ite ?_ ?_
  · exact haltHead_changes (.set_power .refl rfl) rfl
  · split
    · exact startSequence_changes (.set_power .refl rfl) rfl
    · exact stopAtEnd_changes (endSecondPhase_changes (.set_power .refl rfl) rfl) rfl

theorem stopFailed_changes {G} {s₀ s : State} {h'} (h : Changes G s₀ s)
    (hG : Part.within [.mem, .memc, .win, .ctx, .port, .evu, .pcie, .faults, .mon, .fetch, .slot, .commits, .comp,
        .relief, .prot, .head, .syn, .cal] G = true) :
    Changes G s₀ (stopFailed h' s) := by
  refine h.via ?_ hG
  unfold stopFailed
  exact .ite (stopAtEnd_changes .refl rfl) .refl

theorem stopClocks_changes {G} {s₀ s : State} {m} (h : Changes G s₀ s)
    (hG : Part.within [.win, .port, .evu, .pcie, .fetch, .syn, .relay, .cal] G = true) :
    Changes G s₀ (stopClocks m s) := by
  refine h.via ?_ hG
  unfold stopClocks
  exact .set_syn (.ite .refl (resetRelay_changes .refl rfl)) rfl

theorem leaveTenants_changes {G} {s₀ s : State} (h : Changes G s₀ s)
    (hG : Part.within [.mem, .memc, .win, .ctx, .port, .evu, .pcie, .faults, .timer, .mon, .fetch, .slot, .commits,
        .comp, .relief, .prot, .epd, .seg, .cal, .free] G = true) :
    Changes G s₀ (leaveTenants s) := by
  refine h.via ?_ hG
  unfold leaveTenants
  exact stopSeg_changes (.set_memc (.forEach .refl fun _ _ h => (.ite h
      (endDetach_changes (.ite (beginDetach_changes h rfl) h) rfl))) rfl) rfl

theorem sleepMemory_changes {G} {s₀ s : State} {m} (h : Changes G s₀ s)
    (hG : Part.within [.memc] G = true) :
    Changes G s₀ (sleepMemory m s) := by
  refine h.via ?_ hG
  unfold sleepMemory
  exact .set_memc .refl rfl

theorem sleepDomains_changes {G} {s₀ s : State} {m} (h : Changes G s₀ s)
    (hG : Part.within [.evu, .pcie, .power] G = true) :
    Changes G s₀ (sleepDomains m s) := by
  refine h.via ?_ hG
  unfold sleepDomains
  exact .ite (.set_evu (setPd_changes (setPd_changes (setPd_changes (.set_power .refl rfl) rfl) rfl) rfl) rfl)
      (.set_pcie (.set_evu (setPd_changes (setPd_changes (setPd_changes (.set_power .refl rfl) rfl) rfl) rfl) rfl)
      rfl)

theorem offState_changes {G} {s₀ s : State} (h : Changes G s₀ s)
    (hG : Part.within [.mem, .memc, .win, .ctx, .port, .evu, .pcie, .faults, .power, .drone, .timer, .timerShadow,
        .mon, .fetch, .slot, .commits, .comp, .relief, .prot, .head, .panel, .syn, .epd, .adc, .relay, .cal, .boot] G
        = true) : Changes G s₀ (offState s) :=
  h.via (H := [.mem, .memc, .win, .ctx, .port, .evu, .pcie, .faults, .power, .drone, .timer, .timerShadow, .mon,
      .fetch, .slot, .commits, .comp, .relief, .prot, .head, .panel, .syn, .epd, .adc, .relay, .cal, .boot])
      ⟨rfl, fun _ => rfl⟩ hG

theorem setList_changes {G} {s₀ s : State} {l} (h : Changes G s₀ s)
    (hG : Part.within [.power] G = true) :
    Changes G s₀ (setList l s) := by
  refine h.via ?_ hG
  unfold setList
  exact modTrans_changes .refl rfl

theorem sleepNow_changes {G} {s₀ s : State} {t} (h : Changes G s₀ s)
    (hG : Part.within [.mem, .memc, .win, .ctx, .port, .evu, .pcie, .faults, .power, .drone, .timer, .timerShadow,
        .mon, .fetch, .slot, .commits, .comp, .relief, .prot, .head, .panel, .syn, .epd, .adc, .relay, .cal, .boot] G
        = true) :
    Changes G s₀ (sleepNow t s) := by
  refine h.via ?_ hG
  unfold sleepNow
  exact goStep_changes (setList_changes (.ite (take_changes (offState_changes
      (sleepDomains_changes (take_changes (releaseHolder_changes (by
    split
    · exact finishGen_changes (stopUnits_changes .refl rfl) rfl
    · exact bumpDevice_changes (stopUnits_changes .refl rfl) rfl) rfl) rfl) rfl) rfl) rfl)
          (sleepDomains_changes (take_changes (releaseHolder_changes (by
    split
    · exact finishGen_changes (stopUnits_changes .refl rfl) rfl
    · exact bumpDevice_changes (stopUnits_changes .refl rfl) rfl) rfl) rfl) rfl)) rfl) rfl

theorem failEntry_changes {G} {s₀ s : State} {code} (h : Changes G s₀ s)
    (hG : Part.within [.win, .port, .evu, .pcie, .power] G = true) :
    Changes G s₀ (failEntry code s) := by
  refine h.via ?_ hG
  unfold failEntry
  dsimp only
  split
  · exact .refl
  · split
    · exact finish0_changes (.set_power .refl rfl) rfl
    · exact releaseHolder_changes (.set_power .refl rfl) rfl

theorem driveGpio_changes {G} {s₀ s : State} {x v} (h : Changes G s₀ s)
    (hG : Part.within [.pins] G = true) :
    Changes G s₀ (driveGpio x v s) := by
  refine h.via ?_ hG
  unfold driveGpio
  exact .set_pins .refl rfl

theorem listStep_changes {G} {s₀ s : State} (h : Changes G s₀ s)
    (hG : Part.within [.power, .pins, .free] G = true) :
    Changes G s₀ (listStep s) := by
  refine h.via ?_ hG
  unfold listStep
  dsimp only
  split
  · exact .refl
  · split
    · exact .refl
    · split
      · exact modTrans_changes (driveGpio_changes .refl rfl) rfl
      · exact modTrans_changes (driveGpio_changes .refl rfl) rfl
      · exact .ite (modTrans_changes (bumpFree_changes .refl rfl) rfl) (bumpFree_changes .refl rfl)
      · exact modTrans_changes .refl rfl

theorem startExit_changes {G} {s₀ s : State} (h : Changes G s₀ s)
    (hG : Part.within [.port, .faults, .power] G = true) :
    Changes G s₀ (startExit s) := by
  refine h.via ?_ hG
  unfold startExit
  exact .ite (.set_faults (startTrans_changes .refl rfl) rfl) (startTrans_changes .refl rfl)

theorem refreshQueues_changes {G} {s₀ s : State} (h : Changes G s₀ s)
    (hG : Part.within [.memc, .fetch] G = true) :
    Changes G s₀ (refreshQueues s) := by
  refine h.via ?_ hG
  unfold refreshQueues
  exact .set_fetch (.set_memc .refl rfl) rfl

theorem wakeHold_changes {G} {s₀ s : State} (h : Changes G s₀ s)
    (hG : Part.within [.memc, .port, .evu, .pcie, .faults, .power, .timer, .mon, .fetch, .syn] G = true) :
    Changes G s₀ (wakeHold s) := by
  refine h.via ?_ hG
  unfold wakeHold
  exact reachMode_changes (releaseHolder_changes (.set_port_power (.forEach
      (injectLatches_changes (.set_syn (kickZero_changes (refreshQueues_changes
      (.ite (raise_changes (calibrate_changes (.set_memc (restoreFaults_changes
      (setPd_changes (setPd_changes (setPd_changes (setPd_changes .refl rfl) rfl) rfl) rfl) rfl) rfl) rfl) rfl)
      (.set_memc (restoreFaults_changes (setPd_changes (setPd_changes (setPd_changes (setPd_changes .refl rfl) rfl)
      rfl) rfl) rfl) rfl)) rfl) rfl) rfl) rfl) fun _ _ h => (modTimer_changes h rfl)) rfl) rfl) rfl

theorem wakeOff_changes {G} {s₀ s : State} (h : Changes G s₀ s)
    (hG : Part.within [.port, .evu, .pcie, .faults, .power, .seg] G = true) :
    Changes G s₀ (wakeOff s) := by
  refine h.via ?_ hG
  unfold wakeOff
  exact goStep_changes (.ite (startSeg_changes (restoreFaults_changes (.set_evu_power .refl rfl) rfl) rfl)
      (restoreFaults_changes (.set_evu_power .refl rfl) rfl)) rfl

theorem bootReached_changes {G} {s₀ s : State} (h : Changes G s₀ s)
    (hG : Part.within [.port, .evu, .pcie, .power] G = true) :
    Changes G s₀ (bootReached s) := by
  refine h.via ?_ hG
  unfold bootReached
  exact .ite (reachMode_changes (releaseHolder_changes (.set_power .refl rfl) rfl) rfl) .refl

theorem entryStep_changes {G} {s₀ s : State} {t} (h : Changes G s₀ s)
    (hG : Part.within Part.all G = true) :
    Changes G s₀ (entryStep t s) := by
  refine h.via ?_ hG
  unfold entryStep
  dsimp only
  split
  · exact .ite .refl (goStep_changes .refl rfl)
  · exact goStep_changes (stopUnits_changes .refl rfl) rfl
  · exact .ite (modTrans_changes (.forEach .refl fun _ _ h => (stopForEntry_changes h rfl)) rfl)
        (.ite (goStep_changes (.forEach .refl fun _ _ h => (stopFailed_changes h rfl)) rfl)
        (.forEach .refl fun _ _ h => (stopFailed_changes h rfl)))
  · exact goStep_changes (stopClocks_changes .refl rfl) rfl
  · exact goStep_changes (.ite (leaveTenants_changes .refl rfl) .refl) rfl
  · exact .ite (goStep_changes (sleepMemory_changes .refl rfl) rfl) .refl
  · exact sleepNow_changes .refl rfl
  · exact .ite (listStep_changes .refl rfl) (.ite (startExit_changes (reachMode_changes (.set_power .refl rfl) rfl)
        rfl) (reachMode_changes (.set_power .refl rfl) rfl))

theorem exitStep_changes {G} {s₀ s : State} {t} (h : Changes G s₀ s)
    (hG : Part.within [.memc, .port, .evu, .pcie, .faults, .power, .timer, .mon, .fetch, .syn, .seg, .pins, .free] G =
        true) :
    Changes G s₀ (exitStep t s) := by
  refine h.via ?_ hG
  unfold exitStep
  exact .ite .refl (.ite (listStep_changes .refl rfl) (.ite (wakeOff_changes .refl rfl) (wakeHold_changes .refl rfl)))

theorem powerStep_changes {G} {s₀ s : State} (h : Changes G s₀ s)
    (hG : Part.within Part.all G = true) :
    Changes G s₀ (powerStep s) := by
  refine h.via ?_ hG
  unfold powerStep
  split
  · exact .ite (exitStep_changes .refl rfl) (entryStep_changes .refl rfl)
  · exact .ite (startExit_changes .refl rfl) .refl

theorem takeTimerWrite_changes {G} {s₀ s : State} {e} (h : Changes G s₀ s)
    (hG : Part.within [.timer] G = true) :
    Changes G s₀ (takeTimerWrite e s) := by
  refine h.via ?_ hG
  unfold takeTimerWrite
  exact .forEach .refl fun _ _ h => (.ite (modTimer_changes h rfl) h)

theorem takeTimer_changes {G} {s₀ s : State} {k} (h : Changes G s₀ s)
    (hG : Part.within [.timer, .timerShadow] G = true) :
    Changes G s₀ (takeTimer k s) := by
  refine h.via ?_ hG
  unfold takeTimer
  exact .forEach (.set_timerShadow .refl rfl) fun _ _ h => (takeTimerWrite_changes h rfl)

theorem takeHeartbeat_changes {G} {s₀ s : State} (h : Changes G s₀ s)
    (hG : Part.within [.drone] G = true) :
    Changes G s₀ (takeHeartbeat s) := by
  refine h.via ?_ hG
  unfold takeHeartbeat
  exact .set_drone .refl rfl

/-! ## Queues -/

theorem setWeight_changes {G} {s₀ s : State} {a} (h : Changes G s₀ s)
    (hG : Part.within [.fetch, .relay] G = true) :
    Changes G s₀ (setWeight a s) := by
  refine h.via ?_ hG
  unfold setWeight
  dsimp only
  split
  · exact modQueue_changes .refl rfl
  · exact modEgress_changes .refl rfl
  · exact .refl

theorem takePolicer_changes {G} {s₀ s : State} {a} (h : Changes G s₀ s)
    (hG : Part.within [.ctx, .fetch, .relay] G = true) :
    Changes G s₀ (takePolicer a s) := by
  refine h.via ?_ hG
  unfold takePolicer
  dsimp only
  split
  · exact .refl
  · exact settleEgress_changes (modEgress_changes .refl rfl) rfl
  · split
    · exact .ite (.ite (modQueue_changes .refl rfl) (setPolicer_changes .refl rfl))
          (bumpCtx_changes (.ite (modQueue_changes .refl rfl) (setPolicer_changes .refl rfl)) rfl)
    · exact .ite (modQueue_changes .refl rfl) (setPolicer_changes .refl rfl)

theorem actPolicerConfig_changes {G} {s₀ s : State} {w c a} (h : Changes G s₀ s)
    (hG : Part.within [.win, .ctx, .port, .evu, .pcie, .fetch, .relay] G = true) :
    Changes G s₀ (actPolicerConfig w c a s) := by
  refine h.via ?_ hG
  unfold actPolicerConfig
  split
  · exact reject_changes .refl rfl
  · exact finishGen_changes (takePolicer_changes .refl rfl) rfl

/-! ## Boot -/

theorem coldReset_changes {G} {s₀ s : State} {st} (h : Changes G s₀ s)
    (hG : Part.within [.mem, .memc, .win, .ctx, .port, .evu, .pcie, .faults, .power, .drone, .timer, .timerShadow,
        .mon, .fetch, .slot, .commits, .comp, .relief, .prot, .head, .panel, .syn, .epd, .seg, .adc, .relay, .cal,
        .boot, .pins] G = true) : Changes G s₀ (coldReset st s) :=
  h.via (H := [.mem, .memc, .win, .ctx, .port, .evu, .pcie, .faults, .power, .drone, .timer, .timerShadow, .mon,
      .fetch, .slot, .commits, .comp, .relief, .prot, .head, .panel, .syn, .epd, .seg, .adc, .relay, .cal, .boot,
      .pins]) ⟨rfl, fun _ => rfl⟩ hG

theorem bootDone_changes {G} {s₀ s : State} (h : Changes G s₀ s)
    (hG : Part.within [.port, .evu, .pcie, .power, .boot] G = true) :
    Changes G s₀ (bootDone s) := by
  refine h.via ?_ hG
  unfold bootDone
  exact .ite .refl (.ite (bootReached_changes (releaseHolder_changes (.set_boot .refl rfl) rfl) rfl)
      (raise_changes (releaseHolder_changes (.set_boot .refl rfl) rfl) rfl))

theorem setPhaseOf_changes {G} {s₀ s : State} {p} (h : Changes G s₀ s)
    (hG : Part.within [.boot] G = true) :
    Changes G s₀ (setPhaseOf p s) := by
  refine h.via ?_ hG
  unfold setPhaseOf
  exact .set_boot .refl rfl

theorem showBootFault_changes {G} {s₀ s : State} (h : Changes G s₀ s)
    (hG : Part.within [.seg] G = true) :
    Changes G s₀ (showBootFault s) := by
  refine h.via ?_ hG
  unfold showBootFault
  exact modSeg_changes (takeSegRecord_changes .refl rfl) rfl

theorem bootStops_changes {G} {s₀ s : State} (h : Changes G s₀ s)
    (hG : Part.within [.port, .evu, .pcie, .faults, .power, .seg, .boot] G = true) :
    Changes G s₀ (bootStops s) := by
  refine h.via ?_ hG
  unfold bootStops
  exact bootDone_changes (showBootFault_changes (.set_faults .refl rfl) rfl) rfl

theorem trained_changes {G} {s₀ s : State} {ok} (h : Changes G s₀ s)
    (hG : Part.within [.port, .evu, .pcie, .faults, .power, .seg, .boot] G = true) :
    Changes G s₀ (trained ok s) := by
  refine h.via ?_ hG
  unfold trained
  exact .ite (.ite (setPhaseOf_changes .refl rfl) (setPhaseOf_changes (bootStops_changes
      (setPhaseOf_changes .refl rfl) rfl) rfl)) (setPhaseOf_changes (bootDone_changes (setPhaseOf_changes .refl rfl)
      rfl) rfl)

theorem bootWrite_changes {G} {s₀ s : State} {a b} (h : Changes G s₀ s)
    (hG : Part.within [.mem, .memc, .fetch] G = true) :
    Changes G s₀ (bootWrite a b s) := by
  refine h.via ?_ hG
  unfold bootWrite
  exact enqueueRange_changes (write_changes .refl rfl) rfl

theorem placeSection_changes {G} {s₀ s : State} {x} (h : Changes G s₀ s)
    (hG : Part.within [.mem, .memc, .fetch] G = true) :
    Changes G s₀ (placeSection x s) := by
  refine h.via ?_ hG
  unfold placeSection
  exact bootWrite_changes .refl rfl

theorem applyFreeze_changes {G} {s₀ s : State} (h : Changes G s₀ s)
    (hG : Part.within [.port] G = true) :
    Changes G s₀ (applyFreeze s) := by
  refine h.via ?_ hG
  unfold applyFreeze
  dsimp only
  split
  · exact .ite (.set_port .refl rfl) .refl
  · exact .refl

theorem andThen_changes {G} {s₀ : State} {a : Applied} {f} (h : Changes G s₀ a.1)
    (hf : ∀ s, Changes G s₀ s → Changes G s₀ (f s).1) : Changes G s₀ (a.andThen f).1 := by
  unfold Applied.andThen
  split
  · exact hf _ h
  · exact h

theorem applyAll_changes {G} {α : Type} {s₀ s : State} {f : α → State → Applied} {l} (h : Changes G s₀ s)
    (hf : ∀ x s, Changes G s₀ s → Changes G s₀ (f x s).1) : Changes G s₀ (applyAll f l s).1 := by
  induction l generalizing s with
  | nil => exact h
  | cons x l ih => exact andThen_changes (hf x s h) fun _ h => ih h

theorem guarded_changes {G} {s₀ s : State} {bad f} (h : Changes G s₀ s)
    (hf : ∀ s, Changes G s₀ s → Changes G s₀ (f s)) :
    Changes G s₀ (guarded bad f s).1 := by
  unfold guarded
  split
  · exact h
  · exact hf s h

theorem applySystem_changes {G} {s₀ s : State} {b} (h : Changes G s₀ s)
    (hG : Part.within [.ctx, .port, .drone] G = true) :
    Changes G s₀ (applySystem b s).1 := by
  refine h.via ?_ hG
  unfold applySystem
  exact guarded_changes .refl (fun _ h => (.set_port (.ite (modCtx_changes h rfl)
      (.set_drone (modCtx_changes h rfl) rfl)) rfl))

theorem applyQueue_changes {G} {s₀ s : State} {b} (h : Changes G s₀ s)
    (hG : Part.within [.ctx, .fetch, .relay] G = true) :
    Changes G s₀ (applyQueue b s).1 := by
  refine h.via ?_ hG
  unfold applyQueue
  exact andThen_changes (guarded_changes .refl (fun _ h => (setWeight_changes h rfl)))
      (fun _ h => (guarded_changes h (fun _ h => (takePolicer_changes h rfl))))

theorem applyQueues_changes {G} {s₀ s : State} {b} (h : Changes G s₀ s)
    (hG : Part.within [.ctx, .fetch, .relay] G = true) :
    Changes G s₀ (applyQueues b s).1 := by
  refine h.via ?_ hG
  unfold applyQueues
  exact applyAll_changes .refl (fun _ _ h => (applyQueue_changes h rfl))

theorem applyPower_changes {G} {s₀ s : State} {b} (h : Changes G s₀ s)
    (hG : Part.within [.memc, .evu, .power, .fetch, .seg] G = true) :
    Changes G s₀ (applyPower b s).1 := by
  refine h.via ?_ hG
  unfold applyPower
  split
  · exact guarded_changes .refl (fun _ h => (applyBlock_changes h rfl))
  · exact .refl

theorem applySteps_changes {G} {s₀ s : State} {b} (h : Changes G s₀ s)
    (hG : Part.within [.power] G = true) :
    Changes G s₀ (applySteps b s).1 := by
  refine h.via ?_ hG
  unfold applySteps
  dsimp only
  split
  · exact .set_power .refl rfl
  · exact .refl

theorem applyWave_changes {G} {s₀ s : State} {b} (h : Changes G s₀ s)
    (hG : Part.within [.mem, .memc, .fetch] G = true) :
    Changes G s₀ (applyWave b s).1 := by
  refine h.via ?_ hG
  unfold applyWave
  exact guarded_changes .refl (fun _ h => (bootWrite_changes h rfl))

theorem applySegment_changes {G} {s₀ s : State} {b} (h : Changes G s₀ s)
    (hG : Part.within [.seg] G = true) :
    Changes G s₀ (applySegment b s).1 := by
  refine h.via ?_ hG
  unfold applySegment
  dsimp only
  split
  · exact guarded_changes .refl (fun _ h => (modSeg_changes (takeSegRecord_changes h rfl) rfl))
  · exact .refl

theorem applyHead_changes {G} {s₀ s : State} {inst b} (h : Changes G s₀ s)
    (hG : Part.within [.mem, .memc, .fetch, .prot, .head, .syn, .epd] G = true) :
    Changes G s₀ (applyHead inst b s).1 := by
  unfold applyHead
  dsimp only
  refine andThen_changes ?_ fun _ h => ?_
  · split
    · exact guarded_changes h fun _ h => loadSyn_changes h (Part.within_trans rfl hG)
    · exact h
  · split
    · exact guarded_changes h fun _ h => takeHead_changes h (Part.within_trans rfl hG)
    · exact guarded_changes h fun _ h => takeHeadE_changes h (Part.within_trans rfl hG)

theorem applyPanel_changes {G} {s₀ s : State} {inst b} (h : Changes G s₀ s) (hG : Part.within [.panel] G = true) :
    Changes G s₀ (applyPanel inst b s).1 := by
  unfold applyPanel
  dsimp only
  split
  · dsimp only
    exact modPanel_changes h hG
  · exact h

theorem applyProtect_changes {G} {s₀ s : State} {inst b} (h : Changes G s₀ s)
    (hG : Part.within [.prot] G = true) :
    Changes G s₀ (applyProtect inst b s).1 := by
  refine h.via ?_ hG
  unfold applyProtect
  dsimp only
  split
  · exact guarded_changes .refl (fun _ h => (modProt_changes h rfl))
  · exact .refl

theorem applyBootTerrs_changes {G} {s₀ s : State} {hd b} (h : Changes G s₀ s) (hG : Part.within [.ctx] G = true) :
    Changes G s₀ (applyBootTerrs hd b s).1 := by
  unfold applyBootTerrs
  refine applyAll_changes h fun _ _ h => ?_
  split
  · exact h
  · exact guarded_changes h fun _ h => setTerrs_changes h hG

theorem applySplash_changes {G} {s₀ s : State} {x} (h : Changes G s₀ s)
    (hG : Part.within [.mem, .memc, .ctx, .port, .evu, .pcie, .fetch, .slot, .commits, .epd, .free] G = true) :
    Changes G s₀ (applySplash x s).1 := by
  have hp : Changes G s₀ (placeSection x s) := placeSection_changes h (Part.within_trans rfl hG)
  unfold applySplash
  dsimp only
  split
  · exact h
  · split
    · exact h
    · refine andThen_changes (applyBootTerrs_changes hp (Part.within_trans rfl hG)) fun _ h => ?_
      split
      · exact (acceptCommit_changes h (Part.within_trans rfl hG) :)
      · exact h

theorem applyFallback_changes {G} {s₀ s : State} {x} (h : Changes G s₀ s)
    (hG : Part.within [.mem, .memc, .fetch, .boot] G = true) :
    Changes G s₀ (applyFallback x s).1 := by
  have hp : Changes G s₀ (placeSection x s) := placeSection_changes h (Part.within_trans rfl hG)
  unfold applyFallback
  dsimp only
  split
  · exact hp
  · split
    · exact hp
    · exact guarded_changes hp fun _ h => h.set_boot (Part.within_trans rfl hG)

theorem applySection_changes {G} {s₀ s : State} {x} (h : Changes G s₀ s)
    (hG : Part.within [.mem, .memc, .ctx, .port, .evu, .pcie, .power, .drone, .fetch, .slot, .commits, .prot, .head,
    .panel, .syn, .epd, .seg, .relay, .boot, .free] G = true) :
    Changes G s₀ (applySection x s).1 := by
  have pick : ∀ {p : Prop} [Decidable p] {a b : Applied}, Changes G s₀ a.1 → Changes G s₀ b.1 →
      Changes G s₀ (if p then a else b).1 := by
    intro p _ a b ha hb
    split
    · exact ha
    · exact hb
  refine pick (applySystem_changes h (Part.within_trans rfl hG)) (pick
      (applyQueues_changes h (Part.within_trans rfl hG))
    (pick (applyPower_changes h (Part.within_trans rfl hG)) (pick (applySteps_changes h (Part.within_trans rfl hG))
    (pick (applyWave_changes h (Part.within_trans rfl hG)) (pick (applySegment_changes h (Part.within_trans rfl hG))
    (pick (applyHead_changes h (Part.within_trans rfl hG)) (pick (applyPanel_changes h (Part.within_trans rfl hG))
    (pick (applyProtect_changes h (Part.within_trans rfl hG)) (pick (applySplash_changes h (Part.within_trans rfl hG))
    (applyFallback_changes h (Part.within_trans rfl hG)))))))))))

theorem loadSection_changes {G} {s₀ s : State} {recheck x} (h : Changes G s₀ s)
    (hG : Part.within [.mem, .memc, .ctx, .port, .evu, .pcie, .faults, .power, .drone, .fetch, .slot, .commits, .prot,
    .head, .panel, .syn, .epd, .seg, .relay, .boot, .free] G = true) :
    Changes G s₀ (loadSection recheck x s).1 := by
  unfold loadSection
  extract_lets bad a
  have ha : Changes G s₀ a.1 := by
    dsimp only [a]
    split
    · exact h
    · exact applySection_changes h (Part.within_trans rfl hG)
  split
  · exact ha
  · exact (logFault_changes ha (Part.within_trans rfl hG) :)

/-! ## CommandPort -/

theorem actNop_changes {G} {s₀ s : State} {w c a} (h : Changes G s₀ s)
    (hG : Part.within [.win, .port, .evu, .pcie] G = true) :
    Changes G s₀ (actNop w c a s) := by
  refine h.via ?_ hG
  unfold actNop
  exact finish_changes .refl rfl

theorem actQueueConfig_changes {G} {s₀ s : State} {w c a} (h : Changes G s₀ s)
    (hG : Part.within [.win, .port, .evu, .pcie, .fetch, .relay] G = true) :
    Changes G s₀ (opQueueConfig.act w c a s) :=
  h.via (H := [.win, .port, .evu, .pcie, .fetch, .relay]) (finishGen_changes (setWeight_changes .refl rfl) rfl) hG

/-- What an opcode of Table 06-3 does keeps the queue of commands and the canonical form of memory. -/
theorem opcodeOf_changes {G} {s₀ s : State} {n o w c a} (ho : opcodeOf n = some o) (h : Changes G s₀ s)
    (hG : Part.within Part.all G = true) : Changes G s₀ (o.act w c a s) := by
  unfold opcodeOf at ho
  split at ho <;> simp only [Option.some.injEq, reduceCtorEq] at ho <;> subst ho
  · exact actNop_changes (c := c) (a := a) h (Part.within_trans rfl hG)
  · exact actAttach_changes (c := c) (a := a) h (Part.within_trans rfl hG)
  · exact actDetach_changes (c := c) (a := a) h (Part.within_trans rfl hG)
  · exact actSeal_changes (c := c) (a := a) h (Part.within_trans rfl hG)
  · exact actBindWindow_changes (c := c) (a := a) h (Part.within_trans rfl hG)
  · exact actPartitionSet_changes (c := c) (a := a) h (Part.within_trans rfl hG)
  · exact actTerritorySet_changes (c := c) (a := a) h (Part.within_trans rfl hG)
  · exact actCopy_changes (c := c) (a := a) h (Part.within_trans rfl hG)
  · exact actCopy_changes (c := c) (a := a) h (Part.within_trans rfl hG)
  · exact readCommit_changes (c := c) (a := a) h (Part.within_trans rfl hG)
  · exact actCommitAbort_changes (c := c) (a := a) h (Part.within_trans rfl hG)
  · exact readCommit_changes (c := c) (a := a) h (Part.within_trans rfl hG)
  · exact actReliefFlush_changes (c := c) (a := a) h (Part.within_trans rfl hG)
  · exact actProtectLoad_changes (c := c) (a := a) h (Part.within_trans rfl hG)
  · exact actProtectLock_changes (c := c) (a := a) h (Part.within_trans rfl hG)
  · exact actProtectRelease_changes (c := c) (a := a) h (Part.within_trans rfl hG)
  · exact actHeadConfig_changes (c := c) (a := a) h (Part.within_trans rfl hG)
  · exact actHeadStart_changes (c := c) (a := a) h (Part.within_trans rfl hG)
  · exact actHeadStop_changes (c := c) (a := a) h (Part.within_trans rfl hG)
  · exact actPanelPower_changes (c := c) (a := a) h (Part.within_trans rfl hG)
  · exact actEpdUpdate_changes (c := c) (a := a) h (Part.within_trans rfl hG)
  · exact actEpdClear_changes (c := c) (a := a) h (Part.within_trans rfl hG)
  · exact actSegWrite_changes (c := c) (a := a) h (Part.within_trans rfl hG)
  · exact actScan_changes (c := c) (a := a) h (Part.within_trans rfl hG)
  · exact actSelftest_changes (c := c) (a := a) h (Part.within_trans rfl hG)
  · exact actQueueConfig_changes (c := c) (a := a) h (Part.within_trans rfl hG)
  · exact actPolicerConfig_changes (c := c) (a := a) h (Part.within_trans rfl hG)
  · exact actRelayConfig_changes (c := c) (a := a) h (Part.within_trans rfl hG)
  · exact actRelayStream_changes (c := c) (a := a) h (Part.within_trans rfl hG)
  · exact actRelayIngest_changes (c := c) (a := a) h (Part.within_trans rfl hG)
  · exact actMaquette_changes (c := c) (a := a) h (Part.within_trans rfl hG)
  · exact actMaquetteShort_changes (c := c) (a := a) h (Part.within_trans rfl hG)
  · exact actFaultClear_changes (c := c) (a := a) h (Part.within_trans rfl hG)
  · exact actPowerMode_changes (c := c) (a := a) h (Part.within_trans rfl hG)
  · exact actClockConfig_changes (c := c) (a := a) h (Part.within_trans rfl hG)
  · exact actPhaseStep_changes (c := c) (a := a) h (Part.within_trans rfl hG)
  · exact actEvtRoute_changes (c := c) (a := a) h (Part.within_trans rfl hG)
  · exact actMonitorBind_changes (c := c) (a := a) h (Part.within_trans rfl hG)

theorem resume_changes {G} {s₀ s : State} {w} (h : Changes G s₀ s) (hG : Part.within Part.all G = true) :
    Changes G s₀ (resume w s) := by
  unfold resume
  split
  · exact h
  · split
    · exact h
    · next ho => exact go_changes h (fun _ _ _ _ h => opcodeOf_changes ho h hG) (Part.within_trans rfl hG)

theorem grantWindow_changes {G} {s₀ s : State} {w r} (h : Changes G s₀ s) (hG : Part.within Part.all G = true) :
    Changes G s₀ (grantWindow w r s) := by
  have ht : Changes G s₀ (take (.window w) r s) := take_changes h (Part.within_trans rfl hG)
  unfold grantWindow
  split
  · exact h
  · dsimp only
    split
    next heq => exact resume_changes (takeAll_eq_changes heq ht (Part.within_trans rfl hG)) hG
    next heq => exact setPhase_changes (takeAll_eq_changes heq ht (Part.within_trans rfl hG))
                  (Part.within_trans rfl hG)

theorem runTaken_changes {G} {s₀ s : State} {op w c a} (h : Changes G s₀ s) (hG : Part.within Part.all G = true) :
    Changes G s₀ (runTaken op w c a s) := by
  have hact : ∀ {n o}, opcodeOf n = some o → ∀ w c a s, Changes G s₀ s → Changes G s₀ (o.run w c a s) :=
    fun ho _ _ _ _ h => run_changes h (fun _ _ _ _ h => opcodeOf_changes ho h hG) (Part.within_trans rfl hG)
  unfold runTaken
  split
  · exact finish0_changes h (Part.within_trans rfl hG)
  · next ho => exact bootGate_changes h (hact ho) (Part.within_trans rfl hG)

theorem issueAny_changes {G} {s₀ s : State} {w op c} (h : Changes G s₀ s) (hG : Part.within Part.all G = true) :
    Changes G s₀ (issueAny w op c s) := by
  have hi : Changes G s₀ (issue w op c s) := issue_changes h (Part.within_trans rfl hG)
  unfold issueAny
  dsimp only
  split
  · exact startNext_changes hi (fun _ _ _ _ _ h => runTaken_changes h hG) (Part.within_trans rfl hG)
  · exact hi

theorem autoPhase_changes {G} {s₀ s : State} {p} (h : Changes G s₀ s)
    (hG : Part.within [.port] G = true) :
    Changes G s₀ (autoPhase p s) := by
  refine h.via ?_ hG
  unfold autoPhase
  dsimp only
  split
  · exact .set_port .refl rfl
  · exact .refl

theorem autoStart_changes {G} {s₀ s : State} {a} (h : Changes G s₀ s)
    (hG : Part.within [.port, .evu, .pcie, .faults, .power, .commits, .head, .syn] G = true) :
    Changes G s₀ (autoStart a s) := by
  refine h.via ?_ hG
  unfold autoStart
  exact .ite (dropAuto_changes .refl rfl) (.ite (dropAuto_changes .refl rfl)
      (beginStart_changes (autoPhase_changes .refl rfl) rfl))

theorem autoPanel_changes {G} {s₀ s : State} {a} (h : Changes G s₀ s)
    (hG : Part.within [.mem, .memc, .win, .ctx, .port, .evu, .pcie, .faults, .power, .timer, .mon, .fetch, .slot,
        .commits, .comp, .relief, .prot, .head, .panel, .syn, .cal, .pins] G = true) :
    Changes G s₀ (autoPanel a s) := by
  refine h.via ?_ hG
  unfold autoPanel
  dsimp only
  split
  · exact dropAuto_changes .refl rfl
  · refine .ite ?_ ?_
    · exact dropAuto_changes .refl rfl
    · split
      · exact .ite (startSequence_changes (powerHead_changes (autoPhase_changes .refl rfl) rfl) rfl)
            (startSequence_changes (powerHead_changes (autoPhase_changes .refl rfl) rfl) rfl)
      · exact dropAuto_changes (modPanel_changes .refl rfl) rfl
      · exact dropAuto_changes .refl rfl

theorem runAuto_changes {G} {s₀ s : State} {a} (h : Changes G s₀ s)
    (hG : Part.within [.mem, .memc, .win, .ctx, .port, .evu, .pcie, .faults, .power, .timer, .mon, .fetch, .slot,
        .commits, .comp, .relief, .prot, .head, .panel, .syn, .cal, .pins] G = true) :
    Changes G s₀ (runAuto a s) := by
  refine h.via ?_ hG
  unfold runAuto
  exact .ite (autoStart_changes .refl rfl) (autoPanel_changes .refl rfl)

theorem grantAuto_changes {G} {s₀ s : State} {a rest r} (h : Changes G s₀ s)
    (hG : Part.within [.mem, .memc, .win, .ctx, .port, .evu, .pcie, .faults, .power, .timer, .mon, .fetch, .slot,
        .commits, .comp, .relief, .prot, .head, .panel, .syn, .cal, .pins] G = true) : Changes G s₀
        (grantAuto a rest r s) := by
  have ht : Changes G s₀ (take (.headSeq a.head) r s) := take_changes h (Part.within_trans rfl hG)
  unfold grantAuto
  split
  next heq => exact runAuto_changes (takeAll_eq_changes heq ht (Part.within_trans rfl hG)) (Part.within_trans rfl hG)
  next heq => exact autoPhase_changes (takeAll_eq_changes heq ht (Part.within_trans rfl hG))
                (Part.within_trans rfl hG)

theorem logWait_changes {G} {s₀ s : State} {order e} (h : Changes G s₀ s)
    (hG : Part.within [.evu, .pcie, .faults] G = true) :
    Changes G s₀ (logWait order e s) := by
  refine h.via ?_ hG
  unfold logWait
  exact logFault_changes .refl rfl

theorem dropStart_changes {G} {s₀ s : State} {h'} (h : Changes G s₀ s)
    (hG : Part.within [.head] G = true) :
    Changes G s₀ (dropStart h' s) := by
  refine h.via ?_ hG
  unfold dropStart
  exact modHead_changes .refl rfl

theorem expireWindow_changes {G} {s₀ s : State} {w} (h : Changes G s₀ s)
    (hG : Part.within [.mem, .memc, .win, .port, .evu, .pcie, .faults, .power, .fetch, .head, .syn, .epd, .adc, .cal]
        G = true) :
    Changes G s₀ (expireWindow w s) := by
  refine h.via ?_ hG
  unfold expireWindow
  split
  · exact .refl
  · split
    · exact .ite (finish0_changes (logWait_changes .refl rfl) rfl) .refl
    · exact finish0_changes (logWait_changes .refl rfl) rfl
    · exact finish0_changes (logWait_changes (modSyn_changes .refl rfl) rfl) rfl
    · exact .ite (finish0_changes (logWait_changes (dropStart_changes .refl rfl) rfl) rfl) .refl
    · exact .ite (interruptEpd_changes (logWait_changes .refl rfl) rfl) .refl
    · exact .ite (failEntry_changes (logWait_changes .refl rfl) rfl) .refl
    · exact .refl

theorem expireAuto_changes {G} {s₀ s : State} {h'} (h : Changes G s₀ s)
    (hG : Part.within [.port, .evu, .pcie, .faults, .head] G = true) :
    Changes G s₀ (expireAuto h' s) := by
  refine h.via ?_ hG
  unfold expireAuto
  split
  · exact .refl
  · refine .ite ?_ ?_
    · exact .refl
    · split
      · exact .ite (dropAuto_changes (logFault_changes .refl rfl) rfl) .refl
      · exact .refl
      · exact .ite (dropAuto_changes (logFault_changes (dropStart_changes .refl rfl) rfl) rfl) .refl

theorem expirePower_changes {G} {s₀ s : State} (h : Changes G s₀ s)
    (hG : Part.within [.mem, .memc, .win, .port, .evu, .pcie, .faults, .power, .fetch, .head, .syn, .epd, .adc, .cal]
        G = true) :
    Changes G s₀ (expirePower s) := by
  refine h.via ?_ hG
  unfold expirePower
  split
  · exact expireWindow_changes .refl rfl
  · exact .ite (failEntry_changes (logFault_changes .refl rfl) rfl) .refl

theorem releaseSeq_changes {G} {s₀ s : State} {q} (h : Changes G s₀ s)
    (hG : Part.within [.mem, .memc, .win, .port, .evu, .pcie, .faults, .power, .fetch, .epd, .adc, .cal] G = true) :
    Changes G s₀ (releaseSeq q s) := by
  refine h.via ?_ hG
  unfold releaseSeq
  split
  · exact .ite (releaseAdc_changes .refl rfl) (failEntry_changes .refl rfl)
  · split
    · exact dropAuto_changes .refl rfl
    · exact .refl
  · exact interruptEpd_changes .refl rfl
  · exact .ite (unstage_changes (finish0_changes .refl rfl) rfl) (finish0_changes .refl rfl)
  · exact .refl

/-! ## Registers -/

theorem readMemWin_changes {G} {s₀ s : State} {w c} (h : Changes G s₀ s)
    (hG : Part.within [.win, .evu, .pcie, .faults, .fetch] G = true) :
    Changes G s₀ (readMemWin w c s).2 := by
  refine h.via ?_ hG
  unfold readMemWin
  rcases memTarget s c s.win[w].mwAddr false with ⟨st, _ | a⟩
  · dsimp only
    exact modWin_changes .refl rfl
  · dsimp only
    refine modWin_changes ?_ rfl
    split
    · exact logUeIn_changes (access_changes .refl rfl) rfl
    · exact access_changes .refl rfl

theorem hostWrite_changes {G} {s₀ s : State} {c a d} (h : Changes G s₀ s)
    (hG : Part.within [.mem, .memc, .evu, .pcie, .faults, .fetch, .relief] G = true) :
    Changes G s₀ (hostWrite c a d s) := by
  refine h.via ?_ hG
  unfold hostWrite
  exact access_changes (snoop_changes (write_changes .refl rfl) rfl) rfl

theorem writeMemWin_changes {G} {s₀ s : State} {w c v} (h : Changes G s₀ s)
    (hG : Part.within [.mem, .memc, .win, .evu, .pcie, .faults, .fetch, .relief] G = true) :
    Changes G s₀ (writeMemWin w c v s) := by
  refine h.via ?_ hG
  unfold writeMemWin
  exact modWin_changes (by
    split
    · exact hostWrite_changes .refl rfl
    · exact .refl) rfl

theorem popCompletion_changes {G} {s₀ s : State} {w} (h : Changes G s₀ s)
    (hG : Part.within [.win] G = true) :
    Changes G s₀ (popCompletion w s) := by
  refine h.via ?_ hG
  unfold popCompletion
  exact modWin_changes .refl rfl

theorem takeDoorbell_changes {G} {s₀ s : State} {c} (h : Changes G s₀ s)
    (hG : Part.within [.ctx, .port] G = true) :
    Changes G s₀ (takeDoorbell c s) := by
  refine h.via ?_ hG
  unfold takeDoorbell
  exact .ite (.set_port .refl rfl) (modCtx_changes .refl rfl)

theorem stepFaultRead_changes {G} {s₀ s : State} {w} (h : Changes G s₀ s)
    (hG : Part.within [.win] G = true) :
    Changes G s₀ (stepFaultRead w s) := by
  refine h.via ?_ hG
  unfold stepFaultRead
  exact modWin_changes .refl rfl

theorem readEffect_changes {G} {s₀ s : State} {w c off} (h : Changes G s₀ s)
    (hG : Part.within [.win, .ctx, .port, .evu, .pcie] G = true) :
    Changes G s₀ (readEffect w c off s) := by
  refine h.via ?_ hG
  unfold readEffect
  split
  · exact popCompletion_changes .refl rfl
  · exact modWin_changes .refl rfl
  · exact claimOwn_changes .refl rfl
  · exact modWin_changes .refl rfl
  · exact .ite (stepFaultRead_changes .refl rfl) .refl
  · exact takeDoorbell_changes .refl rfl
  · exact .refl

theorem readReg_changes {G} {s₀ s : State} {w off} (h : Changes G s₀ s)
    (hG : Part.within [.win, .ctx, .port, .evu, .pcie, .faults, .fetch] G = true) :
    Changes G s₀ (readReg w off s).2 := by
  unfold readReg
  split
  · exact h
  · split
    · exact readMemWin_changes h (Part.within_trans rfl hG)
    · exact readEffect_changes h (Part.within_trans rfl hG)

theorem issueWrite_changes {G} {s₀ s : State} {w v} (h : Changes G s₀ s)
    (hG : Part.within Part.all G = true) :
    Changes G s₀ (issueWrite w v s) := by
  refine h.via ?_ hG
  unfold issueWrite
  exact issueAny_changes .refl rfl

theorem writeEvtCtl_changes {G} {s₀ s : State} {w c v} (h : Changes G s₀ s)
    (hG : Part.within [.win, .evu, .pcie] G = true) :
    Changes G s₀ (writeEvtCtl w c v s) := by
  refine h.via ?_ hG
  unfold writeEvtCtl
  exact .ite (clearMerge_changes (.ite (setHold_changes (modWin_changes .refl rfl) rfl) (modWin_changes .refl rfl))
      rfl) (.ite (setHold_changes (modWin_changes .refl rfl) rfl) (modWin_changes .refl rfl))

theorem writeVecBase_changes {G} {s₀ s : State} {p v} (h : Changes G s₀ s)
    (hG : Part.within [.evu] G = true) :
    Changes G s₀ (writeVecBase p v s) := by
  refine h.via ?_ hG
  unfold writeVecBase
  exact .set_evu .refl rfl

theorem writeTimSel_changes {G} {s₀ s : State} {w c v} (h : Changes G s₀ s)
    (hG : Part.within [.win, .evu, .pcie, .timer] G = true) :
    Changes G s₀ (writeTimSel w c v s) := by
  refine h.via ?_ hG
  unfold writeTimSel
  exact .ite (setTimerOwner_changes (modWin_changes .refl rfl) rfl) (modWin_changes .refl rfl)

theorem writeTim_changes {G} {s₀ s : State} {w c off v} (h : Changes G s₀ s)
    (hG : Part.within [.timer, .timerShadow] G = true) :
    Changes G s₀ (writeTim w c off v s) := by
  refine h.via ?_ hG
  unfold writeTim
  dsimp only
  refine .ite ?_ ?_
  · exact .refl
  · refine .ite ?_ ?_
    · exact .refl
    · split
      · exact .ite .refl (.set_timerShadow .refl rfl)
      · exact modTimer_changes .refl rfl

theorem writeTimStart_changes {G} {s₀ s : State} {c v} (h : Changes G s₀ s)
    (hG : Part.within [.timer, .timerShadow] G = true) :
    Changes G s₀ (writeTimStart c v s) := by
  refine h.via ?_ hG
  unfold writeTimStart
  exact .ite (.forEach .refl fun _ _ h => (.ite (modTimer_changes h rfl) h))
      (.set_timerShadow (.forEach .refl fun _ _ h => (.ite (modTimer_changes h rfl) h)) rfl)

theorem writeMon_changes {G} {s₀ s : State} {w c off v} (h : Changes G s₀ s)
    (hG : Part.within [.win, .mon] G = true) :
    Changes G s₀ (writeMon w c off v s) := by
  refine h.via ?_ hG
  unfold writeMon
  exact .ite (modWin_changes (.ite (modMon_changes .refl rfl) .refl) rfl) (.ite (modMon_changes .refl rfl) .refl)

theorem writeFaultSummary_changes {G} {s₀ s : State} {w v} (h : Changes G s₀ s)
    (hG : Part.within [.win, .faults] G = true) :
    Changes G s₀ (writeFaultSummary w v s) := by
  refine h.via ?_ hG
  unfold writeFaultSummary
  exact .set_faults (modWin_changes .refl rfl) rfl

theorem writePowerReq_changes {G} {s₀ s : State} {v} (h : Changes G s₀ s)
    (hG : Part.within [.power] G = true) :
    Changes G s₀ (writePowerReq v s) := by
  refine h.via ?_ hG
  unfold writePowerReq
  exact .ite .refl (.set_power .refl rfl)

theorem writeHeartbeat_changes {G} {s₀ s : State} {v} (h : Changes G s₀ s)
    (hG : Part.within [.drone] G = true) :
    Changes G s₀ (writeHeartbeat v s) := by
  refine h.via ?_ hG
  unfold writeHeartbeat
  exact .set_drone .refl rfl

theorem writeClkStatus_changes {G} {s₀ s : State} {v} (h : Changes G s₀ s)
    (hG : Part.within [.drone, .syn] G = true) :
    Changes G s₀ (writeClkStatus v s) := by
  refine h.via ?_ hG
  unfold writeClkStatus
  exact .set_drone_syn .refl rfl

theorem writeCalStatus_changes {G} {s₀ s : State} {w c v} (h : Changes G s₀ s)
    (hG : Part.within [.cal] G = true) :
    Changes G s₀ (writeCalStatus w c v s) := by
  refine h.via ?_ hG
  unfold writeCalStatus
  exact .ite .refl (modCal_changes .refl rfl)

theorem writeRelayStatus_changes {G} {s₀ s : State} {v} (h : Changes G s₀ s)
    (hG : Part.within [.relay] G = true) :
    Changes G s₀ (writeRelayStatus v s) := by
  refine h.via ?_ hG
  unfold writeRelayStatus
  exact .set_relay .refl rfl

theorem ringSupervisor_changes {G} {s₀ s : State} {c code} (h : Changes G s₀ s)
    (hG : Part.within [.port, .evu, .pcie] G = true) :
    Changes G s₀ (ringSupervisor c code s) := by
  refine h.via ?_ hG
  unfold ringSupervisor
  exact raise_changes (.set_port .refl rfl) rfl

theorem writeDoorbell_changes {G} {s₀ s : State} {c v} (h : Changes G s₀ s)
    (hG : Part.within [.ctx, .port, .evu, .pcie] G = true) :
    Changes G s₀ (writeDoorbell c v s) := by
  refine h.via ?_ hG
  unfold writeDoorbell
  exact .ite (.ite .refl (raise_changes (modCtx_changes .refl rfl) rfl))
      (.ite .refl (ringSupervisor_changes .refl rfl))

theorem resetBlock_changes {G} {s₀ s : State} {b} (h : Changes G s₀ s)
    (hG : Part.within [.mem, .memc, .win, .ctx, .port, .evu, .pcie, .faults, .power, .timer, .mon, .fetch, .slot,
        .commits, .comp, .relief, .prot, .head, .panel, .syn, .epd, .seg, .adc, .relay, .cal, .pins] G = true) :
    Changes G s₀ (resetBlock b s) := by
  refine h.via ?_ hG
  unfold resetBlock
  split
  · exact resetHeadCore_changes .refl rfl
  · exact resetHeadCore_changes .refl rfl
  · exact resetEpdCore_changes .refl rfl
  · exact resetRelay_changes .refl rfl
  · exact resetCalUnit_changes (epdCalReset_changes .refl rfl) rfl
  · exact resetCalUnit_changes (epdCalReset_changes .refl rfl) rfl
  · exact resetCalUnit_changes (epdCalReset_changes .refl rfl) rfl
  · exact resetCalUnit_changes (epdCalReset_changes .refl rfl) rfl
  · exact stopSeg_changes .refl rfl
  · exact resetTimers_changes .refl rfl
  · exact .refl

theorem resetRequest_changes {G} {s₀ s : State} {v b} (h : Changes G s₀ s)
    (hG : Part.within [.mem, .memc, .win, .ctx, .port, .evu, .pcie, .faults, .power, .timer, .mon, .fetch, .slot,
        .commits, .comp, .relief, .prot, .head, .panel, .syn, .epd, .seg, .adc, .relay, .cal, .pins] G = true) :
    Changes G s₀ (resetRequest v b s) := by
  refine h.via ?_ hG
  unfold resetRequest
  exact .ite .refl (.ite (.set_port .refl rfl) (resetBlock_changes .refl rfl))

theorem writeResetCtl_changes {G} {s₀ s : State} {v} (h : Changes G s₀ s)
    (hG : Part.within [.mem, .memc, .win, .ctx, .port, .evu, .pcie, .faults, .power, .timer, .mon, .fetch, .slot,
        .commits, .comp, .relief, .prot, .head, .panel, .syn, .epd, .seg, .adc, .relay, .cal, .pins] G = true) :
    Changes G s₀ (writeResetCtl v s) := by
  refine h.via ?_ hG
  unfold writeResetCtl
  exact .forEach (.set_port .refl rfl) fun _ _ h => (resetRequest_changes h rfl)

theorem writeWinLock_changes {G} {s₀ s : State} {v} (h : Changes G s₀ s)
    (hG : Part.within [.port] G = true) :
    Changes G s₀ (writeWinLock v s) := by
  refine h.via ?_ hG
  unfold writeWinLock
  exact .set_port .refl rfl

theorem writeBound_changes {G} {s₀ s : State} {w c off v} (h : Changes G s₀ s)
    (hG : Part.within Part.all G = true) :
    Changes G s₀ (writeBound w c off v s) := by
  refine h.via ?_ hG
  unfold writeBound
  dsimp only
  split
  · exact modWin_changes .refl rfl
  · exact modWin_changes .refl rfl
  · exact modWin_changes .refl rfl
  · exact modWin_changes .refl rfl
  · exact modWin_changes .refl rfl
  · exact modWin_changes .refl rfl
  · exact issueWrite_changes .refl rfl
  · exact modWin_changes .refl rfl
  · exact modWin_changes .refl rfl
  · exact modWin_changes .refl rfl
  · exact writeMemWin_changes .refl rfl
  · exact modWin_changes .refl rfl
  · exact writeEvtPend_changes .refl rfl
  · exact writeEvtEnable_changes .refl rfl
  · exact writeEvtCtl_changes .refl rfl
  · exact .ite (writeVecBase_changes .refl rfl) .refl
  · exact writeVecDone_changes .refl rfl
  · exact writeTimSel_changes .refl rfl
  · exact writeTim_changes .refl rfl
  · exact writeTim_changes .refl rfl
  · exact writeTim_changes .refl rfl
  · exact writeTim_changes .refl rfl
  · exact writeTim_changes .refl rfl
  · exact writeTim_changes .refl rfl
  · exact writeTimStart_changes .refl rfl
  · exact writeTim_changes .refl rfl
  · exact modWin_changes .refl rfl
  · exact modWin_changes .refl rfl
  · exact writeMon_changes .refl rfl
  · exact writeMon_changes .refl rfl
  · exact .ite (writeFaultSummary_changes .refl rfl) .refl
  · exact .ite (modWin_changes .refl rfl) .refl
  · exact .ite (writePowerReq_changes .refl rfl) .refl
  · exact .ite (writeHeartbeat_changes .refl rfl) .refl
  · exact modWin_changes .refl rfl
  · exact writeCalStatus_changes .refl rfl
  · exact .ite (writeClkStatus_changes .refl rfl) .refl
  · exact .ite (writeRelayStatus_changes .refl rfl) .refl
  · exact writeDoorbell_changes .refl rfl
  · exact .ite (writeResetCtl_changes .refl rfl) .refl
  · exact .ite (writeWinLock_changes .refl rfl) .refl
  · exact .refl

theorem writeReg_changes {G} {s₀ s : State} {w off v} (h : Changes G s₀ s)
    (hG : Part.within Part.all G = true) :
    Changes G s₀ (writeReg w off v s) := by
  refine h.via ?_ hG
  unfold writeReg
  split
  · exact .refl
  · exact writeBound_changes .refl rfl

theorem driveBus_changes {G} {s₀ s : State} {v} (h : Changes G s₀ s)
    (hG : Part.within [.pins] G = true) :
    Changes G s₀ (driveBus v s) := by
  refine h.via ?_ hG
  unfold driveBus
  exact .set_pins .refl rfl

theorem endAccess_changes {G} {s₀ s : State} (h : Changes G s₀ s)
    (hG : Part.within [.pins] G = true) :
    Changes G s₀ (endAccess s) := by
  refine h.via ?_ hG
  unfold endAccess
  exact .set_pins .refl rfl

theorem sleepAccess_changes {G} {s₀ s : State} (h : Changes G s₀ s)
    (hG : Part.within [.power] G = true) :
    Changes G s₀ (sleepAccess s) := by
  refine h.via ?_ hG
  unfold sleepAccess
  exact wakeRequest_changes .refl rfl

theorem lowRead_changes {G} {s₀ s : State} {cs o} (h : Changes G s₀ s)
    (hG : Part.within [.win, .ctx, .port, .evu, .pcie, .faults, .power, .fetch, .pins] G = true) :
    Changes G s₀ (lowRead cs o s) := by
  refine h.via ?_ hG
  unfold lowRead
  exact .ite .refl (endAccess_changes (.ite (sleepAccess_changes (driveBus_changes .refl rfl) rfl)
      (driveBus_changes (modWin_changes (readReg_changes .refl rfl) rfl) rfl)) rfl)

theorem highRead_changes {G} {s₀ s : State} {cs o} (h : Changes G s₀ s)
    (hG : Part.within [.win, .power, .pins] G = true) :
    Changes G s₀ (highRead cs o s) := by
  refine h.via ?_ hG
  unfold highRead
  exact .ite .refl (endAccess_changes (.ite (sleepAccess_changes (driveBus_changes .refl rfl) rfl)
      (driveBus_changes (modWin_changes .refl rfl) rfl)) rfl)

theorem lowWrite_changes {G} {s₀ s : State} {cs o v} (h : Changes G s₀ s)
    (hG : Part.within [.win, .power, .pins] G = true) :
    Changes G s₀ (lowWrite cs o v s) := by
  refine h.via ?_ hG
  unfold lowWrite
  exact .ite .refl (endAccess_changes (.ite (sleepAccess_changes .refl rfl) (modWin_changes .refl rfl)) rfl)

theorem highWrite_changes {G} {s₀ s : State} {cs o hi set} (h : Changes G s₀ s)
    (hG : Part.within Part.all G = true) :
    Changes G s₀ (highWrite cs o hi set s) := by
  refine h.via ?_ hG
  unfold highWrite
  exact .ite .refl (endAccess_changes (by
    refine .ite ?_ ?_
    · exact sleepAccess_changes .refl rfl
    · split
      · exact .ite (writeReg_changes (modWin_changes .refl rfl) rfl) (modWin_changes .refl rfl)
      · exact modWin_changes .refl rfl) rfl)

theorem sawLink_changes {G} {s₀ s : State} (h : Changes G s₀ s)
    (hG : Part.within [.pcie] G = true) :
    Changes G s₀ (sawLink s) := by
  refine h.via ?_ hG
  unfold sawLink
  exact .set_pcie .refl rfl

theorem dwordRead_changes {G} {s₀ s : State} {f o} (h : Changes G s₀ s)
    (hG : Part.within [.win, .ctx, .port, .evu, .pcie, .faults, .power, .fetch] G = true) :
    Changes G s₀ (dwordRead f o s) := by
  refine h.via ?_ hG
  unfold dwordRead
  exact .ite .refl (.ite (sendTlp_changes (sleepAccess_changes (sawLink_changes .refl rfl) rfl) rfl)
      (sendTlp_changes (readReg_changes (sawLink_changes .refl rfl) rfl) rfl))

theorem dwordWrite_changes {G} {s₀ s : State} {f o v} (h : Changes G s₀ s)
    (hG : Part.within Part.all G = true) :
    Changes G s₀ (dwordWrite f o v s) := by
  refine h.via ?_ hG
  unfold dwordWrite
  exact .ite .refl (.ite (sleepAccess_changes (sawLink_changes .refl rfl) rfl)
      (writeReg_changes (sawLink_changes .refl rfl) rfl))

theorem readAt_changes {G} {s₀ s : State} {o acc} (h : Changes G s₀ s)
    (hG : Part.within [.win, .ctx, .port, .evu, .pcie, .faults, .power, .fetch, .pins] G = true) :
    Changes G s₀ (readAt o acc s) := by
  refine h.via ?_ hG
  unfold readAt
  split
  · exact lowRead_changes .refl rfl
  · exact dwordRead_changes .refl rfl

theorem writeAt_changes {G} {s₀ s : State} {o set acc} (h : Changes G s₀ s)
    (hG : Part.within Part.all G = true) :
    Changes G s₀ (writeAt o set acc s) := by
  refine h.via ?_ hG
  unfold writeAt
  split
  · exact highWrite_changes .refl rfl
  · exact dwordWrite_changes .refl rfl

theorem writeMsix_changes {G} {s₀ s : State} {f t} (h : Changes G s₀ s)
    (hG : Part.within [.pcie] G = true) :
    Changes G s₀ (writeMsix f t s) := by
  refine h.via ?_ hG
  unfold writeMsix
  exact .forEach (modFn_changes .refl rfl) fun _ _ h => (.ite (unmasked_changes h rfl) h)

theorem invalidTlp_changes {G} {s₀ s : State} {f t} (h : Changes G s₀ s)
    (hG : Part.within [.pcie, .power] G = true) :
    Changes G s₀ (invalidTlp f t s) := by
  refine h.via ?_ hG
  unfold invalidTlp
  exact .ite .refl (.ite (.ite (sawLink_changes .refl rfl) (sendTlp_changes (sawLink_changes .refl rfl) rfl))
      (.ite (.ite (sleepAccess_changes (sawLink_changes .refl rfl) rfl)
      (sendTlp_changes (sleepAccess_changes (sawLink_changes .refl rfl) rfl) rfl))
      (.ite (.ite (writeMsix_changes (sawLink_changes .refl rfl) rfl) (sawLink_changes .refl rfl))
      (.ite (sendTlp_changes (sawLink_changes .refl rfl) rfl) (sendTlp_changes (sawLink_changes .refl rfl) rfl)))))

theorem barRead_changes {G} {s₀ s : State} {f off len} (h : Changes G s₀ s)
    (hG : Part.within [.evu, .pcie, .faults, .power, .fetch] G = true) :
    Changes G s₀ (barRead f off len s) := by
  refine h.via ?_ hG
  unfold barRead
  exact .ite .refl (.ite (sendTlp_changes (sleepAccess_changes (sawLink_changes .refl rfl) rfl) rfl)
      (.ite (sendTlp_changes (sawLink_changes .refl rfl) rfl) (.ite
      (sendTlp_changes (logUePart_changes (access_changes (sawLink_changes .refl rfl) rfl) rfl) rfl)
      (sendTlp_changes (access_changes (sawLink_changes .refl rfl) rfl) rfl))))

theorem barWrite_changes {G} {s₀ s : State} {f off data} (h : Changes G s₀ s)
    (hG : Part.within [.mem, .memc, .evu, .pcie, .faults, .power, .fetch, .relief] G = true) :
    Changes G s₀ (barWrite f off data s) := by
  refine h.via ?_ hG
  unfold barWrite
  exact .ite .refl (.ite (sleepAccess_changes (sawLink_changes .refl rfl) rfl)
      (.ite (hostWrite_changes (sawLink_changes .refl rfl) rfl) (sawLink_changes .refl rfl)))

/-! ## The queue, and the commands of the table -/

theorem idle_changes {G} {s₀ s : State} (h : Changes G s₀ s)
    (hG : Part.within Part.all G = true) :
    Changes G s₀ (idle s) := by
  refine h.via ?_ hG
  unfold idle
  exact powerStep_changes (.set_drone .refl rfl) rfl

theorem execNop_answers {s : State} {w c} :
    Answers [.win, .port, .evu, .pcie, .faults, .fetch] s (execNop w c s) :=
  ⟨_, rfl, portRow_changes .refl (fun _ _ _ _ h => (run_changes h (fun _ c a _ h =>
      (actNop_changes (c := c) (a := a) h rfl)) rfl)) rfl⟩

theorem execUnassignedOpcode_answers {s : State} {w op c} :
    Answers Part.all s (execUnassignedOpcode w op c s) :=
  ⟨_, rfl, issueAny_changes .refl rfl⟩

theorem execAttach_answers {s : State} {w c} :
    Answers [.win, .ctx, .port, .evu, .pcie, .faults, .fetch, .prot] s (execAttach w c s) :=
  ⟨_, rfl, portRow_changes .refl (fun _ _ _ _ h => (run_changes h (fun _ c a _ h =>
      (actAttach_changes (c := c) (a := a) h rfl)) rfl)) rfl⟩

theorem execDetach_answers {s : State} {w c} :
    Answers [.mem, .memc, .win, .ctx, .port, .evu, .pcie, .faults, .timer, .mon, .fetch, .commits, .comp, .relief,
        .prot, .cal, .free] s (execDetach w c s) :=
  ⟨_, rfl, portRow_changes .refl (fun _ _ _ _ h => (run_changes h (fun _ c a _ h =>
      (actDetach_changes (c := c) (a := a) h rfl)) rfl)) rfl⟩

theorem execSeal_answers {s : State} {w c} :
    Answers [.win, .port, .evu, .pcie, .faults, .fetch] s (execSeal w c s) :=
  ⟨_, rfl, portRow_changes .refl (fun _ _ _ _ h => (run_changes h (fun _ c a _ h =>
      (actSeal_changes (c := c) (a := a) h rfl)) rfl)) rfl⟩

theorem execBindWindow_answers {s : State} {w c} :
    Answers [.win, .ctx, .port, .evu, .pcie, .faults, .fetch] s (execBindWindow w c s) :=
  ⟨_, rfl, portRow_changes .refl (fun _ _ _ _ h => (run_changes h (fun _ c a _ h =>
      (actBindWindow_changes (c := c) (a := a) h rfl)) rfl)) rfl⟩

theorem execPartitionSet_answers {s : State} {w c} :
    Answers [.memc, .win, .ctx, .port, .evu, .pcie, .faults, .fetch] s (execPartitionSet w c s) :=
  ⟨_, rfl, portRow_changes .refl (fun _ _ _ _ h => (run_changes h (fun _ c a _ h =>
      (actPartitionSet_changes (c := c) (a := a) h rfl)) rfl)) rfl⟩

theorem execTerritorySet_answers {s : State} {w c} :
    Answers [.win, .ctx, .port, .evu, .pcie, .faults, .fetch] s (execTerritorySet w c s) :=
  ⟨_, rfl, portRow_changes .refl (fun _ _ _ _ h => (run_changes h (fun _ c a _ h =>
      (actTerritorySet_changes (c := c) (a := a) h rfl)) rfl)) rfl⟩

theorem execCopyIn_answers {s : State} {w c} :
    Answers [.win, .port, .evu, .pcie, .faults, .fetch] s (execCopyIn w c s) :=
  ⟨_, rfl, portRow_changes .refl (fun _ _ _ _ h => (run_changes h (fun _ c a _ h =>
      (actCopy_changes (c := c) (a := a) h rfl)) rfl)) rfl⟩

theorem execCopyOut_answers {s : State} {w c} :
    Answers [.win, .port, .evu, .pcie, .faults, .fetch] s (execCopyOut w c s) :=
  ⟨_, rfl, portRow_changes .refl (fun _ _ _ _ h => (run_changes h (fun _ c a _ h =>
      (actCopy_changes (c := c) (a := a) h rfl)) rfl)) rfl⟩

theorem execCommit_answers {s : State} {w c} :
    Answers [.win, .port, .evu, .pcie, .faults, .fetch] s (execCommit w c s) :=
  ⟨_, rfl, portRow_changes .refl (fun _ _ _ _ h => (run_changes h (fun _ c a _ h =>
      (readCommit_changes (c := c) (a := a) h rfl)) rfl)) rfl⟩

theorem execCommitAbort_answers {s : State} {w c} :
    Answers [.win, .port, .evu, .pcie, .faults, .fetch, .commits] s (execCommitAbort w c s) :=
  ⟨_, rfl, portRow_changes .refl (fun _ _ _ _ h => (run_changes h (fun _ c a _ h =>
      (actCommitAbort_changes (c := c) (a := a) h rfl)) rfl)) rfl⟩

theorem execCommitCheck_answers {s : State} {w c} :
    Answers [.win, .port, .evu, .pcie, .faults, .fetch] s (execCommitCheck w c s) :=
  ⟨_, rfl, portRow_changes .refl (fun _ _ _ _ h => (run_changes h (fun _ c a _ h =>
      (readCommit_changes (c := c) (a := a) h rfl)) rfl)) rfl⟩

theorem execReliefFlush_answers {s : State} {w c} :
    Answers [.win, .port, .evu, .pcie, .faults, .fetch, .relief] s (execReliefFlush w c s) :=
  ⟨_, rfl, portRow_changes .refl (fun _ _ _ _ h => (run_changes h (fun _ c a _ h =>
      (actReliefFlush_changes (c := c) (a := a) h rfl)) rfl)) rfl⟩

theorem execProtectLoad_answers {s : State} {w c} :
    Answers [.win, .port, .evu, .pcie, .faults, .fetch, .prot] s (execProtectLoad w c s) :=
  ⟨_, rfl, portRow_changes .refl (fun _ _ _ _ h => (run_changes h (fun _ c a _ h =>
      (actProtectLoad_changes (c := c) (a := a) h rfl)) rfl)) rfl⟩

theorem execProtectLock_answers {s : State} {w c} :
    Answers [.win, .port, .evu, .pcie, .faults, .fetch, .prot, .cal] s (execProtectLock w c s) :=
  ⟨_, rfl, portRow_changes .refl (fun _ _ _ _ h => (run_changes h (fun _ c a _ h =>
      (actProtectLock_changes (c := c) (a := a) h rfl)) rfl)) rfl⟩

theorem execProtectRelease_answers {s : State} {w c} :
    Answers [.win, .port, .evu, .pcie, .faults, .fetch, .prot] s (execProtectRelease w c s) :=
  ⟨_, rfl, portRow_changes .refl (fun _ _ _ _ h => (run_changes h (fun _ c a _ h =>
      (actProtectRelease_changes (c := c) (a := a) h rfl)) rfl)) rfl⟩

theorem execHeadConfig_answers {s : State} {w c} :
    Answers [.mem, .memc, .win, .port, .evu, .pcie, .faults, .fetch, .prot, .head, .epd] s (execHeadConfig w c s) :=
  ⟨_, rfl, portRow_changes .refl (fun _ _ _ _ h => (run_changes h (fun _ c a _ h =>
      (actHeadConfig_changes (c := c) (a := a) h rfl)) rfl)) rfl⟩

theorem execHeadStart_answers {s : State} {w c} :
    Answers [.win, .port, .evu, .pcie, .faults, .power, .fetch, .commits, .head, .syn] s (execHeadStart w c s) :=
  ⟨_, rfl, portRow_changes .refl (fun _ _ _ _ h => (run_changes h (fun _ c a _ h =>
      (actHeadStart_changes (c := c) (a := a) h rfl)) rfl)) rfl⟩

theorem execHeadStop_answers {s : State} {w c} :
    Answers [.mem, .memc, .win, .ctx, .port, .evu, .pcie, .faults, .timer, .mon, .fetch, .slot, .commits, .comp,
        .relief, .prot, .head, .panel, .syn, .cal, .pins] s (execHeadStop w c s) :=
  ⟨_, rfl, portRow_changes .refl (fun _ _ _ _ h => (run_changes h (fun _ c a _ h =>
      (actHeadStop_changes (c := c) (a := a) h rfl)) rfl)) rfl⟩

theorem execPanelPower_answers {s : State} {w c} :
    Answers [.mem, .memc, .win, .ctx, .port, .evu, .pcie, .faults, .power, .timer, .mon, .fetch, .slot, .commits,
        .comp, .relief, .prot, .head, .panel, .syn, .cal, .pins] s (execPanelPower w c s) :=
  ⟨_, rfl, portRow_changes .refl (fun _ _ _ _ h => (run_changes h (fun _ c a _ h =>
      (actPanelPower_changes (c := c) (a := a) h rfl)) rfl)) rfl⟩

theorem execEpdUpdate_answers {s : State} {w c} :
    Answers [.win, .port, .evu, .pcie, .faults, .power, .fetch, .epd, .adc, .cal, .free] s (execEpdUpdate w c s) :=
  ⟨_, rfl, portRow_changes .refl (fun _ _ _ _ h => (run_changes h (fun _ c a _ h =>
      (actEpdUpdate_changes (c := c) (a := a) h rfl)) rfl)) rfl⟩

theorem execEpdClear_answers {s : State} {w c} :
    Answers [.win, .port, .evu, .pcie, .faults, .power, .fetch, .epd, .adc, .free] s (execEpdClear w c s) :=
  ⟨_, rfl, portRow_changes .refl (fun _ _ _ _ h => (run_changes h (fun _ c a _ h =>
      (actEpdClear_changes (c := c) (a := a) h rfl)) rfl)) rfl⟩

theorem execSegWrite_answers {s : State} {w c} :
    Answers [.win, .port, .evu, .pcie, .faults, .fetch, .seg] s (execSegWrite w c s) :=
  ⟨_, rfl, portRow_changes .refl (fun _ _ _ _ h => (run_changes h (fun _ c a _ h =>
      (actSegWrite_changes (c := c) (a := a) h rfl)) rfl)) rfl⟩

theorem execScan_answers {s : State} {w c} :
    Answers [.win, .port, .evu, .pcie, .faults, .fetch, .cal] s (execScan w c s) :=
  ⟨_, rfl, portRow_changes .refl (fun _ _ _ _ h => (run_changes h (fun _ c a _ h =>
      (actScan_changes (c := c) (a := a) h rfl)) rfl)) rfl⟩

theorem execSelftest_answers {s : State} {w c} :
    Answers [.win, .port, .evu, .pcie, .faults, .fetch, .cal] s (execSelftest w c s) :=
  ⟨_, rfl, portRow_changes .refl (fun _ _ _ _ h => (run_changes h (fun _ c a _ h =>
      (actSelftest_changes (c := c) (a := a) h rfl)) rfl)) rfl⟩

theorem execQueueConfig_answers {s : State} {w c} :
    Answers [.win, .port, .evu, .pcie, .faults, .fetch, .relay] s (execQueueConfig w c s) :=
  ⟨_, rfl, portRow_changes .refl (fun _ _ _ _ h => (run_changes h (fun _ _ _ _ h =>
      (finishGen_changes (setWeight_changes h rfl) rfl)) rfl)) rfl⟩

theorem execPolicerConfig_answers {s : State} {w c} :
    Answers [.win, .ctx, .port, .evu, .pcie, .faults, .fetch, .relay] s (execPolicerConfig w c s) :=
  ⟨_, rfl, portRow_changes .refl (fun _ _ _ _ h => (run_changes h (fun _ c a _ h =>
      (actPolicerConfig_changes (c := c) (a := a) h rfl)) rfl)) rfl⟩

theorem execRelayConfig_answers {s : State} {w c} :
    Answers [.win, .port, .evu, .pcie, .faults, .power, .fetch, .relay] s (execRelayConfig w c s) :=
  ⟨_, rfl, portRow_changes .refl (fun _ _ _ _ h => (run_changes h (fun _ c a _ h =>
      (actRelayConfig_changes (c := c) (a := a) h rfl)) rfl)) rfl⟩

theorem execRelayStream_answers {s : State} {w c} :
    Answers [.win, .port, .evu, .pcie, .faults, .fetch, .relay] s (execRelayStream w c s) :=
  ⟨_, rfl, portRow_changes .refl (fun _ _ _ _ h => (run_changes h (fun _ c a _ h =>
      (actRelayStream_changes (c := c) (a := a) h rfl)) rfl)) rfl⟩

theorem execRelayIngest_answers {s : State} {w c} :
    Answers [.win, .port, .evu, .pcie, .faults, .fetch, .relay, .cal] s (execRelayIngest w c s) :=
  ⟨_, rfl, portRow_changes .refl (fun _ _ _ _ h => (run_changes h (fun _ c a _ h =>
      (actRelayIngest_changes (c := c) (a := a) h rfl)) rfl)) rfl⟩

theorem execMaquette_answers {s : State} {w c} :
    Answers [.win, .port, .evu, .pcie, .faults, .fetch] s (execMaquette w c s) :=
  ⟨_, rfl, portRow_changes .refl (fun _ _ _ _ h => (run_changes h (fun _ c a _ h =>
      (actMaquette_changes (c := c) (a := a) h rfl)) rfl)) rfl⟩

theorem execMaquetteShort_answers {s : State} {w c} :
    Answers [.win, .ctx, .port, .evu, .pcie, .faults, .fetch] s (execMaquetteShort w c s) :=
  ⟨_, rfl, portRow_changes .refl (fun _ _ _ _ h => (run_changes h (fun _ c a _ h =>
      (actMaquetteShort_changes (c := c) (a := a) h rfl)) rfl)) rfl⟩

theorem execFaultClear_answers {s : State} {w c} :
    Answers [.win, .port, .evu, .pcie, .faults, .fetch] s (execFaultClear w c s) :=
  ⟨_, rfl, portRow_changes .refl (fun _ _ _ _ h => (run_changes h (fun _ c a _ h =>
      (actFaultClear_changes (c := c) (a := a) h rfl)) rfl)) rfl⟩

theorem execPowerMode_answers {s : State} {w c} :
    Answers [.memc, .win, .port, .evu, .pcie, .faults, .power, .fetch, .seg] s (execPowerMode w c s) :=
  ⟨_, rfl, portRow_changes .refl (fun _ _ _ _ h => (run_changes h (fun _ c a _ h =>
      (actPowerMode_changes (c := c) (a := a) h rfl)) rfl)) rfl⟩

theorem execClockConfig_answers {s : State} {w c} :
    Answers [.win, .port, .evu, .pcie, .faults, .fetch, .syn] s (execClockConfig w c s) :=
  ⟨_, rfl, portRow_changes .refl (fun _ _ _ _ h => (run_changes h (fun _ c a _ h =>
      (actClockConfig_changes (c := c) (a := a) h rfl)) rfl)) rfl⟩

theorem execPhaseStep_answers {s : State} {w c} :
    Answers [.win, .port, .evu, .pcie, .faults, .fetch, .syn] s (execPhaseStep w c s) :=
  ⟨_, rfl, portRow_changes .refl (fun _ _ _ _ h => (run_changes h (fun _ c a _ h =>
      (actPhaseStep_changes (c := c) (a := a) h rfl)) rfl)) rfl⟩

theorem execEvtRoute_answers {s : State} {w c} :
    Answers [.win, .port, .evu, .pcie, .faults, .fetch] s (execEvtRoute w c s) :=
  ⟨_, rfl, portRow_changes .refl (fun _ _ _ _ h => (run_changes h (fun _ c a _ h =>
      (actEvtRoute_changes (c := c) (a := a) h rfl)) rfl)) rfl⟩

theorem execMonitorBind_answers {s : State} {w c} :
    Answers [.win, .port, .evu, .pcie, .faults, .mon, .fetch] s (execMonitorBind w c s) :=
  ⟨_, rfl, portRow_changes .refl (fun _ _ _ _ h => (run_changes h (fun _ c a _ h =>
      (actMonitorBind_changes (c := c) (a := a) h rfl)) rfl)) rfl⟩

theorem execCommandDispatch_answers {s : State} {w} :
    Answers Part.all s (execCommandDispatch w s) :=
  ⟨_, rfl, .ite (startNext_changes .refl (fun _ _ _ _ _ h => (runTaken_changes h rfl)) rfl) .refl⟩

theorem execResourceGrant_answers {s : State} {r} :
    Answers Part.all s (execResourceGrant r s) := by
  unfold execResourceGrant
  dsimp only
  split
  · exact ⟨_, rfl, .refl⟩
  · split
    · exact ⟨_, rfl, .ite .refl (grantAuto_changes .refl rfl)⟩
    · split
      · exact ⟨_, rfl, .ite .refl (runRequest_changes .refl rfl)⟩
      · split
        · exact ⟨_, rfl, .ite .refl (grantWindow_changes .refl rfl)⟩
        · exact ⟨_, rfl, .refl⟩

theorem execBudgetCheckerSlot_answers {s : State} :
    Answers [.win, .ctx, .port, .evu, .pcie, .faults, .fetch, .slot, .commits, .epd, .free] s
        (execBudgetCheckerSlot s) := by
  unfold execBudgetCheckerSlot
  dsimp only
  split
  · exact ⟨_, rfl, .refl⟩
  · split
    · exact ⟨_, rfl, decideFallback_changes (.set_port (.set_port .refl rfl) rfl) rfl⟩
    · split
      · split
        · exact ⟨_, rfl, decideRequest_changes (.set_port .refl rfl) rfl⟩
        · exact ⟨_, rfl, decideSeal_changes (.set_port .refl rfl) rfl⟩
        · exact ⟨_, rfl, .set_port .refl rfl⟩
      · exact ⟨_, rfl, .set_port .refl rfl⟩

theorem execDetachDrainComplete_answers {s : State} {n} :
    Answers [.memc, .win, .ctx, .port, .evu, .pcie, .fetch, .slot, .comp, .prot, .epd] s
        (execDetachDrainComplete n s) := by
  unfold execDetachDrainComplete
  split
  · exact ⟨_, rfl, endDetach_changes .refl rfl⟩
  · exact ⟨_, rfl, .refl⟩

theorem execMaquetteQuietPoint_answers {s : State} {w} :
    Answers [.win, .port, .evu, .pcie] s (execMaquetteQuietPoint w s) := by
  unfold execMaquetteQuietPoint
  dsimp only
  split
  · exact ⟨_, rfl, .refl⟩
  · split
    · exact ⟨_, rfl, .refl⟩
    · split
      · exact ⟨_, rfl, finish_changes (unstage_changes .refl rfl) rfl⟩
      · exact ⟨_, rfl, setPhase_changes (.set_port .refl rfl) rfl⟩

theorem execMaquetteWritten_answers {s : State} {w} :
    Answers [.mem, .memc, .win, .port, .evu, .pcie, .faults, .fetch, .relief] s (execMaquetteWritten w s) := by
  unfold execMaquetteWritten
  dsimp only
  split
  · split
    · exact ⟨_, rfl, .refl⟩
    · exact ⟨_, rfl, finish_changes (unstage_changes (access_changes (snoop_changes (write_changes .refl rfl) rfl)
          rfl) rfl) rfl⟩
  · exact ⟨_, rfl, .refl⟩

theorem execWaitTimeout_answers {s : State} {x} :
    Answers [.mem, .memc, .win, .port, .evu, .pcie, .faults, .power, .fetch, .head, .syn, .epd, .adc, .cal] s
        (execWaitTimeout x s) := by
  unfold execWaitTimeout
  split
  · exact ⟨_, rfl, expireWindow_changes .refl rfl⟩
  · exact ⟨_, rfl, expireAuto_changes .refl rfl⟩
  · exact ⟨_, rfl, expirePower_changes .refl rfl⟩

theorem execWaitingAllRelease_answers {s : State} :
    Answers [.mem, .memc, .win, .port, .evu, .pcie, .faults, .power, .fetch, .epd, .adc, .cal] s
        (execWaitingAllRelease s) := by
  unfold execWaitingAllRelease
  split
  · exact ⟨_, rfl, .refl⟩
  · exact ⟨_, rfl, releaseSeq_changes (raise_changes (logFault_changes .refl rfl) rfl) rfl⟩

theorem execCmdIssue_answers {s : State} {acc} :
    Answers Part.all s (execCmdIssue acc s) :=
  ⟨_, rfl, writeAt_changes .refl rfl⟩

theorem execCmdStatusRead_answers {s : State} {acc} :
    Answers [.win, .ctx, .port, .evu, .pcie, .faults, .power, .fetch, .pins] s (execCmdStatusRead acc s) :=
  ⟨_, rfl, readAt_changes .refl rfl⟩

theorem execHostLowHalfRead_answers {s : State} {cs off} :
    Answers [.win, .ctx, .port, .evu, .pcie, .faults, .power, .fetch, .pins] s (execHostLowHalfRead cs off s) :=
  ⟨_, rfl, lowRead_changes .refl rfl⟩

theorem execHostHighHalfRead_answers {s : State} {cs off} :
    Answers [.win, .power, .pins] s (execHostHighHalfRead cs off s) :=
  ⟨_, rfl, highRead_changes .refl rfl⟩

theorem execHostLowHalfWrite_answers {s : State} {cs off v} :
    Answers [.win, .power, .pins] s (execHostLowHalfWrite cs off v s) :=
  ⟨_, rfl, lowWrite_changes .refl rfl⟩

theorem execHostBusConflict_answers {s : State} {x0} :
    Answers [] s (execHostBusConflict x0 s) :=
  ⟨_, rfl, .refl⟩

theorem execRegisterWrite_answers {s : State} {off acc} :
    Answers Part.all s (execRegisterWrite off acc s) :=
  ⟨_, rfl, writeAt_changes .refl rfl⟩

theorem execBar0InvalidTlp_answers {s : State} {fn tlp} :
    Answers [.pcie, .power] s (execBar0InvalidTlp fn tlp s) :=
  ⟨_, rfl, invalidTlp_changes .refl rfl⟩

theorem execMemWinDataRead_answers {s : State} {acc} :
    Answers [.win, .ctx, .port, .evu, .pcie, .faults, .power, .fetch, .pins] s (execMemWinDataRead acc s) :=
  ⟨_, rfl, readAt_changes .refl rfl⟩

theorem execMemWinDataWrite_answers {s : State} {acc} :
    Answers Part.all s (execMemWinDataWrite acc s) :=
  ⟨_, rfl, writeAt_changes .refl rfl⟩

theorem execBar2Read_answers {s : State} {fn off len} :
    Answers [.evu, .pcie, .faults, .power, .fetch] s (execBar2Read fn off len s) :=
  ⟨_, rfl, barRead_changes .refl rfl⟩

theorem execBar2Write_answers {s : State} {fn off data} :
    Answers [.mem, .memc, .evu, .pcie, .faults, .power, .fetch, .relief] s (execBar2Write fn off data s) :=
  ⟨_, rfl, barWrite_changes .refl rfl⟩

theorem execFaultLogDataRead_answers {s : State} {acc} :
    Answers [.win, .ctx, .port, .evu, .pcie, .faults, .power, .fetch, .pins] s (execFaultLogDataRead acc s) :=
  ⟨_, rfl, readAt_changes .refl rfl⟩

theorem execVecClaim_answers {s : State} {acc} :
    Answers [.win, .ctx, .port, .evu, .pcie, .faults, .power, .fetch, .pins] s (execVecClaim acc s) :=
  ⟨_, rfl, readAt_changes .refl rfl⟩

theorem execVecDone_answers {s : State} {acc} :
    Answers Part.all s (execVecDone acc s) :=
  ⟨_, rfl, writeAt_changes .refl rfl⟩

theorem execEvtPendWithdraw_answers {s : State} {acc} :
    Answers Part.all s (execEvtPendWithdraw acc s) :=
  ⟨_, rfl, writeAt_changes .refl rfl⟩

theorem execMergeClr_answers {s : State} {acc} :
    Answers Part.all s (execMergeClr acc s) :=
  ⟨_, rfl, writeAt_changes .refl rfl⟩

theorem execTimStart_answers {s : State} {acc} :
    Answers Part.all s (execTimStart acc s) :=
  ⟨_, rfl, writeAt_changes .refl rfl⟩

theorem execTimCtlWrite_answers {s : State} {acc} :
    Answers Part.all s (execTimCtlWrite acc s) :=
  ⟨_, rfl, writeAt_changes .refl rfl⟩

theorem execTimCountWrite_answers {s : State} {acc} :
    Answers Part.all s (execTimCountWrite acc s) :=
  ⟨_, rfl, writeAt_changes .refl rfl⟩

theorem execTimPrescaleWrite_answers {s : State} {acc} :
    Answers Part.all s (execTimPrescaleWrite acc s) :=
  ⟨_, rfl, writeAt_changes .refl rfl⟩

theorem execMonClear_answers {s : State} {acc} :
    Answers Part.all s (execMonClear acc s) :=
  ⟨_, rfl, writeAt_changes .refl rfl⟩

theorem execDoorbellWrite_answers {s : State} {acc} :
    Answers Part.all s (execDoorbellWrite acc s) :=
  ⟨_, rfl, writeAt_changes .refl rfl⟩

theorem execDoorbellRead_answers {s : State} {acc} :
    Answers [.win, .ctx, .port, .evu, .pcie, .faults, .power, .fetch, .pins] s (execDoorbellRead acc s) :=
  ⟨_, rfl, readAt_changes .refl rfl⟩

theorem execHeartbeatWrite_answers {s : State} {acc} :
    Answers Part.all s (execHeartbeatWrite acc s) :=
  ⟨_, rfl, writeAt_changes .refl rfl⟩

theorem execPowerReqWrite_answers {s : State} {acc} :
    Answers Part.all s (execPowerReqWrite acc s) :=
  ⟨_, rfl, writeAt_changes .refl rfl⟩

theorem execDroneShadowTransfer_answers {s : State} {r} :
    Answers [.memc, .win, .port, .evu, .pcie, .power, .drone, .timer, .timerShadow, .fetch, .seg] s
        (execDroneShadowTransfer r s) := by
  unfold execDroneShadowTransfer
  dsimp only
  split
  · exact ⟨_, rfl, .ite (takeHeartbeat_changes .refl rfl) .refl⟩
  · split
    · exact ⟨_, rfl, .refl⟩
    · exact ⟨_, rfl, .ite (.set_power .refl rfl) (requestMode_changes (.set_power .refl rfl) rfl)⟩
  · split
    · exact ⟨_, rfl, takeTimer_changes .refl rfl⟩
    · exact ⟨_, rfl, .refl⟩

theorem execResetHead_answers {s : State} {acc h'} :
    Answers Part.all s (execResetHead acc h' s) :=
  ⟨_, rfl, writeAt_changes .refl rfl⟩

theorem execResetHeadE_answers {s : State} {acc} :
    Answers Part.all s (execResetHeadE acc s) :=
  ⟨_, rfl, writeAt_changes .refl rfl⟩

theorem execResetRelayPort_answers {s : State} {acc} :
    Answers Part.all s (execResetRelayPort acc s) :=
  ⟨_, rfl, writeAt_changes .refl rfl⟩

theorem execResetCal_answers {s : State} {acc u} :
    Answers Part.all s (execResetCal acc u s) :=
  ⟨_, rfl, writeAt_changes .refl rfl⟩

theorem execResetSegmentDriver_answers {s : State} {acc} :
    Answers Part.all s (execResetSegmentDriver acc s) :=
  ⟨_, rfl, writeAt_changes .refl rfl⟩

theorem execResetTimers_answers {s : State} {acc} :
    Answers Part.all s (execResetTimers acc s) :=
  ⟨_, rfl, writeAt_changes .refl rfl⟩

theorem execVfFunctionLevelReset_answers {s : State} {n} :
    Answers [.mem, .memc, .win, .ctx, .port, .evu, .pcie, .faults, .timer, .mon, .fetch, .commits, .comp, .relief,
        .prot, .cal, .free] s (execVfFunctionLevelReset n s) := by
  unfold execVfFunctionLevelReset
  split
  · exact ⟨_, rfl, resetFn_changes (flrDetach_changes .refl rfl) rfl⟩
  · exact ⟨_, rfl, .refl⟩

theorem execVfEnableClear_answers {s : State} {enable numVfs} :
    Answers [.mem, .memc, .win, .ctx, .port, .evu, .pcie, .faults, .timer, .mon, .fetch, .commits, .comp, .relief,
        .prot, .cal, .free] s (execVfEnableClear enable numVfs s) := by
  unfold execVfEnableClear
  split
  · exact ⟨_, rfl, setVfs_changes .refl rfl⟩
  · exact ⟨_, rfl, .refl⟩

theorem execPfFunctionLevelReset_answers {s : State} :
    Answers [.win, .port, .evu, .pcie, .fetch] s (execPfFunctionLevelReset s) :=
  ⟨_, rfl, resetPf_changes .refl rfl⟩

theorem execPePerst_answers {s : State} :
    Answers [.mem, .memc, .win, .ctx, .port, .evu, .pcie, .faults, .timer, .mon, .fetch, .commits, .comp, .relief,
        .prot, .cal, .free] s (execPePerst s) := by
  unfold execPePerst
  dsimp only
  split
  · exact ⟨_, rfl, .refl⟩
  · exact ⟨_, rfl, .set_pcie (dropReads_changes (resetPf_changes (setVfs_changes .refl rfl) rfl) rfl) rfl⟩

theorem execPcieHotReset_answers {s : State} :
    Answers [.mem, .memc, .win, .ctx, .port, .evu, .pcie, .faults, .timer, .mon, .fetch, .commits, .comp, .relief,
        .prot, .cal, .free] s (execPcieHotReset s) :=
  ⟨_, rfl, dropReads_changes (resetPf_changes (setVfs_changes .refl rfl) rfl) rfl⟩

theorem execMsixVectorUnmask_answers {s : State} {f v} :
    Answers [.pcie] s (execMsixVectorUnmask f v s) :=
  ⟨_, rfl, unmasked_changes (modFn_changes .refl rfl) rfl⟩

theorem execColdReset_answers {s : State} {straps} :
    Answers [.mem, .memc, .win, .ctx, .port, .evu, .pcie, .faults, .power, .drone, .timer, .timerShadow, .mon, .fetch,
        .slot, .commits, .comp, .relief, .prot, .head, .panel, .syn, .epd, .seg, .adc, .relay, .cal, .boot, .pins] s
        (execColdReset straps s) :=
  ⟨_, rfl, coldReset_changes .refl rfl⟩

theorem execBrownOut_answers {s : State} {supply straps} :
    Answers [.mem, .memc, .win, .ctx, .port, .evu, .pcie, .faults, .power, .drone, .timer, .timerShadow, .mon, .fetch,
        .slot, .commits, .comp, .relief, .prot, .head, .panel, .syn, .epd, .seg, .adc, .relay, .cal, .boot, .pins] s
        (execBrownOut supply straps s) :=
  ⟨_, rfl, .ite (coldReset_changes .refl rfl) .refl⟩

theorem execRegisterFileReady_answers {s : State} :
    Answers [.boot] s (execRegisterFileReady s) :=
  ⟨_, rfl, .ite (.set_boot .refl rfl) .refl⟩

theorem execBootImageValidation_answers {s : State} {f} :
    Answers [.memc, .port, .evu, .pcie, .faults, .power, .seg, .boot] s (execBootImageValidation f s) := by
  unfold execBootImageValidation
  dsimp only
  split
  · exact ⟨_, rfl, .refl⟩
  · split
    · exact ⟨_, rfl, .set_memc_boot (.set_boot .refl rfl) rfl⟩
    · exact ⟨_, rfl, setPhaseOf_changes (bootStops_changes (logFault_changes (.set_boot .refl rfl) rfl) rfl) rfl⟩

theorem execMemoryTraining_answers {s : State} {r} :
    Answers [.memc, .port, .evu, .pcie, .faults, .power, .seg, .boot] s (execMemoryTraining r s) := by
  unfold execMemoryTraining
  dsimp only
  split
  · exact ⟨_, rfl, .refl⟩
  · split
    · split
      · exact ⟨_, rfl, .set_memc .refl rfl⟩
      · exact ⟨_, rfl, trained_changes (raise_changes (.set_memc (.set_memc .refl rfl) rfl) rfl) rfl⟩
    · split
      · exact ⟨_, rfl, .set_memc .refl rfl⟩
      · exact ⟨_, rfl, trained_changes (raise_changes (logFault_changes (.set_memc .refl rfl) rfl) rfl) rfl⟩

theorem execBootImageApply_answers {s : State} {recheck} :
    Answers [.mem, .memc, .ctx, .port, .evu, .pcie, .faults, .power, .drone, .fetch, .slot, .commits, .prot, .head,
        .panel, .syn, .epd, .seg, .relay, .boot, .free] s (execBootImageApply recheck s) := by
  have ha : Changes [.mem, .memc, .ctx, .port, .evu, .pcie, .faults, .power, .drone, .fetch, .slot, .commits, .prot,
      .head, .panel, .syn, .epd, .seg, .relay, .boot, .free]
      s (applyAll (loadSection recheck) (orderedSections s) s).1 :=
    applyAll_changes .refl fun _ _ h => loadSection_changes h rfl
  unfold execBootImageApply
  split
  · exact ⟨_, rfl, .refl⟩
  · refine ⟨_, rfl, setPhaseOf_changes ?_ rfl⟩
    split
    · exact bootDone_changes (applyFreeze_changes (.set_port (.set_port ha rfl) rfl) rfl) rfl
    · exact bootStops_changes (.set_port ha rfl) rfl

theorem execWakeRequest_answers {s : State} {x} :
    Answers [.port, .faults, .power] s (execWakeRequest x s) :=
  ⟨_, rfl, .ite (startExit_changes (wakeRequest_changes .refl rfl) rfl) (wakeRequest_changes .refl rfl)⟩

theorem execHostBusWake_answers {s : State} :
    Answers [.power] s (execHostBusWake s) :=
  ⟨_, rfl, .ite .refl (wakeRequest_changes .refl rfl)⟩

theorem execPowerStepWaitTimeout_answers {s : State} :
    Answers [.evu, .pcie, .faults, .power] s (execPowerStepWaitTimeout s) := by
  unfold execPowerStepWaitTimeout
  dsimp only
  split
  · exact ⟨_, rfl, .refl⟩
  · split
    · exact ⟨_, rfl, setList_changes (.ite (logFault_changes .refl rfl) .refl) rfl⟩
    · exact ⟨_, rfl, .refl⟩

theorem execClkLoss_answers {s : State} {pll} :
    Answers [.mem, .memc, .win, .ctx, .port, .evu, .pcie, .faults, .power, .drone, .mon, .fetch, .slot, .commits,
        .comp, .relief, .prot, .head, .panel, .syn, .epd, .adc, .relay, .cal, .free] s (execClkLoss pll s) := by
  unfold execClkLoss
  dsimp only
  split
  · exact ⟨_, rfl, .refl⟩
  · exact ⟨_, rfl, .forEach (raise_changes (logFault_changes (.set_drone .refl rfl) rfl) rfl) fun _ _ h =>
        (loseSyn_changes h rfl)⟩

theorem execXtalReturn_answers {s : State} :
    Answers [.memc, .evu, .pcie, .drone, .mon] s (execXtalReturn s) := by
  unfold execXtalReturn
  dsimp only
  split
  · exact ⟨_, rfl, .refl⟩
  · exact ⟨_, rfl, .ite (calibrate_changes (.set_drone .refl rfl) rfl) (.set_drone .refl rfl)⟩

theorem execBoreLock_answers {s : State} {y} :
    Answers [.mem, .memc, .win, .ctx, .port, .evu, .pcie, .faults, .mon, .fetch, .slot, .commits, .comp, .relief,
        .prot, .head, .panel, .syn, .relay, .cal, .pins, .free] s (execBoreLock y s) :=
  ⟨_, rfl, lockBore_changes .refl rfl⟩

theorem execSynLoss_answers {s : State} {y reference} :
    Answers [.mem, .memc, .win, .ctx, .port, .evu, .pcie, .faults, .power, .mon, .fetch, .slot, .commits, .comp,
        .relief, .prot, .head, .panel, .syn, .epd, .adc, .relay, .cal, .free] s (execSynLoss y reference s) :=
  ⟨_, rfl, loseSyn_changes .refl rfl⟩

theorem execCalibrationDue_answers {s : State} :
    Answers [.memc, .evu, .pcie, .mon] s (execCalibrationDue s) := by
  unfold execCalibrationDue
  dsimp only
  split
  · exact ⟨_, rfl, .refl⟩
  · exact ⟨_, rfl, tryCal_changes (.set_memc .refl rfl) rfl⟩

theorem execForcedCalibration_answers {s : State} :
    Answers [.memc, .evu, .pcie, .mon] s (execForcedCalibration s) := by
  unfold execForcedCalibration
  dsimp only
  split
  · exact ⟨_, rfl, .refl⟩
  · exact ⟨_, rfl, calibrate_changes (.set_memc .refl rfl) rfl⟩

theorem execMr4Poll_answers {s : State} {r} :
    Answers [.memc, .evu, .pcie, .faults] s (execMr4Poll r s) := by
  unfold execMr4Poll
  split
  · exact ⟨_, rfl, .refl⟩
  · exact ⟨_, rfl, .forEach .refl fun _ _ h => (pollRank_changes h rfl)⟩

theorem execDramScrub_answers {s : State} :
    Answers [.memc, .fetch] s (execDramScrub s) := by
  unfold execDramScrub
  dsimp only
  split
  · exact ⟨_, rfl, .refl⟩
  · exact ⟨_, rfl, enqueue_changes (.set_memc .refl rfl) rfl⟩

theorem execSramScrub_answers {s : State} {r} :
    Answers [.memc, .evu, .pcie, .faults, .fetch, .comp, .relief, .prot] s (execSramScrub r s) := by
  unfold execSramScrub
  dsimp only
  split
  · exact ⟨_, rfl, .refl⟩
  · split
    · exact ⟨_, rfl, .set_memc .refl rfl⟩
    · exact ⟨_, rfl, raise_changes (.set_memc .refl rfl) rfl⟩
    · split
      · exact ⟨_, rfl, protectedError_changes (raise_changes (logFault_changes (.set_memc .refl rfl) rfl) rfl) rfl⟩
      · exact ⟨_, rfl, reliefError_changes (raise_changes (logFault_changes (.set_memc .refl rfl) rfl) rfl) rfl⟩
      · exact ⟨_, rfl, raise_changes (logFault_changes (.set_memc .refl rfl) rfl) rfl⟩

theorem execTokenCredit_answers {s : State} :
    Answers [.fetch, .relay] s (execTokenCredit s) := by
  unfold execTokenCredit
  dsimp only
  split
  · exact ⟨_, rfl, .refl⟩
  · exact ⟨_, rfl, .forEach (.forEach (.set_fetch_relay .refl rfl) fun _ _ h => (creditQueue_changes h rfl))
        fun _ _ h => (modEgress_changes h rfl)⟩

theorem execSchedulerGrant_answers {s : State} :
    Answers [.mem, .memc, .win, .port, .evu, .pcie, .faults, .fetch, .relief] s (execSchedulerGrant s) := by
  have hs : Changes [.mem, .memc, .win, .port, .evu, .pcie, .faults, .fetch, .relief] s (schedule s).1 :=
      schedule_changes .refl rfl
  unfold execSchedulerGrant
  generalize schedule s = p at hs ⊢
  rcases p with ⟨t, _ | ⟨q, r⟩⟩
  · exact ⟨_, rfl, hs⟩
  · dsimp only at hs ⊢
    split
    · split
      · exact ⟨_, rfl, copyMoved_changes (snoop_changes (write_changes hs rfl) rfl) rfl⟩
      · exact ⟨_, rfl, hs⟩
    · exact ⟨_, rfl, zeroed_changes (write_changes hs rfl) rfl⟩
    · exact ⟨_, rfl, hs⟩

theorem execMemoryReadReturn_answers {s : State} {ch o} :
    Answers [.memc, .win, .port, .evu, .pcie, .faults, .mon, .fetch, .comp, .relief, .cal] s
        (execMemoryReadReturn ch o s) := by
  unfold execMemoryReadReturn
  split
  · exact ⟨_, rfl, .refl⟩
  · extract_lets fetch s₁ known s₂ bad s₃ d held
    have h₂ : Changes [.memc, .win, .port, .evu, .pcie, .faults, .mon, .fetch, .comp, .relief, .cal] s s₂ :=
        takeEcc_changes (.set_fetch .refl rfl) rfl
    have h₃ : Changes [.memc, .win, .port, .evu, .pcie, .faults, .mon, .fetch, .comp, .relief, .cal] s s₃ := .ite h₂
        (logUe_changes h₂ rfl)
    split
    · exact ⟨_, rfl, releaseAll_changes (modQueue_changes h₃ rfl) rfl⟩
    · exact ⟨_, rfl, deliver_changes h₃ rfl⟩

theorem execSealedRelease_answers {s : State} {q} :
    Answers [.win, .port, .evu, .pcie, .faults, .mon, .fetch, .comp, .relief, .cal] s (execSealedRelease q s) := by
  unfold execSealedRelease
  split
  · exact ⟨_, rfl, releaseAll_changes .refl rfl⟩
  · exact ⟨_, rfl, .refl⟩

theorem execQueueSample_answers {s : State} :
    Answers [.evu, .pcie, .mon, .fetch, .relay, .free] s (execQueueSample s) := by
  unfold execQueueSample
  dsimp only
  split
  · exact ⟨_, rfl, .refl⟩
  · exact ⟨_, rfl, .forEach (.forEach (.forEach .refl fun _ _ h => (modQueue_changes (by
      split
      · refine .ite ?_ ?_
        · exact sample_changes (by
            split
            · exact sample_changes (sample_changes h rfl) rfl
            · exact sample_changes h rfl) rfl
        · split
          · exact sample_changes (sample_changes h rfl) rfl
          · exact sample_changes h rfl
      · split
        · exact sample_changes (sample_changes h rfl) rfl
        · exact sample_changes h rfl) rfl)) fun _ _ h => (.ite
              (.set_fetch (sample_changes (bumpFree_changes h rfl) rfl) rfl) h)) fun _ _ h => (by
      split
      · exact modEgress_changes (sample_changes h rfl) rfl
      · exact h)⟩

theorem execLineStart_answers {s : State} {h'} :
    Answers [.mem, .memc, .evu, .pcie, .faults, .mon, .fetch, .comp, .relief, .prot, .head, .cal, .free] s
        (execLineStart h' s) := by
  unfold execLineStart
  dsimp only
  split
  · exact ⟨_, rfl, .refl⟩
  · split
    · exact ⟨_, rfl, lineWork_changes .refl rfl⟩
    · exact ⟨_, rfl, .refl⟩

theorem execLineComposed_answers {s : State} {h'} :
    Answers [.evu, .pcie, .faults, .fetch, .comp, .relief] s (execLineComposed h' s) := by
  unfold execLineComposed
  split
  · exact ⟨_, rfl, .refl⟩
  · split
    · exact ⟨_, rfl, fillStore_changes .refl rfl⟩
    · split
      · exact ⟨_, rfl, .refl⟩
      · exact ⟨_, rfl, storeLine_changes .refl rfl⟩

theorem execShed_answers {s : State} {h'} :
    Answers [.evu, .pcie, .faults, .comp] s (execShed h' s) := by
  unfold execShed
  split
  · exact ⟨_, rfl, .refl⟩
  · split
    · exact ⟨_, rfl, .refl⟩
    · split
      · exact ⟨_, rfl, .refl⟩
      · exact ⟨_, rfl, shedWithRun_changes .refl rfl⟩

theorem execVerticalBlank_answers {s : State} {h'} :
    Answers [.memc, .evu, .pcie, .faults, .mon, .fetch, .comp, .head] s (execVerticalBlank h' s) := by
  unfold execVerticalBlank
  split
  · exact ⟨_, rfl, .refl⟩
  · split
    · exact ⟨_, rfl, tryCal_changes (loadPalettes_changes (sendMsa_changes (raiseHead_changes .refl rfl) rfl) rfl)
          rfl⟩
    · exact ⟨_, rfl, .refl⟩

theorem execFrameBoundary_answers {s : State} {h'} :
    Answers [.mem, .memc, .win, .ctx, .port, .evu, .pcie, .faults, .timer, .mon, .fetch, .slot, .commits, .comp,
        .relief, .prot, .head, .panel, .syn, .relay, .cal, .pins, .free] s (execFrameBoundary h' s) := by
  unfold execFrameBoundary
  split
  · exact ⟨_, rfl, .refl⟩
  · split
    · exact ⟨_, rfl, firstBoundary_changes .refl rfl⟩
    · split
      · exact ⟨_, rfl, .refl⟩
      · split
        · exact ⟨_, rfl, lastBoundary_changes .refl rfl⟩
        · exact ⟨_, rfl, newFrame_changes .refl rfl⟩

theorem execProtectedCheck_answers {s : State} {h'} :
    Answers [.evu, .pcie, .faults, .comp, .prot, .cal] s (execProtectedCheck h' s) := by
  unfold execProtectedCheck
  dsimp only
  split
  · exact ⟨_, rfl, .refl⟩
  · split
    · exact ⟨_, rfl, .refl⟩
    · exact ⟨_, rfl, .ite (modCal_changes (modProt_changes .refl rfl) rfl)
          (recompose_changes (mismatch_changes (modCal_changes (modProt_changes .refl rfl) rfl) rfl) rfl)⟩

theorem execWritebackFrameComplete_answers {s : State} {h'} :
    Answers [.mem, .memc, .evu, .pcie, .faults, .fetch, .head, .relay, .free] s (execWritebackFrameComplete h' s) :=
  ⟨_, rfl, completeWriteback_changes .refl rfl⟩

theorem execWritebackAbandon_answers {s : State} {h'} :
    Answers [.mem, .memc, .evu, .pcie, .fetch, .comp, .head] s (execWritebackAbandon h' s) := by
  unfold execWritebackAbandon
  split
  · exact ⟨_, rfl, .refl⟩
  · exact ⟨_, rfl, wbDropOne_changes (abandonWriteback_changes .refl rfl) rfl⟩

theorem execFsyncInEdge_answers {s : State} {t} :
    Answers [.head] s (execFsyncInEdge t s) :=
  ⟨_, rfl, .forEach .refl fun _ _ h => (.ite (refEvent_changes h rfl) h)⟩

theorem execHpdPulse_answers {s : State} {h' us locked} :
    Answers [.evu, .pcie, .faults, .head] s (execHpdPulse h' us locked s) := by
  unfold execHpdPulse
  dsimp only
  split
  · exact ⟨_, rfl, .refl⟩
  · split
    · exact ⟨_, rfl, linkLost_changes (modHead_changes .refl rfl) rfl⟩
    · exact ⟨_, rfl, .ite .refl (linkLost_changes .refl rfl)⟩

theorem execLinkRetrain_answers {s : State} {l} :
    Answers [.head] s (execLinkRetrain l s) := by
  unfold execLinkRetrain
  dsimp only
  split
  · exact ⟨_, rfl, modHead_changes .refl rfl⟩
  · exact ⟨_, rfl, .refl⟩

theorem execPanelSequenceStep_answers {s : State} {h'} :
    Answers [.mem, .memc, .win, .ctx, .port, .evu, .pcie, .faults, .timer, .mon, .fetch, .slot, .commits, .comp,
        .relief, .prot, .head, .panel, .syn, .cal, .pins] s (execPanelSequenceStep h' s) := by
  unfold execPanelSequenceStep
  split
  · exact ⟨_, rfl, .ite (nextStep_changes .refl rfl) .refl⟩
  · exact ⟨_, rfl, .refl⟩

theorem execWaitPinLevel_answers {s : State} {h'} :
    Answers [.panel] s (execWaitPinLevel h' s) := by
  unfold execWaitPinLevel
  split
  · exact ⟨_, rfl, .ite (modPanel_changes .refl rfl) .refl⟩
  · exact ⟨_, rfl, .refl⟩

theorem execWaitPinTimeout_answers {s : State} {h'} :
    Answers [.win, .port, .evu, .pcie, .faults, .timer, .panel, .pins] s (execWaitPinTimeout h' s) := by
  unfold execWaitPinTimeout
  split
  · exact ⟨_, rfl, .ite (failSequence_changes .refl rfl) .refl⟩
  · exact ⟨_, rfl, .refl⟩

theorem execCanvasComposed_answers {s : State} :
    Answers [.mem, .memc, .evu, .pcie, .faults, .fetch, .relief, .epd, .cal, .free] s (execCanvasComposed s) := by
  unfold execCanvasComposed
  dsimp only
  split
  · exact ⟨_, rfl, .refl⟩
  · split
    · exact ⟨_, rfl, .refl⟩
    · split
      · exact ⟨_, rfl, .ite (scanCanvas_changes (kickFlatten_changes (zeroMay_changes (writeCanvas_changes .refl rfl)
            rfl) rfl) rfl) (kickFlatten_changes (zeroMay_changes (writeCanvas_changes .refl rfl) rfl) rfl)⟩
      · exact ⟨_, rfl, kickFlatten_changes (zeroMay_changes (writeCanvas_changes .refl rfl) rfl) rfl⟩

theorem execRailPowerGood_answers {s : State} {k} :
    Answers [.evu, .pcie, .epd, .adc] s (execRailPowerGood k s) := by
  unfold execRailPowerGood
  split
  · exact ⟨_, rfl, .refl⟩
  · split
    · split
      · exact ⟨_, rfl, .set_epd .refl rfl⟩
      · exact ⟨_, rfl, startDrive_changes (raise_changes (releaseAdc_changes (.set_epd .refl rfl) rfl) rfl) rfl⟩
    · exact ⟨_, rfl, .refl⟩

theorem execRailPgTimeout_answers {s : State} {k} :
    Answers [.evu, .pcie, .faults, .epd] s (execRailPgTimeout k s) := by
  unfold execRailPgTimeout
  split
  · exact ⟨_, rfl, .refl⟩
  · split
    · exact ⟨_, rfl, railsFall_changes (reportRail_changes .refl rfl) rfl⟩
    · exact ⟨_, rfl, .refl⟩

theorem execRailFault_answers {s : State} {k} :
    Answers [.mem, .memc, .win, .port, .evu, .pcie, .faults, .power, .fetch, .epd, .adc, .cal] s
        (execRailFault k s) := by
  unfold execRailFault
  split
  · exact ⟨_, rfl, .refl⟩
  · exact ⟨_, rfl, interruptEpd_changes (reportRail_changes .refl rfl) rfl⟩

theorem execRailsDown_answers {s : State} :
    Answers [.win, .port, .evu, .pcie, .power, .epd, .adc] s (execRailsDown s) := by
  unfold execRailsDown
  dsimp only
  split
  · exact ⟨_, rfl, .refl⟩
  · split
    · exact ⟨_, rfl, endEpd_changes (raise_changes (.set_epd .refl rfl) rfl) rfl⟩
    · exact ⟨_, rfl, raise_changes (.set_epd .refl rfl) rfl⟩

theorem execEpdPhaseStart_answers {s : State} :
    Answers [.epd] s (execEpdPhaseStart s) := by
  unfold execEpdPhaseStart
  split
  · split
    · exact ⟨_, rfl, .refl⟩
    · exact ⟨_, rfl, setRun_changes .refl rfl⟩
  · exact ⟨_, rfl, .refl⟩

theorem execEpdRowPeriod_answers {s : State} :
    Answers [.mem, .memc, .evu, .pcie, .faults, .fetch, .epd] s (execEpdRowPeriod s) := by
  have hrow : ∀ {r c}, Changes [.mem, .memc, .evu, .pcie, .faults, .fetch, .epd] s
      (holdErrors r c (accessRow r c s)).2 :=
    holdErrors_changes (accessRow_changes .refl rfl) rfl
  unfold execEpdRowPeriod
  split
  · dsimp only
    split
    · exact ⟨_, rfl, .refl⟩
    · have hl : ∀ {r c o} {p : Prop} [Decidable p], Changes [.mem, .memc, .evu, .pcie, .faults, .fetch, .epd] s
          (if p then raise 169 { (holdErrors r c (accessRow r c s)).2 with epd := o }
            else { (holdErrors r c (accessRow r c s)).2 with epd := o }) :=
        .ite (raise_changes (.set_epd hrow rfl) rfl) (.set_epd hrow rfl)
      split
      · exact ⟨_, rfl, finishDrive_changes hl rfl⟩
      · exact ⟨_, rfl, setRun_changes hl rfl⟩
  · exact ⟨_, rfl, .refl⟩

theorem execLedgerCheck_answers {s : State} :
    Answers [.mem, .memc, .evu, .pcie, .faults, .fetch] s (execLedgerCheck s) := by
  unfold execLedgerCheck
  split
  · exact ⟨_, rfl, .refl⟩
  · split
    · exact ⟨_, rfl, .refl⟩
    · exact ⟨_, rfl, checkLedger_changes (logUeIn_changes .refl rfl) rfl⟩

theorem execSegmentFrameStart_answers {s : State} :
    Answers [.evu, .pcie, .seg] s (execSegmentFrameStart s) := by
  unfold execSegmentFrameStart
  split
  · exact ⟨_, rfl, segFrame_changes .refl rfl⟩
  · exact ⟨_, rfl, .refl⟩

theorem execCommonPeriodEnd_answers {s : State} :
    Answers [.evu, .pcie, .seg] s (execCommonPeriodEnd s) := by
  unfold execCommonPeriodEnd
  dsimp only
  split
  · exact ⟨_, rfl, .refl⟩
  · split
    · exact ⟨_, rfl, modSeg_changes .refl rfl⟩
    · exact ⟨_, rfl, by
        split
        · exact takeSegRecord_changes (raise_changes (modSeg_changes .refl rfl) rfl) rfl
        · exact raise_changes (modSeg_changes .refl rfl) rfl⟩
    · exact ⟨_, rfl, .refl⟩

theorem execContrastSample_answers {s : State} {mv} :
    Answers [.evu, .pcie, .faults, .seg, .adc] s (execContrastSample mv s) := by
  unfold execContrastSample
  dsimp only
  split
  · exact ⟨_, rfl, contrast_changes (.set_adc .refl rfl) rfl⟩
  · exact ⟨_, rfl, .refl⟩

theorem execTempRefresh_answers {s : State} {die therm} :
    Answers [.evu, .pcie, .faults, .power, .mon] s (execTempRefresh die therm s) := by
  unfold execTempRefresh
  generalize (die.toInt + 32768).toNat = d
  extract_lets valid power s₁ s₂ s₃
  have h₁ : Changes [.evu, .pcie, .faults, .power, .mon] s s₁ := .set_power .refl rfl
  have h₂ : Changes [.evu, .pcie, .faults, .power, .mon] s s₂ := sample_changes h₁ rfl
  have h₃ : Changes [.evu, .pcie, .faults, .power, .mon] s s₃ := .ite (.ite (sample_changes h₂ rfl) h₂) h₁
  clear_value s₃
  exact .ite ⟨_, rfl, .set_faults h₃ rfl⟩
    (.ite ⟨_, rfl, raise_changes (logFault_changes (.set_faults h₃ rfl) rfl) rfl⟩ ⟨_, rfl, h₃⟩)

/-- The search `updateBad` for a word with an error is made a variable, so that the kernel never evaluates it. -/
theorem execBistableTemperatureSample_answers {s : State} {code} :
    Answers [.mem, .memc, .win, .port, .evu, .pcie, .faults, .power, .fetch, .epd, .adc] s
        (execBistableTemperatureSample code s) := by
  unfold execBistableTemperatureSample
  split
  · split
    · exact ⟨_, rfl, .refl⟩
    · generalize hs₁ : ({ s with adc := { s.adc with bistableLate := false } } : State) = s₁
      have h₁ : Changes [.mem, .memc, .win, .port, .evu, .pcie, .faults, .power, .fetch, .epd, .adc] s s₁ := hs₁ ▸
          .set_adc .refl rfl
      generalize updateBad = bad
      revert bad
      refine id fun bad => ?_
      dsimp only
      split
      · exact ⟨_, rfl, endEpd_changes (logUe_changes (epdAccess_changes h₁ rfl) rfl) rfl⟩
      · exact ⟨_, rfl, setRun_changes (.set_epd (checkLedger_changes (epdAccess_changes h₁ rfl) rfl) rfl) rfl⟩
  · exact ⟨_, rfl, .refl⟩

theorem execAdcRequestLate_answers {s : State} {u} :
    Answers [.evu, .pcie, .adc] s (execAdcRequestLate u s) := by
  unfold execAdcRequestLate
  dsimp only
  split
  · split
    · exact ⟨_, rfl, raise_changes (.set_adc .refl rfl) rfl⟩
    · exact ⟨_, rfl, .refl⟩
  · split
    · exact ⟨_, rfl, raise_changes (.set_adc .refl rfl) rfl⟩
    · exact ⟨_, rfl, .refl⟩

theorem execVlcdReached_answers {s : State} :
    Answers [.evu, .pcie, .seg] s (execVlcdReached s) := by
  unfold execVlcdReached
  split
  · exact ⟨_, rfl, raise_changes (segFrame_changes (modSeg_changes .refl rfl) rfl) rfl⟩
  · exact ⟨_, rfl, .refl⟩

theorem execVlcdStartTimeout_answers {s : State} {mv} :
    Answers [.evu, .pcie, .faults, .seg] s (execVlcdStartTimeout mv s) := by
  unfold execVlcdStartTimeout
  split
  · exact ⟨_, rfl, raise_changes (logFault_changes (modSeg_changes .refl rfl) rfl) rfl⟩
  · exact ⟨_, rfl, .refl⟩

theorem execPhyPoll_answers {s : State} {r} :
    Answers [.evu, .pcie, .faults, .power, .relay] s (execPhyPoll r s) := by
  unfold execPhyPoll
  dsimp only
  split
  · exact ⟨_, rfl, .refl⟩
  · split
    · exact ⟨_, rfl, .ite (.set_relay (.set_relay (.ite (logFault_changes .refl rfl) .refl) rfl) rfl)
          (wakeRequest_changes (raise_changes (.set_relay (.set_relay (.ite (logFault_changes .refl rfl) .refl) rfl)
          rfl) rfl) rfl)⟩
    · exact ⟨_, rfl, linkDown_changes (.set_relay (.ite (logFault_changes .refl rfl) .refl) rfl) rfl⟩

theorem execEgressFrameRelease_answers {s : State} :
    Answers [.evu, .pcie, .faults, .fetch, .relay, .free] s (execEgressFrameRelease s) := by
  unfold execEgressFrameRelease
  split
  · exact ⟨_, rfl, .refl⟩
  · split
    · exact ⟨_, rfl, releaseSlice_changes .refl rfl⟩
    · split
      · exact ⟨_, rfl, releaseSlice_changes .refl rfl⟩
      · exact ⟨_, rfl, .refl⟩

theorem execEthernetFrameReceived_answers {s : State} {f} :
    Answers [.mem, .memc, .evu, .pcie, .faults, .power, .fetch, .head, .relay, .cal] s
        (execEthernetFrameReceived f s) := by
  unfold execEthernetFrameReceived
  dsimp only
  split
  · exact ⟨_, rfl, .refl⟩
  · split
    · exact ⟨_, rfl, .refl⟩
    · split
      · exact ⟨_, rfl, raise_changes (.set_relay .refl rfl) rfl⟩
      · split
        · exact ⟨_, rfl, .refl⟩
        · split
          · exact ⟨_, rfl, .refl⟩
          · split
            · exact ⟨_, rfl, .refl⟩
            · split
              · exact ⟨_, rfl, countLost_changes .refl rfl⟩
              · split
                · exact ⟨_, rfl, wakeRequest_changes .refl rfl⟩
                · exact ⟨_, rfl, acceptSlice_changes (.ite (marker_changes (wakeRequest_changes .refl rfl) rfl)
                      (wakeRequest_changes .refl rfl)) rfl⟩

theorem execIngestStale_answers {s : State} {g} :
    Answers [.win, .port, .evu, .pcie, .fetch, .relay, .cal] s (execIngestStale g s) := by
  unfold execIngestStale
  dsimp only
  split
  · exact ⟨_, rfl, .refl⟩
  · exact ⟨_, rfl, ingestCut_changes (raise_changes (modIngest_changes .refl rfl) rfl) rfl⟩

theorem execCaliperOperationEnd_answers {s : State} {u} :
    Answers [.win, .port, .evu, .pcie, .faults, .power, .fetch, .epd, .adc, .cal] s (execCaliperOperationEnd u s) :=
        by
  unfold execCaliperOperationEnd
  split
  · exact ⟨_, rfl, .refl⟩
  · split
    · exact ⟨_, rfl, canvasScanned_changes .refl rfl⟩
    · split
      · exact ⟨_, rfl, endCal_changes .refl rfl⟩
      · split
        · exact ⟨_, rfl, endCal_changes .refl rfl⟩
        · exact ⟨_, rfl, .refl⟩

theorem execSelftestChunk_answers {s : State} {u k} :
    Answers [.win, .port, .evu, .pcie, .faults, .fetch, .cal] s (execSelftestChunk u k s) := by
  unfold execSelftestChunk
  dsimp only
  split
  · split
    · split
      · exact ⟨_, rfl, endSelftest_changes (modCal_changes .refl rfl) rfl⟩
      · split
        · exact ⟨_, rfl, endCal_changes (modCal_changes .refl rfl) rfl⟩
        · split
          · exact ⟨_, rfl, .ite (endYielded_changes (yieldSelftest_changes (modCal_changes .refl rfl) rfl) rfl)
                (yieldSelftest_changes (modCal_changes .refl rfl) rfl)⟩
          · split
            · exact ⟨_, rfl, .ite (endCal_changes (modCal_changes (modCal_changes .refl rfl) rfl) rfl)
                  (modCal_changes (modCal_changes .refl rfl) rfl)⟩
            · exact ⟨_, rfl, modCal_changes .refl rfl⟩
    · exact ⟨_, rfl, .refl⟩
  · split
    · exact ⟨_, rfl, endYielded_changes .refl rfl⟩
    · split
      · exact ⟨_, rfl, .refl⟩
      · split
        · exact ⟨_, rfl, .refl⟩
        · exact ⟨_, rfl, take_changes (modCal_changes .refl rfl) rfl⟩
  · exact ⟨_, rfl, .refl⟩

theorem execTileFlatten_answers {s : State} {h'} :
    Answers [.mem, .memc, .fetch, .relief] s (execTileFlatten h' s) := by
  unfold execTileFlatten
  split
  · exact ⟨_, rfl, .refl⟩
  · split
    · exact ⟨_, rfl, kickFlatten_changes (finishTile_changes .refl rfl) rfl⟩
    · exact ⟨_, rfl, kickFlatten_changes .refl rfl⟩

theorem execExtintEdge_answers {s : State} {p} :
    Answers [.evu, .pcie, .power] s (execExtintEdge p s) := by
  unfold execExtintEdge
  split
  · exact ⟨_, rfl, .refl⟩
  · exact ⟨_, rfl, wakeRequest_changes (raise_changes .refl rfl) rfl⟩

theorem execVpAckRecognized_answers {s : State} {p} :
    Answers [.evu, .pcie, .mon, .free] s (execVpAckRecognized p s) := by
  unfold execVpAckRecognized
  split
  · exact ⟨_, rfl, .refl⟩
  · split
    · exact ⟨_, rfl, answer_changes .refl rfl⟩
    · split
      · exact ⟨_, rfl, .refl⟩
      · exact ⟨_, rfl, setWaiting_changes .refl rfl⟩

theorem execVpAckRelease_answers {s : State} {p} :
    Answers [.evu, .pcie, .mon, .free] s (execVpAckRelease p s) := by
  unfold execVpAckRelease
  dsimp only
  split
  · exact ⟨_, rfl, .refl⟩
  · split
    · split
      · exact ⟨_, rfl, answer_changes (setWaiting_changes (.set_evu .refl rfl) rfl) rfl⟩
      · exact ⟨_, rfl, .set_evu .refl rfl⟩
    · exact ⟨_, rfl, setWaiting_changes .refl rfl⟩

theorem execTimerTick_answers {s : State} {t} :
    Answers [.evu, .pcie, .power, .timer] s (execTimerTick t s) := by
  unfold execTimerTick
  dsimp only
  split
  · exact ⟨_, rfl, timerStep_changes (modTimer_changes .refl rfl) rfl⟩
  · exact ⟨_, rfl, .refl⟩

theorem execHeartbeatLapse_answers {s : State} :
    Answers [.evu, .pcie, .faults, .drone] s (execHeartbeatLapse s) := by
  unfold execHeartbeatLapse
  dsimp only
  split
  · exact ⟨_, rfl, .refl⟩
  · exact ⟨_, rfl, raise_changes (logFault_changes (.set_drone .refl rfl) rfl) rfl⟩

theorem execFallbackSubmission_answers {s : State} :
    Answers [.port, .evu, .pcie, .faults, .drone, .free] s (execFallbackSubmission s) := by
  unfold execFallbackSubmission
  dsimp only
  split
  · exact ⟨_, rfl, .refl⟩
  · split
    · exact ⟨_, rfl, takeHeartbeat_changes (bumpFree_changes .refl rfl) rfl⟩
    · exact ⟨_, rfl, logFault_changes (.set_port_drone (.ite (bumpFree_changes .refl rfl) .refl) rfl) rfl⟩

theorem execPcieCompletionReceived_answers {s : State} {w r} :
    Answers [.win, .port, .evu, .pcie, .fetch] s (execPcieCompletionReceived w r s) := by
  unfold execPcieCompletionReceived
  split
  · exact ⟨_, rfl, dropLate_changes .refl rfl⟩
  · split
    · exact ⟨_, rfl, .refl⟩
    · split
      · exact ⟨_, rfl, copyInData_changes .refl rfl⟩
      · exact ⟨_, rfl, copyStop_changes (readFailed_changes .refl rfl) rfl⟩
      · exact ⟨_, rfl, .refl⟩

theorem execBusMasterEnableClear_answers {s : State} {f} :
    Answers [.win, .port, .evu, .pcie, .fetch] s (execBusMasterEnableClear f s) :=
  ⟨_, rfl, clearMaster_changes .refl rfl⟩

theorem execVfEnableSet_answers {s : State} {ari numVfs} :
    Answers [.mem, .memc, .win, .ctx, .port, .evu, .pcie, .faults, .timer, .mon, .fetch, .commits, .comp, .relief,
        .prot, .cal, .free] s (execVfEnableSet ari numVfs s) := by
  unfold execVfEnableSet
  split
  · exact ⟨_, rfl, .refl⟩
  · exact ⟨_, rfl, setVfs_changes .refl rfl⟩

theorem execLinkPllLock_answers {s : State} {h'} :
    Answers [.evu, .pcie, .faults, .fetch, .comp, .relief, .head] s (execLinkPllLock h' s) := by
  unfold execLinkPllLock
  dsimp only
  split
  · exact ⟨_, rfl, .refl⟩
  · split
    · split
      · exact ⟨_, rfl, modHead_changes (modHead_changes .refl rfl) rfl⟩
      · exact ⟨_, rfl, awaitBoundary_changes (linkUp_changes (modHead_changes .refl rfl) rfl) rfl⟩
    · split
      · exact ⟨_, rfl, modHead_changes .refl rfl⟩
      · exact ⟨_, rfl, .refl⟩

theorem execLinkTrainingEnd_answers {s : State} {h' r} :
    Answers [.evu, .pcie, .faults, .fetch, .comp, .relief, .head] s (execLinkTrainingEnd h' r s) := by
  unfold execLinkTrainingEnd
  dsimp only
  split
  · exact ⟨_, rfl, awaitBoundary_changes (.ite (linkUp_changes (trainWith_changes .refl rfl) rfl)
        (trainWith_changes .refl rfl)) rfl⟩
  · split
    · exact ⟨_, rfl, .ite (linkUp_changes (trainWith_changes .refl rfl) rfl)
          (modHead_changes (trainWith_changes .refl rfl) rfl)⟩
    · exact ⟨_, rfl, .refl⟩

theorem execHpdWaitTimeout_answers {s : State} {h'} :
    Answers [.evu, .pcie, .faults, .fetch, .comp, .relief, .head] s (execHpdWaitTimeout h' s) := by
  unfold execHpdWaitTimeout
  split
  · exact ⟨_, rfl, awaitBoundary_changes .refl rfl⟩
  · exact ⟨_, rfl, .refl⟩

theorem execExpectedValueComplete_answers {s : State} {h'} :
    Answers [.win, .port, .evu, .pcie, .prot] s (execExpectedValueComplete h' s) := by
  unfold execExpectedValueComplete
  dsimp only
  split
  · split
    · exact ⟨_, rfl, takeLock_changes (modProt_changes .refl rfl) rfl⟩
    · exact ⟨_, rfl, setPhase_changes (modProt_changes .refl rfl) rfl⟩
  · exact ⟨_, rfl, .refl⟩

theorem execLastPhaseStepTaken_answers {s : State} {y} :
    Answers [.win, .port, .evu, .pcie, .syn] s (execLastPhaseStepTaken y s) := by
  unfold execLastPhaseStepTaken
  dsimp only
  split
  · exact ⟨_, rfl, .refl⟩
  · exact ⟨_, rfl, finish_changes (modSyn_changes .refl rfl) rfl⟩

theorem execXtal32Loss_answers {s : State} :
    Answers [.drone] s (execXtal32Loss s) :=
  ⟨_, rfl, .set_drone .refl rfl⟩

theorem execXtal32Return_answers {s : State} :
    Answers [.drone] s (execXtal32Return s) :=
  ⟨_, rfl, .set_drone .refl rfl⟩

theorem execNegativePhaseStart_answers {s : State} :
    Answers [.seg] s (execNegativePhaseStart s) := by
  unfold execNegativePhaseStart
  split
  · exact ⟨_, rfl, modSeg_changes .refl rfl⟩
  · exact ⟨_, rfl, .refl⟩

theorem execJtagTckEdge_answers {s : State} {e} :
    Answers [.pins, .free] s (execJtagTckEdge e s) := by
  unfold execJtagTckEdge
  dsimp only
  split
  · exact ⟨_, rfl, .set_pins .refl rfl⟩
  · split
    · exact ⟨_, rfl, .set_pins (bumpFree_changes .refl rfl) rfl⟩
    · exact ⟨_, rfl, .set_pins .refl rfl⟩

end Sys2Proof.Machine
end

section
/-! The step: every command answers, the queue loses its front, memory keeps its form. -/
namespace Sys2Proof.Machine
/-- Every command of the table answers a next state, and what it leaves has its canonical form. -/
theorem exec_answers (i : Instr) (s : State) : Answers Part.all s (exec i s) := by
  match i with
  | .nop _ _ => exact execNop_answers.mono rfl
  | .unassignedOpcode _ _ _ => exact execUnassignedOpcode_answers.mono rfl
  | .attach _ _ => exact execAttach_answers.mono rfl
  | .detach _ _ => exact execDetach_answers.mono rfl
  | .seal _ _ => exact execSeal_answers.mono rfl
  | .bindWindow _ _ => exact execBindWindow_answers.mono rfl
  | .partitionSet _ _ => exact execPartitionSet_answers.mono rfl
  | .territorySet _ _ => exact execTerritorySet_answers.mono rfl
  | .copyIn _ _ => exact execCopyIn_answers.mono rfl
  | .copyOut _ _ => exact execCopyOut_answers.mono rfl
  | .commit _ _ => exact execCommit_answers.mono rfl
  | .commitAbort _ _ => exact execCommitAbort_answers.mono rfl
  | .commitCheck _ _ => exact execCommitCheck_answers.mono rfl
  | .reliefFlush _ _ => exact execReliefFlush_answers.mono rfl
  | .protectLoad _ _ => exact execProtectLoad_answers.mono rfl
  | .protectLock _ _ => exact execProtectLock_answers.mono rfl
  | .protectRelease _ _ => exact execProtectRelease_answers.mono rfl
  | .headConfig _ _ => exact execHeadConfig_answers.mono rfl
  | .headStart _ _ => exact execHeadStart_answers.mono rfl
  | .headStop _ _ => exact execHeadStop_answers.mono rfl
  | .panelPower _ _ => exact execPanelPower_answers.mono rfl
  | .epdUpdate _ _ => exact execEpdUpdate_answers.mono rfl
  | .epdClear _ _ => exact execEpdClear_answers.mono rfl
  | .segWrite _ _ => exact execSegWrite_answers.mono rfl
  | .scan _ _ => exact execScan_answers.mono rfl
  | .selftest _ _ => exact execSelftest_answers.mono rfl
  | .queueConfig _ _ => exact execQueueConfig_answers.mono rfl
  | .policerConfig _ _ => exact execPolicerConfig_answers.mono rfl
  | .relayConfig _ _ => exact execRelayConfig_answers.mono rfl
  | .relayStream _ _ => exact execRelayStream_answers.mono rfl
  | .relayIngest _ _ => exact execRelayIngest_answers.mono rfl
  | .maquette _ _ => exact execMaquette_answers.mono rfl
  | .maquetteShort _ _ => exact execMaquetteShort_answers.mono rfl
  | .faultClear _ _ => exact execFaultClear_answers.mono rfl
  | .powerMode _ _ => exact execPowerMode_answers.mono rfl
  | .clockConfig _ _ => exact execClockConfig_answers.mono rfl
  | .phaseStep _ _ => exact execPhaseStep_answers.mono rfl
  | .evtRoute _ _ => exact execEvtRoute_answers.mono rfl
  | .monitorBind _ _ => exact execMonitorBind_answers.mono rfl
  | .commandDispatch _ => exact execCommandDispatch_answers.mono rfl
  | .resourceGrant _ => exact execResourceGrant_answers.mono rfl
  | .budgetCheckerSlot => exact execBudgetCheckerSlot_answers.mono rfl
  | .detachDrainComplete _ => exact execDetachDrainComplete_answers.mono rfl
  | .maquetteQuietPoint _ => exact execMaquetteQuietPoint_answers.mono rfl
  | .maquetteWritten _ => exact execMaquetteWritten_answers.mono rfl
  | .waitTimeout _ => exact execWaitTimeout_answers.mono rfl
  | .waitingAllRelease => exact execWaitingAllRelease_answers.mono rfl
  | .cmdIssue _ => exact execCmdIssue_answers.mono rfl
  | .cmdStatusRead _ => exact execCmdStatusRead_answers.mono rfl
  | .hostLowHalfRead _ _ => exact execHostLowHalfRead_answers.mono rfl
  | .hostHighHalfRead _ _ => exact execHostHighHalfRead_answers.mono rfl
  | .hostLowHalfWrite _ _ _ => exact execHostLowHalfWrite_answers.mono rfl
  | .hostBusConflict x => exact Answers.mono (o := execHostBusConflict x s) (execHostBusConflict_answers (x0 := x))
                            rfl
  | .registerWrite _ _ => exact execRegisterWrite_answers.mono rfl
  | .bar0InvalidTlp _ _ => exact execBar0InvalidTlp_answers.mono rfl
  | .memWinDataRead _ => exact execMemWinDataRead_answers.mono rfl
  | .memWinDataWrite _ => exact execMemWinDataWrite_answers.mono rfl
  | .bar2Read _ _ _ => exact execBar2Read_answers.mono rfl
  | .bar2Write _ _ _ => exact execBar2Write_answers.mono rfl
  | .faultLogDataRead _ => exact execFaultLogDataRead_answers.mono rfl
  | .vecClaim _ => exact execVecClaim_answers.mono rfl
  | .vecDone _ => exact execVecDone_answers.mono rfl
  | .evtPendWithdraw _ => exact execEvtPendWithdraw_answers.mono rfl
  | .mergeClr _ => exact execMergeClr_answers.mono rfl
  | .timStart _ => exact execTimStart_answers.mono rfl
  | .timCtlWrite _ => exact execTimCtlWrite_answers.mono rfl
  | .timCountWrite _ => exact execTimCountWrite_answers.mono rfl
  | .timPrescaleWrite _ => exact execTimPrescaleWrite_answers.mono rfl
  | .monClear _ => exact execMonClear_answers.mono rfl
  | .doorbellWrite _ => exact execDoorbellWrite_answers.mono rfl
  | .doorbellRead _ => exact execDoorbellRead_answers.mono rfl
  | .heartbeatWrite _ => exact execHeartbeatWrite_answers.mono rfl
  | .powerReqWrite _ => exact execPowerReqWrite_answers.mono rfl
  | .droneShadowTransfer _ => exact execDroneShadowTransfer_answers.mono rfl
  | .resetHead _ _ => exact execResetHead_answers.mono rfl
  | .resetHeadE _ => exact execResetHeadE_answers.mono rfl
  | .resetRelayPort _ => exact execResetRelayPort_answers.mono rfl
  | .resetCal _ _ => exact execResetCal_answers.mono rfl
  | .resetSegmentDriver _ => exact execResetSegmentDriver_answers.mono rfl
  | .resetTimers _ => exact execResetTimers_answers.mono rfl
  | .vfFunctionLevelReset _ => exact execVfFunctionLevelReset_answers.mono rfl
  | .vfEnableClear _ _ => exact execVfEnableClear_answers.mono rfl
  | .pfFunctionLevelReset => exact execPfFunctionLevelReset_answers.mono rfl
  | .pePerst => exact execPePerst_answers.mono rfl
  | .pcieHotReset => exact execPcieHotReset_answers.mono rfl
  | .msixVectorUnmask _ _ => exact execMsixVectorUnmask_answers.mono rfl
  | .coldReset _ => exact execColdReset_answers.mono rfl
  | .brownOut _ _ => exact execBrownOut_answers.mono rfl
  | .registerFileReady => exact execRegisterFileReady_answers.mono rfl
  | .bootImageValidation _ => exact execBootImageValidation_answers.mono rfl
  | .memoryTraining _ => exact execMemoryTraining_answers.mono rfl
  | .bootImageApply _ => exact execBootImageApply_answers.mono rfl
  | .wakeRequest _ => exact execWakeRequest_answers.mono rfl
  | .hostBusWake => exact execHostBusWake_answers.mono rfl
  | .powerStepWaitTimeout => exact execPowerStepWaitTimeout_answers.mono rfl
  | .clkLoss _ => exact execClkLoss_answers.mono rfl
  | .xtalReturn => exact execXtalReturn_answers.mono rfl
  | .boreLock _ => exact execBoreLock_answers.mono rfl
  | .synLoss _ _ => exact execSynLoss_answers.mono rfl
  | .calibrationDue => exact execCalibrationDue_answers.mono rfl
  | .forcedCalibration => exact execForcedCalibration_answers.mono rfl
  | .mr4Poll _ => exact execMr4Poll_answers.mono rfl
  | .dramScrub => exact execDramScrub_answers.mono rfl
  | .sramScrub _ => exact execSramScrub_answers.mono rfl
  | .tokenCredit => exact execTokenCredit_answers.mono rfl
  | .schedulerGrant => exact execSchedulerGrant_answers.mono rfl
  | .memoryReadReturn _ _ => exact execMemoryReadReturn_answers.mono rfl
  | .sealedRelease _ => exact execSealedRelease_answers.mono rfl
  | .queueSample => exact execQueueSample_answers.mono rfl
  | .lineStart _ => exact execLineStart_answers.mono rfl
  | .lineComposed _ => exact execLineComposed_answers.mono rfl
  | .shed _ => exact execShed_answers.mono rfl
  | .verticalBlank _ => exact execVerticalBlank_answers.mono rfl
  | .frameBoundary _ => exact execFrameBoundary_answers.mono rfl
  | .protectedCheck _ => exact execProtectedCheck_answers.mono rfl
  | .writebackFrameComplete _ => exact execWritebackFrameComplete_answers.mono rfl
  | .writebackAbandon _ => exact execWritebackAbandon_answers.mono rfl
  | .fsyncInEdge _ => exact execFsyncInEdge_answers.mono rfl
  | .hpdPulse _ _ _ => exact execHpdPulse_answers.mono rfl
  | .linkRetrain _ => exact execLinkRetrain_answers.mono rfl
  | .panelSequenceStep _ => exact execPanelSequenceStep_answers.mono rfl
  | .waitPinLevel _ => exact execWaitPinLevel_answers.mono rfl
  | .waitPinTimeout _ => exact execWaitPinTimeout_answers.mono rfl
  | .canvasComposed => exact execCanvasComposed_answers.mono rfl
  | .railPowerGood _ => exact execRailPowerGood_answers.mono rfl
  | .railPgTimeout _ => exact execRailPgTimeout_answers.mono rfl
  | .railFault _ => exact execRailFault_answers.mono rfl
  | .railsDown => exact execRailsDown_answers.mono rfl
  | .epdPhaseStart => exact execEpdPhaseStart_answers.mono rfl
  | .epdRowPeriod => exact execEpdRowPeriod_answers.mono rfl
  | .ledgerCheck => exact execLedgerCheck_answers.mono rfl
  | .segmentFrameStart => exact execSegmentFrameStart_answers.mono rfl
  | .commonPeriodEnd => exact execCommonPeriodEnd_answers.mono rfl
  | .contrastSample _ => exact execContrastSample_answers.mono rfl
  | .tempRefresh _ _ => exact execTempRefresh_answers.mono rfl
  | .bistableTemperatureSample code =>
    exact Answers.mono (o := execBistableTemperatureSample code s) execBistableTemperatureSample_answers rfl
  | .adcRequestLate _ => exact execAdcRequestLate_answers.mono rfl
  | .vlcdReached => exact execVlcdReached_answers.mono rfl
  | .vlcdStartTimeout _ => exact execVlcdStartTimeout_answers.mono rfl
  | .phyPoll _ => exact execPhyPoll_answers.mono rfl
  | .egressFrameRelease => exact execEgressFrameRelease_answers.mono rfl
  | .ethernetFrameReceived _ => exact execEthernetFrameReceived_answers.mono rfl
  | .ingestStale _ => exact execIngestStale_answers.mono rfl
  | .caliperOperationEnd _ => exact execCaliperOperationEnd_answers.mono rfl
  | .selftestChunk _ _ => exact execSelftestChunk_answers.mono rfl
  | .tileFlatten _ => exact execTileFlatten_answers.mono rfl
  | .extintEdge _ => exact execExtintEdge_answers.mono rfl
  | .vpAckRecognized _ => exact execVpAckRecognized_answers.mono rfl
  | .vpAckRelease _ => exact execVpAckRelease_answers.mono rfl
  | .timerTick _ => exact execTimerTick_answers.mono rfl
  | .heartbeatLapse => exact execHeartbeatLapse_answers.mono rfl
  | .fallbackSubmission => exact execFallbackSubmission_answers.mono rfl
  | .pcieCompletionReceived _ _ => exact execPcieCompletionReceived_answers.mono rfl
  | .busMasterEnableClear _ => exact execBusMasterEnableClear_answers.mono rfl
  | .vfEnableSet _ _ => exact execVfEnableSet_answers.mono rfl
  | .linkPllLock _ => exact execLinkPllLock_answers.mono rfl
  | .linkTrainingEnd _ _ => exact execLinkTrainingEnd_answers.mono rfl
  | .hpdWaitTimeout _ => exact execHpdWaitTimeout_answers.mono rfl
  | .expectedValueComplete _ => exact execExpectedValueComplete_answers.mono rfl
  | .lastPhaseStepTaken _ => exact execLastPhaseStepTaken_answers.mono rfl
  | .xtal32Loss => exact execXtal32Loss_answers.mono rfl
  | .xtal32Return => exact execXtal32Return_answers.mono rfl
  | .negativePhaseStart => exact execNegativePhaseStart_answers.mono rfl
  | .jtagTckEdge _ => exact execJtagTckEdge_answers.mono rfl

theorem step_nil {s : State} (h : s.pending = []) : step s = .next (idle s) := by
  simp only [step, h]

theorem step_cons {s : State} {c : Instr} {rest : List Instr} (h : s.pending = c :: rest) :
    step s = exec c { s with pending := rest } := by
  simp only [step, h]

/-- A step answers a next state, whose queue of commands has lost its first command, with memory in canonical form
where it was. -/
theorem step_answers (s : State) :
    ∃ t, step s = .next t ∧ t.pending = s.pending.tail ∧ (Memory.wf s.mem = true → Memory.wf t.mem = true) := by
  cases hq : s.pending with
  | nil =>
    have h : Changes Part.all s (idle s) := idle_changes .refl rfl
    exact ⟨idle s, step_nil hq, h.pending_eq.trans hq, h.wf⟩
  | cons c rest =>
    obtain ⟨t, ht, h⟩ := exec_answers c { s with pending := rest }
    exact ⟨t, (step_cons hq).trans ht, h.pending_eq, h.wf⟩

/-- Settles O58: each command answers a next state and leaves the queue of commands to the step. -/
theorem everyStepTakesOneCommand : Obligations.EveryStepTakesOneCommand := fun s =>
  let ⟨t, ht, hq, _⟩ := step_answers s
  ⟨t, ht, hq⟩

/-- Settles O59: every function that stores bytes stores them by `State.write`, which keeps the form. -/
theorem memoryKeepsItsCanonicalForm : Obligations.MemoryKeepsItsCanonicalForm := by
  intro s t hs ht
  obtain ⟨t', ht', -, hwf⟩ := step_answers s
  obtain rfl : t' = t := by injection ht'.symm.trans ht
  exact hwf hs

/-- With nothing for the power sequencer to do an idle step counts one microsecond of Drone time. -/
theorem idle_time {s : State} (ht : s.power.trans = none) (hw : s.power.wakeKept = none) :
    idle s = { s with drone := { s.drone with time := s.drone.time + 1 } } := by
  simp [idle, powerStep, ht, hw]

/-- Settles O1: both branches of `step`. -/
theorem stepRunsFrontCommand : Obligations.StepRunsFrontCommand :=
  ⟨fun _ _ _ h => step_cons h, fun s hq ht hw _ =>
    ⟨idle s, step_nil hq, by rw [idle_time ht hw], by rw [idle_time ht hw]; exact hq⟩⟩

end Sys2Proof.Machine
end

section
/-! SUPPORT. What a command does to the windows: a row of the command port, and every action that ends by answering
    it,
moves its own window only. -/
namespace Sys2Proof.Machine

/-- Every window but one is as before. -/
def WinBeside (w : WinId) (s t : State) : Prop := ∀ v : WinId, v ≠ w → t.win[v] = s.win[v]

/-- Every part but the windows. -/
def Part.besideWin : List Part := Part.all.filter (· ≠ .win)

namespace WinBeside
variable {w : WinId} {s t u : State}

theorem of_eq (h : t.win = s.win) : WinBeside w s t := fun v _ => by rw [h]

/-- What changes none of the windows changes none beside one. -/
theorem via (h : WinBeside w s t) (hc : Changes Part.besideWin t u) : WinBeside w s u := fun v hv =>
  (congrArg (·[v]) (hc.win_eq rfl)).trans (h v hv)

theorem ite {p : Prop} [Decidable p] {t u : State} (ht : WinBeside w s t) (hu : WinBeside w s u) :
    WinBeside w s (if p then t else u) := by
  split
  · exact ht
  · exact hu

theorem modWin {f : Window → Window} (h : WinBeside w s t) : WinBeside w s (t.modWin w f) := fun v hv =>
  (State.modWin_other t w f v hv).trans (h v hv)

theorem setPhase {p : Phase} (h : WinBeside w s t) : WinBeside w s (setPhase w p t) := modWin h

theorem finish {c : Code} {q0 q1 : Word} (h : WinBeside w s t) : WinBeside w s (finish w c q0 q1 t) := fun v hv =>
  (finish_win_other t w v c q0 q1 hv).trans (h v hv)

theorem finishGen {q0 q1 : Word} (h : WinBeside w s t) : WinBeside w s (finishGen w q0 q1 t) :=
  finish (via h (bumpDevice_changes .refl rfl))

theorem turnAway {v : Verdict} (h : WinBeside w s t) : WinBeside w s (turnAway w v t) :=
  finish (via h (logUe_changes .refl rfl))

theorem fetch {o : Opcode} {c : CtxId} {a : Cmd} (h : WinBeside w s t) : WinBeside w s (o.fetch w c a t) :=
  via h (fetch_changes .refl rfl)

theorem takeAll {hd : Holder} {rs : List Resource} (h : WinBeside w s t) : WinBeside w s (takeAll hd rs t).1 :=
  via h (takeAll_changes .refl rfl)

theorem acquire {rs : List Resource} {act : State → State} (hact : ∀ u, WinBeside w s u → WinBeside w s (act u))
    (h : WinBeside w s t) : WinBeside w s (acquire w rs act t) := by
  have ht : WinBeside w s (Machine.takeAll (.window w) rs t).1 := takeAll h
  unfold Machine.acquire
  generalize Machine.takeAll (.window w) rs t = x at ht ⊢
  obtain ⟨u, rest⟩ := x
  cases rest with
  | nil => exact hact u ht
  | cons r rs => exact setPhase ht

/-- A command whose action answers it in its own window runs in its own window. -/
theorem run {o : Opcode} {c : CtxId} {a : Cmd} (hact : ∀ u, WinBeside w s u → WinBeside w s (o.act w c a u))
    (h : WinBeside w s t) : WinBeside w s (o.run w c a t) := by
  unfold Opcode.run
  split
  · exact turnAway (fetch h)
  · refine acquire (fun u hu => ?_) h
    unfold Opcode.go
    split
    · exact turnAway (fetch hu)
    · exact hact _ (fetch hu)

theorem bootGate {op : Byte} {f : WinId → CtxId → Cmd → State → State} {c : CtxId} {a : Cmd}
    (hf : ∀ u, WinBeside w s u → WinBeside w s (f w c a u)) (h : WinBeside w s t) :
    WinBeside w s (bootGate op f w c a t) := by
  unfold Machine.bootGate
  split
  · exact hf t h
  · exact finish h

theorem issue {op : Byte} {a : Cmd} (h : WinBeside w s t) : WinBeside w s (issue w op a t) := by
  unfold Machine.issue
  split
  · exact h
  · split
    · exact modWin h
    · exact modWin h

theorem startNext {f : Byte → WinId → CtxId → Cmd → State → State}
    (hf : ∀ op c a u, WinBeside w s u → WinBeside w s (f op w c a u)) (h : WinBeside w s t) :
    WinBeside w s (startNext w f t) := by
  unfold Machine.startNext
  dsimp only
  split
  · exact hf _ _ _ _ (modWin h)
  · exact h

/-- A row of the command port moves its own window only. -/
theorem portRow {op : Byte} {o : Opcode} {a : Cmd}
    (hact : ∀ c a u, WinBeside w s u → WinBeside w s (o.act w c a u)) (h : WinBeside w s t) :
    WinBeside w s (portRow w op a o.run t) := by
  unfold Machine.portRow
  dsimp only
  split
  · exact startNext (fun _ c a _ hu => bootGate (fun _ hv => run (hact c a) hv) hu) (issue h)
  · exact issue h

end WinBeside

/-! ## The actions of the commands that configure -/

section
variable {w : WinId} {c : CtxId} {a : Cmd} {s u : State}

theorem actNop_winBeside (h : WinBeside w s u) : WinBeside w s (actNop w c a u) := h.finish

theorem actPartitionSet_winBeside (h : WinBeside w s u) : WinBeside w s (actPartitionSet w c a u) := by
  unfold actPartitionSet
  dsimp only
  split
  · exact h.turnAway
  · refine WinBeside.finishGen (h.via (kickZero_changes (bumpCtx_changes (modCtx_changes ?_ rfl) rfl) rfl))
    exact releaseGranules_changes .refl rfl

theorem actTerritorySet_winBeside (h : WinBeside w s u) : WinBeside w s (actTerritorySet w c a u) := by
  unfold actTerritorySet
  dsimp only
  split
  · exact h.finish
  · split
    · exact h.turnAway
    · split
      · exact h.finish
      · exact WinBeside.finishGen (h.via (bumpCtx_changes (setTerrs_changes .refl rfl) rfl))

theorem setWeight_winBeside (h : WinBeside w s u) : WinBeside w s (finishGen w 0 0 (setWeight a u)) :=
  WinBeside.finishGen (h.via (setWeight_changes .refl rfl))

theorem actPolicerConfig_winBeside (h : WinBeside w s u) : WinBeside w s (actPolicerConfig w c a u) := by
  unfold actPolicerConfig
  split
  · exact h.finish
  · exact WinBeside.finishGen (h.via (takePolicer_changes .refl rfl))

theorem actEvtRoute_winBeside (h : WinBeside w s u) : WinBeside w s (actEvtRoute w c a u) := by
  unfold actEvtRoute
  split
  · exact WinBeside.finishGen (h.via (routeSource_changes .refl rfl))
  · exact h.finish

theorem actMonitorBind_winBeside (h : WinBeside w s u) : WinBeside w s (actMonitorBind w c a u) := by
  have hb (f : Monitor → Monitor) (ch : MonId) : WinBeside w s (bumpDevice (u.modMon ch f)) :=
    h.via (bumpDevice_changes (modMon_changes .refl rfl) rfl)
  unfold actMonitorBind
  dsimp only
  exact .ite h.finish (.ite h.finish (.ite h.finish (.ite h.finish (.ite h.finish
    (.ite (.ite h.finish (hb _ _).finish) (hb _ _).finish)))))

theorem actMaquetteShort_winBeside (h : WinBeside w s u) : WinBeside w s (actMaquetteShort w c a u) :=
  WinBeside.finish (h.via (modCtx_changes .refl rfl))

theorem actSegWrite_winBeside (h : WinBeside w s u) : WinBeside w s (actSegWrite w c a u) :=
  WinBeside.finish (h.via (modSeg_changes .refl rfl))

end

/-! ## The frames of the statements -/

/-- Every part but memory, the contexts and windows, and the picture with its timers. -/
def Part.settings : List Part := [.memc, .win, .ctx, .port, .evu, .pcie, .faults, .power, .mon, .fetch, .seg, .relay]

/-- The parts that no window, context or picture stands in. -/
def Part.upkeep : List Part :=
  [.memc, .port, .evu, .pcie, .faults, .power, .drone, .timer, .timerShadow, .mon, .fetch, .comp, .relief, .seg, .adc,
      .relay,
    .boot, .pins, .free]

theorem Answers.configuration_frame {s t : State} {w : WinId} (h : Answers Part.settings s (.next t))
    (hw : WinBeside w s t) :
    ∃ u, (Host.Outcome.next t : Host.Outcome State Fault Refusal) = .next u ∧ u.mem = s.mem ∧ u.head = s.head ∧
      u.panel = s.panel ∧ u.syn = s.syn ∧ u.prot = s.prot ∧ u.slot = s.slot ∧ u.commits = s.commits ∧ u.comp = s.comp
          ∧
      u.relief = s.relief ∧ u.epd = s.epd ∧ u.cal = s.cal ∧ u.timer = s.timer ∧ u.boot = s.boot ∧ u.drone = s.drone ∧
      ∀ v : WinId, v ≠ w → u.win[v] = s.win[v] := by
  obtain ⟨u, hu, h⟩ := h
  obtain rfl : t = u := by injection hu
  exact ⟨t, rfl, h.mem_eq rfl, h.head_eq rfl, h.panel_eq rfl, h.syn_eq rfl, h.prot_eq rfl, h.slot_eq rfl,
    h.commits_eq rfl, h.comp_eq rfl, h.relief_eq rfl, h.epd_eq rfl, h.cal_eq rfl, h.timer_eq rfl, h.boot_eq rfl,
    h.drone_eq rfl, hw⟩

theorem Answers.upkeep_frame {s : State} {o : Host.Outcome State Fault Refusal} (h : Answers Part.upkeep s o) :
    ∃ t, o = .next t ∧ t.mem = s.mem ∧ t.win = s.win ∧ t.ctx = s.ctx ∧ t.head = s.head ∧ t.panel = s.panel ∧
      t.syn = s.syn ∧ t.prot = s.prot ∧ t.slot = s.slot ∧ t.commits = s.commits ∧ t.epd = s.epd ∧ t.cal = s.cal := by
  obtain ⟨t, ht, h⟩ := h
  exact ⟨t, ht, h.mem_eq rfl, h.win_eq rfl, h.ctx_eq rfl, h.head_eq rfl, h.panel_eq rfl, h.syn_eq rfl, h.prot_eq rfl,
    h.slot_eq rfl, h.commits_eq rfl, h.epd_eq rfl, h.cal_eq rfl⟩

theorem execSramScrub_clean_answers {s : State} : Answers Part.upkeep s (execSramScrub .clean s) := by
  unfold execSramScrub
  exact .ite ⟨_, rfl, .refl⟩ ⟨_, rfl, .set_memc .refl rfl⟩

theorem execSramScrub_corrected_answers {s : State} : Answers Part.upkeep s (execSramScrub .corrected s) := by
  unfold execSramScrub
  exact .ite ⟨_, rfl, .refl⟩ ⟨_, rfl, raise_changes (.set_memc .refl rfl) rfl⟩

/-- Settles O56: the parts that each of the nine commands may change, and its row of the command port. -/
theorem configurationKeepsThePicture : Obligations.ConfigurationKeepsThePicture := by
  intro s w a i hi
  simp only [List.mem_cons, List.not_mem_nil, or_false] at hi
  have row (op : Byte) (o : Opcode) (hact : ∀ c a u, WinBeside w s u → WinBeside w s (o.act w c a u)) :
      WinBeside w s (portRow w op a o.run s) := .portRow hact (.of_eq rfl)
  obtain rfl | rfl | rfl | rfl | rfl | rfl | rfl | rfl | rfl := hi
  · exact (execNop_answers.mono rfl).configuration_frame (row _ opNop fun _ _ _ => actNop_winBeside)
  · exact (execPartitionSet_answers.mono rfl).configuration_frame (row _ opPartitionSet fun c _ _ =>
        actPartitionSet_winBeside (c := c))
  · exact (execTerritorySet_answers.mono rfl).configuration_frame (row _ opTerritorySet fun c _ _ =>
        actTerritorySet_winBeside (c := c))
  · exact (execQueueConfig_answers.mono rfl).configuration_frame (row _ opQueueConfig fun _ _ _ =>
        setWeight_winBeside)
  · exact (execPolicerConfig_answers.mono rfl).configuration_frame (row _ opPolicerConfig fun c _ _ =>
        actPolicerConfig_winBeside (c := c))
  · exact (execEvtRoute_answers.mono rfl).configuration_frame (row _ opEvtRoute fun c _ _ => actEvtRoute_winBeside
        (c := c))
  · exact (execMonitorBind_answers.mono rfl).configuration_frame (row _ opMonitorBind fun _ _ _ =>
        actMonitorBind_winBeside)
  · exact (execMaquetteShort_answers.mono rfl).configuration_frame (row _ opMaquetteShort fun _ a _ =>
        actMaquetteShort_winBeside (a := a))
  · exact (execSegWrite_answers.mono rfl).configuration_frame (row _ opSegWrite fun c _ _ => actSegWrite_winBeside
        (c := c))

/-- Settles O57: the parts that each of the seventeen commands may change. -/
theorem backgroundEventsKeepThePicture : Obligations.BackgroundEventsKeepThePicture := by
  intro s i p q f v r e c hc
  simp only [List.mem_cons, List.not_mem_nil, or_false] at hc
  obtain rfl | rfl | rfl | rfl | rfl | rfl | rfl | rfl | rfl | rfl | rfl | rfl | rfl | rfl | rfl | rfl | rfl := hc
  · exact (execTimerTick_answers.mono rfl).upkeep_frame
  · exact (execExtintEdge_answers.mono rfl).upkeep_frame
  · exact (execVpAckRecognized_answers.mono rfl).upkeep_frame
  · exact (execVpAckRelease_answers.mono rfl).upkeep_frame
  · exact (execMsixVectorUnmask_answers.mono rfl).upkeep_frame
  · exact (execTokenCredit_answers.mono rfl).upkeep_frame
  · exact (execQueueSample_answers.mono rfl).upkeep_frame
  · exact (execMr4Poll_answers.mono rfl).upkeep_frame
  · exact (execCalibrationDue_answers.mono rfl).upkeep_frame
  · exact (execForcedCalibration_answers.mono rfl).upkeep_frame
  · exact (execDramScrub_answers.mono rfl).upkeep_frame
  · exact execSramScrub_clean_answers.upkeep_frame
  · exact execSramScrub_corrected_answers.upkeep_frame
  · exact (execHeartbeatLapse_answers.mono rfl).upkeep_frame
  · exact (execXtal32Loss_answers.mono rfl).upkeep_frame
  · exact (execXtal32Return_answers.mono rfl).upkeep_frame
  · exact (execJtagTckEdge_answers.mono rfl).upkeep_frame

end Sys2Proof.Machine
end

section
/-! SUPPORT. What a read of a register, however it arrives, does beside the read's own effects; and these effects. -/
namespace Sys2Proof.Machine

theorem readArrives_changes {s : State} {acc : ReadAccess} : Changes [.pcie] s (readArrives acc s) := by
  cases acc with
  | half cs => exact .refl
  | dword f => exact sawLink_changes .refl rfl

/-- An answered read adds to the whole read of the register its way back: the read latch and the pins, or a
    completion. -/
theorem readAt_answered_changes {s u : State} {acc : ReadAccess} {w : WinId} {o : RegOffset} {v : Word}
    (h : readWindow s acc = some w) (hr : readReg w (RegOffset.byte o) (readArrives acc s) = (v, u)) :
    Changes [.win, .pcie, .pins] u (readAt o acc s) ∧ WinBeside w u (readAt o acc s) := by
  cases acc with
  | half cs =>
    obtain ⟨hs, rfl⟩ := (guardSome_eq_some_iff _ _ _).mp h
    rw [show readAt o (.half cs) s = _ from lowRead_open hs hr]
    exact ⟨.set_pins (.set_pins (.set_win .refl rfl) rfl) rfl,
      .via (.modWin (.of_eq rfl)) (.set_pins (.set_pins .refl rfl) rfl)⟩
  | dword f =>
    obtain ⟨hs, rfl⟩ := (guardSome_eq_some_iff _ _ _).mp h
    rw [show readAt o (.dword f) s = _ from dwordRead_open hs hr]
    exact ⟨sendTlp_changes .refl rfl, .of_eq rfl⟩

/-! ## The effects of a whole read -/

/-- The doorbell bits of a tenant are all that a read takes out of a context's record. -/
def CtxBesideDoor (s t : State) : Prop := ∀ n : CtxId, ∃ d, t.ctx[n] = { s.ctx[n] with doorIn := d }

theorem CtxBesideDoor.of_eq {s t : State} (h : t.ctx = s.ctx) : CtxBesideDoor s t := fun n =>
    ⟨s.ctx[n].doorIn, by rw [h]⟩

theorem takeDoorbell_ctx (c : CtxId) (s : State) : CtxBesideDoor s (takeDoorbell c s) := by
  intro n
  unfold takeDoorbell
  split
  · exact ⟨_, rfl⟩
  · by_cases h : n = c
    · subst h
      exact ⟨0, State.modCtx_same s n _⟩
    · exact ⟨s.ctx[n].doorIn, State.modCtx_other s c _ n h⟩

theorem readEffect_ctx (w : WinId) (c : CtxId) (off : Nat) (s : State) : CtxBesideDoor s (readEffect w c off s) := by
  unfold readEffect
  split
  · exact .of_eq rfl
  · exact .of_eq rfl
  · exact .of_eq ((claimOwn_changes (G := [.evu, .pcie]) .refl rfl).ctx_eq rfl)
  · exact .of_eq rfl
  · split
    · exact .of_eq rfl
    · exact .of_eq rfl
  · exact takeDoorbell_ctx c s
  · exact .of_eq rfl

theorem readEffect_winBeside (w : WinId) (c : CtxId) (off : Nat) (s : State) : WinBeside w s (readEffect w c off s) :=
    by
  unfold readEffect
  split
  · exact .modWin (.of_eq rfl)
  · exact .modWin (.of_eq rfl)
  · exact .via (.of_eq rfl) (claimOwn_changes .refl rfl)
  · exact .modWin (.of_eq rfl)
  · split
    · exact .modWin (.of_eq rfl)
    · exact .of_eq rfl
  · exact .via (.of_eq rfl) (takeDoorbell_changes .refl rfl)
  · exact .of_eq rfl

/-- The fetch scheduler is as before beside queue_135 where nothing but an access in that queue has changed it. -/
theorem fetchSame_of_eq {s t : State} (h : t.fetch = s.fetch) : fetchSame s t := by
  simp [fetchSame, h]

theorem fetchSame_of_oneQueue {s t : State} (h : oneQueue 135 s t) : fetchSame s t := by
  obtain ⟨q, rfl⟩ := h
  refine ⟨rfl, fun n hn => ?_⟩
  exact State.modQueue_other s 135 _ n hn

theorem fetchSame.congr {s t u : State} (h : fetchSame s t) (hu : u.fetch = t.fetch) : fetchSame s u := by
  simpa only [fetchSame, hu] using h

/-- A MEM_WIN_DATA read enters a read in queue_135, or nothing. -/
theorem readMemWin_fetchSame (w : WinId) (c : CtxId) (s : State) : fetchSame s (readMemWin w c s).2 := by
  unfold readMemWin
  dsimp only
  split
  · exact fetchSame_of_eq rfl
  · split
    · exact (fetchSame_of_oneQueue (access_oneQueue _ _ _ _ _ s)).congr
        ((logUeIn_changes (G := [.evu, .pcie, .faults]) .refl rfl).fetch_eq rfl)
    · exact (fetchSame_of_oneQueue (access_oneQueue _ _ _ _ _ s)).congr rfl

theorem readMemWin_winBeside (w : WinId) (c : CtxId) (s : State) : WinBeside w s (readMemWin w c s).2 := by
  unfold readMemWin
  dsimp only
  refine .modWin ?_
  split
  · exact .of_eq rfl
  · split
    · exact .via (.of_eq rfl) (logUeIn_changes (access_changes .refl rfl) rfl)
    · exact .via (.of_eq rfl) (access_changes .refl rfl)

theorem readReg_winBeside (w : WinId) (off : Nat) (s : State) : WinBeside w s (readReg w off s).2 := by
  unfold readReg
  split
  · exact .of_eq rfl
  · split
    · exact readMemWin_winBeside _ _ _
    · exact readEffect_winBeside _ _ _ _

theorem readReg_ctx (w : WinId) (off : Nat) (s : State) : CtxBesideDoor s (readReg w off s).2 := by
  unfold readReg
  split
  · exact .of_eq rfl
  · split
    · exact .of_eq ((readMemWin_changes (G := [.win, .evu, .pcie, .faults, .fetch]) .refl rfl).ctx_eq rfl)
    · exact readEffect_ctx _ _ _ _

/-- Of the registers MEM_WIN_DATA alone enters a read in the fetch scheduler. -/
theorem readReg_fetch {w : WinId} {off : Nat} (h : off ≠ 0x3C) (s : State) : (readReg w off s).2.fetch = s.fetch := by
  unfold readReg
  split
  · rfl
  · rw [if_neg h]
    exact (readEffect_changes (G := [.win, .ctx, .port, .evu, .pcie]) .refl rfl).fetch_eq rfl

theorem readReg_fetchSame (w : WinId) (off : Nat) (s : State) : fetchSame s (readReg w off s).2 := by
  by_cases h : off = 0x3C
  · unfold readReg
    split
    · exact fetchSame_of_eq rfl
    · rw [if_pos h]
      exact readMemWin_fetchSame _ _ _
  · exact fetchSame_of_eq (readReg_fetch h s)

/-! ## What a read leaves alone -/

theorem unitsSame_of_changes {s t : State} (h : Changes [.win, .ctx, .port, .evu, .pcie, .faults, .fetch, .pins] s t)
    :
    unitsSame s t :=
  ⟨h.mem_eq rfl, h.memc_eq rfl, h.head_eq rfl, h.panel_eq rfl, h.syn_eq rfl, h.prot_eq rfl, h.slot_eq rfl,
    h.commits_eq rfl, h.comp_eq rfl, h.relief_eq rfl, h.epd_eq rfl, h.seg_eq rfl, h.adc_eq rfl, h.relay_eq rfl,
    h.cal_eq rfl, h.timer_eq rfl, h.mon_eq rfl, h.power_eq rfl, h.drone_eq rfl, h.boot_eq rfl⟩

/-- A read that is answered: the frame of its way in, of the whole read and of its way back. -/
theorem readAt_frame {s : State} {acc : ReadAccess} {w : WinId} (o : RegOffset) (h : readWindow s acc = some w) :
    unitsSame s (readAt o acc s) ∧ fetchSame s (readAt o acc s) ∧ (o ≠ 15 → (readAt o acc s).fetch = s.fetch) ∧
      (∀ v : WinId, v ≠ w → (readAt o acc s).win[v] = s.win[v]) ∧
      ∀ n : CtxId, (readAt o acc s).ctx[n].st = s.ctx[n].st ∧ (readAt o acc s).ctx[n].epoch = s.ctx[n].epoch ∧
        (readAt o acc s).ctx[n].partBase = s.ctx[n].partBase ∧ (readAt o acc s).ctx[n].partSize = s.ctx[n].partSize ∧
        (readAt o acc s).ctx[n].terr = s.ctx[n].terr := by
  have hin : Changes [.pcie] s (readArrives acc s) := readArrives_changes
  rcases hr : readReg w (RegOffset.byte o) (readArrives acc s) with ⟨v, u⟩
  have hreg : Changes [.win, .ctx, .port, .evu, .pcie, .faults, .fetch, .pins] s u := by
    have := readReg_changes (w := w) (off := RegOffset.byte o)
      (hin.mono (G := [.win, .ctx, .port, .evu, .pcie, .faults, .fetch, .pins]) rfl) rfl
    rwa [hr] at this
  have hwin := readReg_winBeside w (RegOffset.byte o) (readArrives acc s)
  have hctx := readReg_ctx w (RegOffset.byte o) (readArrives acc s)
  have hfetch := readReg_fetchSame w (RegOffset.byte o) (readArrives acc s)
  have hother (ho : o ≠ 15) : (readReg w (RegOffset.byte o) (readArrives acc s)).2.fetch =
      (readArrives acc s).fetch :=
    readReg_fetch (fun hb => ho (Fin.ext (by simp only [RegOffset.byte] at hb; show o.1 = 15; omega))) _
  rw [hr] at hwin hctx hfetch hother
  obtain ⟨hout, hbeside⟩ := readAt_answered_changes h hr
  have houtf := hout.fetch_eq rfl
  have houtc := hout.ctx_eq rfl
  have hinw := hin.win_eq rfl
  have hinc := hin.ctx_eq rfl
  have hinf := hin.fetch_eq rfl
  refine ⟨unitsSame_of_changes (hreg.via hout rfl), ?_, fun ho => houtf.trans ((hother ho).trans hinf), fun x hx =>
      ?_,
    fun n => ?_⟩
  · have := hfetch.congr houtf
    simpa only [fetchSame, hinf] using this
  · rw [hbeside x hx, hwin x hx, hinw]
  · obtain ⟨d, hd⟩ := hctx n
    rw [houtc, hd, hinc]
    exact ⟨rfl, rfl, rfl, rfl, rfl⟩

/-- Settles O55: the way in, the whole read and the way back of each read. -/
theorem readsChangeTheirWindowOnly : Obligations.ReadsChangeTheirWindowOnly := by
  refine ⟨fun s cs o hs => ?_, fun s acc w hw i hi => ?_⟩
  · have h : readWindow s (.half cs) = some (csWin cs) := by simp [readWindow, guardSome, hs]
    exact ⟨_, rfl, readAt_frame o h⟩
  · simp only [List.mem_cons, List.not_mem_nil, or_false] at hi
    have keep (o : RegOffset) {j : Instr} (ho : o = 15 → j = .memWinDataRead acc)
        (hf : o ≠ 15 → (readAt o acc s).fetch = s.fetch) : j ≠ .memWinDataRead acc → (readAt o acc s).fetch =
            s.fetch :=
      fun hj => hf (mt ho hj)
    obtain rfl | rfl | rfl | rfl | rfl := hi
    · obtain ⟨hunits, hfetch, hkeep, hrest⟩ := readAt_frame 9 hw
      exact ⟨_, rfl, hunits, hfetch, keep 9 (fun h => absurd h (by decide)) hkeep, hrest⟩
    · obtain ⟨hunits, hfetch, hkeep, hrest⟩ := readAt_frame 15 hw
      exact ⟨_, rfl, hunits, hfetch, keep 15 (fun _ => rfl) hkeep, hrest⟩
    · obtain ⟨hunits, hfetch, hkeep, hrest⟩ := readAt_frame 43 hw
      exact ⟨_, rfl, hunits, hfetch, keep 43 (fun h => absurd h (by decide)) hkeep, hrest⟩
    · obtain ⟨hunits, hfetch, hkeep, hrest⟩ := readAt_frame 21 hw
      exact ⟨_, rfl, hunits, hfetch, keep 21 (fun h => absurd h (by decide)) hkeep, hrest⟩
    · obtain ⟨hunits, hfetch, hkeep, hrest⟩ := readAt_frame 60 hw
      exact ⟨_, rfl, hunits, hfetch, keep 60 (fun h => absurd h (by decide)) hkeep, hrest⟩

end Sys2Proof.Machine
end

section
/-! The half accesses of the host bus and the unbound window (04.2, 04.3). -/
namespace Sys2Proof.Machine

/-! ## Which latches an access moves -/

/-- A change of one window that keeps a field of it keeps that field of every window. -/
theorem State.modWin_field {α : Type} (field : Window → α) {s : State} {w : WinId} {f : Window → Window}
    (hf : field (f s.win[w]) = field s.win[w]) (v : WinId) : field (s.modWin w f).win[v] = field s.win[v] := by
  by_cases h : v = w
  · subst h
    exact (congrArg field (State.modWin_same s v f)).trans hf
  · exact congrArg field (State.modWin_other s w f v h)

@[simp] theorem Window.stepAddr_writeLatch (x : Window) : x.stepAddr.writeLatch = x.writeLatch := by
  unfold Window.stepAddr
  split <;> rfl

@[simp] theorem Window.stepSummary_writeLatch (x : Window) : x.stepSummary.writeLatch = x.writeLatch := by
  unfold Window.stepSummary
  split <;> rfl

@[simp] theorem Window.stepHist_writeLatch (x : Window) : x.stepHist.writeLatch = x.writeLatch := by
  unfold Window.stepHist
  split <;> rfl

theorem popCompletion_writeLatch (w v : WinId) (s : State) :
    (popCompletion w s).win[v].writeLatch = s.win[v].writeLatch := by
  refine State.modWin_field Window.writeLatch ?_ v
  cases s.win[w].done <;> rfl

theorem readEffect_writeLatch (w v : WinId) (c : CtxId) (off : Nat) (s : State) :
    (readEffect w c off s).win[v].writeLatch = s.win[v].writeLatch := by
  unfold readEffect
  split
  · exact popCompletion_writeLatch w v s
  · exact State.modWin_field Window.writeLatch (Window.stepSummary_writeLatch _) v
  · exact congrArg (·[v].writeLatch) ((claimOwn_changes (G := [.evu, .pcie]) .refl rfl).win_eq rfl)
  · exact State.modWin_field Window.writeLatch (Window.stepHist_writeLatch _) v
  · split
    · exact State.modWin_field Window.writeLatch rfl v
    · rfl
  · exact congrArg (·[v].writeLatch) ((takeDoorbell_changes (G := [.ctx, .port]) .refl rfl).win_eq rfl)
  · rfl

theorem readMemWin_writeLatch (w v : WinId) (c : CtxId) (s : State) :
    (readMemWin w c s).2.win[v].writeLatch = s.win[v].writeLatch := by
  unfold readMemWin
  dsimp only
  refine (State.modWin_field Window.writeLatch ?_ v).trans ?_
  · exact Window.stepAddr_writeLatch _
  · split
    · rfl
    · split
      · exact congrArg (·[v].writeLatch) ((logUeIn_changes (G := [.evu, .pcie, .faults, .fetch])
            (access_changes .refl rfl) rfl).win_eq rfl)
      · exact congrArg (·[v].writeLatch) ((access_changes (G := [.fetch]) .refl rfl).win_eq rfl)

theorem readReg_writeLatch (w v : WinId) (off : Nat) (s : State) :
    (readReg w off s).2.win[v].writeLatch = s.win[v].writeLatch := by
  unfold readReg
  split
  · rfl
  · split
    · exact readMemWin_writeLatch w v _ s
    · exact readEffect_writeLatch w v _ off s

theorem lowRead_writeLatch (cs : ChipSelect) (o : RegOffset) (s : State) (v : WinId) :
    (lowRead cs o s).win[v].writeLatch = s.win[v].writeLatch := by
  unfold lowRead
  dsimp only
  split
  · rfl
  · split
    · exact congrArg (·[v].writeLatch) ((sleepAccess_changes (G := [.pins, .power]) (.set_pins .refl rfl) rfl).win_eq
          rfl)
    · simp only [endAccess_win, driveBus_win]
      exact (State.modWin_field Window.writeLatch (by rfl) v).trans (readReg_writeLatch _ v _ s)

theorem dwordRead_writeLatch (f : FnId) (o : RegOffset) (s : State) (v : WinId) :
    (dwordRead f o s).win[v].writeLatch = s.win[v].writeLatch := by
  unfold dwordRead
  split
  · rfl
  · split
    · exact congrArg (·[v].writeLatch)
        ((sendTlp_changes (G := [.pcie, .power]) (sleepAccess_changes (sawLink_changes .refl rfl) rfl) rfl).win_eq
            rfl)
    · exact readReg_writeLatch _ v _ (sawLink s)

theorem readAt_writeLatch (o : RegOffset) (acc : ReadAccess) (s : State) (v : WinId) :
    (readAt o acc s).win[v].writeLatch = s.win[v].writeLatch := by
  cases acc with
  | half cs => exact lowRead_writeLatch cs o s v
  | dword f => exact dwordRead_writeLatch f o s v

theorem lowWrite_readLatch (cs : ChipSelect) (o : RegOffset) (x : HalfWord) (s : State) (v : WinId) :
    (lowWrite cs o x s).win[v].readLatch = s.win[v].readLatch := by
  unfold lowWrite
  split
  · rfl
  · split
    · exact congrArg (·[v].readLatch) ((sleepAccess_changes (G := [.power]) .refl rfl).win_eq rfl)
    · simp only [endAccess_win]
      exact State.modWin_field Window.readLatch (by rfl) v

/-! ## The high-half read (R86) -/

/-- What a high-half read shows. -/
def highHalf (s : State) (cs : ChipSelect) (o : RegOffset) : HalfWord :=
  let live : HalfWord := (peekReg s (csWin cs) (RegOffset.byte o)).extractLsb' 16 16
  match s.win[csWin cs].readLatch with
  | some (t, h) => if t = o then h else live
  | none => live

theorem highRead_open {s : State} {cs : ChipSelect} (o : RegOffset) (hs : busOpen s = true) :
    highRead cs o s =
      endAccess (driveBus (highHalf s cs o) (s.modWin (csWin cs) fun x => { x with readLatch := none })) := by
  obtain ⟨hh, hf⟩ := (busOpen_iff s).mp hs
  simp only [highRead, hh, hf, Bool.not_true, Bool.false_eq_true, if_false]
  rfl

/-- Settles O7: the high-half read as one equation, and the frame of each access to the latches. -/
theorem highHalfReadUsesTheLatch : Obligations.HighHalfReadUsesTheLatch := by
  refine ⟨fun s cs o hs => ?_, fun s o acc w => readAt_writeLatch o acc s w,
    fun s cs o v => ⟨_, rfl, fun w => lowWrite_readLatch cs o v s w⟩⟩
  refine ⟨_, congrArg Host.Outcome.next (highRead_open o hs), fun h hl => ?_, fun p h hl hp => ?_, fun hl => ?_,
    ?own, fun x hx => ?other, rfl⟩
  · show highHalf s cs o = h
    simp only [highHalf, hl, if_true]
  · show highHalf s cs o = _
    simp only [highHalf, hl, if_neg hp]
  · show highHalf s cs o = _
    simp only [highHalf, hl]
  case own =>
    rw [endAccess_win, driveBus_win]
    exact State.modWin_same s _ _
  case other =>
    rw [endAccess_win, driveBus_win]
    exact State.modWin_other s _ _ x hx

/-! ## Writes of halves (R87, R88) -/

theorem highWrite_other {s : State} {cs : ChipSelect} {o : RegOffset} (hi : HalfWord) (hs : busOpen s = true)
    (hl : ∀ lo, s.win[csWin cs].writeLatch ≠ some (o, lo)) :
    highWrite cs o hi 0 s = endAccess (s.modWin (csWin cs) fun x => { x with halfErr := true }) := by
  obtain ⟨hh, hf⟩ := (busOpen_iff s).mp hs
  simp only [highWrite, hh, hf, Bool.not_true, Bool.false_eq_true, if_false]
  split
  next t lo heq =>
    have ht : t ≠ o := fun h => hl lo (h ▸ heq)
    rw [if_neg ht]
  next => rfl

theorem lowWrite_open {s : State} {cs : ChipSelect} (o : RegOffset) (v : HalfWord) (hs : busOpen s = true) :
    lowWrite cs o v s = endAccess (s.modWin (csWin cs) fun x => { x with
      halfErr := x.halfErr || (x.writeLatch.any fun l => l.1 ≠ o), writeLatch := some (o, v) }) := by
  obtain ⟨hh, hf⟩ := (busOpen_iff s).mp hs
  simp [lowWrite, hh, hf]

/-- Settles O8: the four cases of the write latch. -/
theorem writeHalvesCommitTogether : Obligations.WriteHalvesCommitTogether := by
  intro s cs o v hs
  refine ⟨⟨_, rfl, ?_⟩, fun lo hl => ?_, fun p lo hl hp => ?_, fun hl => ?_⟩
  · rw [lowWrite_open o v hs]
    congr 2
    funext x
    cases x.writeLatch <;> rfl
  · exact exec_registerWrite_half ((committed_half_iff s o cs v _ _).mpr ⟨lo, hl, hs, rfl, rfl⟩)
  · exact congrArg Host.Outcome.next (highWrite_other v hs fun lo' hl' => hp
        (by simpa using (hl.symm.trans hl') |> congrArg (Option.map Prod.fst)))
  · exact congrArg Host.Outcome.next (highWrite_other v hs fun lo' hl' => nomatch hl.symm.trans hl')

/-! ## The unbound window (R83) -/

section
variable {s : State} {w : WinId} (h : winCtx s w = none)
include h

theorem readReg_unbound (off : Nat) : readReg w off s = (regWord s w off, s) := by
  simp only [readReg, h]

theorem writeReg_unbound (off : Nat) (v : Word) : writeReg w off v s = s := by
  simp only [writeReg, h]

theorem issue_unbound (op : Byte) (a : Cmd) : issue w op a s = s := by
  simp only [issue, h, Option.isNone_none, Bool.or_true, if_true]

theorem startNext_unbound (run : Byte → WinId → CtxId → Cmd → State → State) : startNext w run s = s := by
  simp only [startNext, h]
  split
  next hn => exact absurd hn nofun
  next => rfl

theorem winInfo_unbound : (winInfoWord s w).getLsbD 6 = false := by
  have bit (b : Bool) (lo : Nat) (hlo : lo ≠ 6) : (putB b lo).getLsbD 6 = false := by
    cases b
    · simp [putB]
    · have hout : ¬ (6 < 32 ∧ lo ≤ 6 ∧ 6 < lo + 1) := by omega
      simp only [putB_true, getLsbD_put, hout, decide_false, Bool.false_and]
  simp only [winInfoWord, h, BitVec.getLsbD_or, getLsbD_put, bit _ 7 (by decide), bit _ 19 (by decide)]
  simp [putB]

end

/-- Settles O9: reads and writes by the case without a context, commands by `issue` and `startNext`. -/
theorem unboundWindowReachesNothing : Obligations.UnboundWindowReachesNothing := by
  intro s w h
  refine ⟨fun off => by rw [readReg_unbound h], fun off h0 h4 h8 => ?_, ?_, fun off v => writeReg_unbound h off v,
    fun a => ?_, fun op a => ?_⟩
  · rw [readReg_unbound h]
    simp only [regWord, h, if_neg h0, if_neg h4, if_neg h8]
  · rw [readReg_unbound h]
    simp only [regWord, h]
    exact winInfo_unbound h
  · refine congrArg Host.Outcome.next ?_
    simp only [portRow, issue_unbound h, startNext_unbound h, ite_self]
  · refine congrArg Host.Outcome.next ?_
    simp only [issueAny, issue_unbound h, startNext_unbound h, ite_self]

end Sys2Proof.Machine
end

section
/-! The memory window and BAR_2: which bytes an access from a host reaches (05.5, 08.7). -/
namespace Sys2Proof.Machine

/-! ## Committed writes -/

/-- What a committed write does after its register: on the host bus the access ends. -/
def writeLeaves : WriteAccess → State → State
  | .half _ _, s => endAccess s
  | .dword _ _, s => s

theorem writeLeaves_changes {acc : WriteAccess} {s : State} : Changes [.pins] s (writeLeaves acc s) := by
  cases acc with
  | half cs hi => exact .set_pins .refl rfl
  | dword f v => exact .refl

theorem writeArrives_changes {acc : WriteAccess} {s : State} : Changes [.win, .pcie] s (writeArrives acc s) := by
  cases acc with
  | half cs hi => exact .set_win .refl rfl
  | dword f v => exact sawLink_changes .refl rfl

/-- A committed write is the write of its register between its arrival and its end (R87, R92). -/
theorem writeAt_eq {s : State} {o : RegOffset} {acc : WriteAccess} {w : WinId} {v : Word}
    (h : committed s o acc = some (w, v)) (set : Word) :
    writeAt o set acc s = writeLeaves acc (writeReg w (RegOffset.byte o) (v ||| set) (writeArrives acc s)) := by
  cases acc with
  | half cs hi =>
    obtain ⟨lo, hl, hs, rfl, rfl⟩ := (committed_half_iff s o cs hi w v).mp h
    exact highWrite_held set hs hl
  | dword f x =>
    obtain ⟨hs, rfl, rfl⟩ := (committed_dword_iff s o f x v w).mp h
    exact dwordWrite_open o _ hs

/-- The same through a window that is bound, with no bit that the row sets. -/
theorem writeAt_bound {s : State} {o : RegOffset} {acc : WriteAccess} {w : WinId} {v : Word} {c : CtxId}
    (h : committed s o acc = some (w, v)) (hc : winCtx s w = some c) :
    writeAt o 0 acc s = writeLeaves acc (writeBound w c (RegOffset.byte o) v (writeArrives acc s)) := by
  have hc' : winCtx (writeArrives acc s) w = some c := by rw [winCtx_writeArrives, hc]
  rw [writeAt_eq h 0, show v ||| 0 = v from BitVec.or_zero]
  simp only [writeReg, hc']

/-! ## The target of a memory-window access (R113) -/

section
variable {s : State} {c : CtxId} {addr : Word} {write : Bool}

theorem memTarget_unavailable (h : memAvail s = false) : memTarget s c addr write = (1, none) := by
  simp [memTarget, h]

theorem memTarget_readonly (h : memAvail s = true) (hc : c = 0) (ha : addr.getLsbD 0 = true) :
    memTarget s c addr true = (4, none) := by
  simp only [memTarget, h, supervisor, hc, ha]
  rfl

theorem notDevice (hd : c ≠ 0 ∨ addr.getLsbD 0 = false) : (supervisor c && addr.getLsbD 0) = false := by
  rcases hd with hc | ha
  · simp [supervisor, hc]
  · simp only [ha, Bool.and_false]

theorem memTarget_outside (h : memAvail s = true) (hd : c ≠ 0 ∨ addr.getLsbD 0 = false)
    (hp : inPart s c (addr.toNat / 4 * 4) 4 = false) : memTarget s c addr write = (2, none) := by
  simp only [memTarget, h, notDevice hd, hp]
  rfl

theorem memTarget_inside (h : memAvail s = true) (hd : c ≠ 0 ∨ addr.getLsbD 0 = false)
    (hp : inPart s c (addr.toNat / 4 * 4) 4 = true) :
    memTarget s c addr write = (0, some (partBase s c + addr.toNat / 4 * 4)) := by
  simp only [memTarget, h, notDevice hd, hp]
  rfl

end

/-! ## Reads through the memory window -/

section
variable {s : State} {w : WinId} {c : CtxId}

/-- A read that is refused shows 0 with the reason. -/
theorem readMemWin_refused {st : BitVec 3} (h : memTarget s c s.win[w].mwAddr false = (st, none)) :
    readMemWin w c s = (0, s.modWin w fun x => { x.stepAddr with mwStatus := st }) := by
  simp only [readMemWin, h]

theorem readMemWin_clean {st : BitVec 3} {a : Nat} (h : memTarget s c s.win[w].mwAddr false = (st, some a))
    (hb : badRange s a 4 = false) :
    readMemWin w c s = (BitVec.ofNat 32 (le (s.read a 4)),
      (access 135 false c a 4 s).modWin w fun x => { x.stepAddr with mwStatus := 0 }) := by
  simp only [readMemWin, h, hb]
  rfl

theorem readMemWin_bad {st : BitVec 3} {a : Nat} (h : memTarget s c s.win[w].mwAddr false = (st, some a))
    (hb : badRange s a 4 = true) :
    readMemWin w c s = (0,
      (logUeIn a 4 (access 135 false c a 4 s)).modWin w fun x => { x.stepAddr with mwStatus := 3 }) := by
  simp only [readMemWin, h, hb]
  rfl

theorem readReg_memWin (hc : winCtx s w = some c) : readReg w (RegOffset.byte 15) s = readMemWin w c s := by
  have hoff : RegOffset.byte 15 = 0x3C := rfl
  simp only [readReg, hc, hoff, if_true]

end

/-- AUTOINC as the statement writes it. -/
theorem Window.stepAddr_mwAddr (x : Window) :
    x.stepAddr.mwAddr = if x.mwAddr.getLsbD 1 then x.mwAddr + 4 else x.mwAddr := by
  unfold Window.stepAddr
  split <;> rfl

/-- A MEM_WIN_DATA read that is answered: what it shows, its window after it, and memory. -/
theorem exec_memWinDataRead {s u t : State} {acc : ReadAccess} {w : WinId} {c : CtxId} {v : Word} {st : BitVec 3}
    (hw : readWindow s acc = some w) (hc : winCtx s w = some c)
    (hr : readMemWin w c (readArrives acc s) = (v, u.modWin w fun x => { x.stepAddr with mwStatus := st }))
    (hu : u.win = s.win) (ht : t = readAt 15 acc s) :
    shows t 15 acc v ∧ sameBytes s t ∧
      t.win[w].mwAddr = (if s.win[w].mwAddr.getLsbD 1 then s.win[w].mwAddr + 4 else s.win[w].mwAddr) ∧
      t.win[w].mwStatus = st := by
  subst ht
  have hc' : winCtx (readArrives acc s) w = some c := by rw [winCtx_readArrives, hc]
  obtain ⟨hshow, l, hl⟩ := readAt_answered hw ((readReg_memWin hc').trans hr)
  obtain ⟨⟨hmem, -⟩, -⟩ := readAt_frame 15 hw
  have hwin : (u.modWin w fun x => { x.stepAddr with mwStatus := st }).win[w] =
      { s.win[w].stepAddr with mwStatus := st } := by
    rw [← hu]
    exact State.modWin_same u w _
  rw [hwin] at hl
  exact ⟨hshow, fun a => by rw [hmem], by rw [hl, ← Window.stepAddr_mwAddr], by rw [hl]⟩

@[simp] theorem memTarget_readArrives (acc : ReadAccess) (s : State) (c : CtxId) (a : Word) (b : Bool) :
    memTarget (readArrives acc s) c a b = memTarget s c a b := by
  cases acc <;> rfl

/-- Settles O12: the four outcomes of `memTarget` and the memory's errors. -/
theorem memoryWindowReadsOwnPartition : Obligations.MemoryWindowReadsOwnPartition := by
  intro s acc w c hw hc hd
  have target {x : BitVec 3 × Option Nat} (h : memTarget s c s.win[w].mwAddr false = x) :
      memTarget (readArrives acc s) c (readArrives acc s).win[w].mwAddr false = x := by
    rw [memTarget_readArrives, readArrives_win, h]
  cases ha : memAvail s with
  | false =>
    obtain ⟨hv, hm, hi, hs⟩ := exec_memWinDataRead hw hc (readMemWin_refused (target (memTarget_unavailable ha)))
      (readArrives_win acc s) rfl
    exact ⟨_, 0, rfl, hv, hm, hi, fun _ => ⟨rfl, hs⟩, nofun, nofun, nofun⟩
  | true =>
    cases hp : inPart s c (s.win[w].mwAddr.toNat / 4 * 4) 4 with
    | false =>
      obtain ⟨hv, hm, hi, hs⟩ := exec_memWinDataRead hw hc (readMemWin_refused (target (memTarget_outside ha hd hp)))
        (readArrives_win acc s) rfl
      exact ⟨_, 0, rfl, hv, hm, hi, nofun, fun _ _ => ⟨rfl, hs⟩, fun _ => nofun, fun _ => nofun⟩
    | true =>
      have ht := target (memTarget_inside ha hd hp)
      have hacc (u : State) (hu : Changes [.fetch, .evu, .pcie, .faults] (readArrives acc s) u) : u.win = s.win :=
        (hu.win_eq rfl).trans (readArrives_win acc s)
      cases hb : badRange s (partBase s c + s.win[w].mwAddr.toNat / 4 * 4) 4 with
      | false =>
        obtain ⟨hv, hm, hi, hs⟩ := exec_memWinDataRead hw hc (readMemWin_clean ht (by cases acc <;> exact hb))
          (hacc _ (access_changes .refl rfl)) rfl
        have hread : (readArrives acc s).read = s.read := by cases acc <;> rfl
        exact ⟨_, _, rfl, hv, hm, hi, nofun, fun _ => nofun, fun _ _ _ => ⟨by rw [hread], hs⟩, fun _ _ => nofun⟩
      | true =>
        obtain ⟨hv, hm, hi, hs⟩ := exec_memWinDataRead hw hc (readMemWin_bad ht (by cases acc <;> exact hb))
          (hacc _ (logUeIn_changes (access_changes .refl rfl) rfl)) rfl
        exact ⟨_, 0, rfl, hv, hm, hi, nofun, fun _ => nofun, fun _ _ => nofun, fun _ _ _ => ⟨rfl, hs⟩⟩

/-! ## Writes through the memory window -/

theorem hostWrite_mem (c : CtxId) (a : Nat) (d : List Byte) (s : State) : (hostWrite c a d s).mem =
    (s.write a d).mem :=
  ((access_changes (G := [.evu, .pcie, .faults, .fetch, .relief]) (snoop_changes .refl rfl) rfl).mem_eq rfl)

section
variable {s : State} {w : WinId} {c : CtxId} {v : Word}

theorem writeMemWin_refused {st : BitVec 3} (h : memTarget s c s.win[w].mwAddr true = (st, none)) :
    writeMemWin w c v s = s.modWin w fun x => { x.stepAddr with mwStatus := st } := by
  simp only [writeMemWin, h]

theorem writeMemWin_target {st : BitVec 3} {a : Nat} (h : memTarget s c s.win[w].mwAddr true = (st, some a)) :
    writeMemWin w c v s = (hostWrite c a (wordBytes v) s).modWin w fun x => { x.stepAddr with mwStatus := st } := by
  simp only [writeMemWin, h]

end

/-- A MEM_WIN_DATA write that commits: memory and the status after it. -/
theorem exec_memWinDataWrite {s u t : State} {acc : WriteAccess} {w : WinId} {c : CtxId} {v : Word} {st : BitVec 3}
    (hw : committed s 15 acc = some (w, v)) (hc : winCtx s w = some c)
    (hr : writeMemWin w c v (writeArrives acc s) = u.modWin w fun x => { x.stepAddr with mwStatus := st })
    (ht : t = writeAt 15 0 acc s) : t.mem = u.mem ∧ t.win[w].mwStatus = st := by
  subst ht
  have hb : writeBound w c (RegOffset.byte 15) v (writeArrives acc s) = writeMemWin w c v (writeArrives acc s) := rfl
  rw [writeAt_bound hw hc, hb, hr]
  refine ⟨writeLeaves_changes.mem_eq rfl, ?_⟩
  simp only [writeLeaves_changes.win_eq rfl]
  exact congrArg Window.mwStatus (State.modWin_same u w _)

/-- Settles O13: the outcomes of `memTarget`, and the store of the four bytes. -/
theorem memoryWindowWritesOwnPartition : Obligations.MemoryWindowWritesOwnPartition := by
  intro s acc w v c hw hc
  have hmem : (writeArrives acc s).mem = s.mem := writeArrives_changes.mem_eq rfl
  have hctx : (writeArrives acc s).ctx = s.ctx := writeArrives_changes.ctx_eq rfl
  have haddr : (writeArrives acc s).win[w].mwAddr = s.win[w].mwAddr := by
    obtain ⟨l, hl⟩ := writeArrives_win acc s w
    rw [hl]
  have target {x : BitVec 3 × Option Nat} (h : memTarget s c s.win[w].mwAddr true = x) :
      memTarget (writeArrives acc s) c (writeArrives acc s).win[w].mwAddr true = x := by
    rw [haddr, ← h]
    cases acc <;> rfl
  have refused {st : BitVec 3} (h : memTarget s c s.win[w].mwAddr true = (st, none)) :
      sameBytes s (writeAt 15 0 acc s) ∧ (writeAt 15 0 acc s).win[w].mwStatus = st := by
    obtain ⟨hm, hs⟩ := exec_memWinDataWrite hw hc (writeMemWin_refused (target h)) rfl
    refine ⟨fun a => ?_, hs⟩
    rw [hm, hmem]
  refine ⟨_, rfl, fun ha => refused (memTarget_unavailable ha),
    fun ha h0 hd => refused (memTarget_readonly ha h0 hd),
    fun ha hd hp => refused (memTarget_outside ha hd hp), fun ha hd hp => ?_⟩
  obtain ⟨hm, hs⟩ := exec_memWinDataWrite hw hc (writeMemWin_target (target (memTarget_inside ha hd hp))) rfl
  have hbase : partBase (writeArrives acc s) c = partBase s c := by simp only [partBase, hctx]
  have hstore : (writeAt 15 0 acc s).mem =
      (s.write (partBase s c + s.win[w].mwAddr.toNat / 4 * 4) (wordBytes v)).mem := by
    rw [hm, hostWrite_mem]
    simp only [State.write, hmem]
  have hother := State.write_other s (partBase s c + s.win[w].mwAddr.toNat / 4 * 4) (wordBytes v)
  have hsame (hwf : Memory.wf s.mem = true) :=
    State.read_write_same s hwf (partBase s c + s.win[w].mwAddr.toNat / 4 * 4) (wordBytes v)
  exact ⟨fun a h => (congrArg (readCell · a) hstore).trans (hother a h), hs,
    fun hwf => (congrArg (readMem · _ _) hstore).trans (hsame hwf)⟩

/-! ## BAR_2 (R181, R198) -/

section
variable {s : State} {f : FnId} {off len : Nat} (hs : pcieOpen s f = true) (hb : barOk off len = true)
include hs hb

theorem barRead_outside (hr : barReaches s f off len = false) :
    barRead f off len s = sendTlp (.completion f (List.replicate len 0) false) (sawLink s) := by
  obtain ⟨hf, hfabric⟩ := (pcieOpen_iff s f).mp hs
  have hfabric' : fabricOn (sawLink s) = true := hfabric
  have hr' : barReaches (sawLink s) f off len = false := hr
  simp [barRead, hf, hb, hfabric', hr']

theorem barRead_inside (hr : barReaches s f off len = true) :
    barRead f off len s =
      if badPart s f off len then
        sendTlp (.completion f (List.replicate len 0) true)
          (logUePart f off len (access 135 false f (partBase s f + off) len (sawLink s)))
      else sendTlp (.completion f (readPart s f off len) false) (access 135 false f (partBase s f + off) len
          (sawLink s)) := by
  obtain ⟨hf, hfabric⟩ := (pcieOpen_iff s f).mp hs
  have hfabric' : fabricOn (sawLink s) = true := hfabric
  have hr' : barReaches (sawLink s) f off len = true := hr
  simp only [barRead, hf, hb, hfabric', hr', Bool.not_true, Bool.or_self, Bool.false_eq_true, if_false]
  rfl

theorem barWrite_open {data : List Byte} (hl : data.length = len) :
    barWrite f off data s =
      if barReaches s f off len then hostWrite f (partBase s f + off) data (sawLink s) else sawLink s := by
  subst hl
  obtain ⟨hf, hfabric⟩ := (pcieOpen_iff s f).mp hs
  have hfabric' : fabricOn (sawLink s) = true := hfabric
  simp only [barWrite, hf, hb, hfabric', Bool.not_true, Bool.or_self, Bool.false_eq_true, if_false]
  rfl

end

theorem sendTlp_last (x : Tlp) (s : State) : (sendTlp x s).pcie.sent.getLast? = some x := by
  simp [sendTlp]

theorem barRead_mem (f : FnId) (off len : Nat) (s : State) : (barRead f off len s).mem = s.mem :=
  (barRead_changes (G := [.evu, .pcie, .faults, .power, .fetch]) .refl rfl).mem_eq rfl

/-- Settles O14: the three outcomes of a read and the two of a write. -/
theorem bar2ReachesOwnPartition : Obligations.Bar2ReachesOwnPartition := by
  intro s f off hs
  refine ⟨fun len hb => ⟨_, rfl, fun a => by rw [barRead_mem], fun hr hbad => ?_, fun hr hbad => ?_, fun hr => ?_⟩,
    fun data hb => ⟨_, rfl, fun hr => ?_, fun hr => ?_⟩⟩
  · rw [barRead_inside hs hb hr, hbad]
    exact sendTlp_last _ _
  · rw [barRead_inside hs hb hr, hbad]
    exact sendTlp_last _ _
  · rw [barRead_outside hs hb hr]
    exact sendTlp_last _ _
  · rw [barWrite_open hs hb rfl, hr]
    exact fun _ => rfl
  · rw [barWrite_open hs hb rfl, hr, if_pos rfl]
    have hstore : (hostWrite f (partBase s f + off) data (sawLink s)).mem = (s.write (partBase s f + off) data).mem :=
      hostWrite_mem _ _ _ _
    have hother := State.write_other s (partBase s f + off) data
    have hsame (hwf : Memory.wf s.mem = true) := State.read_write_same s hwf (partBase s f + off) data
    exact ⟨fun a h => (congrArg (readCell · a) hstore).trans (hother a h),
      fun hwf => (congrArg (readMem · _ _) hstore).trans (hsame hwf)⟩

end Sys2Proof.Machine
end

section
/-! The event registers: the source that a claim takes, and the writes that act on owned sources (05.6, 22.6). -/
namespace Sys2Proof.Machine

/-! ## The best source (R490) -/

/-- One source of the search for the best one. -/
def bestStep (s : State) (p : SourceId → Bool) (b : Option SourceId) (n : SourceId) : Option SourceId :=
  if p n then
    match b with
    | none => some n
    | some m => if s.evu.src[m].prio.toNat < s.evu.src[n].prio.toNat then some n else b
  else b

theorem bestSource_eq_foldl (s : State) (p : SourceId → Bool) :
    bestSource s p = (List.finRange 288).foldl (bestStep s p) none := rfl

section
variable {s : State} {p : SourceId → Bool} {n : SourceId}

theorem bestStep_skip {b : Option SourceId} (h : p n = false) : bestStep s p b n = b := by
  simp [bestStep, h]

theorem bestStep_keep {m : SourceId} (h : p n = true → s.evu.src[n].prio.toNat ≤ s.evu.src[m].prio.toNat) :
    bestStep s p (some m) n = some m := by
  unfold bestStep
  split
  next hp => exact if_neg (Nat.not_lt.mpr (h hp))
  next => rfl

theorem bestStep_take {b : Option SourceId} (hp : p n = true)
    (hb : ∀ m, b = some m → s.evu.src[m].prio.toNat < s.evu.src[n].prio.toNat) : bestStep s p b n = some n := by
  unfold bestStep
  rw [if_pos hp]
  split
  next => rfl
  next m => exact if_pos (hb m rfl)

/-- A step answers what it had or the source it looks at. -/
theorem bestStep_cases (b : Option SourceId) : bestStep s p b n = b ∨ (p n = true ∧ bestStep s p b n = some n) := by
  unfold bestStep
  split
  next hp =>
    split
    next => exact .inr ⟨hp, rfl⟩
    next m =>
      split
      · exact .inr ⟨hp, rfl⟩
      · exact .inl rfl
  next => exact .inl rfl

/-- The best source stays the best while no later one has a higher priority. -/
theorem foldl_bestStep_keep {l : List SourceId}
    (h : ∀ m ∈ l, p m = true → s.evu.src[m].prio.toNat ≤ s.evu.src[n].prio.toNat) :
    l.foldl (bestStep s p) (some n) = some n := by
  induction l with
  | nil => rfl
  | cons m l ih =>
    rw [List.foldl_cons, bestStep_keep (h m List.mem_cons_self)]
    exact ih fun k hk => h k (List.mem_cons_of_mem m hk)

/-- In a rising list a source is found that every other one is below, in priority or, with the same one, in number. -/
theorem foldl_bestStep_find {l : List SourceId} {b : Option SourceId} (hl : l.Pairwise (· < ·)) (hn : n ∈ l)
    (hp : p n = true)
    (hbest : ∀ m, p m = true → m ≠ n → s.evu.src[m].prio.toNat < s.evu.src[n].prio.toNat ∨
      (s.evu.src[m].prio = s.evu.src[n].prio ∧ n.1 < m.1))
    (hb : ∀ m, b = some m → s.evu.src[m].prio.toNat < s.evu.src[n].prio.toNat) :
    l.foldl (bestStep s p) b = some n := by
  induction l generalizing b with
  | nil => exact absurd hn List.not_mem_nil
  | cons k l ih =>
    obtain ⟨hk, hl⟩ := List.pairwise_cons.mp hl
    rw [List.foldl_cons]
    by_cases hkn : k = n
    · subst hkn
      rw [bestStep_take hp hb]
      refine foldl_bestStep_keep fun m hm hpm => ?_
      rcases hbest m hpm (ne_of_gt (hk m hm)) with hlt | ⟨heq, -⟩
      · exact hlt.le
      · exact (congrArg BitVec.toNat heq).le
    · have hnl : n ∈ l := (List.mem_cons.mp hn).resolve_left fun h => hkn h.symm
      refine ih hl hnl fun m hm => ?_
      rcases bestStep_cases (s := s) (p := p) (n := k) b with h | ⟨hpk, h⟩
      · exact hb m (h ▸ hm)
      · obtain rfl : k = m := Option.some.inj (h.symm.trans hm)
        rcases hbest k hpk hkn with hlt | ⟨-, hlt⟩
        · exact hlt
        · exact absurd (hk n hnl) (Nat.lt_asymm hlt)

theorem foldl_bestStep_none {l : List SourceId} (h : ∀ m, p m = false) : l.foldl (bestStep s p) none = none := by
  induction l with
  | nil => rfl
  | cons m l ih => rw [List.foldl_cons, bestStep_skip (h m), ih]

/-- The best source is the one that every other admitted one is below. -/
theorem bestSource_eq_some (hp : p n = true)
    (hbest : ∀ m, p m = true → m ≠ n → s.evu.src[m].prio.toNat < s.evu.src[n].prio.toNat ∨
      (s.evu.src[m].prio = s.evu.src[n].prio ∧ n.1 < m.1)) : bestSource s p = some n :=
  foldl_bestStep_find (List.sortedLT_finRange 288).pairwise (List.mem_finRange n) hp hbest nofun

theorem bestSource_eq_none (h : ∀ m, p m = false) : bestSource s p = none := foldl_bestStep_none h

end

/-! ## VEC_CLAIM -/

@[simp] theorem readArrives_evu (acc : ReadAccess) (s : State) : (readArrives acc s).evu = s.evu := by
  cases acc <;> rfl

theorem claimWord_congr {s t : State} (h : t.evu = s.evu) (c : CtxId) : claimWord t c = claimWord s c := by
  simp only [claimWord, claimOf, bestSource, h]

theorem claimOwn_evu_none {s : State} {c : CtxId} (h : claimOf s c = none) : (claimOwn c s).evu = s.evu := by
  simp only [claimOwn, h]

theorem claimOwn_evu_some {s : State} {c : CtxId} {n : SourceId} (h : claimOf s c = some n) :
    (claimOwn c s).evu = { s.evu with
      src := s.evu.src.set n { s.evu.src[n].withdraw with service := s.evu.src[n].service ||| 0x10 } } := by
  simp only [claimOwn, h, claim, withSrc_evu]
  rfl

/-- A VEC_CLAIM read that is answered: the word of the claim before it, and the event unit after it. -/
theorem exec_vecClaim {s : State} {acc : ReadAccess} {w : WinId} {c : CtxId} (hw : readWindow s acc = some w)
    (hc : winCtx s w = some c) :
    ∃ t, exec (.vecClaim acc) s = .next t ∧ shows t 21 acc (claimWord s c) ∧
      t.evu = (claimOwn c (readArrives acc s)).evu := by
  have hc' : winCtx (readArrives acc s) w = some c := by rw [winCtx_readArrives, hc]
  have hr : readReg w (RegOffset.byte 21) (readArrives acc s) =
      (claimWord (readArrives acc s) c, claimOwn c (readArrives acc s)) := by
    simp only [readReg, regWord, hc']
    rfl
  rw [claimWord_congr (readArrives_evu acc s)] at hr
  exact ⟨_, rfl, (readAt_answered hw hr).1, (readAt_answered_changes hw hr).1.evu_eq rfl⟩

/-- Settles O17: the search for the best source, and its claim. -/
theorem vecClaimTakesTheHighestPriority : Obligations.VecClaimTakesTheHighestPriority := by
  intro s acc w c hw hc
  obtain ⟨t, ht, hshow, hevu⟩ := exec_vecClaim hw hc
  have claimOf_eq {o : Option SourceId} (h : claimOf s c = o) : claimOf (readArrives acc s) c = o := by
    rw [← h]
    simp only [claimOf, bestSource, readArrives_evu]
  refine ⟨fun n ho hp he hbest => ⟨t, ht, ?_⟩, fun hnone => ⟨t, ht, ?_⟩⟩
  · have hclaim : claimOf s c = some n :=
      bestSource_eq_some (by simp only [ho, hp, he, decide_true, Bool.and_self]) fun m hm hne => by
        simp only [Bool.and_eq_true, decide_eq_true_eq] at hm
        exact hbest m hm.1.1 hm.1.2 hm.2 hne
    rw [claimOwn_evu_some (claimOf_eq hclaim), readArrives_evu] at hevu
    rw [claimWord, hclaim] at hshow
    refine ⟨hshow, ?_, ?_, ?_, fun m hm => ?_⟩
    · simp [hevu, Source.withdraw]
    · simp [hevu, Source.withdraw]
    · simp [hevu]
    · have hne : n.1 ≠ m.1 := fun h => hm (Fin.ext h.symm)
      simp [hevu, hne]
  · have hclaim : claimOf s c = none := bestSource_eq_none fun m => by
      simpa [and_assoc] using hnone m
    rw [claimOwn_evu_none (claimOf_eq hclaim), readArrives_evu] at hevu
    rw [claimWord, hclaim] at hshow
    exact ⟨hshow, hevu⟩

/-! ## EVT_PEND -/

theorem groupSource_eq_some_iff (g : BitVec 4) {b : Nat} (hb : b < 32) (n : SourceId) :
    groupSource g b = some n ↔ n.1 / 32 = g.toNat ∧ n.1 % 32 = b := by
  have hn := n.isLt
  unfold groupSource
  split
  next h =>
    rw [Option.some.injEq, Fin.ext_iff]
    show 32 * g.toNat + b = n.1 ↔ _
    omega
  next h =>
    refine iff_of_false nofun fun ⟨hg, hm⟩ => h ?_
    omega

/-- One bit of a write of EVT_PEND. -/
def pendStep (c : CtxId) (g : BitVec 4) (v : Word) (b : Nat) (s : State) : State :=
  match groupSource g b with
  | some n => if v.getLsbD b && s.evu.src[n].owner = c && s.evu.src[n].pending then withSrc n Source.withdraw s else s
  | none => s

/-- The source takes its withdrawal where the bit stands for it, it is owned, and it is pending. -/
theorem withSrc_src_same (s : State) (n : SourceId) (f : Source → Source) :
    (withSrc n f s).evu.src[n] = f s.evu.src[n] := by
  simp

theorem withSrc_src_other {s : State} {n m : SourceId} (f : Source → Source) (h : m ≠ n) :
    (withSrc n f s).evu.src[m] = s.evu.src[m] := by
  have hne : n.1 ≠ m.1 := fun e => h (Fin.ext e.symm)
  simp [hne]

theorem src_ite {p : Prop} [Decidable p] (s t : State) (n : SourceId) :
    (if p then s else t).evu.src[n] = if p then s.evu.src[n] else t.evu.src[n] := by
  split <;> rfl

theorem pendStep_src (c : CtxId) (g : BitVec 4) (v : Word) (b : Nat) (s : State) (n : SourceId) :
    (pendStep c g v b s).evu.src[n] =
      if groupSource g b = some n ∧ v.getLsbD b = true ∧ s.evu.src[n].owner = c ∧ s.evu.src[n].pending = true
      then s.evu.src[n].withdraw else s.evu.src[n] := by
  unfold pendStep
  split
  next m hm =>
    rw [hm, src_ite]
    by_cases hmn : m = n
    · subst hmn
      simp only [withSrc_src_same, Bool.and_eq_true, decide_eq_true_eq, true_and, and_assoc]
    · rw [withSrc_src_other _ fun h => hmn h.symm, ite_self]
      exact (if_neg fun h => hmn (Option.some.inj h.1)).symm
  next hm => rw [hm, if_neg fun h => nomatch h.1]

/-- A source for which no bit of a list stands is as before. -/
theorem forEach_pendStep_other {c : CtxId} {g : BitVec 4} {v : Word} {n : SourceId} {l : List Nat} (s : State)
    (h : ∀ b ∈ l, ¬ (groupSource g b = some n ∧ v.getLsbD b = true ∧ s.evu.src[n].owner = c)) :
    (forEach l (pendStep c g v) s).evu.src[n] = s.evu.src[n] := by
  induction l generalizing s with
  | nil => rfl
  | cons b l ih =>
    have hb : (pendStep c g v b s).evu.src[n] = s.evu.src[n] := by
      rw [pendStep_src, if_neg fun hn => h b List.mem_cons_self ⟨hn.1, hn.2.1, hn.2.2.1⟩]
    refine (ih (pendStep c g v b s) fun k hk => ?_).trans hb
    rw [hb]
    exact h k (List.mem_cons_of_mem b hk)

/-- A source that is owned, not pending and without merges stays so. -/
theorem forEach_pendStep_idle {c : CtxId} {g : BitVec 4} {v : Word} {n : SourceId} {l : List Nat} (s : State)
    (h : s.evu.src[n].pending = false) : (forEach l (pendStep c g v) s).evu.src[n] = s.evu.src[n] := by
  induction l generalizing s with
  | nil => rfl
  | cons b l ih =>
    have hb : (pendStep c g v b s).evu.src[n] = s.evu.src[n] := by
      rw [pendStep_src, if_neg fun hn => Bool.false_ne_true (h.symm.trans hn.2.2.2)]
    exact (ih (pendStep c g v b s) (by rw [hb]; exact h)).trans hb

/-- A pending owned source for which a bit of the list stands is withdrawn. -/
theorem forEach_pendStep_hit {c : CtxId} {g : BitVec 4} {v : Word} {n : SourceId} {l : List Nat} (s : State) {b : Nat}
    (hb : b ∈ l) (hg : groupSource g b = some n) (hv : v.getLsbD b = true) (ho : s.evu.src[n].owner = c)
    (hp : s.evu.src[n].pending = true) : (forEach l (pendStep c g v) s).evu.src[n] = s.evu.src[n].withdraw := by
  induction l generalizing s with
  | nil => exact absurd hb List.not_mem_nil
  | cons k l ih =>
    have hk := pendStep_src c g v k s n
    show (forEach l (pendStep c g v) (pendStep c g v k s)).evu.src[n] = _
    split at hk
    next => rw [forEach_pendStep_idle _ (by rw [hk]; rfl), hk]
    next h =>
      have hbl : b ∈ l := (List.mem_cons.mp hb).resolve_left fun e => h (e ▸ ⟨hg, hv, ho, hp⟩)
      rw [ih (pendStep c g v k s) hbl (by rw [hk]; exact ho) (by rw [hk]; exact hp), hk]

theorem writeEvtPend_eq (c : CtxId) (g : BitVec 4) (v : Word) (s : State) :
    writeEvtPend c g v s = forEach (List.range 32) (pendStep c g v) s := rfl

/-- A write of EVT_PEND: the owned sources that it names lose their pending bit. -/
theorem writeEvtPend_named {c : CtxId} {g : BitVec 4} {v : Word} {s : State} {n : SourceId} (hg : n.1 / 32 = g.toNat)
    (hv : v.getLsbD (n.1 % 32) = true) (ho : s.evu.src[n].owner = c) :
    (writeEvtPend c g v s).evu.src[n].pending = false ∧
      (s.evu.src[n].pending = true → (writeEvtPend c g v s).evu.src[n].merge = 0) := by
  rw [writeEvtPend_eq]
  have hlt : n.1 % 32 < 32 := Nat.mod_lt _ (by decide)
  cases hp : s.evu.src[n].pending with
  | true =>
    rw [forEach_pendStep_hit s (List.mem_range.mpr hlt) ((groupSource_eq_some_iff g hlt n).mpr ⟨hg, rfl⟩) hv ho hp]
    exact ⟨rfl, fun _ => rfl⟩
  | false =>
    rw [forEach_pendStep_idle s hp]
    exact ⟨hp, nofun⟩

theorem writeEvtPend_other {c : CtxId} {g : BitVec 4} {v : Word} {s : State} {n : SourceId}
    (h : n.1 / 32 ≠ g.toNat ∨ v.getLsbD (n.1 % 32) = false ∨ s.evu.src[n].owner ≠ c) :
    (writeEvtPend c g v s).evu.src[n] = s.evu.src[n] := by
  rw [writeEvtPend_eq]
  refine forEach_pendStep_other s fun b hb ⟨hg, hv, ho⟩ => ?_
  obtain ⟨hgroup, rfl⟩ := (groupSource_eq_some_iff g (List.mem_range.mp hb) n).mp hg
  rcases h with h | h | h
  · exact h hgroup
  · exact Bool.false_ne_true (h.symm.trans hv)
  · exact h ho

/-! ## VEC_DONE -/

section
variable {c : CtxId} {v : Word} {s : State} {n : SourceId} (hn : fld v 0 9 = n.1)
include hn

theorem writeVecDone_done (h : (fld v 12 3 < 4 ∧ c = 0) ∨ (fld v 12 3 = 4 ∧ s.evu.src[n].owner = c)) :
    (writeVecDone c v s).evu.src[n].service = s.evu.src[n].service &&& ~~~(1#5 <<< fld v 12 3) := by
  have hlt : fld v 0 9 < 288 := hn ▸ n.isLt
  obtain rfl : n = ⟨fld v 0 9, hlt⟩ := Fin.ext hn.symm
  simp only [writeVecDone, dif_pos hlt, if_pos h]
  exact congrArg Source.service (withSrc_src_same s _ _)

theorem writeVecDone_foreign (ht : fld v 12 3 = 4) (ho : s.evu.src[n].owner ≠ c) : writeVecDone c v s = s := by
  have hlt : fld v 0 9 < 288 := hn ▸ n.isLt
  obtain rfl : n = ⟨fld v 0 9, hlt⟩ := Fin.ext hn.symm
  simp only [writeVecDone, dif_pos hlt]
  refine if_neg fun h => ?_
  rcases h with ⟨hlt4, -⟩ | ⟨-, hown⟩
  · omega
  · exact ho hown

end

/-! ## EVT_CTL with MERGE_CLR -/

/-- The messages around a change leave the event unit as the change made it. -/
theorem aroundCtx_evu (c : CtxId) (f : State → State) (s : State) : (aroundCtx c f s).evu = (f s).evu :=
  (Changes.foldl (G := [.pcie]) (s := f s) .refl fun _ _ h => msixNotify_changes h rfl).evu_eq rfl

theorem setHold_src (b : Bool) (s : State) : (setHold b s).evu.src = s.evu.src := by
  rw [setHold, aroundCtx_evu]

theorem clearMerge_src {c : CtxId} {m : BitVec 9} {n : SourceId} (hm : m.toNat = n.1) (s : State) :
    (clearMerge c m s).evu.src[n] =
      if s.evu.src[n].owner = c then { s.evu.src[n] with merge := 0 } else s.evu.src[n] := by
  have hs : mergeSource m = some n := by
    have hlt : m.toNat < 288 := hm ▸ n.isLt
    rw [mergeSource, dif_pos hlt]
    exact congrArg some (Fin.ext hm)
  simp only [clearMerge, hs]
  split
  · exact State.modSrc_same s n _
  · rfl

theorem writeEvtCtl_src (w : WinId) (c : CtxId) (v : Word) (s : State) {n : SourceId}
    (hm : (v.extractLsb' 16 9 : BitVec 9).toNat = n.1) (hclr : v.getLsbD 25 = true) :
    (writeEvtCtl w c v s).evu.src[n] =
      if s.evu.src[n].owner = c then { s.evu.src[n] with merge := 0 } else s.evu.src[n] := by
  have hhold (t : State) : (if supervisor c then setHold (v.getLsbD 0) t else t).evu.src = t.evu.src := by
    split
    · exact setHold_src _ _
    · rfl
  simp only [writeEvtCtl, hclr, if_true]
  rw [clearMerge_src hm]
  simp only [hhold]
  rfl

/-- The bit that MERGE_CLR's row sets is no bit of MERGE_SEL. -/
theorem mergeSel_or (v : Word) : ((v ||| putB true 25).extractLsb' 16 9 : BitVec 9) = v.extractLsb' 16 9 := by
  rw [BitVec.extractLsb'_or, putB_true, extractLsb'_put_beside 1 (Or.inr (by decide))]
  exact BitVec.or_zero

@[simp] theorem writeArrives_evu (acc : WriteAccess) (s : State) : (writeArrives acc s).evu = s.evu := by
  cases acc <;> rfl

/-- A committed write as an instruction of its own: what it leaves of the event unit. -/
theorem writeAt_evu {s : State} {o : RegOffset} {acc : WriteAccess} {w : WinId} {v : Word} {c : CtxId}
    (h : committed s o acc = some (w, v)) (hc : winCtx s w = some c) (set : Word) :
    (writeAt o set acc s).evu = (writeBound w c (RegOffset.byte o) (v ||| set) (writeArrives acc s)).evu := by
  have hc' : winCtx (writeArrives acc s) w = some c := by rw [winCtx_writeArrives, hc]
  rw [writeAt_eq h set, writeLeaves_changes.evu_eq rfl]
  simp only [writeReg, hc']

theorem writeArrives_group (acc : WriteAccess) (s : State) (w : WinId) :
    (writeArrives acc s).win[w].evtGroup = s.win[w].evtGroup := by
  obtain ⟨l, hl⟩ := writeArrives_win acc s w
  rw [hl]

/-- Settles O18: the effect of each of the three writes on a source. -/
theorem eventWritesTouchOwnedSourcesOnly : Obligations.EventWritesTouchOwnedSourcesOnly := by
  intro s acc w v c hc
  have service (n : SourceId) (h : committed s 22 acc = some (w, v)) (hn : fld v 0 9 = n.1)
      (hd : (fld v 12 3 < 4 ∧ c = 0) ∨ (fld v 12 3 = 4 ∧ s.evu.src[n].owner = c)) :
      (writeAt 22 0 acc s).evu.src[n].service = s.evu.src[n].service &&& ~~~(1#5 <<< fld v 12 3) := by
    have hdone := writeVecDone_done (s := writeArrives acc s) hn (by simpa only [writeArrives_evu] using hd)
    simp only [writeArrives_evu] at hdone
    simp only [writeAt_bound h hc, writeLeaves_changes.evu_eq rfl]
    exact hdone
  refine ⟨fun h => ⟨_, rfl, fun n => ?pend⟩, fun n h hn => ⟨fun ht ho => ⟨_, rfl, ?own⟩, fun k ht h0 =>
      ⟨_, rfl, ?port⟩,
    fun ht ho => ⟨_, rfl, ?foreign⟩⟩, fun n h hm => ⟨_, rfl, ?merge⟩⟩
  case pend =>
    have hevu : (writeAt 17 0 acc s).evu = (writeEvtPend c s.win[w].evtGroup v (writeArrives acc s)).evu := by
      rw [writeAt_bound h hc, writeLeaves_changes.evu_eq rfl, ← writeArrives_group acc s w]
      rfl
    simp only [hevu]
    refine ⟨fun hg hv ho => ?_, fun hn => ?_⟩
    · simpa only [writeArrives_evu] using
        writeEvtPend_named (s := writeArrives acc s) hg hv (by simpa only [writeArrives_evu] using ho)
    · simpa only [writeArrives_evu] using
        writeEvtPend_other (s := writeArrives acc s) (n := n) (by simpa only [writeArrives_evu] using hn)
  case own =>
    rw [service n h hn (.inr ⟨ht, ho⟩), ht]
    rfl
  case port =>
    have hk := k.isLt
    rw [service n h hn (.inl ⟨ht ▸ hk, h0⟩), ht]
    have hone : ((1#5 <<< k.1).getLsbD k.1) = true := by
      fin_cases k <;> rfl
    rw [BitVec.getLsbD_and, BitVec.getLsbD_not, hone]
    simp
  case foreign =>
    have hsame := writeVecDone_foreign (s := writeArrives acc s) hn ht (by simpa only [writeArrives_evu] using ho)
    rw [writeAt_bound h hc, writeLeaves_changes.evu_eq rfl]
    exact (congrArg State.evu hsame).trans (writeArrives_evu acc s)
  case merge =>
    have hctl := writeEvtCtl_src w c (v ||| putB true 25) (writeArrives acc s) (n := n)
        (by rw [mergeSel_or]; exact hm)
      (by simp [putB_true, getLsbD_put])
    have hevu : (writeAt 19 (putB true 25) acc s).evu =
        (writeEvtCtl w c (v ||| putB true 25) (writeArrives acc s)).evu := writeAt_evu h hc _
    rw [writeArrives_evu] at hctl
    simp only [hevu, hctl]
    refine ⟨fun ho => ?_, fun ho => ?_, ?_⟩
    · rw [if_pos ho]
    · rw [if_neg ho]
    · split <;> rfl

end Sys2Proof.Machine
end

section
/-! The timer registers: writes of the selected channel, and TIM_START (05.7, 23.5). -/
namespace Sys2Proof.Machine

/-! ## Channels of the Drone domain -/

theorem droneTimer_eq_none_iff (t : TimerId) : droneTimer t = none ↔ t.1 < 12 := by
  unfold droneTimer
  split
  next h => exact iff_of_false nofun (Nat.not_lt.mpr h)
  next h => exact iff_of_true rfl (Nat.not_le.mp h)

/-! ## Writes of the selected channel -/

section
variable {s : State} {w : WinId} {c : CtxId} {t : TimerId} {off : Nat} {v : Word}
variable (hsel : s.win[w].timSel = t) (hvis : timVisible s c t = true) (hback : backlightHead s t = none)
include hsel hvis hback

theorem writeTim_direct (hd : droneTimer t = none) :
    writeTim w c off v s = s.modTimer t fun x => x.writeReg (supervisor c) off v := by
  simp only [writeTim, hsel, hvis, hback, hd, Option.isSome_none, Bool.not_true, Bool.false_and, Bool.false_eq_true,
      if_false]

theorem writeTim_reserved {k : Fin 4} (hd : droneTimer t = some k) (hmode : 5 ≤ fld v 1 3) :
    writeTim w c 0x70 v s = s := by
  simp only [writeTim, hsel, hvis, hback, hd, Option.isSome_none, Bool.not_true, Bool.false_and, Bool.false_eq_true,
      if_false, hmode,
    decide_true, Bool.and_self, if_true]

theorem writeTim_shadowed {k : Fin 4} (hd : droneTimer t = some k) (hoff : off ≠ 0x70) :
    writeTim w c off v s = { s with timerShadow := shadowWrite k off v s.timerShadow } := by
  simp only [writeTim, hsel, hvis, hback, hd, Option.isSome_none, Bool.not_true, Bool.false_and, Bool.false_eq_true,
      if_false, hoff,
    decide_false]

theorem writeTim_shadowedCtl {k : Fin 4} (hd : droneTimer t = some k) (hmode : fld v 1 3 < 5) :
    writeTim w c 0x70 v s =
      { s with timerShadow := shadowWrite k 0x70 (ctlFor (supervisor c) (timerView s t).tout v) s.timerShadow } := by
  have hmode' : ¬ 5 ≤ fld v 1 3 := Nat.not_le.mpr hmode
  simp only [writeTim, hsel, hvis, hback, hd, Option.isSome_none, Bool.not_true, Bool.false_and, Bool.false_eq_true,
      if_false, hmode',
    decide_true, decide_false, Bool.and_false, if_true]

end

/-- The write that waits is the last one of the register, but for the status bits. -/
theorem mem_shadowWrite {k : Fin 4} {off : Nat} (h : off ≠ 0x7C) (v : Word) (l : List TimerWrite) :
    .reg k off v ∈ shadowWrite k off v l := by
  simp [shadowWrite, h]

theorem fld_eq_extract (v : Word) (lo n : Nat) : (v.extractLsb' lo n).toNat = fld v lo n := by
  simp [fld, BitVec.extractLsb'_toNat, Nat.shiftRight_eq_div_pow]

theorem Timer.writeCtl_reserved {x : Timer} {sup : Bool} {v : Word} (h : 5 ≤ fld v 1 3) : x.writeCtl sup v = x := by
  simp only [Timer.writeCtl, fld_eq_extract]
  exact if_pos h

/-- A TIM_CTL write with a mode that exists: the mode, the clock and the enable bit are those written. -/
theorem Timer.writeCtl_fields (x : Timer) (sup : Bool) {v : Word} (h : fld v 1 3 < 5) :
    (x.writeCtl sup v).mode.toNat = fld v 1 3 ∧ (x.writeCtl sup v).clk.toNat = fld v 4 4 ∧
      (x.writeCtl sup v).en = v.getLsbD 0 ∧ (x.writeCtl sup v).count = x.count ∧ (x.writeCtl sup v).owner = x.owner :=
          by
  have h' : ¬ 5 ≤ fld v 1 3 := Nat.not_le.mpr h
  simp only [Timer.writeCtl, fld_eq_extract, if_neg h']
  cases hx : x.en <;> cases hv : v.getLsbD 0
  · exact ⟨fld_eq_extract v 1 3, fld_eq_extract v 4 4, rfl, rfl, rfl⟩
  · exact ⟨fld_eq_extract v 1 3, fld_eq_extract v 4 4, rfl, rfl, rfl⟩
  · exact ⟨fld_eq_extract v 1 3, fld_eq_extract v 4 4, rfl, rfl, rfl⟩
  · dsimp only
    split
    · exact ⟨fld_eq_extract v 1 3, fld_eq_extract v 4 4, rfl, rfl, rfl⟩
    · exact ⟨fld_eq_extract v 1 3, fld_eq_extract v 4 4, rfl, rfl, rfl⟩

/-! ## TIM_START -/

/-- A pass over a list that changes some channels, each in its own way. -/
theorem forEach_modTimer {ι : Type} [DecidableEq ι] (g : ι → TimerId) (hg : ∀ i k, g i = g k → i = k) (p : ι → Bool)
    (f : ι → Timer → Timer) {l : List ι} (hl : l.Nodup) (s : State) (i : ι) :
    (forEach l (fun k s => if p k then s.modTimer (g k) (f k) else s) s).timer[g i] =
      if i ∈ l ∧ p i = true then f i s.timer[g i] else s.timer[g i] := by
  induction l generalizing s with
  | nil => simp [forEach]
  | cons k l ih =>
    obtain ⟨hk, hl⟩ := List.nodup_cons.mp hl
    refine (ih hl _).trans ?_
    by_cases hik : i = k
    · subst hik
      have hself : (if p i = true then s.modTimer (g i) (f i) else s).timer[g i] =
          if p i = true then f i s.timer[g i] else s.timer[g i] := by
        split
        · exact State.modTimer_same s (g i) _
        · rfl
      rw [if_neg fun h => hk h.1]
      simpa only [List.mem_cons, true_or, true_and] using hself
    · have hstep : (if p k = true then s.modTimer (g k) (f k) else s).timer[g i] = s.timer[g i] := by
        split
        · exact State.modTimer_other s (g k) _ (g i) fun h => hik (hg i k h)
        · rfl
      simp only [hstep, List.mem_cons, hik, false_or]

/-- A pass that never comes to a channel leaves it. -/
theorem forEach_modTimer_other {ι : Type} {g : ι → TimerId} {p : ι → Bool} {f : ι → Timer → Timer} {l : List ι}
    {t : TimerId} (h : ∀ k, g k ≠ t) (s : State) :
    (forEach l (fun k s => if p k then s.modTimer (g k) (f k) else s) s).timer[t] = s.timer[t] := by
  induction l generalizing s with
  | nil => rfl
  | cons k l ih =>
    refine (ih _).trans ?_
    show (if p k = true then s.modTimer (g k) (f k) else s).timer[t] = s.timer[t]
    split
    · exact State.modTimer_other s (g k) _ t (h k).symm
    · rfl

theorem Timer.startStop_fields (x : Timer) (start stop : Bool) :
    (x.startStop start stop).count = x.count ∧ (stop = true → (x.startStop start stop).en = false) ∧
      (stop = false → start = true → (x.startStop start stop).en = true) ∧
      (stop = false → start = false → x.startStop start stop = x) := by
  unfold Timer.startStop
  cases stop with
  | true =>
    cases hx : x.en with
    | true => exact ⟨rfl, fun _ => rfl, nofun, nofun⟩
    | false => exact ⟨rfl, fun _ => hx, nofun, nofun⟩
  | false =>
    cases start with
    | true =>
      cases hx : x.en with
      | true => exact ⟨rfl, nofun, fun _ _ => hx, fun _ => nofun⟩
      | false => exact ⟨rfl, nofun, fun _ _ => rfl, fun _ => nofun⟩
    | false => exact ⟨rfl, nofun, fun _ => nofun, fun _ _ => rfl⟩

/-- A channel that a bit of TIM_START names, that the context owns and that drives no backlight. -/
def timNamed (s : State) (c : CtxId) (v : Word) (b : Nat) (t : TimerId) : Bool :=
  v.getLsbD (b + t.1) && s.timer[t].owner = c && (backlightHead s t).isNone

theorem writeTimStart_timer (c : CtxId) (v : Word) (s : State) (t : TimerId) :
    (writeTimStart c v s).timer[t] =
      if t.1 < 12 ∧ (timNamed s c v 0 t || timNamed s c v 16 t) = true
      then s.timer[t].startStop (timNamed s c v 0 t) (timNamed s c v 16 t) else s.timer[t] := by
  have hpass := forEach_modTimer (fun t => t) (fun _ _ h => h) (fun t => timNamed s c v 0 t || timNamed s c v 16 t)
    (fun t x => x.startStop (timNamed s c v 0 t) (timNamed s c v 16 t))
    (l := (List.finRange 16).filter fun t => (droneTimer t).isNone) ((List.nodup_finRange 16).filter _) s t
  have hmem : t ∈ (List.finRange 16).filter (fun t => (droneTimer t).isNone) ↔ t.1 < 12 := by
    rw [List.mem_filter, Option.isNone_iff_eq_none, droneTimer_eq_none_iff]
    exact and_iff_right (List.mem_finRange t)
  simp only [hmem] at hpass
  refine Eq.trans ?_ hpass
  unfold writeTimStart
  dsimp only
  split
  · rfl
  · rfl

/-! ## A write of a timer register as an instruction -/

theorem timVisible_writeArrives (acc : WriteAccess) (s : State) (c : CtxId) (t : TimerId) :
    timVisible (writeArrives acc s) c t = timVisible s c t := by
  cases acc <;> rfl

theorem backlightHead_writeArrives (acc : WriteAccess) (s : State) (t : TimerId) :
    backlightHead (writeArrives acc s) t = backlightHead s t := by
  cases acc <;> rfl

theorem timerView_writeArrives (acc : WriteAccess) (s : State) (t : TimerId) :
    timerView (writeArrives acc s) t = timerView s t := by
  cases acc <;> rfl

theorem timSel_writeArrives (acc : WriteAccess) (s : State) (w : WinId) :
    (writeArrives acc s).win[w].timSel = s.win[w].timSel := by
  obtain ⟨l, hl⟩ := writeArrives_win acc s w
  rw [hl]

@[simp] theorem writeArrives_timer (acc : WriteAccess) (s : State) : (writeArrives acc s).timer = s.timer := by
  cases acc <;> rfl

@[simp] theorem writeArrives_timerShadow (acc : WriteAccess) (s : State) :
    (writeArrives acc s).timerShadow = s.timerShadow := by
  cases acc <;> rfl

section
variable {s : State} {acc : WriteAccess} {w : WinId} {v : Word} {c : CtxId} {o : RegOffset}
variable (h : committed s o acc = some (w, v)) (hc : winCtx s w = some c)
include h hc

/-- What a committed write leaves of the timers. -/
theorem writeAt_timer : (writeAt o 0 acc s).timer = (writeBound w c (RegOffset.byte o) v (writeArrives acc s)).timer ∧
    (writeAt o 0 acc s).timerShadow = (writeBound w c (RegOffset.byte o) v (writeArrives acc s)).timerShadow := by
  rw [writeAt_bound h hc]
  exact ⟨writeLeaves_changes.timer_eq rfl, writeLeaves_changes.timerShadow_eq rfl⟩

variable {t : TimerId} (hsel : s.win[w].timSel = t) (hvis : timVisible s c t = true)
    (hback : backlightHead s t = none)
include hsel hvis hback

/-- A write of a register of the selected channel below TIM_12. -/
theorem writeAt_tim_direct {off : Nat} (hoff : writeBound w c (RegOffset.byte o) v = writeTim w c off v)
    (ht : t.1 < 12) :
    (writeAt o 0 acc s).timer = (s.modTimer t fun x => x.writeReg (supervisor c) off v).timer := by
  rw [(writeAt_timer h hc).1, hoff, writeTim_direct ((timSel_writeArrives acc s w).trans hsel)
    ((timVisible_writeArrives acc s c t).trans hvis) ((backlightHead_writeArrives acc s t).trans hback)
    ((droneTimer_eq_none_iff t).mpr ht)]
  simp only [State.modTimer, writeArrives_timer]

/-- A write of a register, other than TIM_CTL, of a selected channel from TIM_12 on. -/
theorem writeAt_tim_shadowed {off : Nat} {k : Fin 4} (hoff : writeBound w c (RegOffset.byte o) v = writeTim w c off v)
    (hd : droneTimer t = some k) (hne : off ≠ 0x70) :
    (writeAt o 0 acc s).timer = s.timer ∧ (writeAt o 0 acc s).timerShadow = shadowWrite k off v s.timerShadow := by
  rw [(writeAt_timer h hc).1, (writeAt_timer h hc).2, hoff, writeTim_shadowed
      ((timSel_writeArrives acc s w).trans hsel)
    ((timVisible_writeArrives acc s c t).trans hvis) ((backlightHead_writeArrives acc s t).trans hback) hd hne]
  exact ⟨writeArrives_timer acc s, congrArg (shadowWrite k off v) (writeArrives_timerShadow acc s)⟩

end

/-- Settles O19: each register of the selected channel, direct and shadowed, and the pass of TIM_START. -/
theorem timerWritesTakeEffectAtTheCommit : Obligations.TimerWritesTakeEffectAtTheCommit := by
  intro s acc w v c hc
  refine ⟨fun t hsel hvis hback ht => ⟨fun h => ⟨_, rfl, ?count⟩, fun h => ⟨_, rfl, ?prescale⟩, fun h =>
      ⟨_, rfl, ?ctl⟩⟩,
    fun t k hsel hvis hback hd => ⟨fun h => ⟨_, rfl, ?countWaits⟩, fun h => ⟨_, rfl, ?prescaleWaits⟩,
      fun h => ⟨_, rfl, ?ctlWaits⟩⟩, fun h => ⟨_, rfl, fun t => ?start⟩⟩
  case count =>
    have htim := writeAt_tim_direct h hc hsel hvis hback (off := 0x60) rfl ht
    simp only [htim]
    exact State.modTimer_same s t _
  case prescale =>
    have htim := writeAt_tim_direct h hc hsel hvis hback (off := 0x74) rfl ht
    have hx : (s.modTimer t fun x => x.writeReg (supervisor c) 0x74 v).timer[t] = s.timer[t].writePrescale v :=
      State.modTimer_same s t _
    simp only [htim, hx]
    exact ⟨rfl, rfl⟩
  case ctl =>
    have htim := writeAt_tim_direct h hc hsel hvis hback (off := 0x70) rfl ht
    have hx : (s.modTimer t fun x => x.writeReg (supervisor c) 0x70 v).timer[t] = s.timer[t].writeCtl (supervisor c)
        v :=
      State.modTimer_same s t _
    simp only [htim, hx]
    refine ⟨fun hmode => ?_, fun hmode => Timer.writeCtl_fields _ _ hmode⟩
    have hid : (fun x : Timer => x.writeReg (supervisor c) 0x70 v) = id := funext fun x => Timer.writeCtl_reserved
        hmode
    rw [hid]
    exact Vector.set_getElem_self _
  case countWaits =>
    obtain ⟨htim, hsh⟩ := writeAt_tim_shadowed h hc hsel hvis hback (off := 0x60) rfl hd (by decide)
    exact ⟨htim, hsh ▸ mem_shadowWrite (by decide) v _⟩
  case prescaleWaits =>
    obtain ⟨htim, hsh⟩ := writeAt_tim_shadowed h hc hsel hvis hback (off := 0x74) rfl hd (by decide)
    exact ⟨htim, hsh ▸ mem_shadowWrite (by decide) v _⟩
  case ctlWaits =>
    obtain ⟨htim, hsh⟩ := writeAt_timer h hc
    have hsel' := (timSel_writeArrives acc s w).trans hsel
    have hvis' := (timVisible_writeArrives acc s c t).trans hvis
    have hback' := (backlightHead_writeArrives acc s t).trans hback
    have hoff : writeBound w c (RegOffset.byte 28) v (writeArrives acc s) = writeTim w c 0x70 v
        (writeArrives acc s) := rfl
    rw [hoff] at htim hsh
    by_cases hmode : 5 ≤ fld v 1 3
    · rw [writeTim_reserved hsel' hvis' hback' hd hmode] at htim hsh
      exact ⟨htim.trans (writeArrives_timer acc s), fun _ => hsh.trans (writeArrives_timerShadow acc s),
        fun hlt => absurd hmode (Nat.not_le.mpr hlt)⟩
    · rw [writeTim_shadowedCtl hsel' hvis' hback' hd (Nat.not_le.mp hmode), timerView_writeArrives] at htim hsh
      exact ⟨htim.trans (writeArrives_timer acc s), fun hge => absurd hge hmode,
        fun _ => hsh ▸ mem_shadowWrite (by decide) _ _⟩
  case start =>
    have htim := (writeAt_timer h hc).1
    have hoff : writeBound w c (RegOffset.byte 30) v (writeArrives acc s) = writeTimStart c v (writeArrives acc s) :=
        rfl
    have hnamed (b : Nat) : timNamed (writeArrives acc s) c v b t = timNamed s c v b t := by
      cases acc <;> rfl
    have ht := writeTimStart_timer c v (writeArrives acc s) t
    simp only [hnamed, writeArrives_timer] at ht
    simp only [htim, hoff, ht]
    refine ⟨fun hlt ho hb => ?_, fun hout => ?_⟩
    · have hn (b : Nat) : timNamed s c v b t = v.getLsbD (b + t.1) := by
        simp only [timNamed, ho, hb, decide_true, Option.isNone_none, Bool.and_true]
      obtain ⟨hcount, hstop, hstart, hnone⟩ :=
        Timer.startStop_fields s.timer[t] (timNamed s c v 0 t) (timNamed s c v 16 t)
      have hall : (if t.1 < 12 ∧ (timNamed s c v 0 t || timNamed s c v 16 t) = true
          then s.timer[t].startStop (timNamed s c v 0 t) (timNamed s c v 16 t) else s.timer[t]) =
          s.timer[t].startStop (timNamed s c v 0 t) (timNamed s c v 16 t) := by
        split
        next => rfl
        next hno =>
          obtain ⟨h0, h16⟩ := Bool.or_eq_false_iff.mp (Bool.eq_false_iff.mpr fun hany => hno ⟨hlt, hany⟩)
          exact (hnone h16 h0).symm
      rw [hall]
      rw [hn 16, hn 0, Nat.zero_add] at *
      exact ⟨hcount, hstop, hstart, hnone⟩
    · have hno : ¬ (t.1 < 12 ∧ (timNamed s c v 0 t || timNamed s c v 16 t) = true) := by
        rintro ⟨hlt, hany⟩
        simp only [timNamed, Bool.or_eq_true, Bool.and_eq_true, decide_eq_true_eq, Option.isNone_iff_eq_none] at hany
        have hown : s.timer[t].owner = c ∧ backlightHead s t = none := by
          rcases hany with ⟨⟨-, ho⟩, hb⟩ | ⟨⟨-, ho⟩, hb⟩
          · exact ⟨ho, hb⟩
          · exact ⟨ho, hb⟩
        rcases hout with hge | hne | hb
        · exact absurd hlt (Nat.not_lt.mpr hge)
        · exact hne hown.1
        · rw [hown.2] at hb
          exact Bool.false_ne_true hb
      exact if_neg hno

end Sys2Proof.Machine
end

section
/-! The fault log, doorbell, monitor, heartbeat and power registers (05.8, 05.10, 05.13), and what the Drone domain
    takes. -/
namespace Sys2Proof.Machine

/-! ## HEARTBEAT and POWER_REQ as writes -/

/-- What a committed write leaves of each unit is what the write of its register leaves. -/
theorem writeAt_bound_changes {s : State} {o : RegOffset} {acc : WriteAccess} {w : WinId} {v : Word} {c : CtxId}
    (h : committed s o acc = some (w, v)) (hc : winCtx s w = some c) :
    Changes [.pins] (writeBound w c (RegOffset.byte o) v (writeArrives acc s)) (writeAt o 0 acc s) := by
  rw [writeAt_bound h hc]
  exact writeLeaves_changes

@[simp] theorem writeArrives_drone (acc : WriteAccess) (s : State) : (writeArrives acc s).drone = s.drone := by
  cases acc <;> rfl

@[simp] theorem writeArrives_power (acc : WriteAccess) (s : State) : (writeArrives acc s).power = s.power := by
  cases acc <;> rfl

@[simp] theorem writeArrives_ctx (acc : WriteAccess) (s : State) : (writeArrives acc s).ctx = s.ctx := by
  cases acc <;> rfl

@[simp] theorem writeArrives_mon (acc : WriteAccess) (s : State) : (writeArrives acc s).mon = s.mon := by
  cases acc <;> rfl

@[simp] theorem writeArrives_mem (acc : WriteAccess) (s : State) : (writeArrives acc s).mem = s.mem := by
  cases acc <;> rfl

theorem writeHeartbeat_drone (v : Word) (s : State) :
    (writeHeartbeat v s).drone.hbDirty = true ∧ (writeHeartbeat v s).drone.fallbackShown = false ∧
      (writeHeartbeat v s).drone.timeout = s.drone.timeout ∧
      (s.port.freeze = true →
        (writeHeartbeat v s).drone.hbTimeout = s.drone.hbTimeout ∧ (writeHeartbeat v s).drone.hbFallback =
            s.drone.hbFallback) ∧
      (s.port.freeze = false → (writeHeartbeat v s).drone.hbFallback = fld v 16 14 ∧
        (writeHeartbeat v s).drone.hbTimeout =
          (if fld v 0 16 = 0 then s.drone.hbTimeout else if 6000 < fld v 0 16 then 6000 else fld v 0 16)) := by
  cases hf : s.port.freeze with
  | true =>
    unfold writeHeartbeat
    rw [hf]
    exact ⟨rfl, rfl, rfl, fun _ => ⟨rfl, rfl⟩, nofun⟩
  | false =>
    unfold writeHeartbeat
    rw [hf]
    refine ⟨rfl, rfl, rfl, nofun, fun _ => ⟨rfl, ?_⟩⟩
    show (if fld v 0 16 = 0 then s.drone.hbTimeout else Nat.min 6000 (fld v 0 16)) = _
    by_cases h0 : fld v 0 16 = 0
    · rw [if_pos h0, if_pos h0]
    · rw [if_neg h0, if_neg h0]
      split
      next h => exact Nat.min_eq_left h.le
      next h => exact Nat.min_eq_right (Nat.le_of_not_lt h)

theorem writePowerReq_ignored {v : Word} (h : 4 ≤ fld v 0 3) (s : State) : writePowerReq v s = s := if_pos h

theorem writePowerReq_taken {v : Word} (h : fld v 0 3 < 4) (s : State) :
    writePowerReq v s = { s with power := { s.power with reqShadow := v &&& 0x0FFFFF7F, reqDirty := true } } :=
  if_neg (Nat.not_le.mpr h)

/-! ## A mode request moves neither the request in force nor its shadow's mark -/

/-- The POWER_REQ value in force, and whether another one waits. -/
def ReqSame (s t : State) : Prop := t.power.req = s.power.req ∧ t.power.reqDirty = s.power.reqDirty

theorem ReqSame.of_power {s t : State} (h : t.power = s.power) : ReqSame s t := ⟨by rw [h], by rw [h]⟩

theorem ReqSame.trans {s t u : State} (h : ReqSame s t) (k : ReqSame t u) : ReqSame s u :=
  ⟨k.1.trans h.1, k.2.trans h.2⟩

theorem raise_reqSame (n : Nat) (s : State) : ReqSame s (raise n s) :=
  .of_power ((raise_changes (G := [.evu, .pcie]) .refl rfl).power_eq rfl)

theorem refuseMode_reqSame (s : State) : ReqSame s (refuseMode s) :=
  ReqSame.trans (t := { s with power := { s.power with refused := true } }) ⟨rfl, rfl⟩ (raise_reqSame _ _)

theorem reachMode_reqSame (m : Mode) (s : State) : ReqSame s (reachMode m s) :=
  ReqSame.trans (t := { s with power := { s.power with mode := m } }) ⟨rfl, rfl⟩ (raise_reqSame _ _)

theorem applyBlock_reqSame (b : PowerBlock) (s : State) : ReqSame s (applyBlock b s) := by
  let t : State :=
    { s with power := { s.power with resumeHeads := b.resumeHeads, resumeDim := b.resumeDim, dimScale := b.dimScale }
        }
  have hd : Changes [.memc, .evu, .fetch, .seg] t (if b.deliverable = 0 then t else setDeliverable b.deliverable t) :=
    .ite .refl (setDeliverable_changes .refl rfl)
  have hall : Changes [.memc, .evu, .fetch, .seg] t (applyBlock b s) := by
    unfold applyBlock
    dsimp only
    split
    · refine .set_evu ?_ rfl
      split
      · exact takeSegRecord_changes hd rfl
      · exact hd
    · split
      · exact takeSegRecord_changes hd rfl
      · exact hd
  exact ReqSame.trans (t := t) ⟨rfl, rfl⟩ (.of_power (hall.power_eq rfl))

/-- A change of mode that no window asked for. -/
theorem changeMode_reqSame (m : Mode) (s : State) : ReqSame s (changeMode m none none s) := by
  have hb : ReqSame s (if m = s.power.mode then s else applyBlock PowerBlock.default s) := by
    split
    · exact ⟨rfl, rfl⟩
    · exact applyBlock_reqSame _ _
  unfold changeMode
  dsimp only
  generalize (if m = s.power.mode then s else applyBlock PowerBlock.default s) = u at hb ⊢
  split
  · exact hb
  · split
    · exact hb.trans ⟨rfl, rfl⟩
    · exact (hb.trans (reachMode_reqSame _ _)).trans (.of_power
          ((bumpDevice_changes (G := [.port]) .refl rfl).power_eq rfl))

theorem runRequest_reqSame (m : BitVec 3) (s : State) : ReqSame s (runRequest m s) := by
  unfold runRequest
  dsimp only
  split
  · exact ⟨rfl, rfl⟩
  · split
    · exact ReqSame.trans (t := { s with power := { s.power with queued := none } }) ⟨rfl, rfl⟩ (refuseMode_reqSame _)
    · split
      · exact ReqSame.trans ⟨rfl, rfl⟩ (changeMode_reqSame _ (take .powerSeq .power
          { s with power := { s.power with queued := none, refused := false } }))
      · exact ReqSame.trans ⟨rfl, rfl⟩ (changeMode_reqSame _ { s with power :=
            { s.power with queued := none, refused := false } })

theorem requestMode_reqSame (m : BitVec 3) (s : State) : ReqSame s (requestMode m s) := by
  have hn : ReqSame s (noteMode m s) := ⟨rfl, rfl⟩
  unfold requestMode
  dsimp only
  split
  · exact hn.trans (refuseMode_reqSame _)
  · split
    · exact hn.trans ⟨rfl, rfl⟩
    · exact hn.trans (runRequest_reqSame _ _)

/-! ## The shadowed timer writes as the Drone domain takes them (R65, R70) -/

theorem splitLast_none {p : TimerWrite → Bool} {l : List TimerWrite} (h : l.any p = false) : splitLast p l =
    ([], l) := by
  induction l with
  | nil => rfl
  | cons e l ih =>
    obtain ⟨he, hl⟩ := Bool.or_eq_false_iff.mp (List.any_cons ▸ h)
    simp [splitLast, ih hl, he]

theorem splitLast_singleton {p : TimerWrite → Bool} {e : TimerWrite} (h : p e = true) : splitLast p [e] = ([e], []) :=
    by
  simp [splitLast, h]

/-- The channel of a place in the Drone domain. -/
def droneChannel (k : Fin 4) : TimerId := ⟨12 + k.1, by omega⟩

theorem droneChannel_inj (i k : Fin 4) (h : droneChannel i = droneChannel k) : i = k :=
  Fin.ext (Nat.add_left_cancel (congrArg Fin.val h))

theorem droneTimer_eq_some_iff (t : TimerId) (k : Fin 4) : droneTimer t = some k ↔ t = droneChannel k := by
  unfold droneTimer droneChannel
  split
  next h =>
    rw [Option.some.injEq, Fin.ext_iff, Fin.ext_iff]
    show t.1 - 12 = k.1 ↔ t.1 = 12 + k.1
    omega
  next h =>
    refine iff_of_false nofun fun e => h ?_
    have := congrArg Fin.val e
    simp only at this
    omega

/-- A write that is taken moves each channel of the Drone domain that it concerns, and no other one. -/
theorem takeTimerWrite_channel (e : TimerWrite) (s : State) (k : Fin 4) :
    (takeTimerWrite e s).timer[droneChannel k] =
      if e.concerns k = true then e.apply k s.timer[droneChannel k] else s.timer[droneChannel k] := by
  have hpass := forEach_modTimer droneChannel droneChannel_inj e.concerns e.apply (List.nodup_finRange 4) s k
  simp only [List.mem_finRange, true_and] at hpass
  exact hpass

theorem takeTimerWrite_other (e : TimerWrite) (s : State) {t : TimerId} (h : ∀ k, droneChannel k ≠ t) :
    (takeTimerWrite e s).timer[t] = s.timer[t] :=
  forEach_modTimer_other h s

theorem takeTimer_idle {k : Fin 4} {s : State} (h : s.timerShadow.any (TimerWrite.concerns k) = false) :
    takeTimer k s = s := by
  simp only [takeTimer, splitLast_none h]
  rfl

theorem takeTimer_one {k : Fin 4} {s : State} {e : TimerWrite} (h : s.timerShadow = [e]) (he : e.concerns k = true) :
    takeTimer k s = takeTimerWrite e { s with timerShadow := [] } := by
  simp only [takeTimer, h, splitLast_singleton (p := TimerWrite.concerns k) he]
  rfl

theorem takeTimerWrite_timerShadow (e : TimerWrite) (s : State) : (takeTimerWrite e s).timerShadow = s.timerShadow :=
  (takeTimerWrite_changes (G := [.timer]) .refl rfl).timerShadow_eq rfl

theorem exec_droneShadowTransfer_timer {i : TimerId} {k : Fin 4} (h : droneTimer i = some k) (s : State) :
    exec (.droneShadowTransfer (.timer i)) s = .next (takeTimer k s) := by
  show execDroneShadowTransfer (.timer i) s = _
  simp only [execDroneShadowTransfer, h]

theorem exec_droneShadowTransfer_powerReq {s : State} (hd : s.power.reqDirty = true) :
    exec (.droneShadowTransfer .powerReq) s =
      .next (if (s.power.reqShadow.extractLsb' 0 3 : BitVec 3) = s.power.lastMode
        then { s with power := { s.power with req := s.power.reqShadow, reqDirty := false } }
        else requestMode (s.power.reqShadow.extractLsb' 0 3)
          { s with power := { s.power with req := s.power.reqShadow, reqDirty := false } }) := by
  show execDroneShadowTransfer .powerReq s = _
  simp only [execDroneShadowTransfer, hd, Bool.not_true, Bool.false_eq_true, if_false]

/-- Settles O21: the two writes, and what each handshake takes. -/
theorem heartbeatAndPowerRequestCrossToDrone : Obligations.HeartbeatAndPowerRequestCrossToDrone := by
  refine ⟨fun s acc w v hc h => ⟨_, rfl, ?beat⟩, fun s acc w v hc h => ⟨_, rfl, ?power⟩, fun s =>
      ⟨fun hd => ⟨_, rfl, ?takeBeat⟩,
    fun hd => ⟨_, exec_droneShadowTransfer_powerReq hd, ?takePower⟩, fun i k hik =>
        ⟨fun hn => ?idle, fun n hn => ?count, fun a b hn hk => ?startStop⟩⟩⟩
  case beat =>
    have hreg : writeBound w 0 (RegOffset.byte 47) v (writeArrives acc s) = writeHeartbeat v (writeArrives acc s) :=
        rfl
    have hbeat := writeHeartbeat_drone v (writeArrives acc s)
    rw [writeArrives_port, writeArrives_drone] at hbeat
    rw [(writeAt_bound_changes h hc).drone_eq rfl, hreg]
    exact hbeat
  case power =>
    have hreg : writeBound w 0 (RegOffset.byte 45) v (writeArrives acc s) = writePowerReq v (writeArrives acc s) :=
        rfl
    rw [(writeAt_bound_changes h hc).power_eq rfl, hreg]
    refine ⟨fun hm => ?_, fun hm => ?_⟩
    · rw [writePowerReq_ignored hm, writeArrives_power]
    · rw [writePowerReq_taken hm]
      simp only [writeArrives_power]
  case takeBeat =>
    rw [if_pos hd]
    exact ⟨rfl, rfl, rfl, rfl, rfl, rfl⟩
  case takePower =>
    split
    · exact ⟨rfl, rfl⟩
    · exact requestMode_reqSame _ { s with power := { s.power with req := s.power.reqShadow, reqDirty := false } }
  case idle => rw [exec_droneShadowTransfer_timer hik, takeTimer_idle hn]
  case count =>
    have hconc : (TimerWrite.reg k 0x60 n).concerns k = true := decide_eq_true rfl
    refine ⟨_, exec_droneShadowTransfer_timer hik s, ?_⟩
    rw [takeTimer_one hn hconc]
    obtain rfl := (droneTimer_eq_some_iff i k).mp hik
    refine ⟨takeTimerWrite_timerShadow _ _, ?_, fun j hj => ?_⟩
    · rw [takeTimerWrite_channel, if_pos hconc]
      exact if_pos rfl
    · by_cases hm : ∃ m, j = droneChannel m
      · obtain ⟨m, rfl⟩ := hm
        have hne : ¬ (TimerWrite.reg k 0x60 n).concerns m = true := fun hc => hj
            (congrArg droneChannel (of_decide_eq_true hc).symm)
        rw [takeTimerWrite_channel, if_neg hne]
      · exact takeTimerWrite_other _ _ fun m hmj => hm ⟨m, hmj.symm⟩
  case startStop =>
    have concerns (m : Fin 4) : (TimerWrite.startStop a b).concerns m = (a ||| b).getLsbD m.1 :=
        BitVec.getLsbD_or.symm
    refine ⟨_, exec_droneShadowTransfer_timer hik s, ?_⟩
    rw [takeTimer_one hn ((concerns k).trans hk)]
    refine ⟨takeTimerWrite_timerShadow _ _, fun j m hjm => ?_⟩
    obtain rfl := (droneTimer_eq_some_iff j m).mp hjm
    obtain ⟨-, hstop, hstart, -⟩ := Timer.startStop_fields s.timer[droneChannel m] (a.getLsbD m.1) (b.getLsbD m.1)
    rw [takeTimerWrite_channel, concerns]
    refine ⟨fun hb => ?_, fun hb ha => ?_, fun hno => ?_⟩
    · rw [if_pos (by rw [BitVec.getLsbD_or, hb, Bool.or_true])]
      exact hstop hb
    · rw [if_pos (by rw [BitVec.getLsbD_or, ha, Bool.true_or])]
      exact hstart hb ha
    · rw [hno]
      rfl

end Sys2Proof.Machine
end

section
/-! FAULT_LOG_DATA, MON_CTL.CLEAR and DOORBELL (05.8, 05.10, 05.13). -/
namespace Sys2Proof.Machine

/-- A read of a register whose value and effect `regWord` and `readEffect` give: what it shows, and the state it
    leaves. -/
theorem readReg_bound {s : State} {w : WinId} {c : CtxId} {off : Nat} (hc : winCtx s w = some c) (hoff : off ≠ 0x3C) :
    readReg w off s = (boundWord s w c off, readEffect w c off s) := by
  simp only [readReg, regWord, hc, if_neg hoff]

/-! ## FAULT_LOG_DATA (27.1) -/

@[simp] theorem readArrives_faults (acc : ReadAccess) (s : State) : (readArrives acc s).faults = s.faults := by
  cases acc <;> rfl

@[simp] theorem readArrives_ctx (acc : ReadAccess) (s : State) : (readArrives acc s).ctx = s.ctx := by
  cases acc <;> rfl

@[simp] theorem readArrives_port (acc : ReadAccess) (s : State) : (readArrives acc s).port = s.port := by
  cases acc <;> rfl

theorem faultDataWord_readArrives (acc : ReadAccess) (s : State) (x : Window) :
    faultDataWord (readArrives acc s) x = faultDataWord s x := by
  cases acc <;> rfl

/-- Through a supervisor window: the word that the cursor selects, and the cursor's step. -/
theorem exec_faultLogDataRead_supervisor {s : State} {acc : ReadAccess} {w : WinId} (hw : readWindow s acc = some w)
    (hc : winCtx s w = some 0) :
    ∃ t, exec (.faultLogDataRead acc) s = .next t ∧ shows t 43 acc (faultDataWord s s.win[w]) ∧
      t.win[w].cursor = s.win[w].cursor + 1 ∧ t.faults = s.faults ∧
      t.win[w].snapshot = (stepFaultRead w (readArrives acc s)).win[w].snapshot := by
  have hc' : winCtx (readArrives acc s) w = some 0 := by rw [winCtx_readArrives, hc]
  have hr : readReg w (RegOffset.byte 43) (readArrives acc s) =
      (faultDataWord s s.win[w], stepFaultRead w (readArrives acc s)) := by
    rw [readReg_bound hc' (by decide), ← faultDataWord_readArrives acc s s.win[w], ← readArrives_win acc s]
    rfl
  obtain ⟨hshow, l, hl⟩ := readAt_answered hw hr
  refine ⟨_, rfl, hshow, ?_, ?_, ?_⟩
  · rw [hl, ← readArrives_win acc s]
    exact congrArg Window.cursor (State.modWin_same (readArrives acc s) w _)
  · rw [(readAt_answered_changes hw hr).1.faults_eq rfl, ← readArrives_faults acc s]
    rfl
  · rw [hl]

theorem stepFaultRead_snapshot (w : WinId) (s : State) :
    (stepFaultRead w s).win[w].snapshot =
      if cursorWord s.win[w] = 0 then
        some (BitVec.ofNat 6 (cursorEntry s.win[w]),
          match s.faults.entries[cursorEntry s.win[w]]? with | some y => y.words | none => Vector.replicate 4 0)
      else s.win[w].snapshot :=
  (congrArg Window.snapshot (State.modWin_same s w _)).trans rfl

theorem exec_faultLogDataRead_tenant {s : State} {acc : ReadAccess} {w : WinId} {c : CtxId}
    (hw : readWindow s acc = some w) (hc : winCtx s w = some c) (h0 : c ≠ 0) :
    ∃ t, exec (.faultLogDataRead acc) s = .next t ∧ shows t 43 acc 0 ∧ t.win[w].cursor = s.win[w].cursor := by
  have hc' : winCtx (readArrives acc s) w = some c := by rw [winCtx_readArrives, hc]
  have hsup : supervisor c = false := decide_eq_false h0
  have hr : readReg w (RegOffset.byte 43) (readArrives acc s) = (0, readArrives acc s) := by
    rw [readReg_bound hc' (by decide)]
    show (if supervisor c then _ else (0 : Word), if supervisor c then _ else readArrives acc s) = _
    rw [hsup]
    rfl
  obtain ⟨hshow, l, hl⟩ := readAt_answered hw hr
  exact ⟨_, rfl, hshow, by rw [hl, readArrives_win]⟩

theorem cursorEntry_lt (x : Window) : cursorEntry x < 2 ^ 6 := by
  have := x.cursor.isLt
  unfold cursorEntry
  omega

/-- Settles O16: the word at the cursor from the log and from the snapshot. -/
theorem faultLogDataReadsTheEntry : Obligations.FaultLogDataReadsTheEntry := by
  intro s acc w c hw hc
  refine ⟨fun e h0 hword he => ?_, fun x h0 hword hx => ?_, fun h0 => exec_faultLogDataRead_tenant hw hc h0⟩
  · subst h0
    obtain ⟨t, ht, hshow, hcur, hfaults, hsnap⟩ := exec_faultLogDataRead_supervisor hw hc
    refine ⟨t, ht, ?_, hcur, ?_, hfaults⟩
    · have hv : faultDataWord s s.win[w] = e.time.setWidth 32 := by
        simp only [faultDataWord, if_pos hword, he]
        rfl
      rwa [hv] at hshow
    · rw [hsnap, stepFaultRead_snapshot]
      simp only [readArrives_win, readArrives_faults, if_pos hword, he]
  · subst h0
    obtain ⟨t, ht, hshow, hcur, -, hsnap⟩ := exec_faultLogDataRead_supervisor hw hc
    refine ⟨t, ht, ?_, hcur, ?_⟩
    · have hv : faultDataWord s s.win[w] = x[cursorWord s.win[w]]?.getD 0 := by
        have hn : (BitVec.ofNat 6 (cursorEntry s.win[w])).toNat = cursorEntry s.win[w] :=
          (BitVec.toNat_ofNat _ _).trans (Nat.mod_eq_of_lt (cursorEntry_lt _))
        simp only [faultDataWord, if_neg hword, hx, hn, if_true]
      rwa [hv] at hshow
    · rw [hsnap, stepFaultRead_snapshot]
      simp only [readArrives_win, if_neg hword]

/-! ## MON_CTL with CLEAR -/

theorem monVisible_writeArrives (acc : WriteAccess) (s : State) (c : CtxId) (m : MonId) :
    monVisible (writeArrives acc s) c m = monVisible s c m := by
  cases acc <;> rfl

theorem writeCtl_clear (x : Monitor) {v : Word} (h : v.getLsbD 2 = true) :
    x.writeCtl v = { x with
      en := v.getLsbD 0, log2 := v.getLsbD 1, freeze := v.getLsbD 3, min := 0xFFFFFFFF, max := 0, count := 0
      bins := Vector.replicate 16 0, highCross := 0, lowCross := 0, highSeen := false, lowSeen := false, fresh := true
          } := by
  simp only [Monitor.writeCtl, h, if_true, Monitor.clear]

/-- A committed MON_CTL write with CLEAR. -/
theorem writeAt_monClear {s : State} {acc : WriteAccess} {w : WinId} {v : Word} {c : CtxId}
    (h : committed s 37 acc = some (w, v)) (hc : winCtx s w = some c) :
    (writeAt 37 (putB true 2) acc s).mon =
      if monVisible s c s.win[w].monSel then
        s.mon.set s.win[w].monSel (s.mon[s.win[w].monSel].writeCtl (v ||| putB true 2)) else s.mon := by
  have hc' : winCtx (writeArrives acc s) w = some c := by rw [winCtx_writeArrives, hc]
  have hsel : (writeArrives acc s).win[w].monSel = s.win[w].monSel := by
    obtain ⟨l, hl⟩ := writeArrives_win acc s w
    rw [hl]
  rw [writeAt_eq h, writeLeaves_changes.mon_eq rfl]
  simp only [writeReg, hc']
  show (writeMon w c 0x94 (v ||| putB true 2) (writeArrives acc s)).mon = _
  unfold writeMon
  simp only [hsel, monVisible_writeArrives]
  rw [if_neg (by decide)]
  split
  · simp only [State.modMon, writeArrives_mon]
  · exact writeArrives_mon acc s

theorem execMonClear_mem (acc : WriteAccess) {s : State} {w : WinId} {v : Word} {c : CtxId}
    (h : committed s 37 acc = some (w, v)) (hc : winCtx s w = some c) :
    (writeAt 37 (putB true 2) acc s).mem = s.mem := by
  have hc' : winCtx (writeArrives acc s) w = some c := by rw [winCtx_writeArrives, hc]
  rw [writeAt_eq h, writeLeaves_changes.mem_eq rfl]
  simp only [writeReg, hc']
  exact ((writeMon_changes (G := [.win, .mon]) .refl rfl).mem_eq rfl).trans (writeArrives_mem acc s)

/-! ## DOORBELL -/

theorem writeDoorbell_tenant {c : CtxId} (h0 : c ≠ 0) (v : Word) (s : State) :
    writeDoorbell c v s = if (v.extractLsb' 8 8 : Byte) = 0 then s else ringSupervisor c (v.extractLsb' 8 8) s := by
  have hsup : supervisor c = false := decide_eq_false h0
  simp only [writeDoorbell, hsup]
  rfl

theorem writeDoorbell_supervisor (v : Word) (s : State) {n : CtxId} (hn : fld v 24 6 = n.1) :
    writeDoorbell 0 v s =
      if (v.extractLsb' 16 8 : Byte) = 0 ∨ n = 0 ∨ attached s n = false then s
      else raise n.1 (s.modCtx n fun x => { x with doorIn := x.doorIn ||| v.extractLsb' 16 8 }) := by
  have ht : (v.extractLsb' 24 6 : BitVec 6).toFin = n := Fin.ext ((fld_eq_extract v 24 6).trans hn)
  have hsup : supervisor 0 = true := rfl
  simp only [writeDoorbell, hsup, ht, if_true]
  by_cases h : (v.extractLsb' 16 8 : Byte) = 0 ∨ n = 0 ∨ attached s n = false
  · rw [if_pos h, if_pos (by simpa [or_assoc] using h)]
  · rw [if_neg h, if_neg (by simpa [or_assoc] using h)]

/-- The supervisor's queue after a tenant has rung. -/
theorem ringSupervisor_queue (c : CtxId) (code : Byte) (s : State) :
    (ringSupervisor c code s).port.doorQueue =
      if s.port.doorQueue.any (fun e => e.1 = c) then
        s.port.doorQueue.map fun e => if e.1 = c then (c, e.2 ||| code) else e
      else s.port.doorQueue ++ [(c, code)] := by
  exact congrArg Port.doorQueue ((raise_changes (G := [.evu, .pcie]) .refl rfl).port_eq rfl)

end Sys2Proof.Machine
end

section
namespace Sys2Proof.Machine

theorem fabricOn_of_committed {s : State} {o : RegOffset} {acc : WriteAccess} {w : WinId} {v : Word}
    (h : committed s o acc = some (w, v)) : fabricOn (writeArrives acc s) = true := by
  cases acc with
  | half cs hi =>
    obtain ⟨-, -, hs, -⟩ := (committed_half_iff s o cs hi w v).mp h
    exact ((busOpen_iff s).mp hs).2
  | dword f x =>
    obtain ⟨hs, -⟩ := (committed_dword_iff s o f x v w).mp h
    exact ((pcieOpen_iff s f).mp hs).2

/-- A MON_CTL write with CLEAR, of a value whose other bits are `v`. -/
theorem writeCtl_clearBit (x : Monitor) (v : Word) :
    x.writeCtl (v ||| putB true 2) = { x with
      en := v.getLsbD 0, log2 := v.getLsbD 1, freeze := v.getLsbD 3, min := 0xFFFFFFFF, max := 0, count := 0
      bins := Vector.replicate 16 0, highCross := 0, lowCross := 0, highSeen := false, lowSeen := false, fresh := true
          } := by
  have hbit : ∀ i, (v ||| putB true 2).getLsbD i = (v.getLsbD i || (putB true 2).getLsbD i) := fun i =>
      BitVec.getLsbD_or
  have h2 : (v ||| putB true 2).getLsbD 2 = true := (hbit 2).trans (Bool.or_true _)
  have h0 : (v ||| putB true 2).getLsbD 0 = v.getLsbD 0 := (hbit 0).trans (Bool.or_false _)
  have h1 : (v ||| putB true 2).getLsbD 1 = v.getLsbD 1 := (hbit 1).trans (Bool.or_false _)
  have h3 : (v ||| putB true 2).getLsbD 3 = v.getLsbD 3 := (hbit 3).trans (Bool.or_false _)
  rw [writeCtl_clear x h2, h0, h1, h3]

/-- One entry of the queue is the tenant's: its bits are added there and nowhere else. -/
theorem map_ringEntry {c : CtxId} {code k : Byte} {l r : List (CtxId × Byte)} (h : ∀ e ∈ l ++ r, e.1 ≠ c) :
    (l ++ (c, k) :: r).map (fun e => if e.1 = c then (c, e.2 ||| code) else e) = l ++ (c, k ||| code) :: r := by
  have hid : ∀ m : List (CtxId × Byte), (∀ e ∈ m, e.1 ≠ c) →
      m.map (fun e => if e.1 = c then (c, e.2 ||| code) else e) = m := fun m hm =>
    (List.map_congr_left fun e he => if_neg (hm e he)).trans (List.map_id m)
  rw [List.map_append, List.map_cons, if_pos rfl, hid l fun e he => h e (List.mem_append_left _ he),
    hid r fun e he => h e (List.mem_append_right _ he)]

theorem ringSupervisor_queue_new {c : CtxId} {code : Byte} {s : State} (h : ∀ e ∈ s.port.doorQueue, e.1 ≠ c) :
    (ringSupervisor c code s).port.doorQueue = s.port.doorQueue ++ [(c, code)] := by
  rw [ringSupervisor_queue, if_neg (by
    simp only [List.any_eq_true, decide_eq_true_eq, not_exists, not_and]
    exact h)]

theorem ringSupervisor_queue_there {c : CtxId} {code k : Byte} {s : State} {l r : List (CtxId × Byte)}
    (hq : s.port.doorQueue = l ++ (c, k) :: r) (h : ∀ e ∈ l ++ r, e.1 ≠ c) :
    (ringSupervisor c code s).port.doorQueue = l ++ (c, k ||| code) :: r := by
  rw [ringSupervisor_queue, hq, if_pos (by simp), map_ringEntry h]

/-- A tenant's doorbell write. -/
theorem exec_doorbellWrite_tenant {s : State} {acc : WriteAccess} {w : WinId} {v : Word} {c : CtxId}
    (h : committed s 60 acc = some (w, v)) (hc : winCtx s w = some c) (h0 : c ≠ 0) :
    ∃ t, exec (.doorbellWrite acc) s = .next t ∧ t.mem = s.mem ∧ t.ctx = s.ctx ∧
      ((v.extractLsb' 8 8 : Byte) = 0 → t.port.doorQueue = s.port.doorQueue ∧ t.evu = s.evu) ∧
      ((v.extractLsb' 8 8 : Byte) ≠ 0 → edged s t 0 ∧
        ((∀ e ∈ s.port.doorQueue, e.1 ≠ c) → t.port.doorQueue = s.port.doorQueue ++ [(c, v.extractLsb' 8 8)]) ∧
        ∀ l k r, s.port.doorQueue = l ++ (c, k) :: r → (∀ e ∈ l ++ r, e.1 ≠ c) →
          t.port.doorQueue = l ++ (c, k ||| v.extractLsb' 8 8) :: r) := by
  have hleaves : Changes [.pins] (writeDoorbell c v (writeArrives acc s)) (writeAt 60 0 acc s) :=
      writeAt_bound_changes h hc
  rw [writeDoorbell_tenant h0] at hleaves
  refine ⟨_, rfl, ?_, ?_, fun hz => ?_, fun hz => ⟨?_, fun hnew => ?_, fun l k r hq hn => ?_⟩⟩
  · refine (hleaves.mem_eq rfl).trans ?_
    refine (Changes.mem_eq (G := [.port, .evu, .pcie]) (.ite .refl (ringSupervisor_changes .refl rfl)) rfl).trans ?_
    exact writeArrives_mem acc s
  · refine (hleaves.ctx_eq rfl).trans ?_
    refine (Changes.ctx_eq (G := [.port, .evu, .pcie]) (.ite .refl (ringSupervisor_changes .refl rfl)) rfl).trans ?_
    exact writeArrives_ctx acc s
  · rw [if_pos hz] at hleaves
    rw [hleaves.port_eq rfl, hleaves.evu_eq rfl, writeArrives_port, writeArrives_evu]
    exact ⟨rfl, rfl⟩
  · rw [if_neg hz] at hleaves
    unfold edged
    rw [hleaves.evu_eq rfl, ← writeArrives_evu acc s]
    exact raise_edged { writeArrives acc s with port := _ } 0 (fabricOn_of_committed h)
  · rw [if_neg hz] at hleaves
    rw [hleaves.port_eq rfl, ringSupervisor_queue_new (by rwa [writeArrives_port]), writeArrives_port]
  · rw [if_neg hz] at hleaves
    rw [hleaves.port_eq rfl, ringSupervisor_queue_there (by rwa [writeArrives_port]) hn]

/-- The supervisor's doorbell write. -/
theorem exec_doorbellWrite_supervisor {s : State} {acc : WriteAccess} {w : WinId} {v : Word} {n : CtxId}
    (h : committed s 60 acc = some (w, v)) (hc : winCtx s w = some 0) (hn : fld v 24 6 = n.1) :
    ∃ t, exec (.doorbellWrite acc) s = .next t ∧ t.mem = s.mem ∧ t.port.doorQueue = s.port.doorQueue ∧
      ((v.extractLsb' 16 8 : Byte) ≠ 0 → n ≠ 0 → attached s n = true →
        t.ctx = s.ctx.set n { s.ctx[n] with doorIn := s.ctx[n].doorIn ||| v.extractLsb' 16 8 } ∧
        t.evu.src[n.1] = s.evu.src[n.1].edge) ∧
      ((v.extractLsb' 16 8 : Byte) = 0 ∨ n = 0 ∨ attached s n = false → t.ctx = s.ctx ∧ t.evu = s.evu) := by
  have hleaves : Changes [.pins] (writeDoorbell 0 v (writeArrives acc s)) (writeAt 60 0 acc s) :=
      writeAt_bound_changes h hc
  have hatt : attached (writeArrives acc s) n = attached s n := by cases acc <;> rfl
  rw [writeDoorbell_supervisor v _ hn, hatt] at hleaves
  have hframe : Changes [.ctx, .evu, .pcie] (writeArrives acc s)
      (if (v.extractLsb' 16 8 : Byte) = 0 ∨ n = 0 ∨ attached s n = false then writeArrives acc s
       else raise n.1 ((writeArrives acc s).modCtx n fun x => { x with doorIn := x.doorIn ||| v.extractLsb' 16 8
           })) :=
    .ite .refl (raise_changes (modCtx_changes .refl rfl) rfl)
  refine ⟨_, rfl, ?_, ?_, fun hz h0 ha => ?_, fun hz => ?_⟩
  · rw [hleaves.mem_eq rfl, hframe.mem_eq rfl, writeArrives_mem]
  · rw [hleaves.port_eq rfl, hframe.port_eq rfl, writeArrives_port]
  · have hgo : ¬((v.extractLsb' 16 8 : Byte) = 0 ∨ n = 0 ∨ attached s n = false) := by
      rintro (hor | hor | hor)
      · exact hz hor
      · exact h0 hor
      · exact absurd (ha.symm.trans hor) (by decide)
    rw [if_neg hgo] at hleaves
    refine ⟨?_, ?_⟩
    · rw [hleaves.ctx_eq rfl]
      refine (Changes.ctx_eq (G := [.evu, .pcie]) (raise_changes .refl rfl) rfl).trans ?_
      show (writeArrives acc s).ctx.set n { (writeArrives acc s).ctx[n] with doorIn := _ } = _
      simp only [writeArrives_ctx]
    · have hlt : n.1 < 288 := Nat.lt_trans n.2 (by decide)
      rw [hleaves.evu_eq rfl]
      refine (raise_edged ((writeArrives acc s).modCtx n _) ⟨n.1, hlt⟩ (fabricOn_of_committed h)).trans ?_
      exact congrArg (fun e : Evu => e.src[n.1].edge) (writeArrives_evu acc s)
  · rw [if_pos hz] at hleaves
    rw [hleaves.ctx_eq rfl, hleaves.evu_eq rfl, writeArrives_ctx, writeArrives_evu]
    exact ⟨rfl, rfl⟩

/-- A doorbell read that is answered: what it shows, and what it takes. -/
theorem exec_doorbellRead {s : State} {acc : ReadAccess} {w : WinId} {c : CtxId} (h : readWindow s acc = some w)
    (hc : winCtx s w = some c) :
    shows (readAt 60 acc s) 60 acc (doorbellWord s c) ∧
      Changes [.win, .pcie, .pins] (takeDoorbell c (readArrives acc s)) (readAt 60 acc s) := by
  have hc' : winCtx (readArrives acc s) w = some c := by rw [winCtx_readArrives, hc]
  have hword : boundWord (readArrives acc s) w c (RegOffset.byte 60) = doorbellWord s c := by
    show doorbellWord (readArrives acc s) c = _
    simp only [doorbellWord, readArrives_port, readArrives_ctx]
  have hr : readReg w (RegOffset.byte 60) (readArrives acc s) = (doorbellWord s c, takeDoorbell c
      (readArrives acc s)) := by
    rw [readReg_bound hc' (by decide), hword]
    rfl
  exact ⟨(readAt_answered h hr).1, (readAt_answered_changes h hr).1⟩

theorem takeDoorbell_supervisor (s : State) :
    takeDoorbell 0 s = { s with port := { s.port with doorQueue := s.port.doorQueue.drop 1 } } := rfl

theorem takeDoorbell_tenant {c : CtxId} (h0 : c ≠ 0) (s : State) :
    takeDoorbell c s = s.modCtx c fun x => { x with doorIn := 0 } :=
  if_neg (Bool.eq_false_iff.mp (decide_eq_false h0))

theorem doorbellWord_tenant {c : CtxId} (h0 : c ≠ 0) (s : State) : doorbellWord s c = s.ctx[c].doorIn.setWidth 32 :=
    by
  have hw : doorbellWord s c = put s.ctx[c].doorIn.toNat 0 8 := if_neg (Bool.eq_false_iff.mp (decide_eq_false h0))
  rw [hw]
  apply BitVec.eq_of_toNat_eq
  have := s.ctx[c].doorIn.isLt
  simp [put]
  omega

/-- Settles O20: MON_CLEAR on the selected channel, and the two sides of DOORBELL. -/
theorem monitorClearAndDoorbells : Obligations.MonitorClearAndDoorbells := by
  intro s w c hc
  refine ⟨fun acc v m h hm => ?_, fun acc v h h0 => exec_doorbellWrite_tenant h hc h0,
    fun acc v n h h0 hn => exec_doorbellWrite_supervisor h (h0 ▸ hc) hn, fun acc h => ?_⟩
  · subst hm
    refine ⟨fun hv => ⟨_, rfl, execMonClear_mem acc h hc, fun k hk => ?_, ?_⟩,
      fun hv => ⟨_, rfl, execMonClear_mem acc h hc, ?_⟩⟩
    · simp only [writeAt_monClear h hc, hv, if_true]
      exact Vector.getElem_set_ne _ _ fun e => hk (Fin.ext e.symm)
    · simp only [writeAt_monClear h hc, hv, if_true]
      exact (Vector.getElem_set_self _).trans (writeCtl_clearBit _ v)
    · simp only [writeAt_monClear h hc, hv]
      rfl
  · obtain ⟨hshow, hleaves⟩ := exec_doorbellRead h hc
    refine ⟨_, rfl, ?_, fun h0 => ?_, fun h0 => ?_⟩
    · rw [hleaves.mem_eq rfl, (takeDoorbell_changes (G := [.ctx, .port]) .refl rfl).mem_eq rfl]
      cases acc <;> rfl
    · rw [takeDoorbell_tenant h0] at hleaves
      rw [hleaves.ctx_eq rfl, hleaves.port_eq rfl, ← doorbellWord_tenant h0]
      refine ⟨hshow, ?_, congrArg Port.doorQueue (readArrives_port acc s)⟩
      show (readArrives acc s).ctx.set c { (readArrives acc s).ctx[c] with doorIn := 0 } = _
      simp only [readArrives_ctx]
    · subst h0
      rw [takeDoorbell_supervisor] at hleaves
      rw [hleaves.ctx_eq rfl, hleaves.port_eq rfl]
      have hword : doorbellWord s 0 = match s.port.doorQueue with
          | (t, code) :: _ => put code.toNat 0 8 ||| put t.1 8 6 ||| putB true 14
          | [] => 0 := rfl
      refine ⟨readArrives_ctx acc s, fun hq => ?_, fun n k rest hq => ?_⟩
      · rw [hword, hq] at hshow
        exact ⟨hshow, by simp [hq]⟩
      · rw [hword, hq] at hshow
        exact ⟨hshow, by simp [hq]⟩

end Sys2Proof.Machine
end

section
/-! What a command of a ready window is answered with: NOP and the opcodes that are not listed, the supervisor's
    opcodes
in a tenant's window, and BIND_WINDOW (06.1, 06.3, 04.2). -/
namespace Sys2Proof.Machine

theorem firstFail_cons_true (code : Code) (l : List (Bool × Code)) : firstFail ((true, code) :: l) = fail code := rfl

theorem firstFail_cons_false (code : Code) (l : List (Bool × Code)) : firstFail ((false, code) :: l) = firstFail l :=
    rfl

theorem firstFail_nil : firstFail [] = none := rfl

theorem supervisor_zero : supervisor 0 = true := rfl

theorem supervisor_of_ne {c : CtxId} (h : c ≠ 0) : supervisor c = false := decide_eq_false h

theorem taken_changes {G} {s₀ s : State} {w op a c} (h : Changes G s₀ s) (hG : Part.within [.win, .port] G = true) :
    Changes G s₀ (taken s w op a c) :=
  h.via (.set_win (s := { s with port := (taken s w op a c).port }) (.set_port .refl rfl) rfl) hG

theorem Opcode.fetch_changes {G} {s₀ s : State} {o : Opcode} {w c a} (h : Changes G s₀ s)
    (hG : Part.within [.fetch] G = true) : Changes G s₀ (o.fetch w c a s) := by
  refine h.via ?_ hG
  obtain ⟨q, hq⟩ := Opcode.fetch_eq o w c a s
  rw [hq]
  exact .set_fetch .refl rfl

section
variable {s : State} {w : WinId} {c : CtxId} {op : Byte} {a : Cmd} {o : Opcode} {v : Verdict}

/-- A command that a check turns away is answered with the check's verdict. -/
theorem row_turned_answered (h : ready s w c = true) (hk : o.check w c a (taken s w op a c) = some v) :
    answered s (portRow w op a o.run s) w a.tag v.code v.q0 v.q1 := by
  rw [run_turned s w c op a o v h hk]
  refine answered_finish s _ w op a c v.code v.q0 v.q1 h ?_
  obtain ⟨q, hq⟩ := Opcode.fetch_eq o w c a (taken s w op a c)
  simp only [hq, (logUe_frame _ _).2.2.2.1]

/-- What turning a command away can change: windows, the command port's holders, events, the log and queue_135. -/
theorem row_turned_changes (h : ready s w c = true) (hk : o.check w c a (taken s w op a c) = some v) :
    Changes [.win, .port, .evu, .pcie, .faults, .fetch] s (portRow w op a o.run s) := by
  rw [run_turned s w c op a o v h hk]
  exact turnAway_changes (Opcode.fetch_changes (taken_changes .refl rfl) rfl) rfl

theorem row_turned_port (h : ready s w c = true) (hk : o.check w c a (taken s w op a c) = some v) :
    (portRow w op a o.run s).port.csBound = s.port.csBound ∧ (portRow w op a o.run s).port.deviceGen =
        s.port.deviceGen := by
  rw [run_turned s w c op a o v h hk]
  have hp : (logUe v.ue (o.fetch w c a (taken s w op a c))).port = (taken s w op a c).port :=
    ((logUe_changes (G := [.faults, .evu, .pcie]) .refl rfl).port_eq rfl).trans
      ((Opcode.fetch_changes (G := [.fetch]) .refl rfl).port_eq rfl)
  obtain ⟨hcs, -, -, -, -, -, hgen, -⟩ :=
    finish_port (logUe v.ue (o.fetch w c a (taken s w op a c))) w v.code v.q0 v.q1
  exact ⟨hcs.trans (by rw [hp]; rfl), hgen.trans (by rw [hp]; rfl)⟩

/-- A command that is turned away before it reads a block, for no memory error, leaves the fault log and the queues.
    -/
theorem row_turned_unread (h : ready s w c = true) {code : Code} (hk : o.check w c a (taken s w op a c) = fail code)
    (hr : o.reads w c a (taken s w op a c) = []) : Changes [.win, .port, .evu, .pcie] s (portRow w op a o.run s) := by
  rw [run_turned s w c op a o _ h hk]
  have hf : o.fetch w c a (taken s w op a c) = taken s w op a c := by
    unfold Opcode.fetch
    rw [hr]
    rfl
  rw [hf]
  exact finish_changes (taken_changes .refl rfl) rfl

end

/-! ## NOP, and the opcodes that Table 06-3 does not list -/

/-- A command of an opcode that is not listed completes BAD_ARG. -/
theorem opcodeOf_unlisted {n : Nat} (h : listedOpcode n = false) : opcodeOf n = none := by
  unfold opcodeOf
  split
  case h_39 => rfl
  all_goals exact absurd h (by decide)

theorem exec_nop_ready {s : State} {w : WinId} {c : CtxId} {a : Cmd} (h : ready s w c = true) :
    exec (.nop w a) s = .next (finish w .ok a.a0 ((genOf s c).setWidth 32) (taken s w 0x00 a c)) :=
  congrArg Host.Outcome.next (portRow_ready s w c 0x00 a opNop.run h)

theorem exec_unassignedOpcode_ready {s : State} {w : WinId} {c : CtxId} {op : Byte} {a : Cmd} (h : ready s w c = true)
    (hop : listedOpcode op.toNat = false) :
    exec (.unassignedOpcode w op a) s = .next (finish w .badArg 0 0 (taken s w op a c)) := by
  refine congrArg Host.Outcome.next ((issueAny_ready s w c op a h).trans ?_)
  simp only [runTaken, opcodeOf_unlisted hop, finish0]

/-- COMMAND_DISPATCH of a NOP: it is taken and answered in one step. -/
theorem startNext_nop {s : State} {w : WinId} {c : CtxId} {e : QEntry} {rest : List QEntry} (hc : winCtx s w = some c)
    (he : s.win[w].exec = none) (hq : s.win[w].queue = e :: rest) (hop : e.op = 0) :
    ∃ u : State, u.win[w] = { s.win[w] with
        queue := rest
        exec := some { entry := e, ctx := c, epoch := s.ctx[c].epoch, phase := .acquire [], discard := false, since :=
            s.port.nextWait } } ∧
      startNext w runTaken s = finish w .ok e.cmd.a0 ((genOf s c).setWidth 32) u := by
  refine ⟨({ s with port := { s.port with nextWait := s.port.nextWait + 1 } } : State).modWin w fun x => { x with
      queue := rest
      exec := some { entry := e, ctx := c, epoch := s.ctx[c].epoch, phase := .acquire [], discard := false, since :=
          s.port.nextWait } },
    (State.modWin_same { s with port := { s.port with nextWait := s.port.nextWait + 1 } } w _).trans rfl, ?_⟩
  unfold startNext
  simp only [he, hq, hc, hop, runTaken_nop]
  rfl

/-- Settles O22: the two rows that name no check, and COMMAND_DISPATCH with a NOP in front. -/
theorem nopAndUnassignedOpcodesAnswer : Obligations.NopAndUnassignedOpcodesAnswer := by
  refine ⟨fun s w c a h => ⟨⟨_, exec_nop_ready h, answered_finish s _ w 0x00 a c _ _ _ h rfl, ?_⟩,
      fun op hop => ⟨_, exec_unassignedOpcode_ready h hop, answered_finish s _ w op a c _ _ _ h rfl, ?_⟩⟩,
    fun s w c e rest ho _ hc he hq hop => ?_⟩
  · obtain ⟨-, hmem, -, hctx, -⟩ := finish_frame (taken s w 0x00 a c) w .ok a.a0 ((genOf s c).setWidth 32)
    obtain ⟨-, -, -, -, -, -, hgen, -⟩ := finish_port (taken s w 0x00 a c) w .ok a.a0 ((genOf s c).setWidth 32)
    exact ⟨hmem, hctx, hgen⟩
  · obtain ⟨-, hmem, -, hctx, -⟩ := finish_frame (taken s w op a c) w .badArg 0 0
    obtain ⟨-, -, -, -, -, -, hgen, -⟩ := finish_port (taken s w op a c) w .badArg 0 0
    exact ⟨hmem, hctx, hgen⟩
  · obtain ⟨u, hu, hstart⟩ := startNext_nop hc he hq hop
    have hrun : exec (.commandDispatch w) s = .next (startNext w runTaken s) := by
      show Host.Outcome.next (if portOpen s then startNext w runTaken s else s) = _
      rw [ho]
      rfl
    have hwin := finish_win u w .ok e.cmd.a0 ((genOf s c).setWidth 32) _ (congrArg Window.exec hu) rfl
    rw [← hstart] at hwin
    refine ⟨_, hrun, ?_, ?_, ?_⟩
    · rw [hwin]
    · rw [hwin, hu]
    · rw [hwin, hu]

/-! ## The supervisor's opcodes (06.3) -/

/-- An opcode that a tenant may not use: its first check is that of the role, and nothing is read before it. -/
def Opcode.DeniesTenants (o : Opcode) : Prop :=
  ∀ (w : WinId) (c : CtxId) (a : Cmd) (s : State), c ≠ 0 → o.check w c a s = fail .denied ∧ o.reads w c a s = []

/-- The opcode's list of checks begins with that of the role, and it reads no block. -/
theorem denies_firstFail {o : Opcode} {l : WinId → CtxId → Cmd → State → List (Bool × Code)}
    (hk : ∀ w c a s, o.check w c a s = firstFail ((!supervisor c, .denied) :: l w c a s))
        (hr : ∀ w c a s, o.reads w c a s = []) :
    o.DeniesTenants := fun w c a s h =>
  ⟨by rw [hk, supervisor_of_ne h]; rfl, hr w c a s⟩

/-- The first of the opcode's lists of checks begins with that of the role, and it reads no block for a tenant. -/
theorem denies_orElse {o : Opcode} {l : WinId → CtxId → Cmd → State → List (Bool × Code)}
    {r : WinId → CtxId → Cmd → State → List (Option Verdict)}
    (hk : ∀ w c a s, o.check w c a s = orElse (firstFail ((!supervisor c, .denied) :: l w c a s) :: r w c a s))
    (hr : ∀ w c a s, c ≠ 0 → o.reads w c a s = []) : o.DeniesTenants := fun w c a s h =>
  ⟨by rw [hk, supervisor_of_ne h]; rfl, hr w c a s h⟩

theorem headConfig_denies : opHeadConfig.DeniesTenants :=
  denies_orElse (fun _ _ _ _ => rfl) fun w c a s h => by
    show readsHeadConfig w c a s = []
    simp only [readsHeadConfig, supervisor_of_ne h, Bool.false_and, Bool.not_false, if_true]

theorem panelSteps_tenant {w : WinId} {c : CtxId} {h : ContHead} {a : Cmd} {s : State} (h0 : c ≠ 0) :
    panelSteps w c h a s = fail .denied := by
  simp only [panelSteps, supervisor_of_ne h0]
  rfl

theorem panelPower_denies : opPanelPower.DeniesTenants := fun w c a s h => by
  constructor
  · show checkPanelPower w c a s = _
    cases hh : argCont a.a0 with
    | none => simp only [checkPanelPower, hh, supervisor_of_ne h]; rfl
    | some k => simp only [checkPanelPower, hh, panelSteps_tenant h]; rfl
  · show readsPanelPower w c a s = []
    cases hh : argCont a.a0 with
    | none => simp only [readsPanelPower, hh]
    | some k => simp only [readsPanelPower, hh, panelSteps_tenant h, fail, Option.isSome_some, Bool.or_true, if_true]

theorem segWriteSteps_tenant {w : WinId} {c : CtxId} {a : Cmd} {s : State} (h0 : c ≠ 0) :
    segWriteSteps w c a s = fail .denied := by
  simp only [segWriteSteps, supervisor_of_ne h0]
  rfl

theorem segWrite_denies : opSegWrite.DeniesTenants := fun w c a s h => by
  constructor
  · show checkSegWrite w c a s = _
    simp only [checkSegWrite, segWriteSteps_tenant h]
    rfl
  · show readsSegWrite w c a s = []
    simp only [readsSegWrite, segWriteSteps_tenant h, fail, Option.isSome_some, Bool.or_true, if_true]

theorem powerModeSteps_tenant {w : WinId} {c : CtxId} {a : Cmd} {s : State} (h0 : c ≠ 0) :
    powerModeSteps w c a s = fail .denied := by
  simp only [powerModeSteps, supervisor_of_ne h0]
  rfl

theorem powerMode_denies : opPowerMode.DeniesTenants := fun w c a s h => by
  constructor
  · show checkPowerMode w c a s = _
    simp only [checkPowerMode, powerModeSteps_tenant h]
    rfl
  · show readsPowerMode w c a s = []
    simp only [readsPowerMode, powerModeSteps_tenant h, fail, Option.isSome_some, Bool.or_true, if_true]

theorem readsRelay_false (w : WinId) (a : Cmd) (s : State) : readsRelay w a false s = [] := rfl

theorem relayConfig_denies : opRelayConfig.DeniesTenants :=
  denies_orElse (fun _ _ _ _ => rfl) fun w c a s h => by
    show readsRelay w a (supervisor c && _) s = []
    rw [supervisor_of_ne h]
    exact readsRelay_false w a s

theorem relayStream_denies : opRelayStream.DeniesTenants :=
  denies_orElse (fun _ _ _ _ => rfl) fun w c a s h => by
    show readsRelay w a (supervisor c && _ && _) s = []
    rw [supervisor_of_ne h]
    exact readsRelay_false w a s

theorem relayIngest_denies : opRelayIngest.DeniesTenants :=
  denies_orElse (fun _ _ _ _ => rfl) fun w c a s h => by
    show readsRelay w a (supervisor c && _ && _) s = []
    rw [supervisor_of_ne h]
    exact readsRelay_false w a s

/-- The instructions whose opcodes are the supervisor's: each is a row of such an opcode. -/
theorem exec_supervisorRow {w : WinId} {a : Cmd} {i : Instr}
    (hi : i ∈ ([.attach w a, .bindWindow w a, .partitionSet w a, .territorySet w a, .headConfig w a, .headStart w a,
        .headStop w a,
      .panelPower w a, .epdUpdate w a, .epdClear w a, .segWrite w a, .selftest w a, .queueConfig w a, .policerConfig w
          a,
      .relayConfig w a, .relayStream w a, .relayIngest w a, .faultClear w a, .powerMode w a, .clockConfig w a,
          .phaseStep w a,
      .evtRoute w a] : List Instr)) :
    ∃ (op : Byte) (o : Opcode), o.DeniesTenants ∧ ∀ s, exec i s = .next (portRow w op a o.run s) := by
  simp only [List.mem_cons, List.not_mem_nil, or_false] at hi
  rcases hi with rfl | rfl | rfl | rfl | rfl | rfl | rfl | rfl | rfl | rfl | rfl | rfl | rfl | rfl | rfl | rfl | rfl |
      rfl |
    rfl | rfl | rfl | rfl
  · exact ⟨_, opAttach, denies_firstFail (fun _ _ _ _ => rfl) fun _ _ _ _ => rfl, fun _ => rfl⟩
  · exact ⟨_, opBindWindow, denies_firstFail (fun _ _ _ _ => rfl) fun _ _ _ _ => rfl, fun _ => rfl⟩
  · exact ⟨_, opPartitionSet, denies_firstFail (fun _ _ _ _ => rfl) fun _ _ _ _ => rfl, fun _ => rfl⟩
  · exact ⟨_, opTerritorySet, denies_firstFail (fun _ _ _ _ => rfl) fun _ _ _ _ => rfl, fun _ => rfl⟩
  · exact ⟨_, opHeadConfig, headConfig_denies, fun _ => rfl⟩
  · exact ⟨_, opHeadStart, denies_orElse (fun _ _ _ _ => rfl) fun _ _ _ _ _ => rfl, fun _ => rfl⟩
  · exact ⟨_, opHeadStop, denies_orElse (fun _ _ _ _ => rfl) fun _ _ _ _ _ => rfl, fun _ => rfl⟩
  · exact ⟨_, opPanelPower, panelPower_denies, fun _ => rfl⟩
  · exact ⟨_, opEpdUpdate, denies_orElse (fun _ _ _ _ => rfl) fun _ _ _ _ _ => rfl, fun _ => rfl⟩
  · exact ⟨_, opEpdClear, denies_firstFail (fun _ _ _ _ => rfl) fun _ _ _ _ => rfl, fun _ => rfl⟩
  · exact ⟨_, opSegWrite, segWrite_denies, fun _ => rfl⟩
  · exact ⟨_, opSelftest, denies_firstFail (fun _ _ _ _ => rfl) fun _ _ _ _ => rfl, fun _ => rfl⟩
  · exact ⟨_, opQueueConfig, denies_firstFail (fun _ _ _ _ => rfl) fun _ _ _ _ => rfl, fun _ => rfl⟩
  · exact ⟨_, opPolicerConfig, denies_firstFail (fun _ _ _ _ => rfl) fun _ _ _ _ => rfl, fun _ => rfl⟩
  · exact ⟨_, opRelayConfig, relayConfig_denies, fun _ => rfl⟩
  · exact ⟨_, opRelayStream, relayStream_denies, fun _ => rfl⟩
  · exact ⟨_, opRelayIngest, relayIngest_denies, fun _ => rfl⟩
  · exact ⟨_, opFaultClear, denies_firstFail (fun _ _ _ _ => rfl) fun _ _ _ _ => rfl, fun _ => rfl⟩
  · exact ⟨_, opPowerMode, powerMode_denies, fun _ => rfl⟩
  · exact ⟨_, opClockConfig, denies_orElse (fun _ _ _ _ => rfl) fun _ _ _ _ _ => rfl, fun _ => rfl⟩
  · exact ⟨_, opPhaseStep, denies_orElse (fun _ _ _ _ => rfl) fun _ _ _ _ _ => rfl, fun _ => rfl⟩
  · exact ⟨_, opEvtRoute, denies_firstFail (fun _ _ _ _ => rfl) fun _ _ _ _ => rfl, fun _ => rfl⟩

/-- Settles O23: the first check of each of these opcodes is that of the role. -/
theorem supervisorCommandsAreDeniedToTenants : Obligations.SupervisorCommandsAreDeniedToTenants := by
  intro s w c a i h h0 hi
  obtain ⟨op, o, hden, hexec⟩ := exec_supervisorRow hi
  obtain ⟨hk, hr⟩ := hden w c a (taken s w op a c) h0
  have hch := row_turned_unread h hk hr
  obtain ⟨hcs, hgen⟩ := row_turned_port h hk
  exact ⟨_, hexec s, row_turned_answered h hk, hch.mem_eq rfl, hch.ctx_eq rfl, hch.head_eq rfl, hch.panel_eq rfl,
    hch.syn_eq rfl, hch.fetch_eq rfl, hch.power_eq rfl, hch.faults_eq rfl, hch.epd_eq rfl, hch.seg_eq rfl,
        hch.relay_eq rfl,
    hch.timer_eq rfl, hch.mon_eq rfl, hcs, hgen⟩

end Sys2Proof.Machine
end

section
/-! Argument words (06.4): the fields and the set bits of a word that is put together from fields. -/
namespace Sys2Proof.Machine

theorem fld_or (u v : Word) (lo n : Nat) : fld (u ||| v) lo n = fld u lo n ||| fld v lo n := by
  simp only [← fld_eq_extract, BitVec.extractLsb'_or, BitVec.toNat_or]

theorem fld_put_same {lo n : Nat} (x : Nat) (h : lo + n ≤ 32) : fld (put x lo n) lo n = x % 2 ^ n := by
  rw [← fld_eq_extract, extractLsb'_put_same x h, BitVec.toNat_ofNat]

theorem fld_put_beside {lo n i m : Nat} (x : Nat) (h : lo + n ≤ i ∨ i + m ≤ lo) : fld (put x lo n) i m = 0 := by
  rw [← fld_eq_extract, extractLsb'_put_beside x h]
  rfl

theorem putB_eq_put (b : Bool) (lo : Nat) : putB b lo = put b.toNat lo 1 := by
  cases b <;> simp [putB, put]

theorem ofNat_eq_put {n k : Nat} (h : n < 2 ^ k) : BitVec.ofNat 32 n = put n 0 k := by
  simp [put, Nat.mod_eq_of_lt h]

theorem onlyBits_or (u v m : Word) : onlyBits (u ||| v) m = (onlyBits u m && onlyBits v m) := by
  have hor : ∀ x y : Word, x ||| y = 0 ↔ x = 0 ∧ y = 0 := fun x y => BitVec.or_eq_zero_iff
  have hdist : (u ||| v) &&& ~~~m = (u &&& ~~~m) ||| (v &&& ~~~m) := by
    ext i hi
    simp [Bool.and_or_distrib_right]
  simp only [onlyBits, hdist, hor, Bool.decide_and]

theorem onlyBits_zero (m : Word) : onlyBits 0 m = true :=
  decide_eq_true (BitVec.zero_and)

/-- A field sets no bit outside its place. -/
theorem onlyBits_put (x : Nat) {lo n : Nat} {m : Word} (h : ∀ i < n, m.getLsbD (lo + i) = true) :
    onlyBits (put x lo n) m = true := by
  refine decide_eq_true (BitVec.eq_of_getLsbD_eq fun i hi => ?_)
  rw [BitVec.getLsbD_and, BitVec.getLsbD_not, getLsbD_put]
  by_cases hin : lo ≤ i ∧ i < lo + n
  · have := h (i - lo) (by omega)
    rw [Nat.add_sub_cancel' hin.1] at this
    simp [this]
  · have hout : ¬(i < 32 ∧ lo ≤ i ∧ i < lo + n) := fun hx => hin hx.2
    simp [hout]

theorem onlyBits_wholeWord (v : Word) : onlyBits v wholeWord = true := by
  have : ~~~wholeWord = 0 := by decide
  rw [onlyBits, this]
  exact decide_eq_true BitVec.and_zero

theorem argCtx_of_fld {v : Word} {n : CtxId} (h : fld v 0 6 = n.1) : argCtx v = n := Fin.ext h

theorem argCtx_ofNat (n : CtxId) : argCtx (BitVec.ofNat 32 n.1) = n := by
  refine argCtx_of_fld ?_
  have hn : n.1 < 2 ^ 6 := n.2
  rw [ofNat_eq_put hn, fld_put_same _ (by decide), Nat.mod_eq_of_lt hn]

theorem onlyBits_ctx {n : CtxId} {m : Word} (h : ∀ i < 6, m.getLsbD (0 + i) = true) :
    onlyBits (BitVec.ofNat 32 n.1) m = true := by
  rw [ofNat_eq_put (k := 6) n.2]
  exact onlyBits_put _ h

/-! ## BIND_WINDOW (04.2) -/

/-- The first argument word of a BIND_WINDOW. -/
def bindWord (n : CtxId) (cs : Nat) (u : Bool) : Word := put n.1 0 6 ||| put cs 10 2 ||| putB u 16

theorem bindWord_ctx (n : CtxId) (cs : Nat) (u : Bool) : argCtx (bindWord n cs u) = n := by
  refine argCtx_of_fld ?_
  rw [bindWord, fld_or, fld_or, fld_put_same _ (by decide), fld_put_beside _ (by decide), putB_eq_put,
    fld_put_beside _ (by decide), Nat.or_zero, Nat.or_zero]
  exact Nat.mod_eq_of_lt n.2

theorem bindWord_cs (n : CtxId) {cs : Nat} (u : Bool) (h : cs < 4) : fld (bindWord n cs u) 10 2 = cs := by
  rw [bindWord, fld_or, fld_or, fld_put_same _ (by decide), fld_put_beside _ (by decide), putB_eq_put,
    fld_put_beside _ (by decide), Nat.zero_or, Nat.or_zero]
  exact Nat.mod_eq_of_lt h

theorem bindWord_unbind (n : CtxId) (cs : Nat) (u : Bool) : (bindWord n cs u).getLsbD 16 = u := by
  rw [bindWord, BitVec.getLsbD_or, BitVec.getLsbD_or, getLsbD_put, getLsbD_put, putB_eq_put, getLsbD_put]
  cases u <;> rfl

theorem bindWord_onlyBits (n : CtxId) (cs : Nat) (u : Bool) : onlyBits (bindWord n cs u) 0x10C3F = true := by
  rw [bindWord, onlyBits_or, onlyBits_or, onlyBits_put _ (by decide), onlyBits_put _ (by decide), putB_eq_put,
    onlyBits_put _ (by decide)]
  rfl

section
variable {s : State} {w : WinId} {a : Cmd} {n : CtxId} {cs : Nat} {u : Bool}

theorem bindWord_bindCs {k : Fin 3} (h : a.a0 = bindWord n (k.1 + 1) u) : bindCs a = some k := by
  have hf : fld a.a0 10 2 = k.1 + 1 := by rw [h, bindWord_cs n u (by omega)]
  simp only [bindCs, hf, Nat.add_sub_cancel]
  exact dif_neg (Nat.succ_ne_zero _)

theorem bindWord_bindCs_zero (h : a.a0 = bindWord n 0 u) : bindCs a = none :=
  dif_pos (by rw [h, bindWord_cs n u (by decide)])

theorem bindWord_argBits (h : a.a0 = bindWord n cs u) (h1 : a.a1 = 0) (h2 : a.a2 = 0) (h3 : a.a3 = 0) :
    argBits a 0x10C3F 0 0 0 = true := by
  rw [argBits, h, h1, h2, h3, bindWord_onlyBits, onlyBits_zero]
  rfl

/-- The checks of BIND_WINDOW for the supervisor, on a chip select of 1 to 3. -/
theorem checkBindWindow_named {k : Fin 3} (h : a.a0 = bindWord n (k.1 + 1) u) (h1 : a.a1 = 0) (h2 : a.a2 = 0)
    (h3 : a.a3 = 0) :
    checkBindWindow w 0 a s =
      firstFail [(!u && (n = 0 || !attached s n), .badArg), (s.port.csLock.getLsbD k.1, .locked)] := by
  simp only [checkBindWindow, supervisor_zero, bindWord_argBits h h1 h2 h3, bindWord_bindCs h, h, bindWord_unbind,
      bindWord_ctx,
    Bool.not_true, firstFail_cons_false, Option.isNone_some, Bool.or_self, Option.any_some]

theorem checkBindWindow_zero (h : a.a0 = bindWord n 0 u) : checkBindWindow w 0 a s = fail .badArg := by
  simp only [checkBindWindow, supervisor_zero, bindWord_bindCs_zero h, Bool.not_true, firstFail_cons_false,
      Option.isNone_none,
    Bool.or_true, firstFail_cons_true]

end

theorem answered_finishGen {s t : State} {w : WinId} {op : Byte} {a : Cmd} {c : CtxId} {q0 q1 : Word}
    (h : ready s w c = true) (hw : t.win[w] = (taken s w op a c).win[w]) :
    answered s (finishGen w q0 q1 t) w a.tag .ok q0 q1 :=
  answered_finish s (bumpDevice t) w op a c .ok q0 q1 h hw

theorem finishGen_csBound (w : WinId) (q0 q1 : Word) (s : State) : (finishGen w q0 q1 s).port.csBound =
    s.port.csBound := by
  obtain ⟨hcs, -⟩ := finish_port (bumpDevice s) w .ok q0 q1
  exact hcs

theorem finishGen_win_other {w v : WinId} (q0 q1 : Word) (s : State) (h : v ≠ w) :
    (finishGen w q0 q1 s).win[v] = s.win[v] := finish_win_other (bumpDevice s) w v .ok q0 q1 h

/-- The window of a chip select. -/
def csWindow (k : Fin 3) : WinId := ⟨k.1 + 1, by omega⟩

/-- A chip select gets another binding: its window is as at reset, with its command discarded; the contexts that lose
    and
gain it count a generation. -/
def bindTo (k : Fin 3) (b : Option CtxId) (s : State) : State :=
  forEach (s.port.csBound[k].toList ++ b.toList) bumpCtx
    (rebind (csWindow k) { s with port := { s.port with csBound := s.port.csBound.set k b } })

theorem actBindWindow_new {s : State} {w : WinId} {c : CtxId} {a : Cmd} {k : Fin 3} {b : Option CtxId}
    (hk : bindCs a = some k)
    (hb : (if a.a0.getLsbD 16 then none else some (argCtx a.a0)) = b) (hne : s.port.csBound[k] ≠ b) :
    actBindWindow w c a s = finishGen w 0 0 (bindTo k b s) := by
  subst hb
  simp only [actBindWindow, hk, if_neg hne]
  rfl

theorem bindTo_rebinds (k : Fin 3) (b : Option CtxId) (s : State) :
    Changes [.ctx] (rebind (csWindow k) { s with port := { s.port with csBound := s.port.csBound.set k b } })
        (bindTo k b s) :=
  .forEach .refl fun _ _ h => bumpCtx_changes h rfl

theorem bindTo_csBound (k : Fin 3) (b : Option CtxId) (s : State) : (bindTo k b s).port.csBound[k] = b := by
  simp only [(bindTo_rebinds k b s).port_eq rfl]
  exact Vector.getElem_set_self _

theorem bindTo_win_same (k : Fin 3) (b : Option CtxId) (s : State) :
    (bindTo k b s).win[csWindow k] =
      { Window.reset with exec := s.win[csWindow k].exec.map fun e => { e with discard := true } } := by
  simp only [(bindTo_rebinds k b s).win_eq rfl]
  exact State.modWin_same { s with port := { s.port with csBound := s.port.csBound.set k b } } (csWindow k) _

theorem bindTo_win_other {k : Fin 3} {w : WinId} (b : Option CtxId) (s : State) (h : w ≠ csWindow k) :
    (bindTo k b s).win[w] = s.win[w] := by
  simp only [(bindTo_rebinds k b s).win_eq rfl]
  exact State.modWin_other { s with port := { s.port with csBound := s.port.csBound.set k b } } (csWindow k) _ w h

/-- The context named can be bound, or the binding ends. -/
theorem bindGuard {s : State} {n : CtxId} {u : Bool} (h : u = true ∨ (n ≠ 0 ∧ attached s n = true)) :
    (!u && (n = 0 || !attached s n)) = false := by
  rcases h with rfl | ⟨hn, ha⟩
  · rfl
  · simp [hn, ha]

/-- BIND_WINDOW of a chip select that gets another binding. -/
theorem exec_bindWindow_new {s : State} {w : WinId} {a : Cmd} {n : CtxId} {k : Fin 3} {u : Bool}
    (h : ready s w 0 = true)
    (h0 : a.a0 = bindWord n (k.1 + 1) u) (h1 : a.a1 = 0) (h2 : a.a2 = 0) (h3 : a.a3 = 0)
    (ht : u = true ∨ (n ≠ 0 ∧ attached s n = true)) (hl : s.port.csLock.getLsbD k.1 = false)
    (hne : s.port.csBound[k] ≠ (if u then none else some n)) :
    exec (.bindWindow w a) s =
      .next (finishGen w 0 0 (bindTo k (if u then none else some n) (takenWith s w 0x04 a 0 []))) := by
  have hpass : ∀ t : State, t.ctx = s.ctx → t.port.csLock = s.port.csLock → checkBindWindow w 0 a t = none := by
    intro t hctx hlock
    have hatt : attached t n = attached s n := by rw [attached, attached, hctx]
    rw [checkBindWindow_named h0 h1 h2 h3, hatt, hlock, bindGuard ht, hl]
    rfl
  have hb : (if a.a0.getLsbD 16 then none else some (argCtx a.a0)) = (if u then none else some n) := by
    rw [h0, bindWord_unbind, bindWord_ctx]
  have hrun : exec (.bindWindow w a) s = .next (actBindWindow w 0 a (takenWith s w 0x04 a 0 [])) :=
    congrArg Host.Outcome.next (run_unclaimed s w 0 0x04 a opBindWindow h (hpass _ rfl rfl) rfl (hpass _ rfl rfl))
  rw [hrun, actBindWindow_new (s := takenWith s w 0x04 a 0 []) (bindWord_bindCs h0) hb hne]

/-- A BIND_WINDOW that a check turns away leaves the bindings. -/
theorem exec_bindWindow_turned {s : State} {w : WinId} {a : Cmd} {code : Code} (h : ready s w 0 = true)
    (hk : checkBindWindow w 0 a (taken s w 0x04 a 0) = fail code) :
    ∃ t, exec (.bindWindow w a) s = .next t ∧ answered s t w a.tag code 0 0 ∧ t.port.csBound = s.port.csBound :=
  ⟨_, rfl, row_turned_answered (o := opBindWindow) h hk, (row_turned_port (o := opBindWindow) h hk).1⟩

theorem bindWord_bound (n : CtxId) (cs : Nat) : put n.1 0 6 ||| put cs 10 2 = bindWord n cs false := by
  rw [bindWord, putB]
  exact BitVec.or_zero.symm

/-- Settles O25: the checks in their order, and the new binding. -/
theorem bindWindowRebindsChipSelects : Obligations.BindWindowRebindsChipSelects := by
  refine ⟨by decide, fun s w a n h h1 h2 h3 => ⟨fun h0 => ?_, fun k h0 hn => ?_, fun k u h0 ht hl => ?_,
    fun k u h0 ht hl hne hw => ?_⟩⟩
  · have hz : put n.1 0 6 = bindWord n 0 false := by rw [← bindWord_bound, put, put]; simp
    exact exec_bindWindow_turned h (checkBindWindow_zero (h0.trans hz))
  · refine exec_bindWindow_turned h ?_
    have hguard : (n = 0 || !attached s n) = true := by
      rcases hn with rfl | ha
      · rfl
      · simp [ha]
    have hatt : attached (taken s w 0x04 a 0) n = attached s n := rfl
    rw [checkBindWindow_named (h0.trans (bindWord_bound n _)) h1 h2 h3, hatt, hguard]
    rfl
  · refine exec_bindWindow_turned h ?_
    have hatt : attached (taken s w 0x04 a 0) n = attached s n := rfl
    rw [checkBindWindow_named h0 h1 h2 h3, hatt, bindGuard ht, show (taken s w 0x04 a 0).port.csLock = s.port.csLock
        from rfl, hl]
    rfl
  · have hother : w ≠ csWindow k := fun e => hw (congrArg Fin.val e)
    refine ⟨_, exec_bindWindow_new h h0 h1 h2 h3 ht hl hne, ?_, ?_, fun v hv => ?_⟩
    · exact answered_finishGen (op := 0x04) h (bindTo_win_other _ _ hother)
    · simp only [finishGen_csBound, bindTo_csBound]
    · obtain rfl : v = csWindow k := Fin.ext hv
      rw [finishGen_win_other _ _ _ hother.symm, bindTo_win_same]

end Sys2Proof.Machine
end

section
/-! The reset state (26.8). -/
namespace Sys2Proof.Machine

theorem getElem_replicate_fin {α : Type} {n : Nat} (x : α) (i : Fin n) : (Vector.replicate n x)[i] = x :=
  Vector.getElem_replicate i.2

theorem csBound_reset (k : Nat) (h : k < 3) : State.reset.port.csBound[k] = none :=
  Vector.getElem_replicate h

theorem vfExists_reset (n : CtxId) : vfExists State.reset n = false := rfl

/-- CTX_0 is bound to the windows of CS0 and of the PF, nothing to another window. -/
theorem winCtx_reset (w : WinId) : winCtx State.reset w = if w = 0 ∨ w = 4 then some 0 else none := by
  unfold winCtx winPath
  by_cases hw : w.1 < 4
  · rw [dif_pos hw]
    by_cases h0 : w = 0
    · subst h0
      rfl
    · have hc : ¬((⟨w.1, hw⟩ : ChipSelect) = 0) := fun e => h0 (Fin.ext (by
        have hv : w.1 = 0 := congrArg Fin.val e
        exact hv))
      have h4 : w ≠ 4 := fun e => absurd (congrArg Fin.val e) (Nat.ne_of_lt hw)
      simp only [if_neg hc, csBound_reset, h0, h4, or_self, if_false]
  · rw [dif_neg hw]
    have h0 : w ≠ 0 := fun e => hw (e ▸ (by decide))
    by_cases h4 : w = 4
    · subst h4
      rfl
    · have hf : ¬((⟨w.1 - 4, by omega⟩ : FnId) = 0) := fun e => h4 (Fin.ext (by
        have hv : w.1 - 4 = 0 := congrArg Fin.val e
        show w.1 = 4
        omega))
      simp only [if_neg hf, vfExists_reset, h0, h4, or_self, if_false]
      rfl

theorem ctx_reset {n : CtxId} (h : n ≠ 0) : State.reset.ctx[n] = Ctx.unattached :=
  (Vector.getElem_set_ne (by decide) n.2 fun e => h (Fin.ext e.symm)).trans (Vector.getElem_replicate n.2)

/-- Settles O60: each field of the reset state, and the binding of each window. -/
theorem resetStateIsAsTheSpecGivesIt : Obligations.ResetStateIsAsTheSpecGivesIt := by
  refine ⟨rfl, rfl, rfl, fun w => ?_, winCtx_reset, fun n hn => ?_, fun n => ?_, rfl, rfl, rfl, rfl, fun h => ?_,
      fun y => ?_,
    fun u => ?_, rfl, rfl, rfl, rfl, rfl, rfl, rfl, rfl, rfl⟩
  · have hw : State.reset.win[w] = Window.reset := State.resetWith_win _ w
    rw [hw]
    exact ⟨rfl, rfl, rfl, rfl⟩
  · rw [ctx_reset hn]
    rfl
  · have hn : State.reset.evu.src[n] = Source.reset n.1 := Vector.getElem_ofFn n.2
    rw [hn]
    rfl
  · have hh : State.reset.head[h] = Head.reset := getElem_replicate_fin _ h
    have hp : State.reset.panel[h] = Panel.reset := getElem_replicate_fin _ h
    have hx : State.reset.prot[h] = Prot.reset := getElem_replicate_fin _ h
    rw [hh, hp, hx]
    exact ⟨rfl, rfl, rfl⟩
  · have hy : State.reset.syn[y] = Syn.reset := getElem_replicate_fin _ y
    rw [hy]
    exact ⟨rfl, rfl⟩
  · exact congrArg Cal.op (getElem_replicate_fin Cal.reset u)

end Sys2Proof.Machine
end

section
/-! BAR_0 requests that the register file does not take (04.4). -/
namespace Sys2Proof.Machine

/-- What every pass of a loop keeps, the loop keeps. -/
theorem forEach_keeps {α : Type} {P : State → Prop} {f : α → State → State} (hf : ∀ a t, P t → P (f a t)) (l : List α)
    :
    ∀ {s : State}, P s → P (forEach l f s) := by
  induction l with
  | nil => exact fun h => h
  | cons a l ih => exact fun h => ih (hf a _ h)

/-- An entry of the MSI-X table but for its pending bit. -/
def MsixEntry.same (x y : MsixEntry) : Prop :=
  x.addrLo = y.addrLo ∧ x.addrHi = y.addrHi ∧ x.data = y.data ∧ x.control = y.control

theorem MsixEntry.same.refl (x : MsixEntry) : x.same x := ⟨rfl, rfl, rfl, rfl⟩

theorem MsixEntry.same.trans {x y z : MsixEntry} (h : x.same y) (k : y.same z) : x.same z := by
  obtain ⟨ha, hb, hc, hd⟩ := h
  obtain ⟨ka, kb, kc, kd⟩ := k
  exact ⟨ha.trans ka, hb.trans kb, hc.trans kc, hd.trans kd⟩

/-- The table of a function is as before, but for pending bits. -/
def TableSame (s t : State) : Prop := ∀ (f : FnId) (v : VectorId), (t.pcie.fn[f].msix[v]).same s.pcie.fn[f].msix[v]

theorem TableSame.refl (s : State) : TableSame s s := fun _ _ => .refl _

theorem TableSame.trans {s t u : State} (h : TableSame s t) (k : TableSame t u) : TableSame s u :=
  fun f v => MsixEntry.same.trans (k f v) (h f v)

theorem setPba_tableSame (f : FnId) (v : VectorId) (b : Bool) (s : State) :
    TableSame s (s.modFn f fun x => { x with msix := x.msix.set v { x.msix[v] with pba := b } }) := by
  intro g u
  by_cases hg : g = f
  · subst hg
    have hf := State.modFn_same s g fun x => { x with msix := x.msix.set v { x.msix[v] with pba := b } }
    have he : ((s.modFn g fun x => { x with msix := x.msix.set v { x.msix[v] with pba := b } }).pcie.fn[g]).msix[u] =
        (s.pcie.fn[g].msix.set v { s.pcie.fn[g].msix[v] with pba := b })[u] := congrArg (·.msix[u]) hf
    rw [he]
    by_cases hu : u = v
    · subst hu
      rw [show (s.pcie.fn[g].msix.set u { s.pcie.fn[g].msix[u] with pba := b })[u] = _ from Vector.getElem_set_self _]
      exact .refl _
    · have hu' : (s.pcie.fn[g].msix.set v { s.pcie.fn[g].msix[v] with pba := b })[u] = s.pcie.fn[g].msix[u] :=
        Vector.getElem_set_ne _ _ fun e => hu (Fin.ext e.symm)
      rw [hu']
      exact .refl _
  · have hf := State.modFn_other s f (fun x => { x with msix := x.msix.set v { x.msix[v] with pba := b } }) g hg
    have he : ((s.modFn f fun x => { x with msix := x.msix.set v { x.msix[v] with pba := b } }).pcie.fn[g]).msix[u] =
        s.pcie.fn[g].msix[u] := congrArg (·.msix[u]) hf
    rw [he]
    exact .refl _

theorem sendMsix_tableSame (f : FnId) (v : VectorId) (s : State) : TableSame s (sendMsix f v s) := by
  unfold sendMsix
  dsimp only
  split
  · exact .refl s
  · split
    · exact (setPba_tableSame f v false s).trans fun _ _ => .refl _
    · exact setPba_tableSame f v true s

theorem unmasked_tableSame (f : FnId) (v : VectorId) (s : State) : TableSame s (unmasked f v s) := by
  unfold unmasked
  split
  · exact sendMsix_tableSame f v s
  · exact setPba_tableSame f v false s

/-- A write to the MSI-X table writes the enabled bytes of each entry. -/
theorem writeMsix_entry (f : FnId) (x : InvalidTlp) (s : State) (v : VectorId) :
    ((writeMsix f x s).pcie.fn[f].msix[v]).same (entryTlp x v s.pcie.fn[f].msix[v]) := by
  have hset := State.modFn_same s f fun y => { y with msix := Vector.ofFn fun u => entryTlp x u y.msix[u] }
  have hv : ((s.modFn f fun y => { y with msix := Vector.ofFn fun u => entryTlp x u y.msix[u] }).pcie.fn[f]).msix[v] =
      entryTlp x v s.pcie.fn[f].msix[v] := (congrArg (·.msix[v]) hset).trans (Vector.getElem_ofFn v.2)
  have hloop : TableSame (s.modFn f fun y => { y with msix := Vector.ofFn fun u => entryTlp x u y.msix[u] })
      (writeMsix f x s) := by
    unfold writeMsix
    refine forEach_keeps (fun u t ht => ?_) _ (.refl _)
    split
    · exact ht.trans (unmasked_tableSame f u t)
    · exact ht
  have := hloop f v
  rwa [hv] at this

section
variable {s : State} {f : FnId} {x : InvalidTlp}

theorem wholeTlp_eq (x : InvalidTlp) : wholeTlp x = x.wholeDword := rfl

theorem invalidTlp_open (hs : pcieOpen s f = true) (hx : x.invalid = true) :
    invalidTlp f x s =
      if x.peer then (if x.write then sawLink s else sendTlp (.unsupportedRequest f) (sawLink s))
      else if x.write then (if msixRange x.off (4 * x.dwords) then writeMsix f x (sawLink s) else sawLink s)
      else if msixRange x.off (4 * x.dwords) || x.wholeDword then
        sendTlp (.completion f (msixBytes s f x.off (4 * x.dwords)) false) (sawLink s)
      else sendTlp (.unsupportedRequest f) (sawLink s) := by
  obtain ⟨hans, hon⟩ := (pcieOpen_iff s f).mp hs
  have hbeyond : (!x.peer && x.wholeDword && decide (x.off < 0x100)) = false := by
    simp only [InvalidTlp.invalid, Bool.and_eq_true, Bool.or_eq_true] at hx
    obtain ⟨-, hpeer | hbeyond⟩ := hx
    · rcases hpeer with hp | hw
      · simp [hp]
      · have hw : x.wholeDword = false := by simpa using hw
        simp [hw]
    · have hlt : ¬x.off < 0x100 := Nat.not_lt.mpr (of_decide_eq_true hbeyond)
      simp [hlt]
  have hon' : fabricOn (sawLink s) = true := hon
  simp only [invalidTlp, hans, wholeTlp_eq, hbeyond, hon', Bool.not_true, Bool.or_self, Bool.false_eq_true, if_false]
  rfl

end

/-- Settles O15: the requests turned away, the reads and the writes of the MSI-X ranges. -/
theorem invalidTlpIsTurnedAway : Obligations.InvalidTlpIsTurnedAway := by
  intro s f x hs hx
  have hrun : exec (.bar0InvalidTlp f x) s = .next (invalidTlp f x s) := rfl
  rw [invalidTlp_open hs hx] at hrun
  refine ⟨fun h => ?_, fun hp hw h => ?_, fun hp hw h => ?_⟩
  · have hres : exec (.bar0InvalidTlp f x) s =
        .next (if x.write then sawLink s else sendTlp (.unsupportedRequest f) (sawLink s)) := by
      rw [hrun]
      rcases h with hp | ⟨hr, hww⟩
      · rw [if_pos hp]
      · by_cases hp : x.peer = true
        · rw [if_pos hp]
        · rw [if_neg hp]
          cases hw : x.write with
          | true => simp only [hr, Bool.false_eq_true, if_false, if_true]
          | false =>
            have hwd : x.wholeDword = false := hww.resolve_right (by simp [hw])
            simp only [hr, hwd, Bool.or_self, Bool.false_eq_true, if_false]
    refine ⟨_, hres, ?_⟩
    cases hw : x.write with
    | true => exact ⟨rfl, rfl, rfl, rfl, rfl, rfl, fun h => absurd h (by decide), fun _ => rfl⟩
    | false => exact ⟨rfl, rfl, rfl, rfl, rfl, rfl, fun _ => rfl, fun h => absurd h (by decide)⟩
  · have hor : (msixRange x.off (4 * x.dwords) || x.wholeDword) = true := (Bool.or_eq_true _ _).mpr h
    rw [hp, hw, hor] at hrun
    exact ⟨_, hrun, rfl, rfl, rfl, rfl, rfl, rfl⟩
  · rw [hp, hw, h] at hrun
    have hch : Changes [.pcie] (sawLink s) (writeMsix f x (sawLink s)) := writeMsix_changes .refl rfl
    exact ⟨_, hrun, hch.win_eq rfl, hch.ctx_eq rfl, hch.mem_eq rfl, writeMsix_entry f x (sawLink s)⟩

end Sys2Proof.Machine
end

section
/-! The check of a protected layer (14.6). -/
namespace Sys2Proof.Machine

theorem modProt_get (s : State) (h : ContHead) (f : Prot → Prot) : (s.modProt h f).prot[h] = f s.prot[h] :=
  State.modProt_same s h f

theorem modProt_get_other {s : State} {h k : ContHead} {f : Prot → Prot} (hk : k ≠ h) : (s.modProt h f).prot[k] =
    s.prot[k] :=
  State.modProt_other s h f k hk

theorem modCal_get (s : State) (u : CalId) (f : Cal → Cal) : (s.modCal u f).cal[u] = f s.cal[u] :=
  State.modCal_same s u f

/-- No code of an entry clears a mismatch that was seen. -/
theorem Seen.mark_mismatch {x : Seen} (h : x.mismatch = true) (code : Nat) : (x.mark code).mismatch = true := by
  unfold Seen.mark
  simp only [apply_ite Seen.mismatch, h, ite_self]

theorem logFault_seen_mismatch {s : State} (h : s.faults.seen.mismatch = true) (code unit : Nat) (arg : Word) :
    (logFault code unit arg s).faults.seen.mismatch = true := by
  unfold logFault
  dsimp only
  split
  · unfold enterFault
    dsimp only
    rw [(raise_changes (G := [.evu, .pcie]) .refl rfl).faults_eq rfl]
    exact Seen.mark_mismatch h _
  · split
    · split
      · exact h
      · exact h
    · exact h

/-- The protected layer after a mismatch: the count has moved, the entry is timed, safe frames are armed. -/
def Prot.mismatched (p : Prot) (log : Option Nat) : Prot :=
  { p with mismatch := satInc p.mismatch, safeNext := p.safeNext || p.safe, lastLog := log }

/-- What follows a mismatch's mark in the fault summary: the entry where one is due, and the events. -/
def mismatchTail (h : ContHead) (due : Bool) (n : Word) (g : Option CtxId) (orphaned : Bool) (s : State) : State :=
  let s := raise 283 (if due then logFault 0x14 h.1 n s else s)
  match g with
  | some g => if orphaned then s else raise g.1 s
  | none => s

theorem mismatchTail_changes (h : ContHead) (due : Bool) (n : Word) (g : Option CtxId) (orphaned : Bool) (s : State) :
    Changes [.evu, .pcie, .faults] s (mismatchTail h due n g orphaned s) := by
  have hraise : Changes [.evu, .pcie, .faults] s (raise 283 (if due then logFault 0x14 h.1 n s else s)) :=
    raise_changes (.ite (logFault_changes .refl rfl) .refl) rfl
  unfold mismatchTail
  cases g with
  | none => exact hraise
  | some g => exact .ite hraise (raise_changes hraise rfl)

theorem mismatchTail_seen {h : ContHead} {due : Bool} {n : Word} {g : Option CtxId} {orphaned : Bool} {s : State}
    (hs : s.faults.seen.mismatch = true) : (mismatchTail h due n g orphaned s).faults.seen.mismatch = true := by
  have hraise : (raise 283 (if due then logFault 0x14 h.1 n s else s)).faults.seen.mismatch = true := by
    rw [(raise_changes (G := [.evu, .pcie]) .refl rfl).faults_eq rfl]
    split
    · exact logFault_seen_mismatch hs _ _ _
    · exact hs
  unfold mismatchTail
  cases g with
  | none => exact hraise
  | some g =>
    dsimp only
    split
    · exact hraise
    · rw [(raise_changes (G := [.evu, .pcie]) .refl rfl).faults_eq rfl]
      exact hraise

/-- A mismatch counts and is seen; what it logs depends on the time of the last entry. -/
theorem mismatch_eq (h : ContHead) (s : State) : ∃ log due,
    mismatch h s = mismatchTail h due (satInc s.prot[h].mismatch) s.prot[h].guardian s.prot[h].orphaned
      { s.modProt h (fun p => p.mismatched log) with
        faults := { s.faults with seen := { s.faults.seen with mismatch := true } } } :=
  ⟨_, _, rfl⟩

/-- The step of a frame's check: the mark, and what CAL_3 shows. -/
def checkedStep (h : ContHead) (ok : Bool) (s : State) : State :=
  (s.modProt h fun p => { p with checked := true }).modCal 3 fun u =>
    { u with feed := BitVec.ofNat 3 (2 + h.1), value := BitVec.ofNat 64 (crcFin s.prot[h].acc.toNat), match_ := ok }

theorem exec_protectedCheck_due {s : State} {h : ContHead} {i : Image} (hi : s.prot[h].live = some i)
    (hst : started s h = true) (hg : s.head[h].gated = false) (hy : s.prot[h].y + i.h ≤ s.head[h].line + 1)
    (hc : s.prot[h].checked = false) {ok : Bool}
    (hok : ok = (decide (crcFin s.prot[h].acc.toNat = s.prot[h].expected.toNat) && s.prot[h].badWords.isEmpty)) :
    exec (.protectedCheck h) s =
      .next (if ok then checkedStep h ok s else recompose h (mismatch h (checkedStep h ok s))) := by
  subst hok
  show execProtectedCheck h s = _
  have hy' : ¬s.head[h].line + 1 < s.prot[h].y + i.h := Nat.not_lt.mpr hy
  simp only [execProtectedCheck, hi, scanning, hst, hg, hc, hy', Bool.not_false, Bool.and_self, Bool.not_true,
      Bool.or_self,
    decide_false, Bool.false_eq_true, if_false]
  rfl

theorem exec_protectedCheck_done {s : State} {h : ContHead} (hc : s.prot[h].checked = true) :
    exec (.protectedCheck h) s = .next s := by
  show execProtectedCheck h s = _
  cases hl : s.prot[h].live with
  | none => simp only [execProtectedCheck, hl]
  | some i => simp only [execProtectedCheck, hl, hc, Bool.or_true, Bool.true_or, if_true]

/-- A frame that fails its check. -/
theorem protectedCheck_mismatch (s : State) (h : ContHead) :
    ∃ log, Changes [.evu, .pcie, .faults, .comp] ((checkedStep h false s).modProt h fun p => p.mismatched log)
        (recompose h (mismatch h (checkedStep h false s))) ∧
      (recompose h (mismatch h (checkedStep h false s))).faults.seen.mismatch = true := by
  obtain ⟨log, due, heq⟩ := mismatch_eq h (checkedStep h false s)
  refine ⟨log, ?_, ?_⟩
  · rw [heq]
    refine recompose_changes ?_ rfl
    exact (Changes.set_faults .refl rfl).via (mismatchTail_changes _ _ _ _ _ _) rfl
  · rw [(recompose_changes (G := [.comp]) .refl rfl).faults_eq rfl, heq]
    exact mismatchTail_seen rfl

/-- Settles O33: the check of a frame, once. -/
theorem protectedCheckComparesWithTheExpectedValue : Obligations.ProtectedCheckComparesWithTheExpectedValue := by
  intro s h i hi hst hg hy
  refine ⟨exec_protectedCheck_done, fun hc => ?_⟩
  have hprot (ok : Bool) : (checkedStep h ok s).prot[h] = { s.prot[h] with checked := true } :=
    modProt_get s h fun p => { p with checked := true }
  have hother (ok : Bool) (k : ContHead) (hk : k ≠ h) : (checkedStep h ok s).prot[k] = s.prot[k] :=
    modProt_get_other (s := s) (f := fun p => { p with checked := true }) hk
  have hcal (ok : Bool) : (checkedStep h ok s).cal[(3 : CalId)].value = BitVec.ofNat 64 (crcFin s.prot[h].acc.toNat) ∧
      (checkedStep h ok s).cal[(3 : CalId)].match_ = ok := by
    have := modCal_get (s.modProt h fun p => { p with checked := true }) 3 fun u =>
      { u with feed := BitVec.ofNat 3 (2 + h.1), value := BitVec.ofNat 64 (crcFin s.prot[h].acc.toNat), match_ := ok }
    exact ⟨congrArg Cal.value this, congrArg Cal.match_ this⟩
  by_cases hm : crcFin s.prot[h].acc.toNat = s.prot[h].expected.toNat ∧ s.prot[h].badWords = []
  · have hgood : (decide (crcFin s.prot[h].acc.toNat = s.prot[h].expected.toNat) && s.prot[h].badWords.isEmpty) =
        true := by
      rw [hm.2, decide_eq_true hm.1]
      rfl
    refine ⟨_, exec_protectedCheck_due hi hst hg hy hc (ok := true) hgood.symm, ?_, hother true, rfl,
        (hcal true).1,
      fun _ _ => ⟨hprot true, rfl, (hcal true).2⟩, fun hbad => ?_⟩
    · exact congrArg Prot.checked (hprot true)
    · exact absurd hm (by tauto)
  · have hbad : (decide (crcFin s.prot[h].acc.toNat = s.prot[h].expected.toNat) && s.prot[h].badWords.isEmpty) =
        false := by
      rw [Bool.and_eq_false_iff, decide_eq_false_iff_not, List.isEmpty_eq_false_iff]
      tauto
    obtain ⟨log, hch, hseen⟩ := protectedCheck_mismatch s h
    have hp : (recompose h (mismatch h (checkedStep h false s))).prot[h] =
        ({ s.prot[h] with checked := true } : Prot).mismatched log := by
      simp only [hch.prot_eq rfl]
      exact (modProt_get _ h _).trans (congrArg (Prot.mismatched · log) (hprot false))
    refine ⟨_, exec_protectedCheck_due hi hst hg hy hc (ok := false) hbad.symm, congrArg Prot.checked hp, fun k hk =>
        ?_,
      hch.mem_eq rfl, ?_, fun h1 h2 => absurd ⟨h1, h2⟩ hm, fun _ => ⟨congrArg Prot.mismatch hp, hseen, fun hsafe =>
          ?_, ?_⟩⟩
    · simp only [if_false, hch.prot_eq rfl, Bool.false_eq_true]
      exact (modProt_get_other hk).trans (hother false k hk)
    · simp only [if_false, hch.cal_eq rfl, Bool.false_eq_true]
      exact (hcal false).1
    · refine (congrArg Prot.safeNext hp).trans ?_
      show (s.prot[h].safeNext || s.prot[h].safe) = true
      rw [hsafe, Bool.or_true]
    · simp only [if_false, hch.cal_eq rfl, Bool.false_eq_true]
      exact (hcal false).2

end Sys2Proof.Machine
end

section
/-! COMMIT_ABORT, RELIEF_FLUSH and TILE_FLATTEN (06.4, 13.3, 13.6). -/
namespace Sys2Proof.Machine

/-! ## COMMIT_ABORT -/

section
variable {s : State} {w : WinId} {c : CtxId} {a : Cmd} {id : Nat}

theorem fld_ofNat {n m : Nat} (hn : n < 2 ^ m) (hm : m ≤ 32) : fld (BitVec.ofNat 32 n) 0 m = n := by
  rw [ofNat_eq_put hn, fld_put_same _ (by omega), Nat.mod_eq_of_lt hn]

theorem argBits_first {m : Word} (h0 : onlyBits a.a0 m = true) (h1 : a.a1 = 0) (h2 : a.a2 = 0) (h3 : a.a3 = 0) :
    argBits a m 0 0 0 = true := by
  rw [argBits, h0, h1, h2, h3, onlyBits_zero]
  rfl

/-- A command without failing checks, with one set of resources that nobody claims. -/
theorem run_passes {op : Byte} {o : Opcode} {rs : List Resource} (h : ready s w c = true)
    (hk : o.check w c a (taken s w op a c) = none) (hr : o.needs c a (taken s w op a c) = rs)
        (hn : unclaimed s rs = true)
    (hk' : o.check w c a (takenWith s w op a c rs) = none) (hf : o.reads w c a (takenWith s w op a c rs) = []) :
    portRow w op a o.run s = o.act w c a (takenWith s w op a c rs) := by
  subst hr
  rw [run_unclaimed s w c op a o h hk hn hk', Opcode.fetch, hf]
  rfl

theorem exec_commitAbort_acts (h : ready s w c = true) (hid : id < 0x10000) (h0 : a.a0 = BitVec.ofNat 32 id)
    (h1 : a.a1 = 0)
    (h2 : a.a2 = 0) (h3 : a.a3 = 0) (hn : unclaimed s (needsCommitAbort c a s) = true) :
    exec (.commitAbort w a) s = .next (actCommitAbort w c a (takenWith s w 0x11 a c (needsCommitAbort c a s))) := by
  have hbits : argBits a 0xFFFF 0 0 0 = true := by
    refine argBits_first ?_ h1 h2 h3
    rw [h0, ofNat_eq_put (k := 16) hid]
    exact onlyBits_put _ (by decide)
  have hpass : ∀ t, checkCommitAbort w c a t = none := fun t => by
    rw [checkCommitAbort, hbits]
    rfl
  exact congrArg Host.Outcome.next (run_passes (o := opCommitAbort) h (hpass s) rfl hn (hpass s) rfl)

end

/-- The pending commits without those of one ID of a context. -/
def withoutCommit (s : State) (c : CtxId) (id : BitVec 16) : State :=
  { s with commits := s.commits.filter fun q => !(q.ctx = c && q.id = id) }

theorem findCommit_id {s : State} {c : CtxId} {id : Nat} {p : PendingCommit} (h : findCommit s c id = some p) :
    p.id.toNat = id := by
  have hp := List.find?_some h
  simp only [Bool.and_eq_true, decide_eq_true_eq] at hp
  exact hp.2

theorem findCommit_withoutCommit {s : State} {c : CtxId} {id : BitVec 16} :
    findCommit (withoutCommit s c id) c id.toNat = none := by
  refine List.find?_eq_none.mpr fun q hq => ?_
  obtain ⟨-, hkeep⟩ := List.mem_filter.mp hq
  intro hfound
  simp only [Bool.and_eq_true, decide_eq_true_eq] at hfound
  simp [hfound.1, BitVec.eq_of_toNat_eq hfound.2] at hkeep

theorem mem_withoutCommit {s : State} {c : CtxId} {id : BitVec 16} {q : PendingCommit} (hq : q ∈ s.commits)
    (h : q.ctx ≠ c ∨ q.id.toNat ≠ id.toNat) : q ∈ (withoutCommit s c id).commits := by
  refine List.mem_filter.mpr ⟨hq, ?_⟩
  rcases h with h | h
  · simp [h]
  · have : q.id ≠ id := fun e => h (congrArg BitVec.toNat e)
    simp [this]

theorem actCommitAbort_found {s : State} {w : WinId} {c : CtxId} {a : Cmd} {id : Nat} {p : PendingCommit}
    (hf : fld a.a0 0 16 = id) (hp : findCommit s c id = some p) (hc : p.parts.all (partBeforeCutOff s) = true) :
    actCommitAbort w c a s = finish w .ok 0 0 (raise (64 + c.1) (withoutCommit s c p.id)) := by
  simp only [actCommitAbort, hf, hp, hc, if_true]
  rfl

theorem actCommitAbort_none {s : State} {w : WinId} {c : CtxId} {a : Cmd} {id : Nat} (hf : fld a.a0 0 16 = id)
    (hp : findCommit s c id = none) : actCommitAbort w c a s = finish w .badArg 0 0 s := by
  simp only [actCommitAbort, hf, hp]
  rfl

theorem exec_commitAbort_found {s : State} {w : WinId} {c : CtxId} {a : Cmd} {id : Nat} {p : PendingCommit}
    (h : ready s w c = true) (hid : id < 0x10000) (h0 : a.a0 = BitVec.ofNat 32 id) (h1 : a.a1 = 0) (h2 : a.a2 = 0)
    (h3 : a.a3 = 0) (hn : unclaimed s (needsCommitAbort c a s) = true) (hp : findCommit s c id = some p)
    (hc : p.parts.all (partBeforeCutOff s) = true) :
    ∃ t, exec (.commitAbort w a) s = .next t ∧ answered s t w a.tag .ok 0 0 ∧ findCommit t c id = none ∧ t.mem = s.mem
        ∧
      t.slot = s.slot ∧ ∀ q ∈ s.commits, (q.ctx ≠ c ∨ q.id.toNat ≠ id) → q ∈ t.commits := by
  have hf : fld a.a0 0 16 = id := by rw [h0, fld_ofNat hid (by decide)]
  have hact := actCommitAbort_found (s := takenWith s w 0x11 a c (needsCommitAbort c a s)) (w := w) hf hp hc
  refine ⟨_, exec_commitAbort_acts h hid h0 h1 h2 h3 hn, ?_⟩
  rw [hact, ← findCommit_id hp]
  have hch : Changes [.win, .port, .evu, .pcie] (withoutCommit s c p.id) (finish w .ok 0 0
      (raise (64 + c.1) (withoutCommit (takenWith s w 0x11 a c (needsCommitAbort c a s)) c p.id))) := by
    refine finish_changes (raise_changes ?_ rfl) rfl
    exact .set_win (s := { withoutCommit s c p.id with port := _ }) (.set_port .refl rfl) rfl
  refine ⟨answered_finish s _ w 0x11 a c _ _ _ h ?_, ?_, hch.mem_eq rfl, hch.slot_eq rfl, fun q hq hne => ?_⟩
  · simp only [(raise_changes (G := [.evu, .pcie]) .refl rfl).win_eq rfl]
    rfl
  · rw [findCommit, hch.commits_eq rfl]
    exact findCommit_withoutCommit
  · rw [hch.commits_eq rfl]
    exact mem_withoutCommit hq hne

theorem exec_commitAbort_none {s : State} {w : WinId} {c : CtxId} {a : Cmd} {id : Nat}
    (h : ready s w c = true) (hid : id < 0x10000) (h0 : a.a0 = BitVec.ofNat 32 id) (h1 : a.a1 = 0) (h2 : a.a2 = 0)
    (h3 : a.a3 = 0) (hn : unclaimed s (needsCommitAbort c a s) = true) (hp : findCommit s c id = none) :
    ∃ t, exec (.commitAbort w a) s = .next t ∧ answered s t w a.tag .badArg 0 0 ∧ t.commits = s.commits := by
  have hf : fld a.a0 0 16 = id := by rw [h0, fld_ofNat hid (by decide)]
  have hact := actCommitAbort_none (s := takenWith s w 0x11 a c (needsCommitAbort c a s)) (w := w) hf hp
  refine ⟨_, exec_commitAbort_acts h hid h0 h1 h2 h3 hn, ?_⟩
  rw [hact]
  exact ⟨answered_finish s _ w 0x11 a c _ _ _ h rfl, (finish_changes (G := [.win, .port, .evu, .pcie]) .refl
      rfl).commits_eq rfl⟩

/-! ## Runs and their tiles -/

theorem setRuns_get (h : ContHead) (l : List Run) (s : State) : (setRuns h l s).relief.runs[h] = l :=
  Vector.getElem_set_self _

theorem setRuns_get_other {h k : ContHead} (l : List Run) (s : State) (hk : k ≠ h) :
    (setRuns h l s).relief.runs[k] = s.relief.runs[k] :=
  Vector.getElem_set_ne h.2 k.2 fun e => hk (Fin.ext e.symm)

/-- The runs of a head that a test names have to settle again, with nothing but DIRTY tiles. -/
def Flushed (k : ContHead) (p : List SlotId → Bool) (s : State) : Prop :=
  ∀ r ∈ s.relief.runs[k], p r.members = true → r.settle = 0 ∧ ∀ x ∈ r.tiles, x.st = .dirty

theorem Flushed.of_relief {k : ContHead} {p : List SlotId → Bool} {s t : State} (h : Flushed k p s)
    (he : t.relief.runs = s.relief.runs) : Flushed k p t := by
  intro r hr
  rw [he] at hr
  exact h r hr

/-- A tile of another head, or of a run that the test does not name, takes another state. -/
theorem Flushed.setTile {k h : ContHead} {p : List SlotId → Bool} {s : State} {m : List SlotId} {tx ty : Nat}
    {st : TileState}
    (hs : Flushed k p s) (hne : k = h → p m = false) : Flushed k p (setTile h m tx ty st s) := by
  intro r hr hpr
  by_cases hk : k = h
  · subst hk
    unfold Machine.setTile at hr
    rw [setRuns_get] at hr
    obtain ⟨q, hq, rfl⟩ := List.mem_map.mp hr
    by_cases hm : q.members = m
    · rw [if_pos hm] at hpr
      have hpm : p q.members = true := hpr
      rw [hm, hne rfl] at hpm
      cases hpm
    · rw [if_neg hm] at hpr ⊢
      exact hs q hq hpr
  · unfold Machine.setTile at hr
    rw [setRuns_get_other _ _ hk] at hr
    exact hs r hr hpr

/-- A fold that keeps its value or takes the element chooses an element. -/
theorem foldl_choice {α : Type} {g : Option α → α → Option α} (hg : ∀ b y, g b y = some y ∨ g b y = b) (l : List α)
    {x : α} :
    ∀ {b : Option α}, l.foldl g b = some x → x ∈ l ∨ b = some x := by
  induction l with
  | nil => exact fun hb => .inr hb
  | cons y l ih =>
    intro b hb
    rcases ih hb with hl | hl
    · exact .inl (List.mem_cons_of_mem _ hl)
    · rcases hg b y with hy | hy
      · exact .inl (Option.some.inj (hy.symm.trans hl) ▸ List.mem_cons_self)
      · exact .inr (hy ▸ hl)

theorem bestTile_mem {l : List (ContHead × List SlotId × Tile × Nat)} {x : ContHead × List SlotId × Tile × Nat}
    (h : bestTile l = some x) : x ∈ l := by
  refine (foldl_choice (fun b y => ?_) l h).resolve_right (by simp)
  cases b with
  | none => exact .inl rfl
  | some z =>
    dsimp only
    split
    · exact .inl rfl
    · exact .inr rfl

/-- A spilled tile that residence considers is a tile of a run of its head. -/
theorem mem_cleanTiles_spill {s : State} {h : ContHead} {m : List SlotId} {t : Tile} {n : Nat}
    (hm : (h, m, t, n) ∈ cleanTiles s false) : ∃ r ∈ s.relief.runs[h], r.members = m ∧ t ∈
        r.tiles := by
  obtain ⟨g, -, hg⟩ := List.mem_flatMap.mp hm
  cases hcfg : s.head[g].cfg with
  | none => simp only [hcfg, List.not_mem_nil] at hg
  | some cfg =>
    simp only [hcfg] at hg
    obtain ⟨r, hr, hrt⟩ := List.mem_flatMap.mp hg
    obtain ⟨x, hx, hxt⟩ := List.mem_filterMap.mp hrt
    split at hxt
    · cases hxt
      exact ⟨r, hr, rfl, hx⟩
    · cases hxt
      exact ⟨r, hr, rfl, hx⟩
    · cases hxt

theorem putChip_runs (k : Nat) (b : List Byte) (s : State) : (putChip k b s).relief.runs = s.relief.runs := rfl

theorem Flushed.promote {k : ContHead} {p : List SlotId → Bool} (n : Nat) {s : State} (hs : Flushed k p s) :
    Flushed k p (promote n s) := by
  induction n generalizing s with
  | zero => exact hs
  | succ n ih =>
    unfold Machine.promote
    split
    · rename_i k' h m t sv _ hbest
      split
      · rename_i j hj
        have hne : k = h → p m = false := by
          rintro rfl
          obtain ⟨r, hr, hrm, ht⟩ := mem_cleanTiles_spill (bestTile_mem hbest)
          by_contra hp
          rw [← hrm, Bool.not_eq_false] at hp
          rw [(hs r hr hp).2 t ht] at hj
          cases hj
        refine ih ?_
        split
        · refine Flushed.setTile (hs.of_relief ?_) hne
          exact congrArg Relief.runs ((logUe_changes (G := [.evu, .pcie, .faults, .fetch])
            (accessSpill_changes .refl rfl) rfl).relief_eq rfl)
        · refine Flushed.setTile (hs.of_relief ?_) hne
          rw [putChip_runs, (accessSpill_changes (G := [.fetch]) .refl rfl).relief_eq rfl]
      · exact hs
    · exact hs

theorem Flushed.freeSlots {k : ContHead} {p : List SlotId → Bool} {s : State} (hs : Flushed k p s) :
    Flushed k p (freeSlots s) :=
  Flushed.promote 170 (hs.of_relief rfl)

theorem Flushed.endFlatten {k : ContHead} {p : List SlotId → Bool} {s : State} (hs : Flushed k p s) :
    Flushed k p (endFlatten s) :=
  hs.of_relief (congrArg Relief.runs ((endFlatten_changes (G := [.fetch]) .refl rfl).relief_eq rfl))

/-- The runs that a test of their members names, of the head itself. -/
theorem flushed_dirtyRuns (h : ContHead) (p : List SlotId → Bool) (s : State) :
    Flushed h p (dirtyRuns h (fun r => p r.members) s) := by
  unfold dirtyRuns
  split
  · refine Flushed.freeSlots (Flushed.endFlatten ?_)
    intro r hr hpr
    rw [setRuns_get] at hr
    obtain ⟨q, hq, rfl⟩ := List.mem_map.mp hr
    by_cases hq' : p q.members = true
    · rw [if_pos hq']
      refine ⟨rfl, fun x hx => ?_⟩
      obtain ⟨y, -, rfl⟩ := List.mem_map.mp hx
      rfl
    · rw [if_neg hq'] at hpr
      exact absurd hpr hq'
  · rename_i hany
    intro r hr hpr
    exact absurd (List.any_eq_true.mpr ⟨r, hr, hpr⟩) hany

/-- Those of another head, or of the same head by an earlier test. -/
theorem Flushed.dirtyRuns {k h : ContHead} {p : List SlotId → Bool} {q : Run → Bool} {s : State} (hs : Flushed k p s)
    :
    Flushed k p (dirtyRuns h q s) := by
  unfold Machine.dirtyRuns
  split
  · refine Flushed.freeSlots (Flushed.endFlatten ?_)
    by_cases hk : k = h
    · subst hk
      intro r hr hpr
      rw [setRuns_get] at hr
      obtain ⟨x, hx, rfl⟩ := List.mem_map.mp hr
      by_cases hq : q x = true
      · rw [if_pos hq]
        refine ⟨rfl, fun y hy => ?_⟩
        obtain ⟨z, -, rfl⟩ := List.mem_map.mp hy
        rfl
      · rw [if_neg hq] at hpr ⊢
        exact hs x hx hpr
    · intro r hr
      rw [setRuns_get_other _ _ hk] at hr
      exact hs r hr
  · exact hs

/-- Each head of a list is flushed. -/
theorem flushed_forEach {p : ContHead → List SlotId → Bool} {l : List ContHead} {k : ContHead} (hk : k ∈ l)
    (s : State) :
    Flushed k (p k) (forEach l (fun h s => dirtyRuns h (fun r => p h r.members) s) s) := by
  induction l generalizing s with
  | nil => exact absurd hk (by simp)
  | cons h l ih =>
    rcases List.mem_cons.mp hk with rfl | hk
    · exact forEach_keeps (P := Flushed k (p k)) (fun _ _ ht => ht.dirtyRuns) l (flushed_dirtyRuns k (p k) s)
    · exact ih hk _

end Sys2Proof.Machine
end

section
/-! RELIEF_FLUSH and TILE_FLATTEN (13.3, 13.6). -/
namespace Sys2Proof.Machine

/-! ## RELIEF_FLUSH -/

/-- The first argument word of a RELIEF_FLUSH. -/
def flushWord (h : ContHead) (both : Bool) : Word := put h.1 8 2 ||| putB both 16

theorem flushWord_head (h : ContHead) (both : Bool) : argCont (flushWord h both) = some h := by
  have hf : fld (flushWord h both) 8 2 = h.1 := by
    rw [flushWord, fld_or, fld_put_same _ (by decide), putB_eq_put, fld_put_beside _ (by decide), Nat.or_zero]
    omega
  simp only [argCont, hf, h.2, dif_pos]

theorem flushWord_both (h : ContHead) (both : Bool) : (flushWord h both).getLsbD 16 = both := by
  rw [flushWord, BitVec.getLsbD_or, getLsbD_put, putB_eq_put, getLsbD_put]
  cases both <;> rfl

theorem flushWord_onlyBits (h : ContHead) (both : Bool) : onlyBits (flushWord h both) 0x10300 = true := by
  rw [flushWord, onlyBits_or, onlyBits_put _ (by decide), putB_eq_put, onlyBits_put _ (by decide)]
  rfl

theorem flushHeads_eq {a : Cmd} {h : ContHead} {both : Bool} (h0 : a.a0 = flushWord h both) :
    flushHeads a = if both then conts else [h] := by
  rw [flushHeads, h0, flushWord_both, flushWord_head]
  rfl

theorem unclaimed_of_subset {s : State} {rs qs : List Resource} (h : unclaimed s qs = true) (hsub : ∀ r ∈ rs, r ∈ qs)
    :
    unclaimed s rs = true :=
  List.all_eq_true.mpr fun r hr => List.all_eq_true.mp h r (hsub r hr)

theorem mem_conts (h : ContHead) : h ∈ conts := by
  match h with
  | 0 => exact List.mem_cons_self
  | 1 => exact List.mem_cons_of_mem _ List.mem_cons_self

/-- The runs that are the caller's: those with one of its layers, all of them for CTX_0. -/
def ownRun (s : State) (c : CtxId) (h : ContHead) (m : List SlotId) : Bool :=
  c = 0 || (memberLayers s h m).any fun l => l.ctx = c

theorem ownRun_iff {s : State} {c : CtxId} {h : ContHead} {m : List SlotId} :
    ownRun s c h m = true ↔ c = 0 ∨ ∃ l ∈ memberLayers s h m, l.ctx = c := by
  simp only [ownRun, Bool.or_eq_true, decide_eq_true_eq, List.any_eq_true]

/-- The state in which the runs of the heads named have been flushed. -/
def flushedState (c : CtxId) (hs : List ContHead) (s : State) : State :=
  forEach hs (fun h t => dirtyRuns h (fun r => ownRun s c h r.members) t) s

theorem actReliefFlush_eq (w : WinId) (c : CtxId) (a : Cmd) (s : State) :
    ∃ q, actReliefFlush w c a s = finish w .ok q 0 (flushedState c (flushHeads a) s) := ⟨_, rfl⟩

theorem flushedState_changes (c : CtxId) (hs : List ContHead) (s : State) :
    Changes [.evu, .pcie, .faults, .fetch, .relief] s (flushedState c hs s) :=
  .forEach .refl fun _ _ h => dirtyRuns_changes h rfl

theorem reliefFlush_flushes {s : State} {w : WinId} {c : CtxId} {a : Cmd} {h : ContHead} {both : Bool}
    (hr : ready s w c = true)
    (h0 : a.a0 = flushWord h both) (h1 : a.a1 = 0) (h2 : a.a2 = 0) (h3 : a.a3 = 0)
    (hn : unclaimed s [.gate (headId 0), .gate (headId 1)] = true) :
    ∃ t q, exec (.reliefFlush w a) s = .next t ∧ answered s t w a.tag .ok q 0 ∧ t.mem = s.mem ∧ t.slot = s.slot ∧
      ∀ k : ContHead, (both = true ∨ k = h) → Flushed k (ownRun s c k) t := by
  have hpass : ∀ t, checkReliefFlush w c a t = none := fun t => by
    rw [checkReliefFlush, argBits_first (h0 ▸ flushWord_onlyBits h both) h1 h2 h3, h0, flushWord_head]
    simp only [Option.isNone_some, Bool.and_false]
    rfl
  have hsub : ∀ r ∈ (flushHeads a).map (fun h => Resource.gate (headId h)), r ∈
      [Resource.gate (headId 0), .gate (headId 1)] := by
    intro r hr
    obtain ⟨k, -, rfl⟩ := List.mem_map.mp hr
    exact List.mem_map_of_mem (f := fun h => Resource.gate (headId h)) (mem_conts k)
  let u := takenWith s w 0x13 a c ((flushHeads a).map fun h => .gate (headId h))
  have hrun : exec (.reliefFlush w a) s = .next (actReliefFlush w c a u) :=
    congrArg Host.Outcome.next
      (run_passes (o := opReliefFlush) hr (hpass s) rfl (unclaimed_of_subset hn hsub) (hpass s) rfl)
  obtain ⟨q, hq⟩ := actReliefFlush_eq w c a u
  have hch := flushedState_changes c (flushHeads a) u
  have hfin : Changes [.win, .port, .evu, .pcie] (flushedState c (flushHeads a) u)
      (finish w .ok q 0 (flushedState c (flushHeads a) u)) := finish_changes .refl rfl
  rw [hq] at hrun
  refine ⟨_, q, hrun, ?_, (hfin.mem_eq rfl).trans (hch.mem_eq rfl), (hfin.slot_eq rfl).trans (hch.slot_eq rfl), fun k
      hk => ?_⟩
  · refine answered_finish s _ w 0x13 a c _ _ _ hr ?_
    simp only [hch.win_eq rfl]
    rfl
  · have hmem : k ∈ flushHeads a := by
      rw [flushHeads_eq h0]
      rcases hk with rfl | rfl
      · exact mem_conts k
      · cases both
        · exact List.mem_cons_self
        · exact mem_conts k
    exact (flushed_forEach (p := ownRun u c) hmem u).of_relief (congrArg Relief.runs (hfin.relief_eq rfl))

/-! ## TILE_FLATTEN -/

/-- The tiles of one place of a run are in one state. -/
def TilesAre (h : ContHead) (m : List SlotId) (tx ty : Nat) (st : TileState) (s : State) : Prop :=
  ∀ q ∈ s.relief.runs[h], q.members = m → ∀ y ∈ q.tiles, y.tx = tx → y.ty = ty → y.st = st

theorem tilesAre_setTile (h : ContHead) (m : List SlotId) (tx ty : Nat) (st : TileState) (s : State) :
    TilesAre h m tx ty st (setTile h m tx ty st s) := by
  intro q hq hm y hy hx hty
  unfold setTile at hq
  rw [setRuns_get] at hq
  obtain ⟨r, -, rfl⟩ := List.mem_map.mp hq
  by_cases hr : r.members = m
  · rw [if_pos hr] at hy
    obtain ⟨z, -, rfl⟩ := List.mem_map.mp hy
    by_cases hz : z.tx = tx ∧ z.ty = ty
    · rw [if_pos hz]
    · rw [if_neg hz] at hx hty
      exact absurd ⟨hx, hty⟩ hz
  · rw [if_neg hr] at hm
    exact absurd hm hr

/-- Tiles of another place stay as they are. -/
theorem TilesAre.setTile {h k : ContHead} {m m' : List SlotId} {tx ty tx' ty' : Nat} {st st' : TileState} {s : State}
    (hs : TilesAre h m tx ty st s) (hne : ¬(k = h ∧ m' = m ∧ tx' = tx ∧ ty' = ty)) :
    TilesAre h m tx ty st (setTile k m' tx' ty' st' s) := by
  intro q hq hm y hy hx hty
  unfold Machine.setTile at hq
  by_cases hk : h = k
  · subst hk
    rw [setRuns_get] at hq
    obtain ⟨r, hr, rfl⟩ := List.mem_map.mp hq
    by_cases hr' : r.members = m'
    · rw [if_pos hr'] at hy hm
      obtain ⟨z, hz, rfl⟩ := List.mem_map.mp hy
      by_cases hz' : z.tx = tx' ∧ z.ty = ty'
      · rw [if_pos hz'] at hx hty
        exact absurd ⟨rfl, hr'.symm.trans hm, hz'.1.symm.trans hx, hz'.2.symm.trans hty⟩ hne
      · rw [if_neg hz'] at hx hty ⊢
        exact hs r hr hm z hz hx hty
    · rw [if_neg hr'] at hy hm
      exact hs r hr hm y hy hx hty
  · rw [setRuns_get_other _ _ hk] at hq
    exact hs q hq hm y hy hx hty

/-- The tile taken next is a DIRTY tile of a run of its head. -/
theorem mem_of_dirtyTile {s : State} {h : ContHead} {cfg : HeadCfg} {r : Run} {x : Tile}
    (hd : dirtyTile s h cfg = some (r, x)) :
    r ∈ s.relief.runs[h] ∧ x ∈ r.tiles ∧ x.st = .dirty := by
  obtain ⟨q, hq, hqx⟩ := List.exists_of_findSome?_eq_some hd
  obtain ⟨y, hy, hyx⟩ := Option.map_eq_some_iff.mp hqx
  cases hyx
  have hst := List.find?_some hy
  simp only [Bool.and_eq_true, decide_eq_true_eq] at hst
  exact ⟨(List.mem_filter.mp hq).1, List.mem_of_find?_eq_some hy, hst.1⟩

/-- Entering the members' reads leaves the Relief store. -/
theorem startTile_relief (h : ContHead) (cfg : HeadCfg) (r : Run) (x : Tile) (s : State) :
    (startTile h cfg r x s).relief = (setTile h r.members x.tx x.ty .flattening
      { s with relief := { s.relief with begun := s.relief.begun + 1 } }).relief :=
  Changes.relief_eq (G := [.fetch])
    (.forEach .refl fun _ _ h => .forEach h fun _ _ h => enqueue_changes h rfl) rfl

theorem TilesAre.of_relief {h : ContHead} {m : List SlotId} {tx ty : Nat} {st : TileState} {s t : State}
    (hs : TilesAre h m tx ty st s) (he : t.relief.runs = s.relief.runs) : TilesAre h m tx ty st t := by
  intro q hq
  rw [he] at hq
  exact hs q hq

/-- Taking the next tile leaves the tiles of a place that are not DIRTY, and the on-chip part. -/
theorem TilesAre.kickFlatten {h : ContHead} {m : List SlotId} {tx ty : Nat} {st : TileState} {s : State}
    (hs : TilesAre h m tx ty st s) (hst : st ≠ .dirty) : TilesAre h m tx ty st (kickFlatten s) := by
  unfold Machine.kickFlatten
  dsimp only
  split
  · exact hs
  · split
    · rename_i k cfg r x hfound
      obtain ⟨g, -, hg⟩ := List.exists_of_findSome?_eq_some hfound
      obtain ⟨cfg', hcfg, hx⟩ := Option.bind_eq_some_iff.mp hg
      obtain ⟨⟨r', x'⟩, hd, hsome⟩ := Option.map_eq_some_iff.mp hx
      cases hsome
      obtain ⟨hr, hxr, hdirty⟩ := mem_of_dirtyTile hd
      have hbegun : TilesAre h m tx ty st { s with relief := { s.relief with begun := s.relief.begun + 1 } } := hs
      have hother : ¬(k = h ∧ r.members = m ∧ x.tx = tx ∧ x.ty = ty) := by
        rintro ⟨rfl, hm, htx, hty⟩
        exact hst ((hs r hr hm x hxr htx hty).symm.trans hdirty)
      have hset := TilesAre.setTile (st' := .flattening) hbegun hother
      exact hset.of_relief (congrArg Relief.runs (startTile_relief k cfg r x s))
    · exact hs

theorem kickFlatten_chip (s : State) : (kickFlatten s).relief.chip = s.relief.chip := by
  unfold kickFlatten
  dsimp only
  split
  · rfl
  · split
    · rw [startTile_relief]
      rfl
    · rfl

theorem kickFlatten_mem (s : State) : (kickFlatten s).mem = s.mem :=
  (kickFlatten_changes (G := [.fetch, .relief]) .refl rfl).mem_eq rfl

section
variable {s : State} {h : ContHead} {cfg : HeadCfg} {r : Run} {x : Tile}

theorem exec_tileFlatten_next (hm : memAvail s = true) (hc : s.head[h].cfg = some cfg)
    (hn : nextTile s h = some (r, x)) :
    exec (.tileFlatten h) s = .next (kickFlatten (finishTile h cfg r x s)) := by
  show execTileFlatten h s = _
  simp only [execTileFlatten, hm, hc, hn, Bool.not_true, Bool.false_eq_true, if_false]

theorem finishTile_mixed (hb : tileBad s h cfg r.members x.tx x.ty = none)
    (hm : (flattenTile s h cfg r.members x.tx x.ty).any (· = .mixed) = true) :
    finishTile h cfg r x s = setTile h r.members x.tx x.ty .unusable s := by
  simp only [finishTile, hb, hm, Option.isSome_none, Bool.false_eq_true, if_false, if_true]

theorem finishTile_chip {k : Nat} (hb : tileBad s h cfg r.members x.tx x.ty = none)
    (hm : (flattenTile s h cfg r.members x.tx x.ty).any (· = .mixed) = false)
        (hk : freeSlot 170 (chipSlots s) = some k) :
    finishTile h cfg r x s = setTile h r.members x.tx x.ty (.chip k)
      (putChip k ((flattenTile s h cfg r.members x.tx x.ty).flatMap tilePxBytes) s) := by
  simp only [finishTile, hb, hm, Option.isSome_none, Bool.false_eq_true, if_false, storeTile, hk]

end

/-- Settles O31: the three commands. -/
theorem abortFlushAndFlatten : Obligations.AbortFlushAndFlatten := by
  refine ⟨fun s w c a id hr hid h0 h1 h2 h3 hn => ⟨fun p hp hc => exec_commitAbort_found hr hid h0 h1 h2 h3 hn hp hc,
      exec_commitAbort_none hr hid h0 h1 h2 h3 hn⟩,
    fun s w c a h both hr h0 h1 h2 h3 hn => ?_, fun s h cfg r x _ hm hc hn hb =>
        ⟨fun hmix => ?_, fun k hmix hk => ?_⟩⟩
  · obtain ⟨t, q, ht, hans, hmem, hslot, hflush⟩ := reliefFlush_flushes hr h0 h1 h2 h3 hn
    refine ⟨t, q, ht, hans, hmem, hslot, fun k hk r hrk hown => hflush k hk r hrk (ownRun_iff.mpr hown)⟩
  · rw [exec_tileFlatten_next hm hc hn, finishTile_mixed hb hmix]
    exact ⟨_, rfl, kickFlatten_mem _, (tilesAre_setTile _ _ _ _ _ _).kickFlatten (by simp)⟩
  · rw [exec_tileFlatten_next hm hc hn, finishTile_chip hb hmix hk]
    refine ⟨_, rfl, kickFlatten_mem _, ?_, (tilesAre_setTile _ _ _ _ _ _).kickFlatten (by simp)⟩
    rw [kickFlatten_chip]
    exact List.mem_cons_self

end Sys2Proof.Machine
end

section
/-! PARTITION_SET and TERRITORY_SET (08.6, 08.8). -/
namespace Sys2Proof.Machine

theorem modCtx_get (s : State) (n : CtxId) (f : Ctx → Ctx) : (s.modCtx n f).ctx[n] = f s.ctx[n] := State.modCtx_same s
    n f

theorem modCtx_get_other {s : State} {n m : CtxId} {f : Ctx → Ctx} (h : m ≠ n) : (s.modCtx n f).ctx[m] = s.ctx[m] :=
  State.modCtx_other s n f m h

/-- A command that ends with OK and a new generation of the device: what its action changed of the contexts stays. -/
theorem finishGen_ctx (w : WinId) (q0 q1 : Word) (s : State) : (finishGen w q0 q1 s).ctx = s.ctx :=
  (finishGen_changes (G := [.win, .port, .evu, .pcie]) .refl rfl).ctx_eq rfl

/-! ## PARTITION_SET -/

section
variable {s : State} {w : WinId} {a : Cmd} {n : CtxId} {base size : Nat}

/-- The extent of a context is set: the granules that it loses are released. -/
def withPartition (s : State) (n : CtxId) (base size : Nat) : State :=
  (releaseGranules (s.ctx[n].partBase + size) (s.ctx[n].partSize - size) false false false s).modCtx n fun c =>
    { c with partBase := base, partSize := size }

theorem actPartitionSet_passes (hn : argCtx a.a0 = n) (hb : fld a.a1 0 18 = base) (hs : fld a.a2 0 18 = size)
    (hk : partitionState s n base size = none) {c : CtxId} :
    actPartitionSet w c a s = finishGen w 0 0 (kickZero (bumpCtx n (withPartition s n base size))) := by
  simp only [actPartitionSet, hn, hb, hs, hk]
  rfl

theorem withPartition_ctx (s : State) (n : CtxId) (base size : Nat) :
    (kickZero (bumpCtx n (withPartition s n base size))).ctx[n].partBase = base ∧
    (kickZero (bumpCtx n (withPartition s n base size))).ctx[n].partSize = size ∧
    ∀ m : CtxId, m ≠ n → (kickZero (bumpCtx n (withPartition s n base size))).ctx[m] = s.ctx[m] := by
  have hk : (kickZero (bumpCtx n (withPartition s n base size))).ctx = (bumpCtx n
      (withPartition s n base size)).ctx :=
    (kickZero_changes (G := [.memc, .fetch]) .refl rfl).ctx_eq rfl
  have hb : (bumpCtx n (withPartition s n base size)).ctx[n] =
      { (withPartition s n base size).ctx[n] with gen := (withPartition s n base size).ctx[n].gen + 1 } :=
          modCtx_get _ n _
  have hw : (withPartition s n base size).ctx[n] = _ := modCtx_get _ n _
  simp only [hk]
  refine ⟨?_, ?_, fun m hm => ?_⟩
  · rw [hb, hw]
  · rw [hb, hw]
  · refine (modCtx_get_other hm).trans ((modCtx_get_other hm).trans ?_)
    simp only [(releaseGranules_changes (G := [.memc, .fetch]) .refl rfl).ctx_eq rfl]

theorem partitionSet_bits (h0 : a.a0 = BitVec.ofNat 32 n.1) (h1 : a.a1 = BitVec.ofNat 32 base)
    (h2 : a.a2 = BitVec.ofNat 32 size)
    (h3 : a.a3 = 0) (hbase : base < 0x40000) (hsize : size < 0x40000) : argBits a 0x3F 0x3FFFF 0x3FFFF 0 = true := by
  have hx (x : Nat) (hx : x < 2 ^ 18) : onlyBits (BitVec.ofNat 32 x) 0x3FFFF = true := by
    rw [ofNat_eq_put hx]
    exact onlyBits_put _ (by decide)
  rw [argBits, h0, h1, h2, h3, onlyBits_ctx (by decide), hx base hbase, hx size hsize, onlyBits_zero]
  rfl

theorem exec_partitionSet_passes (h : ready s w 0 = true) (h0 : a.a0 = BitVec.ofNat 32 n.1)
    (h1 : a.a1 = BitVec.ofNat 32 base)
    (h2 : a.a2 = BitVec.ofNat 32 size) (h3 : a.a3 = 0) (hbase : base < 0x40000) (hsize : size < 0x40000)
    (hn : unclaimed s [.ctxSet n] = true)
    (hk : partitionState (takenWith s w 0x05 a 0 [.ctxSet n]) n base size = none) :
    exec (.partitionSet w a) s =
      .next (finishGen w 0 0 (kickZero (bumpCtx n (withPartition (takenWith s w 0x05 a 0 [.ctxSet n]) n base
          size)))) := by
  have hctx : argCtx a.a0 = n := h0 ▸ argCtx_ofNat n
  have hpass : checkPartitionSet w 0 a s = none := by
    rw [checkPartitionSet, partitionSet_bits h0 h1 h2 h3 hbase hsize]
    rfl
  have hrun : exec (.partitionSet w a) s = .next (actPartitionSet w 0 a (takenWith s w 0x05 a 0 [.ctxSet n])) :=
    congrArg Host.Outcome.next (run_passes (o := opPartitionSet) h hpass (by rw [← hctx]; rfl) hn hpass rfl)
  rw [hrun, actPartitionSet_passes hctx (h1 ▸ fld_ofNat hbase (by decide)) (h2 ▸ fld_ofNat hsize (by decide)) hk]

end

/-! ## TERRITORY_SET -/

section
variable {s : State} {w : WinId} {a : Cmd} {n : CtxId} {h : HeadId} {i : Fin 4}

theorem actTerritorySet_passes (hn : argCtx a.a0 = n) (hh : argHead a.a0 = some h) (hi : terrIndex a = i)
    (hk : terrFails s n h i (argTerr a) = none) {c : CtxId} :
    actTerritorySet w c a s =
      if (argTerr a).isNone && (s.ctx[n].terr[h][i]).isNone then finish0 w .ok s
      else finishGen w 0 0 (bumpCtx n (setTerrs n h (terrsWith s n h i (argTerr a)) s)) := by
  simp only [actTerritorySet, hn, hh, hi, hk]

/-- The entries of a context after one of them has been set. -/
theorem setTerrs_terr (s : State) (n : CtxId) (h : HeadId) (ts : Terrs) :
    (bumpCtx n (setTerrs n h ts s)).ctx[n].terr = s.ctx[n].terr.set h ts := by
  have hb : (bumpCtx n (setTerrs n h ts s)).ctx[n] =
      { (setTerrs n h ts s).ctx[n] with gen := (setTerrs n h ts s).ctx[n].gen + 1 } := modCtx_get _ n _
  have hs : (setTerrs n h ts s).ctx[n] = _ := modCtx_get s n _
  rw [hb, hs]

theorem setTerrs_ctx_other {m : CtxId} (s : State) (h : HeadId) (ts : Terrs) (hm : m ≠ n) :
    (bumpCtx n (setTerrs n h ts s)).ctx[m] = s.ctx[m] :=
  (modCtx_get_other hm).trans (modCtx_get_other hm)

theorem terrsWith_same (s : State) (n : CtxId) (h : HeadId) (i : Fin 4) (x : Option Territory) :
    (s.ctx[n].terr.set h (terrsWith s n h i x))[h][i] = x := by
  have hset : (s.ctx[n].terr.set h (terrsWith s n h i x))[h] = terrsWith s n h i x := Vector.getElem_set_self _
  rw [hset]
  exact Vector.getElem_set_self _

theorem terrsWith_entry_other {j : Fin 4} (s : State) (n : CtxId) (h : HeadId) (x : Option Territory) (hj : j ≠ i) :
    (s.ctx[n].terr.set h (terrsWith s n h i x))[h][j] = s.ctx[n].terr[h][j] := by
  have hset : (s.ctx[n].terr.set h (terrsWith s n h i x))[h] = terrsWith s n h i x := Vector.getElem_set_self _
  rw [hset]
  exact Vector.getElem_set_ne i.2 j.2 fun e => hj (Fin.ext e.symm)

theorem terrsWith_head_other {g : HeadId} (s : State) (n : CtxId) (h : HeadId) (i : Fin 4) (x : Option Territory)
    (hg : g ≠ h) :
    (s.ctx[n].terr.set h (terrsWith s n h i x))[g] = s.ctx[n].terr[g] :=
  Vector.getElem_set_ne h.2 g.2 fun e => hg (Fin.ext e.symm)

theorem exec_territorySet_passes (hr : ready s w 0 = true) (h0 : onlyBits a.a0 0x10F3F = true)
    (h3 : onlyBits a.a3 0xFF = true)
    (hn : argCtx a.a0 = n) (hh : argHead a.a0 = some h) (hu : unclaimed s [.gate h, .ctxSet n] = true) :
    exec (.territorySet w a) s = .next (actTerritorySet w 0 a (takenWith s w 0x06 a 0 [.gate h, .ctxSet n])) := by
  have hpass : checkTerritorySet w 0 a s = none := by
    rw [checkTerritorySet, argBits, h0, h3, hh, onlyBits_wholeWord, onlyBits_wholeWord]
    rfl
  have hneeds : opTerritorySet.needs 0 a (taken s w 0x06 a 0) = [.gate h, .ctxSet n] := by
    show (argHead a.a0).toList.map Resource.gate ++ [Resource.ctxSet (argCtx a.a0)] = _
    rw [hh, hn]
    rfl
  exact congrArg Host.Outcome.next (run_passes (o := opTerritorySet) hr hpass hneeds hu hpass rfl)

end

/-- Settles O26: the extent, and the entry. -/
theorem partitionAndTerritoryAreSet : Obligations.PartitionAndTerritoryAreSet := by
  refine ⟨fun s w a n base size h hbase hsize h0 h1 h2 h3 hn hk => ?_, fun s w a n h i hr h0 h3 hn hh hi hu hk => ?_⟩
  · obtain ⟨hpb, hps, hother⟩ := withPartition_ctx (takenWith s w 0x05 a 0 [.ctxSet n]) n base size
    refine ⟨_, exec_partitionSet_passes h h0 h1 h2 h3 hbase hsize hn hk, answered_finishGen (op := 0x05) h ?_, ?_⟩
    · have hch : Changes [.memc, .fetch, .ctx] (takenWith s w 0x05 a 0 [.ctxSet n])
          (kickZero (bumpCtx n (withPartition (takenWith s w 0x05 a 0 [.ctxSet n]) n base size))) :=
        kickZero_changes (bumpCtx_changes (modCtx_changes (releaseGranules_changes .refl rfl) rfl) rfl) rfl
      simp only [hch.win_eq rfl]
      rfl
    · simp only [finishGen_ctx]
      exact ⟨hpb, hps, hother⟩
  · have hrun := exec_territorySet_passes hr h0 h3 hn hh hu
    rw [actTerritorySet_passes hn hh hi hk] at hrun
    by_cases hnone : ((argTerr a).isNone && (s.ctx[n].terr[h][i]).isNone) = true
    · have hrun' := hrun.trans (congrArg Host.Outcome.next (if_pos hnone))
      obtain ⟨hnew, hold⟩ := (Bool.and_eq_true _ _).mp hnone
      have hctx : (finish0 w .ok (takenWith s w 0x06 a 0 [.gate h, .ctxSet n])).ctx = s.ctx :=
        (finish_changes (G := [.win, .port, .evu, .pcie]) .refl rfl).ctx_eq rfl
      refine ⟨_, hrun', answered_finish s _ w 0x06 a 0 _ _ _ hr rfl, ?_⟩
      simp only [hctx, implies_true, and_true]
      rw [Option.isNone_iff_eq_none.mp hnew, Option.isNone_iff_eq_none.mp hold]
    · have hrun' := hrun.trans (congrArg Host.Outcome.next (if_neg hnone))
      refine ⟨_, hrun', answered_finishGen (op := 0x06) hr ?_, ?_⟩
      · have hch : Changes [.ctx] (takenWith s w 0x06 a 0 [.gate h, .ctxSet n])
            (bumpCtx n (setTerrs n h (terrsWith (takenWith s w 0x06 a 0 [.gate h, .ctxSet n]) n h i (argTerr a))
              (takenWith s w 0x06 a 0 [.gate h, .ctxSet n]))) := bumpCtx_changes (setTerrs_changes .refl rfl) rfl
        simp only [hch.win_eq rfl]
        rfl
      · simp only [finishGen_ctx, setTerrs_terr]
        exact ⟨terrsWith_same s n h i _, fun j hj => terrsWith_entry_other s n h _ hj,
          fun g hg => terrsWith_head_other s n h i _ hg, fun m hm => setTerrs_ctx_other _ h _ hm⟩

end Sys2Proof.Machine
end

section
/-! ATTACH, DETACH and the end of a drain (08.2, 08.4). -/
namespace Sys2Proof.Machine

/-! ## ATTACH -/

/-- The first argument word of an ATTACH. -/
def attachWord (n : CtxId) (m ga gb : Bool) : Word := BitVec.ofNat 32 n.1 ||| putB m 16 ||| putB ga 17 ||| putB gb 18

section
variable {s : State} {w : WinId} {a : Cmd} {n : CtxId} {m ga gb : Bool}

theorem attachWord_ctx : argCtx (attachWord n m ga gb) = n := by
  refine argCtx_of_fld ?_
  rw [attachWord, fld_or, fld_or, fld_or, fld_ofNat n.2 (by decide), putB_eq_put, putB_eq_put, putB_eq_put,
    fld_put_beside _ (by decide), fld_put_beside _ (by decide), fld_put_beside _ (by decide), Nat.or_zero,
        Nat.or_zero,
    Nat.or_zero]

theorem attachWord_onlyBits : onlyBits (attachWord n m ga gb) 0x7003F = true := by
  rw [attachWord, onlyBits_or, onlyBits_or, onlyBits_or, onlyBits_ctx (by decide), putB_eq_put, putB_eq_put,
      putB_eq_put,
    onlyBits_put _ (by decide), onlyBits_put _ (by decide), onlyBits_put _ (by decide)]
  rfl

theorem attachWord_bits : (attachWord n m ga gb).getLsbD 16 = m ∧ (attachWord n m ga gb).getLsbD 17 = ga ∧
    (attachWord n m ga gb).getLsbD 18 = gb := by
  have hn : n.1 < 2 ^ 6 := n.2
  simp only [attachWord, BitVec.getLsbD_or, ofNat_eq_put hn, putB_eq_put, getLsbD_put]
  cases m <;> cases ga <;> cases gb <;> exact ⟨rfl, rfl, rfl⟩

theorem attachModify_eq (h0 : a.a0 = attachWord n m ga gb) : attachModify a = m := by
  rw [attachModify, h0, attachWord_bits.1]

theorem attachRole_eq (h0 : a.a0 = attachWord n m ga gb) (h : ContHead) :
    attachRole a h = if h = 0 then ga else gb := by
  match h with
  | 0 => exact (congrArg (·.getLsbD 17) h0).trans attachWord_bits.2.1
  | 1 => exact (congrArg (·.getLsbD 18) h0).trans attachWord_bits.2.2

theorem exec_attach_acts (h : ready s w 0 = true) (h0 : a.a0 = attachWord n m ga gb) (h1 : a.a1 = 0) (h2 : a.a2 = 0)
    (h3 : a.a3 = 0) (hn : n ≠ 0) (hu : unclaimed s [.ctxSet n] = true) :
    exec (.attach w a) s = .next (actAttach w 0 a (takenWith s w 0x01 a 0 [.ctxSet n])) := by
  have hctx : argCtx a.a0 = n := h0 ▸ attachWord_ctx
  have hpass : checkAttach w 0 a s = none := by
    rw [checkAttach, argBits_first (h0 ▸ attachWord_onlyBits) h1 h2 h3, hctx]
    simp only [supervisor_zero, hn, Bool.not_true, firstFail_cons_false, Bool.or_self, decide_false]
    rfl
  exact congrArg Host.Outcome.next (run_passes (o := opAttach) h hpass (by rw [← hctx]; rfl) hu hpass rfl)

/-- The record that a new context begins with. -/
def freshCtx (n : CtxId) (s : State) : State :=
  s.modCtx n fun c => { Ctx.unattached with st := .shared, epoch := c.epoch + 1, gen := 1 }

theorem freshCtx_changes {G : List Part} {s₀ s : State} {n : CtxId} (h : Changes G s₀ s)
    (hG : Part.within [.ctx] G = true) : Changes G s₀ (freshCtx n s) := modCtx_changes h hG

theorem freshCtx_get (n : CtxId) (s : State) : (freshCtx n s).ctx[n] =
    { Ctx.unattached with st := .shared, epoch := s.ctx[n].epoch + 1, gen := 1 } := modCtx_get s n _

theorem any_conts_false {p : ContHead → Bool} (h : ∀ k, p k = false) : conts.any p = false :=
  List.any_eq_false.mpr fun k _ => Bool.not_eq_true _ ▸ h k

/-- An ATTACH without failing checks: a new context, or the roles of an attached one. -/
theorem actAttach_passes {c : CtxId} (hn : argCtx a.a0 = n) (hk : attachState s n a = none) :
    ∃ u, actAttach w c a s = finishGen w (u.ctx[n].gen.setWidth 32) (u.ctx[n].epoch.setWidth 32) u ∧
      u = if attachModify a then
          (if conts.any fun h => granting s n a h || clearing s n a h then bumpCtx n (setRoles n a s) else setRoles n
              a s)
        else rebind (fnWin n) (resetQueue (layerQueue n 0) (resetQueue (layerQueue n 1) (setRoles n a
          (freshCtx n s)))) := by
  refine ⟨_, ?_, rfl⟩
  simp only [actAttach, hn, hk, freshCtx]

theorem setRoles_ctx (s : State) (n : CtxId) (a : Cmd) :
    (setRoles n a s).ctx[n] = { s.ctx[n] with guardA := attachRole a 0, guardB := attachRole a 1 } ∧
      ∀ k : CtxId, k ≠ n → (setRoles n a s).ctx[k] = s.ctx[k] := by
  have hloop : ∀ t, Changes [.prot] s t → t.ctx = s.ctx := fun t h => h.ctx_eq rfl
  constructor
  · refine (modCtx_get _ n _).trans ?_
    simp only [hloop _ (.forEach .refl fun _ _ h => .ite (modProt_changes h rfl) h)]
  · intro k hk
    refine (modCtx_get_other hk).trans ?_
    simp only [hloop _ (.forEach .refl fun _ _ h => .ite (modProt_changes h rfl) h)]

/-- The window of a function that no context is attached to is not one of CTX_0. -/
theorem fnWin_ne_of_ready (h : ready s w 0 = true) (hn : n ≠ 0) : w ≠ fnWin n := by
  rintro rfl
  obtain ⟨-, -, hc, -⟩ := (ready_iff s _ 0).mp h
  have hpath : winCtx s (fnWin n) = guardSome (vfExists s n && attached s n) n := by
    have hlt : ¬(fnWin n).1 < 4 := by simp [fnWin]
    have hf : (⟨(fnWin n).1 - 4, by have := (fnWin n).2; omega⟩ : FnId) = n := Fin.ext (by simp [fnWin])
    unfold winCtx winPath
    rw [dif_neg hlt, hf]
    exact if_neg hn
  rw [hpath, guardSome_eq_some_iff] at hc
  exact hn hc.2.symm

end

/-- ATTACH of an unattached context without roles. -/
theorem exec_attach_new {s : State} {w : WinId} {a : Cmd} {n : CtxId} (h : ready s w 0 = true) (hn : n ≠ 0)
    (hu : unclaimed s [.ctxSet n] = true) (h1 : a.a1 = 0) (h2 : a.a2 = 0) (h3 : a.a3 = 0)
        (h0 : a.a0 = BitVec.ofNat 32 n.1)
    (hst : s.ctx[n].st = .unattached) (hA : s.ctx[n].guardA = false) (hB : s.ctx[n].guardB = false) :
    ∃ t, exec (.attach w a) s = .next t ∧ answered s t w a.tag .ok 1 ((s.ctx[n].epoch + 1).setWidth 32) ∧
      t.ctx[n].st = .shared ∧ t.ctx[n].epoch = s.ctx[n].epoch + 1 ∧ t.ctx[n].gen = 1 ∧ t.ctx[n].partSize = 0 ∧
      ∀ m : CtxId, m ≠ n → t.ctx[m] = s.ctx[m] := by
  have h0' : a.a0 = attachWord n false false false := by
    rw [h0, attachWord]
    simp [putB]
  have hguards : ∀ k, guards s n k = false := fun k => by
    unfold guards
    split
    · exact hA
    · exact hB
  have hroles : ∀ k, attachRole a k = false := fun k => by rw [attachRole_eq h0', ite_self]
  have hatt : attached s n = false := by rw [attached, hst]; rfl
  have hdet : decide (s.ctx[n].st = .detaching) = false := by rw [hst]; rfl
  have hgrant : ∀ k, granting s n a k = false := fun k => by rw [granting, hroles]; rfl
  have hclear : ∀ k, clearing s n a k = false := fun k => by rw [clearing, hguards, Bool.and_false]
  let b := takenWith s w 0x01 a 0 [.ctxSet n]
  have hk : attachState b n a = none := by
    show attachState s n a = none
    have hmod : decide (attachModify a ≠ attached s n) = false := by rw [attachModify_eq h0', hatt]; rfl
    simp only [attachState, hdet, hmod, hgrant, hclear, Bool.false_and, any_conts_false fun _ => rfl,
        firstFail_cons_false]
    rfl
  obtain ⟨u, hact, hueq⟩ := actAttach_passes (w := w) (c := 0) (h0' ▸ attachWord_ctx : argCtx a.a0 = n) hk
  rw [attachModify_eq h0', if_neg (by decide)] at hueq
  have hctx : u.ctx = (setRoles n a (freshCtx n b)).ctx := by
    rw [hueq]
    exact (rebind_changes (G := [.win, .fetch]) (resetQueue_changes (resetQueue_changes .refl rfl) rfl) rfl).ctx_eq
        rfl
  obtain ⟨hsame, hother⟩ := setRoles_ctx (freshCtx n b) n a
  have hn' : u.ctx[n] = { ({ Ctx.unattached with st := .shared, epoch := s.ctx[n].epoch + 1, gen := 1 } : Ctx) with
      guardA := attachRole a 0, guardB := attachRole a 1 } := by
    simp only [hctx]
    rw [hsame, freshCtx_get]
    rfl
  have hwin : u.win[w] = (taken s w 0x01 a 0).win[w] := by
    have hr : u.win[w] =
        (resetQueue (layerQueue n 0) (resetQueue (layerQueue n 1) (setRoles n a (freshCtx n b)))).win[w] := by
      rw [hueq]
      exact State.modWin_other _ _ _ _ (fnWin_ne_of_ready h hn)
    rw [hr]
    have hch : Changes [.fetch, .ctx, .prot] b
        (resetQueue (layerQueue n 0) (resetQueue (layerQueue n 1) (setRoles n a (freshCtx n b)))) :=
      resetQueue_changes (resetQueue_changes (setRoles_changes (freshCtx_changes .refl rfl) rfl) rfl) rfl
    simp only [hch.win_eq rfl]
    rfl
  have hrun := exec_attach_acts h h0' h1 h2 h3 hn hu
  rw [hact] at hrun
  refine ⟨_, hrun, ?_, ?_⟩
  · have hans := answered_finishGen (op := 0x01) (q0 := u.ctx[n].gen.setWidth 32) (q1 := u.ctx[n].epoch.setWidth 32) h
        hwin
    rw [hn'] at hans ⊢
    exact hans
  · simp only [finishGen_ctx]
    rw [hn']
    refine ⟨rfl, rfl, rfl, rfl, fun m hm => ?_⟩
    simp only [hctx]
    exact (hother m hm).trans (modCtx_get_other hm)

/-- ATTACH with MODIFY: exactly the roles asked for. -/
theorem exec_attach_modify {s : State} {w : WinId} {a : Cmd} {n : CtxId} {ga gb : Bool} (h : ready s w 0 = true)
    (hn : n ≠ 0)
    (hu : unclaimed s [.ctxSet n] = true) (h1 : a.a1 = 0) (h2 : a.a2 = 0) (h3 : a.a3 = 0)
    (h0 : a.a0 = attachWord n true ga gb) (hatt : attached s n = true)
    (hfree : ∀ m : CtxId, m ≠ n → s.ctx[m].guardA = false ∧ s.ctx[m].guardB = false) (hlock : anyLocked s = false)
    (ho0 : s.prot[0].orphaned = false) (ho1 : s.prot[1].orphaned = false) :
    ∃ t, exec (.attach w a) s = .next t ∧ t.ctx[n].guardA = ga ∧ t.ctx[n].guardB = gb ∧ t.ctx[n].st = s.ctx[n].st ∧
      t.ctx[n].epoch = s.ctx[n].epoch ∧ t.win[w].exec = none := by
  let b := takenWith s w 0x01 a 0 [.ctxSet n]
  have hguard : ∀ k m, granting s n a k = true → guards s m k = false := by
    intro k m hg
    by_cases hm : m = n
    · subst hm
      simpa using ((Bool.and_eq_true _ _).mp hg).2
    · obtain ⟨hA, hB⟩ := hfree m hm
      unfold guards
      split
      · exact hA
      · exact hB
  have horphan : ∀ k : ContHead, s.prot[k].orphaned = false := fun k => by
    match k with
    | 0 => exact ho0
    | 1 => exact ho1
  have hprot : ∀ k, protLocked s k = false := fun k => by
    have := (List.any_eq_false.mp hlock) k (mem_conts k)
    simpa using this
  have hdet : decide (s.ctx[n].st = .detaching) = false := by
    rw [attached, Bool.or_eq_true, decide_eq_true_eq, decide_eq_true_eq] at hatt
    rcases hatt with h | h <;> rw [h] <;> rfl
  have hk : attachState b n a = none := by
    show attachState s n a = none
    have hmod : decide (attachModify a ≠ attached s n) = false := by rw [attachModify_eq h0, hatt]; rfl
    have hrole : (conts.any fun k => granting s n a k && ctxs.any fun m => guards s m k) = false := by
      refine List.any_eq_false.mpr fun k _ => ?_
      rw [Bool.and_eq_true]
      rintro ⟨hg, hm⟩
      obtain ⟨m, -, hm⟩ := List.any_eq_true.mp hm
      rw [hguard k m hg] at hm
      cases hm
    simp only [attachState, hdet, hmod, hrole, horphan, hprot, Bool.and_false, Bool.false_and, any_conts_false
        fun _ => rfl,
      firstFail_cons_false]
    rfl
  obtain ⟨u, hact, hueq⟩ := actAttach_passes (w := w) (c := 0) (h0 ▸ attachWord_ctx : argCtx a.a0 = n) hk
  rw [attachModify_eq h0, if_pos rfl] at hueq
  obtain ⟨hsame, -⟩ := setRoles_ctx b n a
  have hrec : u.ctx[n].guardA = ga ∧ u.ctx[n].guardB = gb ∧ u.ctx[n].st = s.ctx[n].st ∧ u.ctx[n].epoch =
      s.ctx[n].epoch := by
    have hroles : (setRoles n a b).ctx[n] = { s.ctx[n] with guardA := ga, guardB := gb } := by
      rw [hsame, attachRole_eq h0, attachRole_eq h0]
      rfl
    rw [hueq]
    split
    · have hb : (bumpCtx n (setRoles n a b)).ctx[n] =
          { (setRoles n a b).ctx[n] with gen := (setRoles n a b).ctx[n].gen + 1 } := modCtx_get _ n _
      rw [hb, hroles]
      exact ⟨rfl, rfl, rfl, rfl⟩
    · rw [hroles]
      exact ⟨rfl, rfl, rfl, rfl⟩
  have hwin : u.win[w] = (taken s w 0x01 a 0).win[w] := by
    have hch : Changes [.ctx, .prot] b u := by
      rw [hueq]
      exact .ite (bumpCtx_changes (setRoles_changes .refl rfl) rfl) (setRoles_changes .refl rfl)
    simp only [hch.win_eq rfl]
    rfl
  have hrun := exec_attach_acts h h0 h1 h2 h3 hn hu
  rw [hact] at hrun
  obtain ⟨hexec, -⟩ := answered_finishGen (op := 0x01) (q0 := u.ctx[n].gen.setWidth 32)
      (q1 := u.ctx[n].epoch.setWidth 32) h hwin
  obtain ⟨hga, hgb, hst, hep⟩ := hrec
  refine ⟨_, hrun, ?_⟩
  simp only [finishGen_ctx]
  exact ⟨hga, hgb, hst, hep, hexec⟩

end Sys2Proof.Machine
end

section
/-! DETACH and the end of its drain (08.4). -/
namespace Sys2Proof.Machine

/-- What every pass of a loop keeps, the loop keeps. -/
theorem forEach_keeps_mem {α : Type} {P : State → Prop} {f : α → State → State} {l : List α}
    (hf : ∀ a ∈ l, ∀ t, P t → P (f a t)) {s : State} (h : P s) : P (forEach l f s) := by
  induction l generalizing s with
  | nil => exact h
  | cons a l ih =>
    exact ih (fun b hb => hf b (List.mem_cons_of_mem _ hb)) (hf a List.mem_cons_self s h)

/-! ## A command that ends before its time leaves the other windows -/

/-- The window holds no command that waits for a staging buffer. -/
def NotStaging (w : WinId) (s : State) : Prop := ∀ e, s.win[w].exec = some e → e.phase ≠ .maqStage

theorem oldestWaiter_waits {s : State} {v : WinId} {n : Nat} {g : Option (WinId × Nat) → WinId × Nat → Option
    (WinId × Nat)}
    (hg : ∀ b y, g b y = some y ∨ g b y = b)
    (h : (wins.filterMap fun v => (s.win[v].exec).bind fun e => guardSome (e.phase = .maqStage) (v, e.since)).foldl g
        none =
      some (v, n)) : ∃ e, s.win[v].exec = some e ∧ e.phase = .maqStage := by
  have hmem := (foldl_choice hg _ h).resolve_right (by simp)
  obtain ⟨x, -, hx⟩ := List.mem_filterMap.mp hmem
  obtain ⟨e, he, hxe⟩ := Option.bind_eq_some_iff.mp hx
  obtain ⟨hp, heq⟩ := (guardSome_eq_some_iff _ _ _).mp hxe
  cases heq
  exact ⟨e, he, of_decide_eq_true hp⟩

/-- A freed staging buffer goes to a command that waits for one. -/
theorem unstage_win {w v : WinId} {s : State} (h : NotStaging w s) : (unstage v s).win[w] = s.win[w] := by
  unfold unstage
  dsimp only
  split
  · rfl
  · rename_i x n hold
    have hne : w ≠ x := by
      rintro rfl
      split at hold
      · cases hold
      · obtain ⟨e, he, hp⟩ := oldestWaiter_waits (fun b y => by
          cases b with
          | none => exact .inl rfl
          | some z =>
            dsimp only
            split
            · exact .inl rfl
            · exact .inr rfl) hold
        exact h e he hp
    exact State.modWin_other _ _ _ _ hne

theorem abortExec_win {w v : WinId} {s : State} (hv : w ≠ v) (h : NotStaging w s) :
    (abortExec v s).win[w] = s.win[w] := by
  have hfin {c : Code} {q : Word} {u : State} (hu : u.win = s.win) : (finish v c q 0 u).win[w] = s.win[w] :=
    (finish_win_other u v w c q 0 hv).trans (congrArg (·[w]) hu)
  have hunstage {e : Exec} : (unstage v (finish0 v .aborted (cutWriting v e s))).win[w] = s.win[w] := by
    have hwin : (finish0 v .aborted (cutWriting v e s)).win[w] = s.win[w] := hfin
      ((cutWriting_changes (G := [.mem, .memc, .evu, .pcie, .faults, .fetch, .relief, .free]) .refl rfl).win_eq rfl)
    refine (unstage_win fun x hx => ?_).trans hwin
    rw [hwin] at hx
    exact h x hx
  unfold abortExec
  split
  · rfl
  · split
    · unfold copyStop
      split
      · exact hfin ((endCopy_changes (G := [.pcie, .fetch]) .refl rfl).win_eq rfl)
      · rfl
    · exact hunstage
    · exact hunstage
    · exact hunstage
    · exact hfin ((cancelLock_changes (G := [.prot]) .refl rfl).win_eq rfl)
    · exact hfin ((cancelLock_changes (G := [.prot]) .refl rfl).win_eq rfl)
    · exact hfin (Changes.win_eq (G := [.evu, .pcie, .fetch, .cal]) (.ite (stopCal_changes .refl rfl) .refl) rfl)
    · exact hfin rfl

theorem abortExecs_win {w : WinId} {l : List WinId} {s : State} (hl : w ∉ l) (h : NotStaging w s) :
    (forEach l abortExec s).win[w] = s.win[w] :=
  forEach_keeps_mem (P := fun t => t.win[w] = s.win[w]) (fun v hv t ht => by
    have hne : w ≠ v := fun e => hl (e ▸ hv)
    exact (abortExec_win hne fun e he => h e (by rwa [ht] at he)).trans ht) rfl

theorem rebinds_win {w : WinId} {l : List WinId} {s : State} (hl : w ∉ l) : (forEach l rebind s).win[w] = s.win[w] :=
  forEach_keeps_mem (P := fun t => t.win[w] = s.win[w]) (fun v hv t ht =>
    have hne : w ≠ v := fun e => hl (e ▸ hv)
    (State.modWin_other t v _ w hne).trans ht) rfl

/-! ## DETACH -/

section
variable {s : State} {w : WinId} {n : CtxId}

/-- Steps 1 to 3 of a DETACH on the port: the commands that execute end, the bindings go. -/
def unbound (n : CtxId) (keep : Option WinId) (s : State) : State :=
  let t := forEach (boundWins s n) rebind (forEach ((execWins s n).filter fun w => some w ≠ keep) abortExec
    (s.modCtx n fun c => { c with st := .detaching, epoch := c.epoch + 1, detachBy := keep, doorIn := 0 }))
  { t with port := { t.port with
    csBound := t.port.csBound.map fun b => if b = some n then none else b
    doorQueue := t.port.doorQueue.filter fun e => e.1 ≠ n } }

/-- The commits of the context are dropped. -/
def uncommitted (n : CtxId) (s : State) : State := { s with commits := s.commits.filter fun p => p.ctx ≠ n }

/-- The monitors of the context are unbound. -/
def unmonitored (n : CtxId) (s : State) : State :=
  { s with mon := s.mon.map fun m => if m.bound = some n then Monitor.reset else m }

/-- The rest of the first cycle: the commits, the layers, the events, the timers and the monitors. -/
theorem beginDetach_eq (n : CtxId) (keep : Option WinId) (s : State) :
    ∃ u, Changes [.pcie] (unbound n keep s) u ∧
      ∃ v, Changes [.fetch, .comp, .relief, .evu, .pcie, .timer] (uncommitted n u) v ∧ beginDetach n keep s =
          unmonitored n v := by
  refine ⟨_, modFn_changes (n := n) (f := fun f => { f with msixEnable := false }) .refl rfl, _, ?_, rfl⟩
  refine .forEach ?_ fun _ _ h => .ite (setTimerOwner_changes h rfl) h
  exact dropSources_changes (stopServing_changes (hideLayers_changes (hideLayers_changes .refl rfl) rfl) rfl) rfl

theorem unbound_ctx (n : CtxId) (keep : Option WinId) (s : State) :
    (unbound n keep s).ctx[n].st = .detaching ∧ (unbound n keep s).ctx[n].epoch = s.ctx[n].epoch + 1 := by
  have hch : Changes [.mem, .memc, .win, .port, .evu, .pcie, .faults, .fetch, .relief, .prot, .cal, .free]
      (s.modCtx n fun c => { c with st := .detaching, epoch := c.epoch + 1, detachBy := keep, doorIn := 0 })
      (unbound n keep s) :=
    .set_port (.forEach (.forEach .refl fun _ _ h => abortExec_changes h rfl) fun _ _ h => rebind_changes h rfl) rfl
  have hn := modCtx_get s n fun c => { c with st := .detaching, epoch := c.epoch + 1, detachBy := keep, doorIn := 0 }
  simp only [hch.ctx_eq rfl]
  exact ⟨congrArg Ctx.st hn, congrArg Ctx.epoch hn⟩

theorem unbound_csBound (n : CtxId) (keep : Option WinId) (s : State) (k : Fin 3) :
    (unbound n keep s).port.csBound[k] ≠ some n := by
  intro h
  have hmap : (unbound n keep s).port.csBound[k] = _ := Vector.getElem_map _ k.2
  rw [hmap] at h
  split at h
  · cases h
  · contradiction

/-- A window that is not bound to the context, and holds no MAQUETTE that waits, is as before. -/
theorem unbound_win (hb : winCtx s w ≠ some n) (hs : NotStaging w s) : (unbound n (some w) s).win[w] = s.win[w] := by
  have hbound : w ∉ boundWins s n := fun h => hb (of_decide_eq_true (List.mem_filter.mp h).2)
  have hexec : w ∉ (execWins s n).filter fun v => some v ≠ some w := fun h => by
    simpa using (List.mem_filter.mp h).2
  exact (rebinds_win hbound).trans (abortExecs_win hexec hs)

theorem unmonitored_bound (n : CtxId) (s : State) (m : MonId) : (unmonitored n s).mon[m].bound ≠ some n := by
  have hmap : (unmonitored n s).mon[m] = if s.mon[m].bound = some n then Monitor.reset else s.mon[m] :=
    Vector.getElem_map _ m.2
  rw [hmap]
  split
  · exact fun h => by cases h
  · assumption

theorem detach_bits (n : CtxId) : onlyBits (BitVec.ofNat 32 n.1) 0x3F = true := onlyBits_ctx (by decide)

theorem namedState_attached {s : State} {n : CtxId} (h : attached s n = true) : firstFail (namedState s n) = none :=
    by
  rw [attached, Bool.or_eq_true, decide_eq_true_eq, decide_eq_true_eq] at h
  rcases h with hst | hst
  · rw [namedState, hst]
    rfl
  · rw [namedState, hst]
    rfl

theorem exec_detach_acts {a : Cmd} (h : ready s w 0 = true) (h0 : a.a0 = BitVec.ofNat 32 n.1) (h1 : a.a1 = 0)
    (h2 : a.a2 = 0) (h3 : a.a3 = 0) (hn : n ≠ 0) (hatt : attached s n = true)
    (hu : unclaimed s [.gate 0, .gate 1, .gate 2, .ctxSet n] = true) :
    exec (.detach w a) s = .next (setPhase w .drain
      (beginDetach n (some w) (takenWith s w 0x02 a 0 [.gate 0, .gate 1, .gate 2, .ctxSet n]))) := by
  have hctx : argCtx a.a0 = n := h0 ▸ argCtx_ofNat n
  have hpass : checkDetach w 0 a s = none := by
    rw [checkDetach, argBits_first (h0 ▸ detach_bits n) h1 h2 h3, hctx]
    simp only [hn, decide_false]
    rfl
  have hnamed : firstFail (namedState (takenWith s w 0x02 a 0 [.gate 0, .gate 1, .gate 2, .ctxSet n]) n) = none :=
    namedState_attached hatt
  have hrun : exec (.detach w a) s = .next (actDetach w 0 a (takenWith s w 0x02 a 0
      [.gate 0, .gate 1, .gate 2, .ctxSet n])) :=
    congrArg Host.Outcome.next (run_passes (o := opDetach) h hpass (by rw [← hctx]; rfl) hu hpass rfl)
  rw [hrun]
  simp only [actDetach, hctx, hnamed]

/-- A command that goes on to another phase is underway there. -/
theorem underway_setPhase {a : Cmd} {op : Byte} {c : CtxId} {t : State} (p : Phase)
    (hw : t.win[w] = (taken s w op a c).win[w]) : underway (setPhase w p t) w op a.tag p := by
  rw [taken_win] at hw
  have hp : (setPhase w p t).win[w] = { t.win[w] with exec := t.win[w].exec.map fun e =>
      { e with phase := p, since := t.port.nextWait } } :=
    State.modWin_same { t with port := { t.port with nextWait := t.port.nextWait + 1 } } w _
  rw [hw] at hp
  exact ⟨_, congrArg Window.exec hp, rfl, rfl, rfl, rfl⟩

theorem setPhase_csBound (w : WinId) (p : Phase) (s : State) : (setPhase w p s).port.csBound = s.port.csBound := rfl

/-- What holds as the context drains. -/
theorem draining (w : WinId) (n : CtxId) (s : State) :
    (setPhase w .drain (beginDetach n (some w) s)).ctx[n].st = .detaching ∧
    (setPhase w .drain (beginDetach n (some w) s)).ctx[n].epoch = s.ctx[n].epoch + 1 ∧
    (∀ p ∈ (setPhase w .drain (beginDetach n (some w) s)).commits, p.ctx ≠ n) ∧
    (∀ k : Fin 3, (setPhase w .drain (beginDetach n (some w) s)).port.csBound[k] ≠ some n) ∧
    ∀ m : MonId, (setPhase w .drain (beginDetach n (some w) s)).mon[m].bound ≠ some n := by
  obtain ⟨u, hu, v, hv, heq⟩ := beginDetach_eq n (some w) s
  have hph : Changes [.win, .port] (beginDetach n (some w) s) (setPhase w .drain (beginDetach n (some w) s)) :=
    setPhase_changes .refl rfl
  have hctx : (setPhase w .drain (beginDetach n (some w) s)).ctx = (unbound n (some w) s).ctx := by
    rw [hph.ctx_eq rfl, heq]
    exact (hv.ctx_eq rfl).trans (hu.ctx_eq rfl)
  have hport : (beginDetach n (some w) s).port = (unbound n (some w) s).port := by
    rw [heq]
    exact (hv.port_eq rfl).trans (hu.port_eq rfl)
  have hcs := (setPhase_csBound w .drain (beginDetach n (some w) s)).trans (congrArg Port.csBound hport)
  have hmon := (hph.mon_eq rfl).trans (congrArg State.mon heq)
  obtain ⟨hst, hep⟩ := unbound_ctx n (some w) s
  refine ⟨(congrArg (·[n].st) hctx).trans hst, (congrArg (·[n].epoch) hctx).trans hep, fun p hp => ?_, fun k => ?_,
      fun m => ?_⟩
  · rw [hph.commits_eq rfl, heq] at hp
    have hp' : p ∈ v.commits := hp
    rw [hv.commits_eq rfl] at hp'
    exact of_decide_eq_true (List.mem_filter.mp hp').2
  · simp only [hcs]
    exact unbound_csBound n (some w) s k
  · simp only [hmon]
    exact unmonitored_bound n v m

theorem exec_detach_drains {a : Cmd} (h : ready s w 0 = true) (h0 : a.a0 = BitVec.ofNat 32 n.1) (h1 : a.a1 = 0)
    (h2 : a.a2 = 0) (h3 : a.a3 = 0) (hn : n ≠ 0) (hatt : attached s n = true)
    (hu : unclaimed s [.gate 0, .gate 1, .gate 2, .ctxSet n] = true) :
    ∃ t, exec (.detach w a) s = .next t ∧ underway t w 0x02 a.tag .drain ∧ t.ctx[n].st = .detaching ∧
      t.ctx[n].epoch = s.ctx[n].epoch + 1 ∧ (∀ p ∈ t.commits, p.ctx ≠ n) ∧ (∀ k : Fin 3, t.port.csBound[k] ≠ some n) ∧
      ∀ m : MonId, t.mon[m].bound ≠ some n := by
  let b := takenWith s w 0x02 a 0 [.gate 0, .gate 1, .gate 2, .ctxSet n]
  obtain ⟨-, -, hc, -⟩ := (ready_iff s w 0).mp h
  have hwin : (unbound n (some w) b).win[w] = (taken s w 0x02 a 0).win[w] := by
    refine unbound_win ?_ fun e he => ?_
    · have hcb : winCtx b w = some 0 := hc
      rw [hcb]
      exact fun e => hn (Option.some.inj e).symm
    · have hexec : b.win[w].exec = some _ := congrArg Window.exec (taken_win s w 0x02 a 0)
      rw [hexec] at he
      cases he
      exact fun hp => by cases hp
  obtain ⟨u, hu', v, hv, heq⟩ := beginDetach_eq n (some w) b
  refine ⟨_, exec_detach_acts h h0 h1 h2 h3 hn hatt hu, underway_setPhase (s := s) (c := 0) _ ?_,
    draining w n (takenWith s w 0x02 a 0 [.gate 0, .gate 1, .gate 2, .ctxSet n])⟩
  rw [heq]
  exact (congrArg (·[w]) ((hv.win_eq rfl).trans (hu'.win_eq rfl))).trans hwin

/-- The protected layers without their guardian, and the partition's granules awaiting zeroing. -/
def orphaned (n : CtxId) (s : State) : State :=
  releaseGranules s.ctx[n].partBase s.ctx[n].partSize (started (orphan n 1 (orphan n 0 s)) 0)
    (started (orphan n 1 (orphan n 0 s)) 1)
    (s.epd.cfg.isSome && slots.any fun z => (s.slot[2][z]).any fun l => l.ctx = n) (orphan n 1 (orphan n 0 s))

theorem orphaned_ctx (n : CtxId) (s : State) : (orphaned n s).ctx = s.ctx :=
  (releaseGranules_changes (G := [.memc, .prot]) (orphan_changes (orphan_changes .refl rfl) rfl) rfl).ctx_eq rfl

theorem endDetach_record (n : CtxId) (s : State) :
    Changes [.win, .port, .evu, .pcie, .fetch, .slot, .comp, .epd]
      ((orphaned n s).modCtx n fun c => { Ctx.unattached with epoch := c.epoch }) (endDetach n s) := by
  have hdrop : Changes [.win, .port, .evu, .pcie, .fetch, .slot, .comp, .epd]
      ((orphaned n s).modCtx n fun c => { Ctx.unattached with epoch := c.epoch })
      (dropStopped n 2 (dropStopped n 1 (dropStopped n 0
        ((orphaned n s).modCtx n fun c => { Ctx.unattached with epoch := c.epoch })))) :=
    dropStopped_changes (dropStopped_changes (dropStopped_changes .refl rfl) rfl) rfl
  unfold endDetach
  dsimp only
  split
  · exact .ite (finishGen_changes (kickZero_changes (.ite (composeCanvas_changes hdrop rfl) hdrop) rfl) rfl)
      (bumpDevice_changes (kickZero_changes (.ite (composeCanvas_changes hdrop rfl) hdrop) rfl) rfl)
  · exact bumpDevice_changes (kickZero_changes (.ite (composeCanvas_changes hdrop rfl) hdrop) rfl) rfl

/-- The end of a drain: the record of an unattached context, with its epoch. -/
theorem endDetach_ctx (n : CtxId) (s : State) :
    (endDetach n s).ctx[n] = { Ctx.unattached with epoch := s.ctx[n].epoch } := by
  simp only [(endDetach_record n s).ctx_eq rfl]
  refine (modCtx_get _ n _).trans ?_
  simp only [orphaned_ctx]

theorem exec_detachDrainComplete_drained (hst : s.ctx[n].st = .detaching) (hd : drained s n = true) :
    exec (.detachDrainComplete n) s = .next (endDetach n s) := by
  show execDetachDrainComplete n s = _
  simp only [execDetachDrainComplete, hst, hd, decide_true, Bool.and_self, if_true]

end

/-- Settles O24: ATTACH, DETACH, and the end of the drain. -/
theorem attachAndDetachMoveTheEpoch : Obligations.AttachAndDetachMoveTheEpoch := by
  refine ⟨fun s w a n h hn hu h1 h2 h3 => ⟨exec_attach_new h hn hu h1 h2 h3, fun ga gb h0 =>
      exec_attach_modify h hn hu h1 h2 h3 h0, fun h0 hatt hu' => exec_detach_drains h h0 h1 h2 h3 hn hatt hu'⟩,
    fun s n hst hd => ⟨_, exec_detachDrainComplete_drained hst hd, ?_⟩⟩
  rw [endDetach_ctx]
  exact ⟨rfl, rfl, rfl⟩

end Sys2Proof.Machine
end

section
/-! COMMIT, COMMIT_CHECK and SEAL up to the budget checker (12.1, 08.3). -/
namespace Sys2Proof.Machine

/-! ## What a command reads of its partition depends on memory and the contexts only -/

section
variable {s t : State} (hm : t.mem = s.mem) (hb : t.memc = s.memc) (hc : t.ctx = s.ctx)
include hc

theorem partBase_congr (n : CtxId) : partBase t n = partBase s n := by rw [partBase, partBase, hc]

theorem inPart_congr (n : CtxId) (off len : Nat) : inPart t n off len = inPart s n off len := by
  rw [inPart, inPart, partBytes, partBytes, hc]

include hm in
theorem readPart_congr (n : CtxId) (off len : Nat) : readPart t n off len = readPart s n off len := by
  rw [readPart, readPart, partBase_congr hc, State.read, State.read, hm]

include hb in
theorem badPart_congr (n : CtxId) (off len : Nat) : badPart t n off len = badPart s n off len := by
  rw [badPart, badPart, partBase_congr hc, badRange, badRange, hb]

include hm in
theorem rawList_congr (n : CtxId) (a : Cmd) : rawList t n a = rawList s n a := by
  unfold rawList
  simp only [readPart_congr hm hc]

include hm in
theorem readEntry_congr (n : CtxId) : readEntry t n = readEntry s n := by
  funext e
  unfold readEntry
  simp only [readPart_congr hm hc]

end

theorem memAvail_congr {s t : State} (hb : t.memc = s.memc) (hp : t.power = s.power) : memAvail t = memAvail s := by
  simp only [memAvail, pdOn, hb, hp]

/-- With no power transition a command needs memory only. -/
theorem cmdMem_of_idle {s : State} {w : WinId} (hp : s.power.trans = none) (hm : memAvail s = true) : cmdMem s w =
    true := by
  simp only [cmdMem, hm, hp, Option.any_none, Bool.not_false, Bool.and_self]

/-- The phase of a commit request that waits for the budget checker, with its list and descriptors as they were read.
    -/
def commitPhase (s : State) (c : CtxId) (a : Cmd) (n : Nat) (check : Bool) : Phase :=
  .budget
    { check := check, joint := false, fallback := false, listOff := woff a.a0, entries := n
      list := (rawList s c a).map (readEntry s c), boot := none }

section
variable {s : State} {w : WinId} {c : CtxId} {a : Cmd} {n : Nat}

theorem commitWord_fields (hn : n ≤ 64) (h1 : a.a1 = BitVec.ofNat 32 n) :
    fld a.a1 0 7 = n ∧ a.a1.getLsbD 16 = false ∧ onlyBits a.a1 0x1007F = true := by
  have hlt : n < 2 ^ 7 := by omega
  rw [h1]
  refine ⟨fld_ofNat hlt (by decide), ?_, ?_⟩
  · rw [ofNat_eq_put hlt, getLsbD_put]
    rfl
  · rw [ofNat_eq_put hlt]
    exact onlyBits_put _ (by decide)

/-- The checks of COMMIT and COMMIT_CHECK pass in every state with the same contexts, memory and power. -/
theorem checkCommit_passes {t : State} (hp : t.power.trans = none) (hm : memAvail t = true) (h1n : 1 ≤ n)
    (hn : n ≤ 64)
    (h0 : a.a0.toNat % 2 = 0) (h1 : a.a1 = BitVec.ofNat 32 n) (h2 : a.a2 = 0) (h3 : a.a3 = 0)
    (hin : inPart t c (woff a.a0) (8 * n) = true) : checkCommit w c a t = none := by
  obtain ⟨hf, -, hbits⟩ := commitWord_fields hn h1
  have hargs : argBits a wholeWord 0x1007F 0 0 = true := by
    rw [argBits, onlyBits_wholeWord, hbits, h2, h3, onlyBits_zero]
    rfl
  have hcount : ¬(n = 0 ∨ 64 < n) := by omega
  simp only [checkCommit, hargs, hf, hcount, h0, hin, cmdMem_of_idle hp hm, decide_false, ne_eq, not_true,
      Bool.not_true, Bool.or_self,
    firstFail_cons_false]
  rfl

/-- A list and its descriptors that pass the first checks wait for the budget checker. -/
theorem readCommit_passes (check : Bool) (hn : n ≤ 64) (h1 : a.a1 = BitVec.ofNat 32 n)
    (hbad : badPart s c (woff a.a0) (8 * n) = false) (hl : listBad (rawList s c a) = false)
    (hd : ∀ e ∈ rawList s c a, e.clear = false → inPart s c (4 * e.desc) 64 = true ∧ badPart s c (4 * e.desc) 64 =
        false ∧
      byteAt (readPart s c (4 * e.desc) 64) 6 % 16 = e.slot) :
    readCommit check w c a s = setPhase w (commitPhase s c a n check)
      (askCommit w c a ((rawList s c a).filter fun e => !e.clear) s) := by
  obtain ⟨hf, hj, -⟩ := commitWord_fields hn h1
  have hplace : ∀ e ∈ (rawList s c a).filter fun e => !e.clear, inPart s c (4 * e.desc) 64 = true ∧
      badPart s c (4 * e.desc) 64 = false ∧ byteAt (readPart s c (4 * e.desc) 64) 6 % 16 = e.slot := fun e he => by
    obtain ⟨hmem, hclear⟩ := List.mem_filter.mp he
    exact hd e hmem (by simpa using hclear)
  have hin : (((rawList s c a).filter fun e => !e.clear).any fun e => !inPart s c (4 * e.desc) 64) = false :=
    List.any_eq_false.mpr fun e he => by simp [(hplace e he).1]
  have hue : (((rawList s c a).filter fun e => !e.clear).any fun e => badPart s c (4 * e.desc) 64) = false :=
    List.any_eq_false.mpr fun e he => by simp [(hplace e he).2.1]
  have hslot : (((rawList s c a).filter fun e => !e.clear).any fun e =>
      decide (byteAt (readPart s c (4 * e.desc) 64) 6 % 16 ≠ e.slot)) = false :=
    List.any_eq_false.mpr fun e he => by simp [(hplace e he).2.2]
  simp only [readCommit, hf, hj, hbad, hl, hin, hue, hslot, Bool.false_eq_true, if_false,
    commitPhase]

/-- A COMMIT or COMMIT_CHECK whose list is read. -/
theorem commitRow_reads {op : Byte} {o : Opcode} {check : Bool} {rs : List Resource} (h : ready s w c = true)
    (hk : o.check = checkCommit) (ha : o.act = readCommit check) (hr : o.reads = fun _ _ _ _ => [])
    (hneed : o.needs c a (taken s w op a c) = rs) (hu : unclaimed s rs = true)
    (hp : s.power.trans = none) (hm : memAvail s = true) (h1n : 1 ≤ n) (hn : n ≤ 64)
    (h0 : a.a0.toNat % 2 = 0) (h1 : a.a1 = BitVec.ofNat 32 n) (h2 : a.a2 = 0) (h3 : a.a3 = 0)
    (hin : inPart s c (woff a.a0) (8 * n) = true) (hbad : badPart s c (woff a.a0) (8 * n) = false)
    (hl : listBad (rawList s c a) = false)
    (hd : ∀ e ∈ rawList s c a, e.clear = false → inPart s c (4 * e.desc) 64 = true ∧ badPart s c (4 * e.desc) 64 =
        false ∧
      byteAt (readPart s c (4 * e.desc) 64) 6 % 16 = e.slot) :
    underway (portRow w op a o.run s) w op a.tag (commitPhase s c a n check) ∧
      (portRow w op a o.run s).mem = s.mem ∧ (portRow w op a o.run s).commits = s.commits ∧
      (portRow w op a o.run s).slot = s.slot ∧ (portRow w op a o.run s).ctx = s.ctx := by
  have hpass : ∀ t : State, t.ctx = s.ctx → t.memc = s.memc → t.power = s.power → o.check w c a t = none := fun t hc
      hb hw => by
    rw [hk]
    exact checkCommit_passes (by rw [hw, hp]) ((memAvail_congr hb hw).trans hm) h1n hn h0 h1 h2 h3
        ((inPart_congr hc c _ _).trans hin)
  have hrow := run_passes h (hpass _ rfl rfl rfl) hneed hu (hpass _ rfl rfl rfl) (by rw [hr])
  generalize hb : takenWith s w op a c rs = b at hrow
  have hmem : b.mem = s.mem := by rw [← hb]; rfl
  have hmemc : b.memc = s.memc := by rw [← hb]; rfl
  have hctx : b.ctx = s.ctx := by rw [← hb]; rfl
  have hraw := rawList_congr hmem hctx c a
  have hact : o.act w c a b = setPhase w (commitPhase s c a n check)
      (askCommit w c a ((rawList s c a).filter fun e => !e.clear) b) := by
    rw [ha, readCommit_passes check hn h1 ((badPart_congr hmemc hctx c _ _).trans hbad) (by rw [hraw, hl]),
        commitPhase,
      commitPhase, hraw,
      readEntry_congr hmem hctx]
    intro e he hclear
    rw [inPart_congr hctx, badPart_congr hmemc hctx, readPart_congr hmem hctx]
    exact hd e (hraw ▸ he) hclear
  rw [hrow, hact]
  have hask : Changes [.fetch] b (askCommit w c a ((rawList s c a).filter fun e => !e.clear) b) := askCommit_changes
      .refl rfl
  have hph : Changes [.fetch, .win, .port] b (setPhase w (commitPhase s c a n check)
      (askCommit w c a ((rawList s c a).filter fun e => !e.clear) b)) := setPhase_changes (hask.mono rfl) rfl
  refine ⟨underway_setPhase (s := s) (c := c) _ ?_, (hph.mem_eq rfl).trans hmem, ?_, ?_, (hph.ctx_eq rfl).trans hctx⟩
  · refine (congrArg (·[w]) (hask.win_eq rfl)).trans ?_
    rw [← hb]
    rfl
  · rw [hph.commits_eq rfl, ← hb]
    rfl
  · rw [hph.slot_eq rfl, ← hb]
    rfl

/-- SEAL of an attached context waits for that context's slot. -/
theorem exec_seal_waits {m : CtxId} (h : ready s w c = true) (hm : m ≠ 0) (hself : c = 0 ∨ c = m)
    (h0 : a.a0 = BitVec.ofNat 32 m.1) (h1 : a.a1 = 0) (h2 : a.a2 = 0) (h3 : a.a3 = 0) (hatt : attached s m = true)
    (hu : unclaimed s [.ctxSet m] = true) :
    exec (.seal w a) s = .next (setPhase w .budgetSeal (takenWith s w 0x03 a c [.ctxSet m])) := by
  have hctx : argCtx a.a0 = m := h0 ▸ argCtx_ofNat m
  have hsel : selfOrSupervisor c m = true := by
    rw [selfOrSupervisor, Bool.or_eq_true, decide_eq_true_eq, decide_eq_true_eq]
    exact hself
  have hpass : checkSeal w c a s = none := by
    rw [checkSeal, argBits_first (h0 ▸ detach_bits m) h1 h2 h3, hctx]
    simp only [hsel, hm, decide_false]
    rfl
  have hrun : exec (.seal w a) s = .next (actSeal w c a (takenWith s w 0x03 a c [.ctxSet m])) :=
    congrArg Host.Outcome.next (run_passes (o := opSeal) h hpass (by rw [← hctx]; rfl) hu hpass rfl)
  have hnamed : firstFail (namedState (takenWith s w 0x03 a c [.ctxSet m]) m) = none := namedState_attached hatt
  rw [hrun]
  simp only [actSeal, hctx, hnamed]

end

/-- Settles O29: the three commands as far as the budget checker. -/
theorem commitIsReadThenWaitsForItsSlot : Obligations.CommitIsReadThenWaitsForItsSlot := by
  intro s w c a h
  refine ⟨fun n hp hm h1n hn h0 h1 h2 h3 hin hbad hl hd => ⟨fun hu => ?_, fun hu => ?_⟩,
    fun n hn hself h0 h1 h2 h3 hatt hu => ?_⟩
  · have hneed : opCommit.needs c a (taken s w 0x10 a c) = needsCommit c a s := by
      show needsCommit c a (taken s w 0x10 a c) = _
      unfold needsCommit
      rw [rawList_congr (s := s) (t := taken s w 0x10 a c) rfl rfl]
    exact ⟨_, rfl, commitRow_reads (o := opCommit) h rfl rfl rfl hneed hu hp hm h1n hn h0 h1 h2 h3 hin hbad hl hd⟩
  · exact ⟨_, rfl, commitRow_reads (o := opCommitCheck) h rfl rfl rfl rfl hu hp hm h1n hn h0 h1 h2 h3 hin hbad hl hd⟩
  · exact ⟨_, exec_seal_waits h hn hself h0 h1 h2 h3 hatt hu, underway_setPhase (s := s) (c := c) _ rfl, rfl, rfl,
        rfl⟩

end Sys2Proof.Machine
end

section
/-! TIMER_TICK and MONITOR_BIND (23.3, 24.1). -/
namespace Sys2Proof.Machine

/-! ## A counting step and the chain above it -/

theorem modTimer_get (s : State) (i : TimerId) (f : Timer → Timer) : (s.modTimer i f).timer[i] = f s.timer[i] :=
  State.modTimer_same s i f

theorem modTimer_get_other {s : State} {i k : TimerId} {f : Timer → Timer} (h : k ≠ i) :
    (s.modTimer i f).timer[k] = s.timer[k] := State.modTimer_other s i f k h

/-- The channel and its compare source are as before. -/
def AboveOnly (i : TimerId) (s t : State) : Prop :=
  t.timer[i] = s.timer[i] ∧ ∀ n : SourceId, n.1 = 216 + 2 * i.1 → t.evu.src[n] = s.evu.src[n]

namespace AboveOnly
variable {i : TimerId} {s t u : State}

theorem refl (i : TimerId) (s : State) : AboveOnly i s s := ⟨rfl, fun _ _ => rfl⟩

theorem trans (h : AboveOnly i s t) (k : AboveOnly i t u) : AboveOnly i s u :=
  ⟨k.1.trans h.1, fun n hn => (k.2 n hn).trans (h.2 n hn)⟩

theorem modTimer {k : TimerId} {f : Timer → Timer} (h : AboveOnly i s t) (hk : i ≠ k) : AboveOnly i s
    (t.modTimer k f) :=
  h.trans ⟨modTimer_get_other hk, fun _ _ => rfl⟩

theorem raise {b : Bool} {k : Nat} (h : AboveOnly i s t) (hk : k ≠ 216 + 2 * i.1) :
    AboveOnly i s (if b then Machine.raise k t else t) := by
  split
  · refine h.trans ⟨?_, fun n hn => raise_src_other t k n fun e => hk (e.symm.trans hn)⟩
    exact congrArg (·[i]) ((raise_changes (G := [.evu, .pcie]) .refl rfl).timer_eq rfl)
  · exact h

theorem wake {p : Prop} [Decidable p] {x : p → WakeSource} (h : AboveOnly i s t) :
    AboveOnly i s (if hp : p then wakeRequest (x hp) t else t) := by
  have hw : Changes [.power] t (if hp : p then wakeRequest (x hp) t else t) :=
    .dite (fun _ => wakeRequest_changes .refl rfl) fun _ => .refl
  refine h.trans ⟨?_, fun n _ => ?_⟩
  · simp only [hw.timer_eq rfl]
  · simp only [hw.evu_eq rfl]

end AboveOnly

/-- A channel after its counting step, with the edge of its compare source. -/
def ticked (i : TimerId) (s : State) : State :=
  if (s.timer[i].tick (effOf s i)).2.1 then raise (216 + 2 * i.1) (s.modTimer i fun _ =>
      (s.timer[i].tick (effOf s i)).1)
  else s.modTimer i fun _ => (s.timer[i].tick (effOf s i)).1

/-- The same with the edge of its wrap source and its wake request. -/
def tickedAll (i : TimerId) (s : State) : State :=
  let r := s.timer[i].tick (effOf s i)
  let t := if r.2.2 then raise (217 + 2 * i.1) (ticked i s) else ticked i s
  if h : (r.2.1 || r.2.2) ∧ 12 ≤ i.1 then wakeRequest (.timer ⟨i.1 - 12, by omega⟩) t else t

theorem timerStep_succ (n : Nat) (i : TimerId) (s : State) :
    timerStep (n + 1) i s =
      if !(s.timer[i].tick (effOf s i)).2.2 then tickedAll i s
      else match chainedAbove i with
        | none => tickedAll i s
        | some u =>
          let x := (tickedAll i s).timer[u]
          if !(x.en && x.clk = 10) then tickedAll i s
          else if x.div ≤ x.acc + 256 then
            timerStep n u ((tickedAll i s).modTimer u fun x => { x with acc := x.acc + 256 - x.div })
          else (tickedAll i s).modTimer u fun x => { x with acc := x.acc + 256 } := rfl

theorem chainedAbove_gt {i u : TimerId} (h : chainedAbove i = some u) : i.1 < u.1 := by
  unfold chainedAbove at h
  split at h
  · split at h
    · cases h
    · cases h
      exact Nat.lt_succ_self _
  · cases h

/-- The chain above a channel leaves what the channel is left as. -/
theorem timerStep_chain {i k : TimerId} {n : Nat} (hik : i.1 ≤ k.1)
    (hn : ∀ u s, i.1 < u.1 → AboveOnly i s (timerStep n u s)) (s : State) :
    AboveOnly i (tickedAll k s) (timerStep (n + 1) k s) := by
  rw [timerStep_succ]
  split
  · exact .refl _ _
  · split
    · exact .refl _ _
    · rename_i u hu
      have hlt : i.1 < u.1 := Nat.lt_of_le_of_lt hik (chainedAbove_gt hu)
      have hne : i ≠ u := fun e => Nat.lt_irrefl _ (e ▸ hlt)
      dsimp only
      split
      · exact .refl _ _
      · split
        · exact (AboveOnly.modTimer (.refl _ _) hne).trans (hn u _ hlt)
        · exact AboveOnly.modTimer (.refl _ _) hne

theorem timerStep_above {i : TimerId} (n : Nat) : ∀ (u : TimerId) (s : State), i.1 < u.1 → AboveOnly i s
    (timerStep n u s) := by
  induction n with
  | zero => exact fun _ _ _ => .refl _ _
  | succ n ih =>
    intro u s hu
    have hne : i ≠ u := fun e => Nat.lt_irrefl _ (e ▸ hu)
    have hticked : AboveOnly i s (ticked u s) := AboveOnly.raise (AboveOnly.modTimer (.refl _ _) hne) (by omega)
    have hall : AboveOnly i s (tickedAll u s) := AboveOnly.wake (AboveOnly.raise hticked (by omega))
    exact hall.trans (timerStep_chain (Nat.le_of_lt hu) ih s)

/-- A whole step of a channel: its counting step, with the edge of its compare source. -/
theorem timerStep_own (n : Nat) (i : TimerId) (s : State) : AboveOnly i (ticked i s) (timerStep (n + 1) i s) := by
  have hne : 217 + 2 * i.1 ≠ 216 + 2 * i.1 := by omega
  exact (AboveOnly.wake (AboveOnly.raise (.refl _ _) hne)).trans
    (timerStep_chain (Nat.le_refl _) (fun u s => timerStep_above n u s) s)

theorem ticked_timer (i : TimerId) (s : State) : (ticked i s).timer[i] = (s.timer[i].tick (effOf s i)).1 := by
  have hr : Changes [.evu, .pcie] (s.modTimer i fun _ => (s.timer[i].tick (effOf s i)).1) (ticked i s) :=
    .ite (raise_changes .refl rfl) .refl
  simp only [hr.timer_eq rfl]
  exact modTimer_get s i _

theorem ticked_src {i : TimerId} {s : State} {n : SourceId} (hn : n.1 = 216 + 2 * i.1) (hf : fabricOn s = true) :
    (ticked i s).evu.src[n] = if (s.timer[i].tick (effOf s i)).2.1 then s.evu.src[n].edge else s.evu.src[n] := by
  unfold ticked
  split
  · rw [← hn]
    exact raise_edged (s.modTimer i fun _ => (s.timer[i].tick (effOf s i)).1) n hf
  · rfl

/-! ## The counting step itself -/

theorem Timer.tick_up {x : Timer} {eff : Word → Word → Word} (hm : x.mode = 0) (hp : x.count ≠ x.period)
    (hmax : x.count ≠ 0xFFFFFFFF) : (x.tick eff).1.count = x.count + 1 ∧ (x.tick eff).1.en = x.en := by
  have hwrap : ¬(x.count = x.period ∨ x.count = 0xFFFFFFFF) := fun h => h.elim hp hmax
  have hstep : x.countStep =
      some { count := x.count + 1, up := true, ovf := false, unf := false, down := false, last := false } := by
    rw [Timer.countStep, hm]
    simp only [hwrap, if_false, decide_false]
    rfl
  simp only [Timer.tick, hstep, Bool.or_self, Bool.false_eq_true, if_false, and_self]

theorem Timer.tick_down {x : Timer} {eff : Word → Word → Word} (hm : x.mode = 1) (h0 : x.count ≠ 0) :
    (x.tick eff).1.count = x.count - 1 ∧ (x.tick eff).1.en = x.en := by
  have hstep : x.countStep =
      some { count := x.count - 1, up := false, ovf := false, unf := false, down := true, last := false } := by
    rw [Timer.countStep, hm]
    simp only [h0, if_false, decide_false]
    rfl
  simp only [Timer.tick, hstep, Bool.or_self, Bool.false_eq_true, if_false, and_self]

/-- The channel with its prescaler's accumulator past the divisor, at the next tick of its clock. -/
def Timer.prescaled (x : Timer) : Timer := { x with acc := x.acc + 256 * ceilDiv (x.div - x.acc) 256 - x.div }

theorem exec_timerTick_stopped {s : State} {i : TimerId} (h : (s.timer[i].en && clkRuns s i) = false) :
    exec (.timerTick i) s = .next s := by
  show execTimerTick i s = _
  simp only [execTimerTick, h, Bool.false_eq_true, if_false]

theorem exec_timerTick_runs {s : State} {i : TimerId} (h : (s.timer[i].en && clkRuns s i) = true) :
    exec (.timerTick i) s = .next (timerStep 16 i (s.modTimer i Timer.prescaled)) := by
  show execTimerTick i s = _
  simp only [execTimerTick, h, if_true]
  rfl

/-! ## MONITOR_BIND -/

theorem modMon_get (s : State) (m : MonId) (f : Monitor → Monitor) : (s.modMon m f).mon[m] = f s.mon[m] :=
  State.modMon_same s m f

theorem modMon_get_other {s : State} {m k : MonId} {f : Monitor → Monitor} (h : k ≠ m) : (s.modMon m f).mon[k] =
    s.mon[k] :=
  State.modMon_other s m f k h

section
variable {s : State} {w : WinId} {c : CtxId} {a : Cmd} {m : MonId}

theorem exec_monitorBind_acts (h : ready s w c = true) :
    exec (.monitorBind w a) s = .next (actMonitorBind w c a (takenWith s w 0x78 a c [])) :=
  congrArg Host.Outcome.next (run_passes (o := opMonitorBind) h rfl rfl rfl rfl rfl)

/-- The channel as it is bound. -/
def boundTo (c : CtxId) (probe idx : Nat) : Monitor :=
  { Monitor.reset with
    bound := some c, probe := BitVec.ofNat 8 probe, probeIndex := BitVec.ofNat 8 idx, en := true, fresh := true }

theorem actMonitorBind_eq (hm : m.1 = fld a.a0 0 5) (hargs : argBits a 0x1001F 0xFFFF 0 0 = true) :
    actMonitorBind w c a s =
      if a.a0.getLsbD 16 && a.a1 ≠ 0 then finish0 w .badArg s
      else if !a.a0.getLsbD 16 && !((probeRange (fld a.a1 0 8)).any fun n => decide (fld a.a1 8 8 < n)) then finish0 w
          .badArg s
      else if !a.a0.getLsbD 16 && !probeAllowed s c (fld a.a1 0 8) (fld a.a1 8 8) then finish0 w .denied s
      else if s.mon[m].bound.any (· ≠ c) && !(c = 0 && a.a0.getLsbD 16) then finish0 w .busy s
      else if a.a0.getLsbD 16 then
        if s.mon[m].bound.isNone then finish0 w .ok s
        else finish0 w .ok (bumpDevice (s.modMon m fun _ => Monitor.reset))
      else finish0 w .ok (bumpDevice (s.modMon m fun _ => boundTo c (fld a.a1 0 8) (fld a.a1 8 8))) := by
  have hch : (⟨fld a.a0 0 5, Nat.mod_lt _ (by decide)⟩ : MonId) = m := Fin.ext hm.symm
  simp only [actMonitorBind, hch, hargs, Bool.not_true, Bool.false_eq_true, if_false]
  rfl

/-- A binding that is turned away changes no channel. -/
theorem monitorBind_turned {code : Code} (h : ready s w c = true)
    (hact : actMonitorBind w c a (takenWith s w 0x78 a c []) = finish0 w code (takenWith s w 0x78 a c [])) :
    ∃ t, exec (.monitorBind w a) s = .next t ∧ answered s t w a.tag code 0 0 ∧ t.mon = s.mon ∧ t.mem = s.mem := by
  have hch : Changes [.win, .port, .evu, .pcie] (takenWith s w 0x78 a c [])
      (finish0 w code (takenWith s w 0x78 a c [])) :=
    finish_changes .refl rfl
  exact ⟨_, (exec_monitorBind_acts h).trans (congrArg Host.Outcome.next hact), answered_finish s _ w 0x78 a c _ _ _ h
      rfl,
    hch.mon_eq rfl, hch.mem_eq rfl⟩

/-- A binding that begins or ends gives the channel a value, and changes no other. -/
theorem monitorBind_sets {y : Monitor} (h : ready s w c = true)
    (hact : actMonitorBind w c a (takenWith s w 0x78 a c []) =
      finish0 w .ok (bumpDevice ((takenWith s w 0x78 a c []).modMon m fun _ => y))) :
    ∃ t, exec (.monitorBind w a) s = .next t ∧ answered s t w a.tag .ok 0 0 ∧ t.mem = s.mem ∧ t.mon[m] = y ∧
      ∀ k, k ≠ m → t.mon[k] = s.mon[k] := by
  have hch : Changes [.win, .port, .evu, .pcie] ((takenWith s w 0x78 a c []).modMon m fun _ => y)
      (finish0 w .ok (bumpDevice ((takenWith s w 0x78 a c []).modMon m fun _ => y))) :=
    finish_changes (bumpDevice_changes .refl rfl) rfl
  refine ⟨_, (exec_monitorBind_acts h).trans (congrArg Host.Outcome.next hact), answered_finish s _ w 0x78 a c _ _ _ h
      rfl,
    hch.mem_eq rfl, ?_, fun k hk => ?_⟩
  · exact (congrArg (·[m]) (hch.mon_eq rfl)).trans (modMon_get _ m _)
  · exact (congrArg (·[k]) (hch.mon_eq rfl)).trans (modMon_get_other hk)

end

/-- Settles O49: the counting step, and the checks of a binding in their order. -/
theorem timersCountAndMonitorsAreBound : Obligations.TimersCountAndMonitorsAreBound := by
  refine ⟨fun s i => ⟨exec_timerTick_stopped, fun hrun => ?_⟩, fun s w c a m h hm hargs => ⟨fun hub n hn hidx => ?_,
    fun hub h1 d hd hdc => ?_⟩⟩
  · have hpre : (s.modTimer i Timer.prescaled).timer[i] = s.timer[i].prescaled := modTimer_get s i _
    obtain ⟨htimer, hsrc⟩ := timerStep_own 15 i (s.modTimer i Timer.prescaled)
    have htick : (timerStep 16 i (s.modTimer i Timer.prescaled)).timer[i] =
        (s.timer[i].prescaled.tick (effOf s i)).1 := by
      rw [htimer, ticked_timer, hpre]
      rfl
    have hen : s.timer[i].prescaled.en = true := ((Bool.and_eq_true _ _).mp hrun).1
    refine ⟨_, s.timer[i].prescaled, rfl, exec_timerTick_runs hrun, htick,
      (timerStep_changes (G := [.timer, .evu, .pcie, .power]) (modTimer_changes .refl rfl) rfl).mem_eq rfl,
      fun n hn hf => ?_, fun hmode hp hmax => ?_, fun hmode h0 => ?_⟩
    · rw [hsrc n hn, ticked_src (s := s.modTimer i Timer.prescaled) hn hf, hpre]
      rfl
    · rw [htick]
      obtain ⟨hcount, hen'⟩ := Timer.tick_up (x := s.timer[i].prescaled) (eff := effOf s i) hmode hp hmax
      exact ⟨hcount, hen'.trans hen⟩
    · rw [htick]
      obtain ⟨hcount, hen'⟩ := Timer.tick_down (x := s.timer[i].prescaled) (eff := effOf s i) hmode h0
      exact ⟨hcount, hen'.trans hen⟩
  · have hact := actMonitorBind_eq (s := takenWith s w 0x78 a c []) (w := w) (c := c) hm hargs
    simp only [hub, hn, hidx, Bool.false_and, Option.any_some, decide_true, Bool.not_false, Bool.true_and,
        Bool.and_false,
      Bool.and_true, Bool.not_true, Bool.false_eq_true, if_false] at hact
    refine ⟨fun hdeny => ?_, fun hallow => ⟨fun d hd hdc => ?_, fun hfree => ?_⟩⟩
    · have hno : (!probeAllowed (takenWith s w 0x78 a c []) c (fld a.a1 0 8) (fld a.a1 8 8)) = true := by
        rw [Bool.not_eq_true']
        exact hdeny
      exact monitorBind_turned h (hact.trans (if_pos hno))
    · have hyes : ¬(!probeAllowed (takenWith s w 0x78 a c []) c (fld a.a1 0 8) (fld a.a1 8 8)) = true := by
        rw [Bool.not_eq_true', Bool.not_eq_false]
        exact hallow
      have hheld : ((takenWith s w 0x78 a c []).mon[m].bound.any (· ≠ c)) = true :=
        (congrArg (Option.any (· ≠ c)) hd).trans (decide_eq_true hdc)
      exact monitorBind_turned h (hact.trans ((if_neg hyes).trans (if_pos hheld)))
    · have hyes : ¬(!probeAllowed (takenWith s w 0x78 a c []) c (fld a.a1 0 8) (fld a.a1 8 8)) = true := by
        rw [Bool.not_eq_true', Bool.not_eq_false]
        exact hallow
      have hheld : ¬((takenWith s w 0x78 a c []).mon[m].bound.any (· ≠ c)) = true := by
        show ¬(s.mon[m].bound.any (· ≠ c)) = true
        rcases hfree with hb | hb
        · rw [hb]
          exact Bool.false_ne_true
        · rw [hb, Option.any_some, decide_eq_true_eq]
          exact fun hne => hne rfl
      exact monitorBind_sets h (hact.trans ((if_neg hyes).trans (if_neg hheld)))
  · have hact := actMonitorBind_eq (s := takenWith s w 0x78 a c []) (w := w) (c := c) hm hargs
    simp only [hub, h1, ne_eq, not_true, decide_false, Bool.and_false, Bool.false_and, Bool.not_true, Bool.and_true,
      Bool.false_eq_true, if_false, if_true] at hact
    have hown : ¬((takenWith s w 0x78 a c []).mon[m].bound.any (fun x => decide ¬x = c) && !decide (c = 0)) = true :=
        by
      show ¬(s.mon[m].bound.any (fun x => decide ¬x = c) && !decide (c = 0)) = true
      rw [hd]
      rcases hdc with rfl | rfl
      · simp
      · simp
    have hsome : ¬(takenWith s w 0x78 a c []).mon[m].bound.isNone = true := by
      show ¬s.mon[m].bound.isNone = true
      rw [hd]
      exact Bool.false_ne_true
    obtain ⟨t, ht, hans, hmem, hsame, hother⟩ :=
      monitorBind_sets h (hact.trans ((if_neg hown).trans (if_neg hsome)))
    exact ⟨t, ht, hans, hsame, hother, hmem⟩

end Sys2Proof.Machine
end

section
/-! EVT_ROUTE, EXTINT edges and the vector ports (22.2, 22.3, 22.5). -/
namespace Sys2Proof.Machine

/-! ## EVT_ROUTE -/

theorem raiseIf_false (n : Nat) (s : State) : raiseIf false n s = s := rfl

theorem raiseIf_src_other {b : Bool} {n : Nat} {s : State} {m : SourceId} (hm : m.1 ≠ n) :
    (raiseIf b n s).evu.src[m] = s.evu.src[m] := by
  cases b with
  | true => exact raise_src_other s n m hm
  | false => rfl

/-- A command's end is an event of its own context, and of no other source but that of MAQUETTE. -/
theorem finish_src {s : State} {w : WinId} {code : Code} {q0 q1 : Word} {e : Exec} {m : SourceId}
    (he : s.win[w].exec = some e) (hop : e.entry.op ≠ 0x50) (hm : m.1 ≠ e.ctx.1) :
    (finish w code q0 q1 s).evu.src[m] = s.evu.src[m] := by
  have hop' : decide (e.entry.op = 0x50) = false := decide_eq_false hop
  unfold finish
  simp only [he, hop', Bool.false_and, raiseIf_false]
  refine (raiseIf_src_other hm).trans ?_
  exact congrArg (·.src[m]) ((releaseHolder_changes (G := [.win, .port]) (modWin_changes .refl rfl) rfl).evu_eq rfl)

/-- The source that a route leaves: a new owner finds it as at reset, with the priority and the mask asked. -/
def Source.routed (x : Source) (c : CtxId) (prio mask : BitVec 4) : Source :=
  { (if x.owner = c then x else x.moveTo c) with prio := prio, mask := mask }

section
variable {x : Source} {c : CtxId} {prio mask : BitVec 4}

theorem Source.routed_owner : (x.routed c prio mask).owner = c := by
  unfold Source.routed
  split
  · assumption
  · rfl

theorem Source.routed_moved (h : x.owner ≠ c) :
    (x.routed c prio mask).pending = false ∧ (x.routed c prio mask).enable = false ∧
      (x.routed c prio mask).merge = 0 ∧ (x.routed c prio mask).service = 0 := by
  unfold Source.routed
  rw [if_neg h]
  exact ⟨rfl, rfl, rfl, rfl⟩

theorem Source.routed_kept (h : x.owner = c) : x.routed c prio mask = { x with prio := prio, mask := mask } := by
  unfold Source.routed
  rw [if_pos h]

end

theorem routeSource_evu (n : SourceId) (c : CtxId) (prio mask : BitVec 4) (s : State) :
    (routeSource n c prio mask s).evu = (s.modSrc n fun x => x.routed c prio mask).evu := by
  unfold routeSource
  exact aroundCtx_evu _ _ _

theorem modSrc_get (s : State) (n : SourceId) (f : Source → Source) : (s.modSrc n f).evu.src[n] = f s.evu.src[n] :=
  State.modSrc_same s n f

theorem modSrc_get_other {s : State} {n m : SourceId} {f : Source → Source} (h : m ≠ n) :
    (s.modSrc n f).evu.src[m] = s.evu.src[m] := State.modSrc_other s n f m h

section
variable {s : State} {w : WinId} {a : Cmd} {n : SourceId}

theorem exec_evtRoute_routes (h : ready s w 0 = true) (hn : n.1 = fld a.a0 0 9)
    (hk : checkEvtRoute w 0 a (taken s w 0x70 a 0) = none) :
    exec (.evtRoute w a) s = .next (finishGen w 0 0
      (routeSource n (argCtx a.a1) (a.a1.extractLsb' 16 4) (a.a1.extractLsb' 8 4) (takenWith s w 0x70 a 0 []))) := by
  have hlt : fld a.a0 0 9 < 288 := hn ▸ n.2
  have hsrc : (⟨fld a.a0 0 9, hlt⟩ : SourceId) = n := Fin.ext hn.symm
  refine congrArg Host.Outcome.next ((run_passes (o := opEvtRoute) h hk rfl rfl hk rfl).trans ?_)
  show actEvtRoute w 0 a (takenWith s w 0x70 a 0 []) = _
  simp only [actEvtRoute, hlt, dif_pos, hsrc]

theorem evtRoute_number (hk : checkEvtRoute w 0 a s = none) : 128 ≤ fld a.a0 0 9 := by
  by_contra hlt
  have hbad : decide (fld a.a0 0 9 < 128 ∨ 287 < fld a.a0 0 9) = true := decide_eq_true (.inl (Nat.lt_of_not_le hlt))
  simp only [checkEvtRoute, hbad] at hk
  cases h : (!argBits a 0x1FF 0xF0F3F 0 0) with
  | true =>
    rw [h] at hk
    cases hk
  | false =>
    rw [h] at hk
    cases hk

theorem source_ne_zero (hn : n.1 = fld a.a0 0 9) (h : 128 ≤ fld a.a0 0 9) : n ≠ 0 := fun e => by
  rw [e] at hn
  exact absurd (hn ▸ h) (by decide)

theorem evtRoute_ne_maquette : (0x70 : BitVec 8) ≠ 0x50 := by decide

theorem finishGen_src {u : State} {m : SourceId} (hu : u.win[w] = (taken s w 0x70 a 0).win[w]) (hm : m ≠ 0) :
    (finishGen w 0 0 u).evu.src[m] = u.evu.src[m] := by
  rw [taken_win] at hu
  exact finish_src (s := bumpDevice u) (congrArg Window.exec hu) evtRoute_ne_maquette fun e => hm (Fin.ext e)

/-- What EVT_ROUTE leaves, in the words of the obligation. -/
theorem exec_evtRoute_result (h : ready s w 0 = true) (hn : n.1 = fld a.a0 0 9)
    (hk : checkEvtRoute w 0 a (taken s w 0x70 a 0) = none) :
    ∃ t, exec (.evtRoute w a) s = .next t ∧ answered s t w a.tag .ok 0 0 ∧ t.mem = s.mem ∧
      t.evu.src[n].owner = argCtx a.a1 ∧ t.evu.src[n].prio = a.a1.extractLsb' 16 4 ∧
      t.evu.src[n].mask = a.a1.extractLsb' 8 4 ∧
      (s.evu.src[n].owner ≠ argCtx a.a1 → t.evu.src[n].pending = false ∧ t.evu.src[n].enable = false ∧
        t.evu.src[n].merge = 0 ∧ t.evu.src[n].service = 0) ∧
      (s.evu.src[n].owner = argCtx a.a1 →
        t.evu.src[n] = { s.evu.src[n] with prio := a.a1.extractLsb' 16 4, mask := a.a1.extractLsb' 8 4 }) ∧
      ∀ m : SourceId, m ≠ n → m ≠ 0 → t.evu.src[m] = s.evu.src[m] := by
  have hn0 : n ≠ 0 := source_ne_zero hn (evtRoute_number hk)
  have hr := routeSource_evu n (argCtx a.a1) (a.a1.extractLsb' 16 4) (a.a1.extractLsb' 8 4)
      (takenWith s w 0x70 a 0 [])
  have hch := routeSource_changes (G := [.evu, .pcie]) (n := n) (c := argCtx a.a1) (prio := a.a1.extractLsb' 16 4)
    (mask := a.a1.extractLsb' 8 4) (.refl (s := takenWith s w 0x70 a 0 [])) rfl
  have hwin := congrArg (·[w]) (hch.win_eq rfl)
  have hmem := hch.mem_eq rfl
  have hx := exec_evtRoute_routes h hn hk
  generalize routeSource n _ _ _ (takenWith s w 0x70 a 0 []) = u at hr hwin hmem hx
  have hfin : ∀ m : SourceId, m ≠ 0 → (finishGen w 0 0 u).evu.src[m] = u.evu.src[m] := fun m hm =>
    finishGen_src (s := s) (a := a) hwin hm
  have hsame : u.evu.src[n] = s.evu.src[n].routed (argCtx a.a1) (a.a1.extractLsb' 16 4) (a.a1.extractLsb' 8 4) := by
    rw [hr]
    exact modSrc_get (takenWith s w 0x70 a 0 []) n _
  refine ⟨_, hx, answered_finishGen h hwin, ?_, ?_⟩
  · exact ((finishGen_changes (G := [.win, .port, .evu, .pcie]) .refl rfl).mem_eq rfl).trans hmem
  · rw [hfin n hn0, hsame]
    refine ⟨Source.routed_owner, rfl, rfl, Source.routed_moved, Source.routed_kept, fun m hm h0 => ?_⟩
    rw [hfin m h0, hr]
    exact modSrc_get_other (s := takenWith s w 0x70 a 0 []) hm

end

/-! ## EXTINT edges -/

theorem exec_extintEdge_free {s : State} {p : PinId} {n : SourceId} (hp : pinDriven s p = false)
    (hn : n.1 = 248 + p.1) :
    exec (.extintEdge p) s = .next (wakeRequest (.extint p) (raise n.1 s)) := by
  show execExtintEdge p s = _
  simp only [execExtintEdge, hp, hn, Bool.false_eq_true, if_false]

theorem wakeRequest_evu (x : WakeSource) (s : State) : (wakeRequest x s).evu = s.evu :=
  (wakeRequest_changes (G := [.power]) .refl rfl).evu_eq rfl

/-! ## Samples leave the vector ports, and a source's service -/

/-- The vector ports, VEC and the service bits of the sources are as before. -/
def PortsSame (s t : State) : Prop :=
  t.evu.port = s.evu.port ∧ ∀ n : SourceId, t.evu.src[n].service = s.evu.src[n].service

theorem PortsSame.refl (s : State) : PortsSame s s := ⟨rfl, fun _ => rfl⟩

theorem PortsSame.trans {s t u : State} (h : PortsSame s t) (k : PortsSame t u) : PortsSame s u :=
  ⟨k.1.trans h.1, fun n => (k.2 n).trans (h.2 n)⟩

theorem Source.edge_service (x : Source) : x.edge.service = x.service := by
  unfold Source.edge
  split <;> rfl

theorem raise_portsSame (k : Nat) (s : State) : PortsSame s (raise k s) := by
  refine ⟨(raise_evu s k).2.1, fun n => ?_⟩
  by_cases hk : n.1 = k
  · subst hk
    unfold raise
    rw [dif_pos n.2]
    split
    · exact (congrArg Source.service (withSrc_src_same s n _)).trans (Source.edge_service _)
    · split
      · exact (congrArg Source.service (modSrc_get s n Source.latch)).trans rfl
      · rfl
  · rw [raise_src_other s k n hk]

theorem foldl_raise_portsSame (k : Nat) (l : List Nat) (s : State) :
    PortsSame s (l.foldl (fun s _ => raise k s) s) := by
  induction l generalizing s with
  | nil => exact .refl s
  | cons x l ih => exact (raise_portsSame k s).trans (ih _)

theorem sampleOne_portsSame (c : MonId) (v : Word) (s : State) : PortsSame s (sampleOne c v s) := by
  unfold sampleOne
  dsimp only
  split
  · exact .refl s
  · split
    · exact .refl s
    · exact PortsSame.trans (t := s.modMon c fun _ => _) ⟨rfl, fun _ => rfl⟩ (foldl_raise_portsSame _ _ _)

theorem sample_portsSame (probe idx v : Nat) (s : State) : PortsSame s (sample probe idx v s) := by
  refine forEach_keeps (P := PortsSame s) (fun c t ht => ?_) _ (.refl s)
  dsimp only
  split
  · exact ht.trans (sampleOne_portsSame _ _ _)
  · exact ht

/-- With no monitor bound a sample is taken by nobody. -/
theorem sample_unbound {s : State} (h : ∀ m : MonId, s.mon[m].bound = none) (probe idx v : Nat) : sample probe idx v s
    = s := by
  refine forEach_keeps (P := fun t => t = s) (fun c t ht => ?_) _ rfl
  subst ht
  dsimp only
  rw [h c]
  rfl

/-! ## Acknowledges -/

/-- The offer of a port, claimed, with the sample of the time that the acknowledge has taken. -/
def claimed (p : PortId) (n : SourceId) (s : State) : State :=
  sample 0x20 p.1 (Config.latency s.free).toNat (bumpFree (claim n p.1 s))

section
variable {s : State} {p : PortId} {n : SourceId}

theorem claim_src (n : SourceId) (p : Nat) (s : State) : (claim n p s).evu.src[n] =
    { s.evu.src[n].withdraw with service := s.evu.src[n].service ||| (1#5 <<< p) } := withSrc_src_same s n _

theorem claim_port (n : SourceId) (p : Nat) (s : State) : (bumpFree (claim n p s)).evu.port = s.evu.port := by
  show (claim n p s).evu.port = _
  unfold claim
  rw [withSrc_evu]

theorem claimed_portsSame : PortsSame (bumpFree (claim n p.1 s)) (claimed p n s) := by
  unfold claimed
  exact sample_portsSame _ _ _ _

theorem claimed_port : (claimed p n s).evu.port = s.evu.port :=
  claimed_portsSame.1.trans (claim_port n p.1 s)

theorem portBit_set : ∀ p : PortId, (1#5 <<< p.1).getLsbD p.1 = true := by decide

theorem claimed_service : inService (claimed p n s) n p.1 = true := by
  have hs : (claimed p n s).evu.src[n].service = (claim n p.1 s).evu.src[n].service :=
    claimed_portsSame.2 n
  rw [inService, hs, claim_src]
  show (s.evu.src[n].service ||| (1#5 <<< p.1)).getLsbD p.1 = true
  rw [BitVec.getLsbD_or]
  rw [portBit_set, Bool.or_true]

theorem claimed_withdrawn (h : ∀ m : MonId, s.mon[m].bound = none) :
    (claimed p n s).evu.src[n].pending = false ∧ (claimed p n s).evu.src[n].merge = 0 := by
  have hmon : ∀ m : MonId, (bumpFree (claim n p.1 s)).mon[m].bound = none := fun m =>
    (congrArg (·[m].bound) ((bumpFree_changes (G := [.evu, .pcie, .free]) (claim_changes .refl rfl) rfl).mon_eq
        rfl)).trans (h m)
  have hsrc : (claimed p n s).evu.src[n] = (claim n p.1 s).evu.src[n] := by
    rw [claimed, sample_unbound hmon]
    rfl
  rw [hsrc, claim_src]
  exact ⟨rfl, rfl⟩

theorem vecAddr_congr {t : State} (h : t.evu.port = s.evu.port) (q : PortId) (m : Nat) : vecAddr t q m = vecAddr s q
    m := by
  simp only [vecAddr, h]

theorem answer_offer (h : offer s p = some n) :
    answer p s = { claimed p n s with evu := { (claimed p n s).evu with vec := some (p, vecAddr s p n.1) } } := by
  have hc : sample 0x20 p.1 (Config.latency s.free).toNat (bumpFree (claim n p.1 s)) = claimed p n s := by
    rw [claimed]
  unfold answer
  rw [h]
  dsimp only
  rw [hc, vecAddr_congr (claimed_port (p := p) (n := n) (s := s))]

theorem answer_none (h : offer s p = none) :
    answer p s = { s with evu := { s.evu with vec := some (p, vecAddr s p 511) } } := by
  simp only [answer, h]

theorem answer_vec (p : PortId) (s : State) :
    (answer p s).evu.vec.map Prod.fst = some p ∧ (answer p s).evu.port = s.evu.port := by
  cases h : offer s p with
  | none =>
    rw [answer_none h]
    exact ⟨rfl, rfl⟩
  | some n =>
    rw [answer_offer h]
    have hp := claimed_port (p := p) (n := n) (s := s)
    generalize claimed p n s = t at hp ⊢
    exact ⟨rfl, hp⟩

theorem answer_src (h : offer s p = some n) : (answer p s).evu.src = (claimed p n s).evu.src := by
  rw [answer_offer h]

theorem answer_service (h : offer s p = some n) : inService (answer p s) n p.1 = true := by
  rw [inService, answer_src h]
  exact claimed_service

theorem answer_withdrawn (h : offer s p = some n) (hb : ∀ m : MonId, s.mon[m].bound = none) :
    (answer p s).evu.src[n].pending = false ∧ (answer p s).evu.src[n].merge = 0 := by
  rw [answer_src h]
  exact claimed_withdrawn hb

theorem answer_mem (p : PortId) (s : State) : (answer p s).mem = s.mem :=
  (answer_changes (G := [.evu, .pcie, .mon, .free]) .refl rfl).mem_eq rfl

theorem exec_vpAckRecognized_free (hf : fabricOn s = true) (hv : s.evu.vec = none) :
    exec (.vpAckRecognized p) s = .next (answer p s) := by
  show execVpAckRecognized p s = _
  simp only [execVpAckRecognized, hf, hv, Bool.not_true, Bool.false_eq_true, if_false]

theorem exec_vpAckRecognized_waits {q : PortId} {v : HalfWord} (hf : fabricOn s = true) (hv : s.evu.vec = some (q, v))
    (hq : q ≠ p) : exec (.vpAckRecognized p) s = .next (setWaiting p true s) := by
  show execVpAckRecognized p s = _
  simp only [execVpAckRecognized, hf, hv, hq, Bool.not_true, Bool.false_eq_true, if_false]

theorem exec_vpAckRelease_other {q : PortId} {v : HalfWord} (hf : fabricOn s = true) (hv : s.evu.vec = some (q, v))
    (hq : q ≠ p) : exec (.vpAckRelease p) s = .next (setWaiting p false s) := by
  show execVpAckRelease p s = _
  simp only [execVpAckRelease, hf, hv, hq, Option.any_some, decide_false, Bool.not_true, Bool.false_eq_true, if_false]

theorem setWaiting_get (p : PortId) (b : Bool) (s : State) : (setWaiting p b s).evu.port[p].waiting = b :=
  congrArg VPort.waiting (Vector.getElem_set_self (xs := s.evu.port) p.2)

/-- The port that holds VEC releases it: the lowest waiting port is answered. -/
theorem exec_vpAckRelease_next {v : HalfWord} {q : PortId} (hf : fabricOn s = true) (hv : s.evu.vec = some (p, v))
    (hq : ((List.finRange 4).find? fun q => s.evu.port[q].waiting) = some q) :
    exec (.vpAckRelease p) s =
      .next (answer q (setWaiting q false { s with evu := { s.evu with vec := none } })) := by
  show execVpAckRelease p s = _
  simp only [execVpAckRelease, hf, hv, hq, Option.any_some, decide_true, Bool.not_true, Bool.false_eq_true, if_false,
      if_true]

theorem exec_vpAckRelease_free {v : HalfWord} (hf : fabricOn s = true) (hv : s.evu.vec = some (p, v))
    (hq : ((List.finRange 4).find? fun q => s.evu.port[q].waiting) = none) :
    exec (.vpAckRelease p) s = .next { s with evu := { s.evu with vec := none } } := by
  show execVpAckRelease p s = _
  simp only [execVpAckRelease, hf, hv, hq, Option.any_some, decide_true, Bool.not_true, Bool.false_eq_true, if_false,
      if_true]

/-- The first index of a list of all that satisfies a test is the lowest one that does. -/
theorem find_finRange_lowest {k : Nat} (f : Fin k → Bool) (q : Fin k) (hq : f q = true)
    (hlow : ∀ j, j < q → f j = false) :
    (List.finRange k).find? f = some q := by
  refine List.find?_eq_some_iff_getElem.mpr ⟨hq, q.1, by simp, by simp, fun j hj => ?_⟩
  simp [hlow ⟨j, Nat.lt_trans hj q.2⟩ hj]

/-- The lowest port of those that wait. -/
theorem find_lowest_waiting {q : PortId} (hq : s.evu.port[q].waiting = true)
    (hlow : ∀ j : PortId, j < q → s.evu.port[j].waiting = false) :
    ((List.finRange 4).find? fun q => s.evu.port[q].waiting) = some q := by
  generalize hf : (fun q : PortId => s.evu.port[q].waiting) = f
  have hq' : f q = true := hf ▸ hq
  have hlow' : ∀ j : PortId, j < q → f j = false := fun j hj => hf ▸ hlow j hj
  exact find_finRange_lowest f q hq' hlow'

end

/-- Settles O48: the number that EVT_ROUTE accepts is above those of the contexts' own sources, so its completion
    touches
another source; an acknowledge's sample of the latency leaves the ports and the service bits. -/
theorem eventsReachTheVectorPorts : Obligations.EventsReachTheVectorPorts := by
  refine ⟨fun s w a n h hn hk => ?_, fun s p => ⟨fun hp => ?_, fun hp hf n hn => ?_⟩, fun s p hf =>
    ⟨fun hv => ⟨fun n ho => ?_, fun ho => ?_⟩, fun q v hv hq => ⟨?_, ?_⟩, fun v hv =>
        ⟨fun hw => ?_, fun q hq hlow => ?_⟩⟩⟩
  · exact exec_evtRoute_result h hn hk
  · show execExtintEdge p s = _
    simp only [execExtintEdge, hp, if_true]
  · refine ⟨_, exec_extintEdge_free hp hn, ?_, ?_, fun m hm => ?_⟩
    · rw [edged, wakeRequest_evu]
      exact raise_edged s n hf
    · exact ((wakeRequest_changes (raise_changes (G := [.evu, .pcie, .power]) .refl rfl) rfl).mem_eq rfl)
    · rw [wakeRequest_evu]
      exact raise_src_other s n.1 m fun e => hm (Fin.ext e)
  · refine ⟨_, exec_vpAckRecognized_free hf hv, ?_, ?_, answer_mem p s, fun hb => ?_⟩
    · rw [answer_offer ho]
    · exact answer_service ho
    · exact answer_withdrawn ho hb
  · rw [exec_vpAckRecognized_free hf hv, answer_none ho]
  · exact ⟨_, exec_vpAckRecognized_waits hf hv hq, setWaiting_get p true s, rfl, rfl⟩
  · exact ⟨_, exec_vpAckRelease_other hf hv hq, setWaiting_get p false s, rfl, rfl⟩
  · exact exec_vpAckRelease_free hf hv (List.find?_eq_none.mpr fun q _ => by rw [hw q]; exact Bool.false_ne_true)
  · obtain ⟨hvec, hport⟩ := answer_vec q (setWaiting q false { s with evu := { s.evu with vec := none } })
    refine ⟨_, exec_vpAckRelease_next hf hv (find_lowest_waiting hq hlow), hvec, ?_, answer_mem _ _⟩
    rw [hport]
    exact setWaiting_get q false _

end Sys2Proof.Machine
end

section
/-! MAQUETTE and MAQUETTE_SHORT (07.1, 07.4). -/
namespace Sys2Proof.Machine

theorem takenWith_nil (s : State) (w : WinId) (op : Byte) (a : Cmd) (c : CtxId) :
    takenWith s w op a c [] = taken s w op a c := by
  unfold takenWith
  dsimp only
  rw [List.map_nil, List.append_nil]

theorem finish_staging (w : WinId) (code : Code) (q0 q1 : Word) (s : State) :
    (finish w code q0 q1 s).port.staging = s.port.staging := by
  obtain ⟨-, -, -, -, -, -, -, -, -, hst, -⟩ := finish_port s w code q0 q1
  exact hst

theorem setPhase_staging (w : WinId) (p : Phase) (s : State) : (setPhase w p s).port.staging = s.port.staging := rfl

theorem setPhase_underway {s : State} {w : WinId} {e : Exec} (p : Phase) (h : s.win[w].exec = some e)
    (hd : e.discard = false) : underway (setPhase w p s) w e.entry.op e.entry.cmd.tag p ∧
      (setPhase w p s).win[w].done = s.win[w].done := by
  have hp : (setPhase w p s).win[w] = { s.win[w] with exec := s.win[w].exec.map fun e =>
      { e with phase := p, since := s.port.nextWait } } :=
    State.modWin_same { s with port := { s.port with nextWait := s.port.nextWait + 1 } } w _
  rw [h] at hp
  exact ⟨⟨_, congrArg Window.exec hp, rfl, rfl, rfl, hd⟩, (congrArg Window.done hp).trans rfl⟩

/-- The window whose buffer is freed holds none, and a waiting command of another window takes it. -/
theorem unstage_staging {w : WinId} {s : State} (h : NotStaging w s) :
    ∀ p ∈ (unstage w s).port.staging, p.1 ≠ w := by
  have hfree : ∀ p ∈ s.port.staging.filter fun p => p.1 ≠ w, p.1 ≠ w := fun p hp =>
    of_decide_eq_true (List.mem_filter.mp hp).2
  unfold unstage
  dsimp only
  split
  · exact hfree
  · rename_i x n hold
    have hne : x ≠ w := by
      rintro rfl
      split at hold
      · cases hold
      · obtain ⟨e, he, hp⟩ := oldestWaiter_waits (fun b y => by
          cases b with
          | none => exact .inl rfl
          | some z =>
            dsimp only
            split
            · exact .inl rfl
            · exact .inr rfl) hold
        exact h e he hp
    intro p hp
    rcases List.mem_append.mp hp with hp | hp
    · exact hfree p hp
    · rw [List.mem_singleton.mp hp]
      exact hne

/-- A command that ends as its buffer is freed: its window answers and holds no buffer. -/
theorem finish_unstage {s u : State} {w : WinId} {e : Exec} {code : Code} {q0 q1 : Word} (hu : u.win = s.win)
    (he : s.win[w].exec = some e) (hd : e.discard = false) (hp : e.phase ≠ .maqStage) :
    (finish w code q0 q1 (unstage w u)).win[w].exec = none ∧
      (∀ p ∈ (finish w code q0 q1 (unstage w u)).port.staging, p.1 ≠ w) ∧
      (finish w code q0 q1 (unstage w u)).win[w].done =
        s.win[w].done ++ [{ tag := e.entry.cmd.tag, code := code, q0 := q0, q1 := q1 }] := by
  have heu : u.win[w].exec = some e := by rw [hu, he]
  have hst : NotStaging w u := fun e' he' => by
    rw [heu] at he'
    cases he'
    exact hp
  have hwin : (unstage w u).win[w] = s.win[w] := (unstage_win hst).trans (by rw [hu])
  have hfin := finish_win (unstage w u) w code q0 q1 e ((congrArg Window.exec hwin).trans he) hd
  refine ⟨congrArg Window.exec hfin, ?_, (congrArg Window.done hfin).trans ?_⟩
  · rw [finish_staging]
    exact unstage_staging hst
  · rw [hwin]

/-! ## The commands -/

section
variable {s : State} {w : WinId} {c : CtxId} {a : Cmd}

theorem exec_maquette_starts (h : ready s w c = true) (hk : checkMaquette w c a (taken s w 0x50 a c) = none) :
    exec (.maquette w a) s = .next (actMaquette w c a (taken s w 0x50 a c)) := by
  have hk' : checkMaquette w c a (takenWith s w 0x50 a c []) = none := by
    rw [takenWith_nil]
    exact hk
  refine congrArg Host.Outcome.next ((run_passes (o := opMaquette) h hk rfl rfl hk' rfl).trans ?_)
  show actMaquette w c a (takenWith s w 0x50 a c []) = _
  rw [takenWith_nil]

theorem exec_maquetteShort_captures (h : ready s w c = true) (ha : argBits a 0 0 0 0 = true) :
    exec (.maquetteShort w a) s = .next (actMaquetteShort w c a (taken s w 0x51 a c)) := by
  have hk (t : State) : opMaquetteShort.check w c a t = none := by
    show firstFail [(!argBits a 0 0 0 0, .badArg)] = none
    rw [ha]
    rfl
  refine congrArg Host.Outcome.next ((run_passes (o := opMaquetteShort) h (hk _) rfl rfl (hk _) rfl).trans ?_)
  show actMaquetteShort w c a (takenWith s w 0x51 a c []) = _
  rw [takenWith_nil]

theorem actMaquette_eq_quiet {t : State} (hl : t.port.staging.length < 2) : actMaquette w c a t =
    setPhase w .maqQuiet { t with port := { t.port with staging := t.port.staging ++ [(w, none)] } } := by
  unfold actMaquette
  rw [if_pos hl]

theorem actMaquette_eq_stage {t : State} (hl : ¬ t.port.staging.length < 2) :
    actMaquette w c a t = setPhase w .maqStage t := by
  unfold actMaquette
  rw [if_neg hl]

theorem taken_staging (s : State) (w : WinId) (op : Byte) (a : Cmd) (c : CtxId) :
    (taken s w op a c).port.staging = s.port.staging := rfl

/-- A command takes the staging buffer that is free, else it waits for one. -/
theorem actMaquette_result :
    (actMaquette w c a (taken s w 0x50 a c)).mem = s.mem ∧ (actMaquette w c a (taken s w 0x50 a c)).ctx = s.ctx ∧
      if s.port.staging.length < 2 then
        underway (actMaquette w c a (taken s w 0x50 a c)) w 0x50 a.tag .maqQuiet ∧
          (actMaquette w c a (taken s w 0x50 a c)).port.staging = s.port.staging ++ [(w, none)]
      else
        underway (actMaquette w c a (taken s w 0x50 a c)) w 0x50 a.tag .maqStage ∧
          (actMaquette w c a (taken s w 0x50 a c)).port.staging = s.port.staging := by
  by_cases hl : s.port.staging.length < 2
  · rw [if_pos hl, actMaquette_eq_quiet (by rwa [taken_staging])]
    exact ⟨rfl, rfl, underway_setPhase (s := s) (c := c) .maqQuiet rfl, rfl⟩
  · rw [if_neg hl, actMaquette_eq_stage (by rwa [taken_staging])]
    exact ⟨rfl, rfl, underway_setPhase (s := s) (c := c) .maqStage rfl, rfl⟩

/-- The short form is the context's capture, and no other context changes. -/
theorem actMaquetteShort_ctx (t : State) :
    (actMaquetteShort w c a t).ctx[c].capture = shortForm t w c ∧
      (actMaquetteShort w c a t).ctx[c].captures = t.ctx[c].captures + 1 ∧
      ∀ d, d ≠ c → (actMaquetteShort w c a t).ctx[d] = t.ctx[d] := by
  have hctx : (actMaquetteShort w c a t).ctx = (t.modCtx c fun x =>
      { x with capture := shortForm t w c, captures := x.captures + 1 }).ctx :=
    (finish_changes (G := [.win, .port, .evu, .pcie]) .refl rfl).ctx_eq rfl
  rw [hctx]
  refine ⟨?_, ?_, fun d hd => modCtx_get_other hd⟩
  · exact (congrArg Ctx.capture (modCtx_get t c _)).trans rfl
  · exact (congrArg Ctx.captures (modCtx_get t c _)).trans rfl

theorem actMaquetteShort_answered (h : ready s w c = true) :
    answered s (actMaquetteShort w c a (taken s w 0x51 a c)) w a.tag .ok
      (put (s.ctx[c].captures + 1).toNat 0 8) 0 := by
  have hq : ((taken s w 0x51 a c).modCtx c fun x =>
      { x with capture := shortForm (taken s w 0x51 a c) w c, captures := x.captures + 1 }).ctx[c].captures =
        s.ctx[c].captures + 1 := congrArg Ctx.captures (modCtx_get _ c _)
  unfold actMaquetteShort
  dsimp only
  rw [hq]
  exact answered_finish s _ w 0x51 a c .ok _ 0 h rfl

end

/-! ## The quiet point and the writing -/

section
variable {s : State} {w : WinId} {e : Exec}

/-- The staging buffers with a window's snapshot in its own. -/
def fillBuffer (w : WinId) (b : List Byte) (l : List (WinId × Option (List Byte))) :
    List (WinId × Option (List Byte)) := l.map fun p => if p.1 = w then (w, some b) else p

theorem fillBuffer_find {w : WinId} {b : List Byte} {l : List (WinId × Option (List Byte))}
    (h : ∃ p ∈ l, p.1 = w) : ((fillBuffer w b l).find? fun p => p.1 = w) = some (w, some b) := by
  induction l with
  | nil =>
    obtain ⟨p, hp, -⟩ := h
    cases hp
  | cons q l ih =>
    by_cases hq : q.1 = w
    · simp [fillBuffer, hq]
    · have hl : ∃ p ∈ l, p.1 = w := by
        obtain ⟨p, hp, hw⟩ := h
        rcases List.mem_cons.mp hp with rfl | hp
        · exact absurd hw hq
        · exact ⟨p, hp, hw⟩
      have := ih hl
      simpa [fillBuffer, hq] using this

theorem exec_quietPoint_large (he : s.win[w].exec = some e) (hp : e.phase = .maqQuiet) (hf : fabricOn s = true)
    (hl : fld e.entry.cmd.a1 0 17 < (snapshot s w e.ctx).length) :
    exec (.maquetteQuietPoint w) s =
      .next (finish w .noResource (BitVec.ofNat 32 (snapshot s w e.ctx).length) 0 (unstage w s)) := by
  show execMaquetteQuietPoint w s = _
  unfold execMaquetteQuietPoint
  rw [he]
  dsimp only
  rw [hp, hf, if_neg (by simp), if_pos hl]

theorem exec_quietPoint_staged (he : s.win[w].exec = some e) (hp : e.phase = .maqQuiet) (hf : fabricOn s = true)
    (hl : ¬ fld e.entry.cmd.a1 0 17 < (snapshot s w e.ctx).length) :
    exec (.maquetteQuietPoint w) s =
      .next (setPhase w .maqWrite { s with port := { s.port with
        staging := fillBuffer w (snapshot s w e.ctx) s.port.staging } }) := by
  show execMaquetteQuietPoint w s = _
  unfold execMaquetteQuietPoint
  rw [he]
  dsimp only
  rw [hp, hf, if_neg (by simp), if_neg hl]
  rfl

/-- Memory with a snapshot written for a context. -/
def snapshotWritten (c : CtxId) (a : Nat) (b : List Byte) (s : State) : State :=
  access 134 true c a b.length (snoop a b.length (s.write a b))

theorem snapshotWritten_changes {G} {s₀ s : State} {c a b} (h : Changes G s₀ s)
    (hG : Part.within [.mem, .memc, .evu, .pcie, .faults, .fetch, .relief] G = true) :
    Changes G s₀ (snapshotWritten c a b s) := by
  refine h.via ?_ hG
  unfold snapshotWritten
  exact access_changes (snoop_changes (write_changes .refl rfl) rfl) rfl

theorem snapshotWritten_mem (c : CtxId) (a : Nat) (b : List Byte) (s : State) :
    (snapshotWritten c a b s).mem = (s.write a b).mem := by
  unfold snapshotWritten
  exact (access_changes (G := [.evu, .pcie, .faults, .fetch, .relief]) (snoop_changes .refl rfl) rfl).mem_eq rfl

theorem exec_maquetteWritten {b : List Byte} {l : List (WinId × Option (List Byte))} (he : s.win[w].exec = some e)
    (hp : e.phase = .maqWrite) (hs : s.port.staging = (w, some b) :: l) (hm : memAvail s = true)
    (hf : fabricOn s = true) :
    exec (.maquetteWritten w) s = .next (finish w .ok (BitVec.ofNat 32 b.length) (BitVec.ofNat 32 (leAt b 8 4))
      (unstage w (snapshotWritten e.ctx (partBase s e.ctx + woff e.entry.cmd.a0) b s))) := by
  have hb : staged s w = some b := by
    unfold staged
    rw [hs]
    simp
  show execMaquetteWritten w s = _
  unfold execMaquetteWritten
  rw [he, hb]
  dsimp only
  rw [hp, hf, hm, hs, if_neg (by simp)]
  rfl

end

/-- Settles O50: a freed staging buffer goes to the command of another window, since this one waits for no buffer. -/
theorem maquettesCaptureTheState : Obligations.MaquettesCaptureTheState := by
  refine ⟨fun s w c a h => ⟨fun hk => ?_, fun ha => ?_⟩,
    fun s w e he hd hf => ⟨fun hp hin => ?_, fun b l hp hs hm => ?_⟩⟩
  · exact ⟨_, exec_maquette_starts h hk, actMaquette_result⟩
  · obtain ⟨hcap, hcnt, hoth⟩ := actMaquetteShort_ctx (w := w) (c := c) (a := a) (taken s w 0x51 a c)
    exact ⟨_, exec_maquetteShort_captures h ha, actMaquetteShort_answered h,
      (actMaquetteShort_changes (taken_changes (G := [.win, .port, .ctx, .evu, .pcie]) .refl rfl) rfl).mem_eq rfl,
      hcap, hcnt, hoth⟩
  · by_cases hl : fld e.entry.cmd.a1 0 17 < (snapshot s w e.ctx).length
    · refine ⟨_, exec_quietPoint_large he hp hf hl, ?_, ?_⟩
      · exact (finish_changes (unstage_changes (G := [.win, .port, .evu, .pcie]) .refl rfl) rfl).mem_eq rfl
      · rw [if_pos hl]
        exact finish_unstage rfl he hd (by rw [hp]; exact Phase.noConfusion)
    · refine ⟨_, exec_quietPoint_staged he hp hf hl, rfl, ?_⟩
      have hwrite := setPhase_underway (s := { s with port := { s.port with
        staging := fillBuffer w (snapshot s w e.ctx) s.port.staging } }) .maqWrite he hd
      rw [if_neg hl]
      refine ⟨?_, hwrite⟩
      unfold staged
      rw [setPhase_staging]
      dsimp only
      rw [fillBuffer_find ⟨_, hin, rfl⟩]
      rfl
  · refine ⟨_, exec_maquetteWritten he hp hs hm hf, ?_⟩
    have hwin := (snapshotWritten_changes (G := [.mem, .memc, .evu, .pcie, .faults, .fetch, .relief])
      (c := e.ctx) (a := partBase s e.ctx + woff e.entry.cmd.a0) (b := b) (.refl (s := s)) rfl).win_eq rfl
    have hmem := snapshotWritten_mem e.ctx (partBase s e.ctx + woff e.entry.cmd.a0) b s
    generalize snapshotWritten _ _ _ s = u at hwin hmem
    obtain ⟨hnone, hfree, hdone⟩ := finish_unstage (code := .ok) (q0 := BitVec.ofNat 32 b.length)
      (q1 := BitVec.ofNat 32 (leAt b 8 4)) hwin he hd (by rw [hp]; exact Phase.noConfusion)
    have hfin : (finish w .ok (BitVec.ofNat 32 b.length) (BitVec.ofNat 32 (leAt b 8 4)) (unstage w u)).mem =
        (s.write (partBase s e.ctx + woff e.entry.cmd.a0) b).mem :=
      ((finish_changes (unstage_changes (G := [.win, .port, .evu, .pcie]) .refl rfl) rfl).mem_eq rfl).trans hmem
    refine ⟨hnone, hfree, hdone, fun hwf => ?_, fun x hx => ?_⟩
    · rw [hfin]
      exact State.read_write_same s hwf _ b
    · rw [hfin]
      exact State.write_other s _ b x hx

end Sys2Proof.Machine
end

section
/-! Power modes, wakes and the heartbeat (chapter 25, R49, R161). -/
namespace Sys2Proof.Machine

/-! ## The last entry of the fault log -/

theorem enterFault_last (e : FaultEntry) (s : State) : (enterFault e s).faults.entries.getLast? = some e := by
  unfold enterFault
  have hr (t : State) : (raise 281 t).faults = t.faults :=
    (raise_changes (G := [.evu, .pcie]) .refl rfl).faults_eq rfl
  rw [hr]
  exact List.getLast?_concat

/-- While PD_FABRIC is on the entry that a fault writes is the last of the log. -/
theorem logFault_last {s : State} (hf : fabricOn s = true) (code unit : Nat) (arg : Word) (c : Option CtxId) :
    (logFault code unit arg s c).faults.entries.getLast? =
      some (FaultEntry.mk s.drone.time (BitVec.ofNat 8 code) (BitVec.ofNat 8 unit) c (faultClass code) arg) := by
  rw [logFault_on s code unit arg c hf]
  exact enterFault_last _ s

theorem raise_faults (n : Nat) (s : State) : (raise n s).faults = s.faults :=
  (raise_changes (G := [.evu, .pcie]) .refl rfl).faults_eq rfl

/-! ## POWER_MODE -/

section
variable {s : State} {w : WinId} {a : Cmd} {m : Mode}

theorem powerFails_locked (hb : useBlock a = false) (hm : Mode.ofCode (fld a.a0 0 3) = some m)
    (hl : (m.sleeps && lockForbids s) = true) : powerFails s a = some (.locked, 0) := by
  simp only [powerFails, hm, modeBlockFails, hb, hl, Bool.not_false, if_true]

theorem powerFails_none (hb : useBlock a = false) (hm : Mode.ofCode (fld a.a0 0 3) = some m)
    (hl : (m.sleeps && lockForbids s) = false) : powerFails s a = none := by
  simp only [powerFails, hm, modeBlockFails, hb, hl, Bool.not_false, if_true, Bool.false_eq_true, if_false]

theorem actPowerMode_locked {t : State} (hb : useBlock a = false) (hm : Mode.ofCode (fld a.a0 0 3) = some m)
    (hl : (m.sleeps && lockForbids t) = true) :
    actPowerMode w 0 a t = finish0 w .locked (refuseMode (noteMode (a.a0.extractLsb' 0 3) t)) := by
  have hf : powerFails (noteMode (a.a0.extractLsb' 0 3) t) a = some (.locked, 0) := powerFails_locked hb hm hl
  unfold actPowerMode
  dsimp only
  rw [hf]

/-- The state of a request that is taken up: the mode asked for is noted, and nothing is refused. -/
def requested (a : Cmd) (t : State) : State :=
  { t with power := { t.power with lastMode := a.a0.extractLsb' 0 3, refused := false } }

theorem actPowerMode_taken {t : State} (hb : useBlock a = false) (hm : Mode.ofCode (fld a.a0 0 3) = some m)
    (hl : (m.sleeps && lockForbids t) = false) :
    actPowerMode w 0 a t = changeMode m (some w) none (requested a t) := by
  have hf : powerFails (noteMode (a.a0.extractLsb' 0 3) t) a = none := powerFails_none hb hm hl
  have hp : powerBlock (noteMode (a.a0.extractLsb' 0 3) t) a = none := by
    unfold powerBlock
    rw [hb]
    rfl
  unfold actPowerMode
  dsimp only
  rw [hf, hm, hp]
  rfl

theorem changeMode_same {t : State} (h : m = t.power.mode) :
    changeMode m (some w) none t = finish w .ok (BitVec.ofNat 32 m.num) 0 t := by
  simp only [changeMode, h, if_true, Option.isSome_none, Bool.false_eq_true, if_false]

theorem changeMode_awake {t : State} (h : m ≠ t.power.mode) (hs : m.sleeps = false) :
    changeMode m (some w) none t =
      finishGen w (BitVec.ofNat 32 m.num) 0 (reachMode m (applyBlock PowerBlock.default t)) := by
  have h' : m ≠ (applyBlock PowerBlock.default t).power.mode := h
  simp only [changeMode, if_neg h, if_neg h', hs, Bool.false_eq_true, if_false]

theorem changeMode_sleeps {t : State} (h : m ≠ t.power.mode) (hs : m.sleeps = true) :
    changeMode m (some w) none t = startEntry m (some w) (setPhase w .power (applyBlock PowerBlock.default t)) := by
  have h' : m ≠ (applyBlock PowerBlock.default t).power.mode := h
  simp only [changeMode, if_neg h, if_neg h', hs, if_true]

theorem checkPowerMode_passes (hb : useBlock a = false) (ha : argBits a 0x10007 wholeWord 0 0 = true) (t : State) :
    checkPowerMode w 0 a t = none := by
  have hr : readsBlock a = false := by
    unfold readsBlock
    rw [hb]
    rfl
  simp only [checkPowerMode, powerModeSteps, hr, ha, supervisor_zero, Bool.not_true, Bool.false_and,
    firstFail_cons_false, firstFail_nil, Bool.false_eq_true, if_false]
  rfl

theorem exec_powerMode_acts (h : ready s w 0 = true) (hn : unclaimed s [.power] = true) (hb : useBlock a = false)
    (ha : argBits a 0x10007 wholeWord 0 0 = true) (hm : Mode.ofCode (fld a.a0 0 3) = some m) :
    exec (.powerMode w a) s = .next (actPowerMode w 0 a (takenWith s w 0x60 a 0 [.power])) := by
  have hneeds : opPowerMode.needs 0 a (taken s w 0x60 a 0) = [.power] := by
    show (if (Mode.ofCode (fld a.a0 0 3)).isSome then [Resource.power] else []) = _
    rw [hm]
    rfl
  have hreads : opPowerMode.reads w 0 a (takenWith s w 0x60 a 0 [.power]) = [] := by
    show readsPowerMode w 0 a _ = []
    unfold readsPowerMode readsBlock
    rw [hb]
    rfl
  exact congrArg Host.Outcome.next (run_passes (o := opPowerMode) h (checkPowerMode_passes hb ha _) hneeds hn
    (checkPowerMode_passes hb ha _) hreads)

theorem reachMode_power (m : Mode) (t : State) : (reachMode m t).power = { t.power with mode := m } :=
  (raise_changes (G := [.evu, .pcie]) .refl rfl).power_eq rfl

theorem refuseMode_power (t : State) : (refuseMode t).power = { t.power with refused := true } :=
  (raise_changes (G := [.evu, .pcie]) .refl rfl).power_eq rfl

theorem finish_power (w : WinId) (code : Code) (q0 q1 : Word) (t : State) :
    (finish w code q0 q1 t).power = t.power :=
  (finish_changes (G := [.win, .port, .evu, .pcie]) .refl rfl).power_eq rfl

/-- HOLD or OFF under a lock is refused. -/
theorem exec_powerMode_refused (h : ready s w 0 = true) (hn : unclaimed s [.power] = true) (hb : useBlock a = false)
    (ha : argBits a 0x10007 wholeWord 0 0 = true) (hm : Mode.ofCode (fld a.a0 0 3) = some m)
    (hl : (m.sleeps && lockForbids (taken s w 0x60 a 0)) = true) :
    ∃ t, exec (.powerMode w a) s = .next t ∧ answered s t w a.tag .locked 0 0 ∧ t.power.refused = true ∧
      t.power.mode = s.power.mode ∧ t.power.trans = s.power.trans ∧ t.mem = s.mem := by
  have hlock : (m.sleeps && lockForbids (takenWith s w 0x60 a 0 [.power])) = true := hl
  have hx := (exec_powerMode_acts h hn hb ha hm).trans (congrArg Host.Outcome.next (actPowerMode_locked hb hm hlock))
  have hch := refuseMode_changes (G := [.evu, .pcie, .power])
    (.refl (s := noteMode (a.a0.extractLsb' 0 3) (takenWith s w 0x60 a 0 [.power]))) rfl
  have hwin := congrArg (·[w]) (hch.win_eq rfl)
  have hmem := hch.mem_eq rfl
  have hpow := refuseMode_power (noteMode (a.a0.extractLsb' 0 3) (takenWith s w 0x60 a 0 [.power]))
  generalize refuseMode _ = u at hx hwin hmem hpow
  have hp : (finish0 w .locked u).power = u.power := finish_power _ _ _ _ _
  refine ⟨_, hx, answered_finish s u w 0x60 a 0 .locked 0 0 h hwin, ?_, ?_, ?_, ?_⟩
  · rw [hp, hpow]
  · rw [hp, hpow]
    rfl
  · rw [hp, hpow]
    rfl
  · exact ((finish0_changes (G := [.win, .port, .evu, .pcie]) .refl rfl).mem_eq rfl).trans hmem

/-- The mode in force, RUN and DIM are taken at once. -/
theorem changeMode_atOnce {t : State} (h : ready s w 0 = true) (hw : t.win[w] = (taken s w 0x60 a 0).win[w])
    (hm : m = t.power.mode ∨ m.sleeps = false) :
    answered s (changeMode m (some w) none t) w a.tag .ok (BitVec.ofNat 32 m.num) 0 ∧
      (changeMode m (some w) none t).power.mode = m ∧
      (changeMode m (some w) none t).power.refused = t.power.refused ∧
      (changeMode m (some w) none t).power.trans = t.power.trans ∧
      (changeMode m (some w) none t).mem = t.mem ∧ (changeMode m (some w) none t).head = t.head := by
  by_cases hsame : m = t.power.mode
  · rw [changeMode_same hsame]
    have hch := finish_changes (G := [.win, .port, .evu, .pcie]) (w := w) (code := .ok) (q0 := BitVec.ofNat 32 m.num)
      (q1 := 0) (.refl (s := t)) rfl
    refine ⟨answered_finish s t w 0x60 a 0 .ok _ 0 h hw, ?_, ?_, ?_, hch.mem_eq rfl, hch.head_eq rfl⟩
    · rw [finish_power]
      exact hsame.symm
    · rw [finish_power]
    · rw [finish_power]
  · rw [changeMode_awake hsame (hm.resolve_left hsame)]
    have hch := reachMode_changes (G := [.evu, .pcie, .power]) (m := m)
      (.refl (s := applyBlock PowerBlock.default t)) rfl
    have hwin := congrArg (·[w]) (hch.win_eq rfl)
    have hmem := hch.mem_eq rfl
    have hhead := hch.head_eq rfl
    have hpow := reachMode_power m (applyBlock PowerBlock.default t)
    generalize reachMode m _ = u at hwin hmem hpow hhead
    have hfin := finishGen_changes (G := [.win, .port, .evu, .pcie]) (w := w) (q0 := BitVec.ofNat 32 m.num)
      (q1 := 0) (.refl (s := u)) rfl
    have hp := hfin.power_eq rfl
    refine ⟨answered_finishGen h (hwin.trans hw), ?_, ?_, ?_, (hfin.mem_eq rfl).trans hmem,
      (hfin.head_eq rfl).trans hhead⟩
    · rw [hp, hpow]
    · rw [hp, hpow]
      rfl
    · rw [hp, hpow]
      rfl

/-- Entry to HOLD or OFF begins for the window. -/
theorem changeMode_begins {t : State} (hw : t.win[w] = (taken s w 0x60 a 0).win[w]) (hm : m ≠ t.power.mode)
    (hs : m.sleeps = true) :
    ∃ x, underway (changeMode m (some w) none t) w 0x60 a.tag .power ∧
      (changeMode m (some w) none t).power.mode = t.power.mode ∧
      (changeMode m (some w) none t).power.trans = some x ∧ x.target = m ∧ x.exiting = false ∧ x.step = 1 ∧
      x.byWindow = some w ∧ (changeMode m (some w) none t).mem = t.mem := by
  rw [changeMode_sleeps hm hs]
  exact ⟨_, underway_setPhase (s := s) (c := 0) (t := applyBlock PowerBlock.default t) .power hw, rfl, rfl, rfl, rfl,
    rfl, rfl, rfl⟩

end

/-! ## Wakes and step lists -/

section
variable {s : State}

theorem wakeRequest_disabled {x : WakeSource} (h : wakeEnabled s x = false) : wakeRequest x s = s := by
  simp only [wakeRequest, h, Bool.false_and, Bool.false_eq_true, if_false]

theorem wakeRequest_kept {x : WakeSource} (h : wakeEnabled s x = true) (ha : asleep s = true)
    (ht : s.power.trans = none) (hk : s.power.wakeKept = none) :
    wakeRequest x s = { s with power := { s.power with wakeKept := some x, wake := WakeSource.code x } } := by
  simp only [wakeRequest, h, ha, ht, hk, Option.isNone_none, Option.any_none, Bool.true_or, Bool.not_false,
    Bool.and_self, if_true]

theorem exec_wakeRequest_idle {x : WakeSource} (hk : s.power.wakeKept = none) (h : wakeEnabled s x = false) :
    exec (.wakeRequest x) s = .next s := by
  show execWakeRequest x s = _
  simp only [execWakeRequest, wakeRequest_disabled h, hk, Option.isSome_none, Bool.and_false, Bool.false_eq_true,
      if_false]

theorem exec_wakeRequest_exits {x : WakeSource} (h : wakeEnabled s x = true) (ha : asleep s = true)
    (ht : s.power.trans = none) (hk : s.power.wakeKept = none) : exec (.wakeRequest x) s = .next (startExit
      { s with power := { s.power with wakeKept := some x, wake := WakeSource.code x } }) := by
  have ha' : asleep { s with power := { s.power with wakeKept := some x, wake := WakeSource.code x } } = true := ha
  show execWakeRequest x s = _
  unfold execWakeRequest
  rw [wakeRequest_kept h ha ht hk]
  dsimp only
  rw [ha', ht]
  rfl

/-- The exit begins at step 1, with the mode, the wake and memory as they were. -/
theorem startExit_begins (t : State) : ∃ y, (startExit t).power.trans = some y ∧ y.exiting = true ∧ y.step = 1 ∧
    (startExit t).power.wakeKept = t.power.wakeKept ∧ (startExit t).power.wake = t.power.wake ∧
    (startExit t).power.mode = t.power.mode ∧ (startExit t).mem = t.mem := by
  unfold startExit
  dsimp only
  split
  · exact ⟨_, rfl, rfl, rfl, rfl, rfl, rfl, rfl⟩
  · exact ⟨_, rfl, rfl, rfl, rfl, rfl, rfl, rfl⟩

theorem setList_trans {t : State} {x : Transition} (h : t.power.trans = some x) (l : List SeqStep) :
    setList l t = { t with power := { t.power with trans := some { x with list := l, at_ := 0 } } } := by
  unfold setList modTrans
  rw [h]
  rfl

theorem exec_stepTimeout_entry {x : Transition} {y : SeqStep} {l : List SeqStep} (h : s.power.trans = some x)
    (hl : x.list = y :: l) (hy : y.op = .waitPin) (he : x.exiting = false) :
    exec .powerStepWaitTimeout s =
      .next { s with power := { s.power with trans := some { x with list := [], at_ := 0 } } } := by
  obtain ⟨op, tg, lv, dl⟩ := y
  cases hy
  rw [← setList_trans h]
  show execPowerStepWaitTimeout s = _
  simp only [execPowerStepWaitTimeout, h, hl, he, Bool.false_eq_true, if_false]

theorem exec_stepTimeout_exit {x : Transition} {y : SeqStep} {l : List SeqStep} (h : s.power.trans = some x)
    (hl : x.list = y :: l) (hy : y.op = .waitPin) (he : x.exiting = true) :
    exec .powerStepWaitTimeout s = .next (setList []
      (logFault 0x26 (if s.power.mode = .off then 3 else 1) (BitVec.ofNat 32 x.at_) s)) := by
  obtain ⟨op, tg, lv, dl⟩ := y
  cases hy
  show execPowerStepWaitTimeout s = _
  simp only [execPowerStepWaitTimeout, h, hl, he, if_true]

/-- While PD_FABRIC is off the Drone domain holds the fault. -/
theorem logFault_held {code unit : Nat} {arg : Word} (hf : fabricOn s = false) (hd : droneFault code = true)
    (hl : s.faults.held.length < 4) : logFault code unit arg s = { s with faults := { s.faults with
      held := s.faults.held ++ [FaultEntry.mk s.drone.time (BitVec.ofNat 8 code) (BitVec.ofNat 8 unit) none
        (faultClass code) arg] } } := by
  simp only [logFault, hf, hd, hl, Bool.false_eq_true, if_false, if_true]

/-! ## The heartbeat -/

theorem fabricOn_of_beatRuns (h : beatRuns s = true) : fabricOn s = true := (Bool.and_eq_true _ _ ▸ h).2

theorem exec_heartbeatLapse_shown (h : beatRuns s = true) (hl : s.drone.lapsed = false) :
    exec .heartbeatLapse s = .next (raise 282 (logFault 0x32 0 (BitVec.ofNat 32 s.drone.timeout)
      { s with drone := { s.drone with lapsed := true, second := decide (s.drone.fallback ≠ 0) } })) := by
  show execHeartbeatLapse s = _
  simp only [execHeartbeatLapse, h, hl, Bool.not_true, Bool.or_self, Bool.false_eq_true, if_false]

theorem fallback_waits (hb : s.drone.second = true) (hf : s.drone.fallback ≠ 0) (hs : s.boot.fallback ≠ [])
    (h : beatRuns s = true) :
    ¬ ((!beatRuns s || !s.drone.second || decide (s.drone.fallback = 0) || s.boot.fallback.isEmpty) = true) := by
  simp [h, hb, hf, hs]

theorem exec_fallback_ended (h : beatRuns s = true) (hb : s.drone.second = true) (hf : s.drone.fallback ≠ 0)
    (hs : s.boot.fallback ≠ []) (hd : (s.drone.hbDirty && Config.sameDroneCycle s.free) = true) :
    exec .fallbackSubmission s = .next (takeHeartbeat (bumpFree s)) := by
  show execFallbackSubmission s = _
  unfold execFallbackSubmission
  rw [if_neg (fallback_waits hb hf hs h), if_pos hd]

/-- The fallback set waits for its slots. -/
def submitted (s : State) : State :=
  { s with
    drone := { s.drone with second := false, fallbackShown := true }
    port := { s.port with fallbackQueue := s.port.fallbackQueue ++ s.boot.fallback.mapIdx fun i r => (i, r) } }

theorem exec_fallback_submitted (h : beatRuns s = true) (hb : s.drone.second = true) (hf : s.drone.fallback ≠ 0)
    (hs : s.boot.fallback ≠ []) (hd : (s.drone.hbDirty && Config.sameDroneCycle s.free) = false) :
    exec .fallbackSubmission s = .next (logFault 0x33 0 (BitVec.ofNat 32 s.boot.fallback.length)
      (submitted (if s.drone.hbDirty then bumpFree s else s))) := by
  show execFallbackSubmission s = _
  unfold execFallbackSubmission
  rw [if_neg (fallback_waits hb hf hs h), if_neg (by rw [hd]; exact Bool.false_ne_true)]
  cases hh : s.drone.hbDirty
  · rfl
  · rfl

/-- A submission logs the set, shows the fallback and leaves memory. -/
theorem submitted_result {t : State} (ht : fabricOn t = true) (arg : Word) :
    (logFault 0x33 0 arg (submitted t)).drone.second = false ∧ (logFault 0x33 0 arg (submitted t)).mem = t.mem ∧
      (logFault 0x33 0 arg (submitted t)).drone.fallbackShown = true ∧
      (logFault 0x33 0 arg (submitted t)).port.fallbackQueue =
        t.port.fallbackQueue ++ t.boot.fallback.mapIdx (fun i r => (i, r)) ∧
      ∃ e, (logFault 0x33 0 arg (submitted t)).faults.entries.getLast? = some e ∧ e.code = 0x33 := by
  have hch := logFault_changes (G := [.evu, .pcie, .faults]) (code := 0x33) (unit := 0) (arg := arg) (ctx := none)
    (.refl (s := submitted t)) rfl
  have hlast := logFault_last (s := submitted t) ht 0x33 0 arg none
  generalize logFault 0x33 0 arg (submitted t) = u at hch hlast
  refine ⟨?_, hch.mem_eq rfl, ?_, ?_, _, hlast, rfl⟩
  · rw [hch.drone_eq rfl]
    rfl
  · rw [hch.drone_eq rfl]
    rfl
  · rw [hch.port_eq rfl]
    rfl

end

/-- Settles O51: a request for the mode in force, RUN or DIM, HOLD or OFF, the wakes, the step lists and the
    heartbeat,
each by its outcomes. -/
theorem powerModesChangeAndWake : Obligations.PowerModesChangeAndWake := by
  refine ⟨fun s w a m h hn hb ha hm => ⟨exec_powerMode_refused h hn hb ha hm, fun hl => ⟨fun hmode => ?_,
      fun hne hsl => ?_⟩⟩, fun s ha ht hk => ⟨fun x => ⟨exec_wakeRequest_idle hk, fun hx => ?_⟩, fun hp hx => ?_⟩,
    fun s hp => ?_, fun s x y l h hl hy => ⟨exec_stepTimeout_entry h hl hy, fun he hf hlen => ?_⟩,
    fun s h => ⟨fun hl => ?_, fun hl => ?_, fun hb => ?_, fun hb hf hs => ?_⟩⟩
  · have hx := (exec_powerMode_acts h hn hb ha hm).trans (congrArg Host.Outcome.next (actPowerMode_taken
      (t := takenWith s w 0x60 a 0 [.power]) hb hm hl))
    obtain ⟨hans, hmod, href, htr, hmem, hhead⟩ := changeMode_atOnce
      (t := requested a (takenWith s w 0x60 a 0 [.power])) (a := a) h rfl hmode
    exact ⟨_, hx, hans, hmod, href, htr, hmem, hhead⟩
  · have hx := (exec_powerMode_acts h hn hb ha hm).trans (congrArg Host.Outcome.next (actPowerMode_taken
      (t := takenWith s w 0x60 a 0 [.power]) hb hm hl))
    obtain ⟨x, hr⟩ := changeMode_begins (s := s) (t := requested a (takenWith s w 0x60 a 0 [.power])) rfl hne hsl
    exact ⟨_, x, hx, hr⟩
  · obtain ⟨y, hty, hexit, hstep, hkept, hwake, hmode, hmem⟩ := startExit_begins
      { s with power := { s.power with wakeKept := some x, wake := WakeSource.code x } }
    exact ⟨_, y, exec_wakeRequest_exits hx ha ht hk, hkept, hwake, hty, hexit, hstep, hmode, hmem⟩
  · show execHostBusWake s = _
    simp only [execHostBusWake, hp, wakeRequest_kept hx ha ht hk, Bool.false_eq_true, if_false]
    rfl
  · show execHostBusWake s = _
    simp only [execHostBusWake, hp, if_true]
  · rw [exec_stepTimeout_exit h hl hy he, logFault_held hf rfl hlen]
    refine ⟨_, FaultEntry.mk s.drone.time 0x26 _ none (faultClass 0x26) (BitVec.ofNat 32 x.at_), rfl, ?_, rfl, rfl,
        rfl⟩
    show s.power.trans.map _ = _
    rw [h]
    rfl
  · show execHeartbeatLapse s = _
    simp only [execHeartbeatLapse, hl, Bool.or_true, if_true]
  · have hf : fabricOn { s with drone := { s.drone with lapsed := true, second := decide (s.drone.fallback ≠ 0) } } =
        true := fabricOn_of_beatRuns h
    refine ⟨_, FaultEntry.mk s.drone.time 0x32 0 none (faultClass 0x32) (BitVec.ofNat 32 s.drone.timeout),
      exec_heartbeatLapse_shown h hl, ?_, ?_, rfl, ?_, ?_⟩
    · exact (raise_changes (G := [.evu, .pcie, .faults]) (logFault_changes .refl rfl) rfl).drone_eq rfl
    · rw [raise_faults]
      exact logFault_last hf _ _ _ _
    · exact (raise_changes (G := [.evu, .pcie, .faults]) (logFault_changes .refl rfl) rfl).port_eq rfl
    · exact (raise_changes (G := [.evu, .pcie, .faults]) (logFault_changes .refl rfl) rfl).mem_eq rfl
  · show execFallbackSubmission s = _
    simp only [execFallbackSubmission, hb, Bool.not_false, Bool.or_true, Bool.true_or, if_true]
  · cases hd : s.drone.hbDirty && Config.sameDroneCycle s.free with
    | true =>
      refine ⟨_, exec_fallback_ended h hb hf hs hd, rfl, rfl, ?_⟩
      rw [if_pos rfl]
      exact ⟨rfl, rfl, rfl, rfl, rfl⟩
    | false =>
      have hfab := fabricOn_of_beatRuns h
      rw [exec_fallback_submitted h hb hf hs hd]
      cases hh : s.drone.hbDirty with
      | true =>
        obtain ⟨h1, h2, h3⟩ := submitted_result (t := bumpFree s) hfab (BitVec.ofNat 32 s.boot.fallback.length)
        exact ⟨_, rfl, h1, h2, h3⟩
      | false =>
        obtain ⟨h1, h2, h3⟩ := submitted_result (t := s) hfab (BitVec.ofNat 32 s.boot.fallback.length)
        exact ⟨_, rfl, h1, h2, h3⟩

end Sys2Proof.Machine
end

section
/-! Resources that are granted, waits that end, and FAULT_CLEAR (06.5, 27.1 to 27.4). -/
namespace Sys2Proof.Machine

/-! ## RESOURCE_GRANT -/

section
variable {s : State} {r : Resource}

/-- With no command without a window and no request by POWER_REQ, the oldest waiter is the one to take. -/
theorem execResourceGrant_eq_none (hf : fabricOn s = true) (ha : s.port.auto = [])
    (hidle : s.power.queued = none ∨ r ≠ .power) (hw : oldestWaiter s r = none) :
    exec (.resourceGrant r) s = .next s := by
  show execResourceGrant r s = _
  rcases hidle with hq | hr
  · simp only [execResourceGrant, hf, ha, hq, hw, Bool.not_true, Bool.false_eq_true, if_false]
  · cases hq : s.power.queued <;>
      simp only [execResourceGrant, hf, ha, hq, hr, hw, decide_false, Bool.not_true, Bool.false_eq_true, if_false]

theorem execResourceGrant_eq_window {w : WinId} (hf : fabricOn s = true) (ha : s.port.auto = [])
    (hidle : s.power.queued = none ∨ r ≠ .power) (hw : oldestWaiter s r = some w) :
    exec (.resourceGrant r) s = .next (if resBlocked s (.window w) r then s else grantWindow w r s) := by
  show execResourceGrant r s = _
  rcases hidle with hq | hr
  · simp only [execResourceGrant, hf, ha, hq, hw, Bool.not_true, Bool.false_eq_true, if_false]
  · cases hq : s.power.queued <;>
      simp only [execResourceGrant, hf, ha, hq, hr, hw, decide_false, Bool.not_true, Bool.false_eq_true, if_false]

/-- The last resource that a command waits for: it holds it and goes on as its opcode says. -/
theorem grantWindow_last {w : WinId} {e : Exec} {o : Opcode} (he : s.win[w].exec = some e)
    (hp : e.phase = .acquire [r]) (ho : opcodeOf e.entry.op.toNat = some o) :
    grantWindow w r s =
      o.go w e.ctx e.entry.cmd { s with port := { s.port with held := s.port.held ++ [(r, .window w)] } } := by
  simp only [grantWindow, he, hp, takeAll, resume, take, ho]

end

/-! ## WAIT_TIMEOUT and WAITING_ALL_RELEASE -/

/-- No resource is held by the window. -/
def HoldsNothing (s : State) (w : WinId) : Prop := ∀ r, (r, Holder.window w) ∉ s.port.held

/-- A window's command ends: it is out of the executor, its resources are free and its completion stands last. -/
theorem finish_ends {s u : State} {w : WinId} {e : Exec} {code : Code} {q0 q1 : Word} (hu : u.win[w] = s.win[w])
    (he : s.win[w].exec = some e) (hd : e.discard = false) :
    (finish w code q0 q1 u).win[w].exec = none ∧ HoldsNothing (finish w code q0 q1 u) w ∧
      (finish w code q0 q1 u).win[w].done =
        s.win[w].done ++ [{ tag := e.entry.cmd.tag, code := code, q0 := q0, q1 := q1 }] := by
  have heu : u.win[w].exec = some e := (congrArg Window.exec hu).trans he
  have hfin := finish_win u w code q0 q1 e heu hd
  refine ⟨congrArg Window.exec hfin, fun r hr => ?_, (congrArg Window.done hfin).trans ?_⟩
  · rw [finish_held u w code q0 q1 e heu] at hr
    simp at hr
  · rw [hu]

theorem finish_faults (w : WinId) (code : Code) (q0 q1 : Word) (s : State) :
    (finish w code q0 q1 s).faults = s.faults :=
  (finish_changes (G := [.win, .port, .evu, .pcie]) .refl rfl).faults_eq rfl

section
variable {s : State} {w : WinId} {e : Exec}

/-- A command that ends with a fault: what the window and the log show. -/
theorem finish_logged {n : Nat} {arg : Word} {unit : Nat} {c : Option CtxId} {code : Code} {u : State}
    (hf : fabricOn s = true) (he : s.win[w].exec = some e) (hd : e.discard = false)
    (hw : u.win = s.win) (hm : u.mem = s.mem) (hfl : u.faults = (logFault n unit arg s c).faults) :
    (finish0 w code u).win[w].exec = none ∧ HoldsNothing (finish0 w code u) w ∧
      (finish0 w code u).win[w].done = s.win[w].done ++ [{ tag := e.entry.cmd.tag, code := code, q0 := 0, q1 := 0 }] ∧
      (finish0 w code u).faults.entries.getLast? =
        some (FaultEntry.mk s.drone.time (BitVec.ofNat 8 n) (BitVec.ofNat 8 unit) c (faultClass n) arg) ∧
      (finish0 w code u).mem = s.mem := by
  obtain ⟨hx, hh, hdone⟩ := finish_ends (code := code) (q0 := 0) (q1 := 0) (congrArg (·[w]) hw) he hd
  refine ⟨hx, hh, hdone, ?_, ?_⟩
  · have hfin : (finish0 w code u).faults = u.faults := finish_faults w code 0 0 u
    rw [hfin, hfl]
    exact logFault_last hf n unit arg c
  · exact ((finish0_changes (G := [.win, .port, .evu, .pcie]) .refl rfl).mem_eq rfl).trans hm

theorem exec_waitTimeout_free {r : Resource} {l : List Resource} (he : s.win[w].exec = some e)
    (hp : e.phase = .acquire (r :: l)) (hr : resHeld s r = false) :
    exec (.waitTimeout (.window w)) s = .next s := by
  show Host.Outcome.next (expireWindow w s) = _
  simp only [expireWindow, he, hp, hr, Bool.false_eq_true, if_false]

theorem exec_waitTimeout_held {r : Resource} {l : List Resource} (he : s.win[w].exec = some e)
    (hp : e.phase = .acquire (r :: l)) (hr : resHeld s r = true) :
    exec (.waitTimeout (.window w)) s = .next (finish0 w .timeout (logWait (Resource.order r) e s)) := by
  show Host.Outcome.next (expireWindow w s) = _
  simp only [expireWindow, he, hp, hr, if_true]

/-- The entry that POWER_REQ asked for ends. -/
theorem failEntry_unasked {code : Code} {x : Transition} (h : s.power.trans = some x) (hx : x.byWindow = none) :
    failEntry code s = releaseHolder .powerSeq { s with power := { s.power with trans := none } } := by
  simp only [failEntry, h, hx]

theorem exec_waitTimeout_power {x : Transition} (h : s.power.trans = some x) (hb : x.byWindow = none)
    (he : x.exiting = false) (hs : x.step ≤ 2) :
    exec (.waitTimeout .power) s = .next (failEntry .timeout (logFault 0x31 eventOrder 0x60 s)) := by
  have hw : entryWaits s = true := by
    simp only [entryWaits, h, Option.any_some, he, hs, decide_true, Bool.not_false, Bool.and_self]
  show Host.Outcome.next (expirePower s) = _
  simp only [expirePower, h, Option.bind_some, hb, hw, if_true]

theorem exec_waitingAllRelease_window {n : Nat} {v : Word} (h : earliestWait s = some (.window w, n, v))
    (he : s.win[w].exec = some e) (hp : e.phase ≠ .maqStage) : exec .waitingAllRelease s =
      .next (finish0 w .stalled (raise 284 (logFault 0x30 (Sequencer.window w).unit v s))) := by
  have hw : (raise 284 (logFault 0x30 (Sequencer.window w).unit v s)).win = s.win :=
    (raise_changes (G := [.evu, .pcie, .faults]) (logFault_changes .refl rfl) rfl).win_eq rfl
  show execWaitingAllRelease s = _
  unfold execWaitingAllRelease
  rw [h]
  dsimp only
  rw [releaseSeq, hw, he, Option.any_some, decide_eq_false hp, if_neg Bool.false_ne_true]

end

/-! ## FAULT_CLEAR -/

section
variable {s : State} {w : WinId} {a : Cmd}

theorem exec_faultClear_acts (h : ready s w 0 = true) (ha : argBits a 0 0 0 0 = true) :
    exec (.faultClear w a) s = .next (actFaultClear w 0 a (taken s w 0x58 a 0)) := by
  have hk (t : State) : opFaultClear.check w 0 a t = none := by
    show firstFail [(!supervisor 0, .denied), (!argBits a 0 0 0 0, .badArg)] = none
    rw [ha, supervisor_zero]
    rfl
  refine congrArg Host.Outcome.next ((run_passes (o := opFaultClear) h (hk _) rfl rfl (hk _) rfl).trans ?_)
  show actFaultClear w 0 a (takenWith s w 0x58 a 0 []) = _
  rw [takenWith_nil]

theorem clearFaults_win (s : State) (w : WinId) : (clearFaults s).win[w] = { s.win[w] with snapshot := none } := by
  unfold clearFaults
  exact Vector.getElem_map _ w.2

theorem actFaultClear_answered (h : ready s w 0 = true) :
    answered s (actFaultClear w 0 a (taken s w 0x58 a 0)) w a.tag .ok (put s.faults.entries.length 0 7) 0 := by
  have hw := clearFaults_win (taken s w 0x58 a 0) w
  rw [taken_win] at hw
  obtain ⟨-, -, -, -, hq, -⟩ := (ready_iff s w 0).1 h
  have hx := congrArg Window.exec hw
  have hf := finish_win (clearFaults (taken s w 0x58 a 0)) w .ok (put s.faults.entries.length 0 7) 0 _ hx rfl
  have hh := finish_held (clearFaults (taken s w 0x58 a 0)) w .ok (put s.faults.entries.length 0 7) 0 _ hx
  have hact : actFaultClear w 0 a (taken s w 0x58 a 0) =
      finish w .ok (put s.faults.entries.length 0 7) 0 (clearFaults (taken s w 0x58 a 0)) := rfl
  rw [hact]
  rw [hw] at hf
  refine ⟨?_, ?_, ?_, ?_, ?_, fun r hr => ?_⟩
  · rw [hf]
  · rw [hf]
  · rw [hf]
  · rw [hf]
  · rw [hf]
  · rw [hh] at hr
    simp at hr

theorem actFaultClear_faults (t : State) :
    (actFaultClear w 0 a t).faults = { t.faults with entries := [], overflow := false } ∧
      (actFaultClear w 0 a t).mem = t.mem := by
  have hch := finish_changes (G := [.win, .port, .evu, .pcie]) (w := w) (code := .ok)
    (q0 := put t.faults.entries.length 0 7) (q1 := 0) (.refl (s := clearFaults t)) rfl
  exact ⟨hch.faults_eq rfl, hch.mem_eq rfl⟩

end

/-- Settles O54: a grant, the two ends of a wait, the release of the waiting-all detector and the emptied log. -/
theorem waitsAreGrantedOrReleased : Obligations.WaitsAreGrantedOrReleased := by
  refine ⟨fun s r hf ha hq => ⟨execResourceGrant_eq_none hf ha hq, fun w e o hw he hp _ ho => ⟨fun hb => ?_,
      fun hb => ?_⟩⟩, fun s w e r l hf he hp => ⟨exec_waitTimeout_free he hp, fun hr hd => ?_⟩,
    fun s x h hb he hs => ⟨_, exec_waitTimeout_power h hb he hs, ?_⟩,
    fun s hf => ⟨fun hn => ?_, fun w n v e hw he hp hd => ?_⟩, fun s w a h ha => ?_⟩
  · rw [execResourceGrant_eq_window hf ha hq hw, if_pos hb]
  · rw [execResourceGrant_eq_window hf ha hq hw, if_neg (by rw [hb]; exact Bool.false_ne_true),
      grantWindow_last he hp ho]
  · have hch := logFault_changes (G := [.evu, .pcie, .faults]) (code := 0x31) (unit := Resource.order r)
      (arg := put e.entry.op.toNat 0 8 ||| put e.entry.cmd.tag.toNat 8 8) (ctx := some e.ctx) (.refl (s := s)) rfl
    obtain ⟨hx, hh, hdone, hlast, hmem⟩ := finish_logged (code := .timeout) (u := logWait (Resource.order r) e s)
      hf he hd (hch.win_eq rfl) (hch.mem_eq rfl) rfl
    exact ⟨_, _, exec_waitTimeout_held he hp hr, hx, hh, hdone, hlast, rfl, rfl, rfl, hmem⟩
  · have hch := logFault_changes (G := [.evu, .pcie, .faults]) (code := 0x31) (unit := eventOrder)
      (arg := 0x60) (ctx := none) (.refl (s := s)) rfl
    have hpow := hch.power_eq rfl
    have hmem := hch.mem_eq rfl
    generalize logFault 0x31 eventOrder 0x60 s = u at hpow hmem
    rw [failEntry_unasked (x := x) (by rw [hpow]; exact h) hb]
    exact ⟨rfl, (congrArg Power.mode hpow : u.power.mode = s.power.mode), hmem⟩
  · show execWaitingAllRelease s = _
    unfold execWaitingAllRelease
    rw [hn]
  · have hch := raise_changes (n := 284) (logFault_changes (G := [.evu, .pcie, .faults]) (code := 0x30)
      (unit := (Sequencer.window w).unit) (arg := v) (ctx := none) (.refl (s := s)) rfl) rfl
    obtain ⟨hx, hh, hdone, hlast, hmem⟩ := finish_logged (code := .stalled) hf he hd (hch.win_eq rfl) (hch.mem_eq rfl)
      (raise_faults _ _)
    exact ⟨_, _, exec_waitingAllRelease_window hw he hp, hx, hh, hdone, hlast, rfl, rfl, hmem⟩
  · obtain ⟨hfl, hmem⟩ := actFaultClear_faults (w := w) (a := a) (taken s w 0x58 a 0)
    exact ⟨_, exec_faultClear_acts h ha, actFaultClear_answered h, hfl, hmem⟩

end Sys2Proof.Machine
end

section
/-! A loss of the crystal stays marked in FAULT_SUMMARY while the heads it gates let go of their frames (27.7). -/
namespace Sys2Proof.Machine

/-- FAULT_SUMMARY shows a lost clock. -/
def LossSeen (s : State) : Prop := s.faults.seen.clkLoss = true

/-- Every part of the state but the fault log. -/
def besideFaults : List Part :=
  [.mem, .memc, .win, .ctx, .port, .evu, .pcie, .power, .drone, .timer, .timerShadow, .mon, .fetch, .slot, .commits,
    .comp, .relief, .prot, .head, .panel, .syn, .epd, .seg, .adc, .relay, .cal, .boot, .pins, .free]

/-- What leaves the fault log alone keeps the mark. -/
theorem LossSeen.keep {s t : State} (hs : LossSeen s) (h : Changes besideFaults s t) : LossSeen t :=
  (congrArg (fun x : FaultLog => x.seen.clkLoss) (h.faults_eq rfl)).trans hs

theorem LossSeen.ite {p : Prop} [Decidable p] {s t : State} (hs : LossSeen s) (ht : LossSeen t) :
    LossSeen (if p then s else t) := by
  split
  · exact hs
  · exact ht

/-- No code of an entry clears a clock loss that was seen. -/
theorem Seen.mark_clkLoss {x : Seen} (h : x.clkLoss = true) (code : Nat) : (x.mark code).clkLoss = true := by
  unfold Seen.mark
  simp only [apply_ite Seen.clkLoss, h, ite_self]

theorem logFault_lossSeen {s : State} (h : LossSeen s) (code unit : Nat) (arg : Word) (c : Option CtxId) :
    LossSeen (logFault code unit arg s c) := by
  unfold logFault
  dsimp only
  split
  · unfold LossSeen enterFault
    dsimp only
    rw [raise_faults]
    exact Seen.mark_clkLoss h _
  · exact .ite (.ite h h) h

theorem logUe_lossSeen {s : State} (h : LossSeen s) (x : Option Nat) : LossSeen (logUe x s) := by
  unfold logUe
  split
  · exact (logFault_lossSeen h _ _ _ _).keep (raise_changes .refl rfl)
  · exact h

theorem promote_lossSeen (n : Nat) {s : State} (h : LossSeen s) : LossSeen (promote n s) := by
  induction n generalizing s with
  | zero => exact h
  | succ n ih =>
    unfold promote
    split
    · split
      · refine ih (.ite ?_ ?_)
        · exact (logUe_lossSeen (h.keep (accessSpill_changes .refl rfl)) _).keep (setTile_changes .refl rfl)
        · exact h.keep (setTile_changes (putChip_changes (accessSpill_changes .refl rfl) rfl) rfl)
      · exact h
    · exact h

theorem freeSlots_lossSeen {s : State} (h : LossSeen s) : LossSeen (freeSlots s) :=
  promote_lossSeen 170 (h.keep (pruneChip_changes .refl rfl))

theorem dropRuns_lossSeen (h : ContHead) {s : State} (hs : LossSeen s) : LossSeen (dropRuns h s) :=
  freeSlots_lossSeen (hs.keep (endFlatten_changes (setRuns_changes .refl rfl) rfl))

theorem assemble_lossSeen (i : StreamId) {s : State} (hs : LossSeen s) : LossSeen (assemble i s) := by
  unfold assemble
  dsimp only
  split
  · exact hs
  · refine .ite hs (LossSeen.keep (.ite ?_ hs)
      (settleEgress_changes (modEgress_changes (modStream_changes (access_changes .refl rfl) rfl) rfl) rfl))
    exact logUe_lossSeen (hs.keep (bumpFree_changes .refl rfl)) _

theorem beginStream_lossSeen (i : StreamId) (h : ContHead) {s : State} (hs : LossSeen s) :
    LossSeen (beginStream i h s) := by
  unfold beginStream
  dsimp only
  split
  · exact .ite hs (assemble_lossSeen i (hs.keep (modStream_changes .refl rfl)))
  · exact hs

theorem completeWriteback_lossSeen (h : ContHead) {s : State} (hs : LossSeen s) : LossSeen (completeWriteback h s) :=
    by
  unfold completeWriteback
  dsimp only
  split
  · exact .ite hs (forEach_keeps (P := LossSeen) (fun i _ ht => beginStream_lossSeen i h ht) _
      (hs.keep (raiseHead_changes (modHead_changes (writeRecord_changes .refl rfl) rfl) rfl)))
  · exact hs

theorem haltHead_lossSeen (h : ContHead) {s : State} (hs : LossSeen s) : LossSeen (haltHead h s) := by
  unfold haltHead
  dsimp only
  split
  · exact hs
  · have hcut : LossSeen (tapCut h (if allRows s h then s else abandonWriteback h s)) :=
      (LossSeen.ite hs (hs.keep (abandonWriteback_changes .refl rfl))).keep (tapCut_changes .refl rfl)
    have hstop {t u : State} (ht : LossSeen t)
        (htu : Changes besideFaults t u) : LossSeen (tryCal (raiseHead h 15 (dropRuns h u))) :=
      (dropRuns_lossSeen h (ht.keep htu)).keep (tryCal_changes (raiseHead_changes .refl rfl) rfl)
    split
    · refine .ite ?_ (LossSeen.keep ?_ (finishGen_changes .refl rfl)) <;>
        exact hstop hcut (settleStopped_changes (modComp_changes (dropLayerRequests_changes (modSyn_changes
          (modHead_changes .refl rfl) rfl) rfl) rfl) rfl)
    · exact hstop hcut (settleStopped_changes (modComp_changes (dropLayerRequests_changes (modSyn_changes
        (modHead_changes .refl rfl) rfl) rfl) rfl) rfl)

theorem framesCut_lossSeen (h : ContHead) {s : State} (hs : LossSeen s) : LossSeen (framesCut h s) := by
  unfold framesCut
  split
  · have hp {f} : LossSeen (s.modPanel h f) := hs.keep (modPanel_changes .refl rfl)
    exact .ite (.ite (logFault_lossSeen hp _ _ _ _) hp) hs
  · exact hs

theorem logExtent_lossSeen (h : ContHead) (z : SlotId) (l : Layer) {s : State} (hs : LossSeen s) :
    LossSeen (logExtent h z l s) :=
  .ite hs (logFault_lossSeen (hs.keep (modComp_changes .refl rfl)) _ _ _ _)

theorem requestRange_lossSeen (h : ContHead) (frame : Nat) (z : SlotId) (l : Layer) (v : State)
    (x : Nat × Nat × Nat × Nat) {s : State} (hs : LossSeen s) : LossSeen (requestRange h frame z l v x s) :=
  .ite (hs.keep (enqueue_changes (modComp_changes .refl rfl) rfl)) (logExtent_lossSeen h z l hs)

theorem requestLine_lossSeen (h : ContHead) (y : Nat) (next : Bool) {s : State} (hs : LossSeen s) :
    LossSeen (requestLine h y next s) := by
  unfold requestLine
  dsimp only
  split
  · exact hs
  · refine forEach_keeps (P := LossSeen) (fun p _ ht => ?_) _ (hs.keep (modComp_changes .refl rfl))
    exact forEach_keeps (P := LossSeen) (fun x _ hu => requestRange_lossSeen h _ _ _ _ x hu) _ ht

theorem loadPalettes_lossSeen (h : ContHead) (cfg : HeadCfg) (next : Bool) {s : State} (hs : LossSeen s) :
    LossSeen (loadPalettes h cfg next s) := by
  unfold loadPalettes
  dsimp only
  refine forEach_keeps (P := LossSeen) (fun p t ht => ?_) _ (hs.keep (modComp_changes .refl rfl))
  refine .ite (.ite ?_ ?_) ht
  · exact forEach_keeps (P := LossSeen) (fun x _ hu => hu.keep (enqueue_changes .refl rfl)) _
      (ht.keep (modComp_changes .refl rfl))
  · exact logExtent_lossSeen _ _ _ (ht.keep (modComp_changes .refl rfl))

theorem openFrame_lossSeen (h : ContHead) (cfg : HeadCfg) (next : Bool) {s : State} (hs : LossSeen s) :
    LossSeen (openFrame h cfg next s) :=
  forEach_keeps (P := LossSeen) (fun y _ ht => requestLine_lossSeen h y next ht) _ (loadPalettes_lossSeen h cfg next
    (freeSlots_lossSeen (hs.keep (modComp_changes (dropLayerRequests_changes .refl rfl) rfl))))

theorem fillStore_lossSeen (h : ContHead) {s : State} (hs : LossSeen s) : LossSeen (fillStore h s) := by
  unfold fillStore
  split
  · exact hs
  · exact (openFrame_lossSeen h _ true hs).keep (modComp_changes .refl rfl)

theorem gateHead_lossSeen (h : ContHead) {s : State} (hs : LossSeen s) : LossSeen (gateHead h s) := by
  unfold gateHead
  dsimp only
  have hgate {f} : LossSeen (tryCal (s.modHead h f)) := hs.keep (tryCal_changes (modHead_changes .refl rfl) rfl)
  have hcut {f} : LossSeen (tapCut h (abandonWriteback h (completeWriteback h (tryCal (s.modHead h f))))) :=
    (completeWriteback_lossSeen h hgate).keep (tapCut_changes (abandonWriteback_changes .refl rfl) rfl)
  exact .ite hgate (.ite (haltHead_lossSeen h hcut) (.ite (haltHead_lossSeen h (framesCut_lossSeen h hcut))
    (fillStore_lossSeen h hcut)))

theorem loseSyn_lossSeen (y : SynId) (reference : Bool) {s : State} (hs : LossSeen s) :
    LossSeen (loseSyn y reference s) := by
  unfold loseSyn
  dsimp only
  have hlog {f} : LossSeen (logFault 0x11 y.1 (if reference then 1 else 0) (s.modSyn y f)) :=
    logFault_lossSeen (hs.keep (modSyn_changes .refl rfl)) _ _ _ _
  have hcut {f} : LossSeen (cutPhaseStep y (raise (synSource y false)
      (logFault 0x11 y.1 (if reference then 1 else 0) (s.modSyn y f)))) :=
    hlog.keep (cutPhaseStep_changes (raise_changes .refl rfl) rfl)
  refine .ite hs (.ite hlog ?_)
  split
  · exact .ite (gateHead_lossSeen _ hcut) hcut
  · exact hcut.keep (interruptEpd_changes .refl rfl)

end Sys2Proof.Machine
end

section
/-! Reset and start-up (chapter 26), the crystals (27.7) and the JTAG port (28.6). -/
namespace Sys2Proof.Machine

/-! ## The end of a start-up -/

/-- The fields of the boot loader that its end leaves alone, with BOOT_DONE set. -/
theorem bootReached_boot (s : State) : (bootReached s).boot = s.boot :=
  (bootReached_changes (G := [.port, .evu, .pcie, .power]) .refl rfl).boot_eq rfl

theorem bootDone_boot (s : State) : (bootDone s).boot = { s.boot with doneFlag := true } := by
  unfold bootDone
  dsimp only
  split
  · rename_i h
    show s.boot = _
    rw [← h]
  · split
    · rw [bootReached_boot]
      rfl
    · exact (raise_changes (G := [.port, .evu, .pcie]) (releaseHolder_changes .refl rfl) rfl).boot_eq rfl

theorem raise_port (n : Nat) (s : State) : (raise n s).port = s.port :=
  (raise_changes (G := [.evu, .pcie]) .refl rfl).port_eq rfl

theorem bootReached_deviceGen (s : State) : (bootReached s).port.deviceGen = s.port.deviceGen := by
  unfold bootReached
  split
  · exact (congrArg Port.deviceGen (raise_port 280 _)).trans rfl
  · rfl

theorem bootDone_deviceGen (s : State) : (bootDone s).port.deviceGen = s.port.deviceGen := by
  unfold bootDone
  dsimp only
  split
  · rfl
  · split
    · rw [bootReached_deviceGen]
      rfl
    · exact (congrArg Port.deviceGen (raise_port 280 _)).trans rfl

/-- The state in which a stopped boot sets BOOT_DONE. -/
def stopping (s : State) : State := showBootFault { s with faults := { s.faults with bootFault := true } }

theorem stopping_changes (s : State) :
    Changes [.seg] { s with faults := { s.faults with bootFault := true } } (stopping s) :=
  showBootFault_changes .refl rfl

theorem bootStops_boot (s : State) : (bootStops s).boot = { s.boot with doneFlag := true } := by
  have h : (bootStops s).boot = { (stopping s).boot with doneFlag := true } := bootDone_boot (stopping s)
  rw [h, (stopping_changes s).boot_eq rfl]

theorem bootStops_faults (s : State) : (bootStops s).faults = { s.faults with bootFault := true } := by
  have h : (bootStops s).faults = (stopping s).faults :=
    (bootDone_changes (G := [.port, .evu, .pcie, .power, .boot]) .refl rfl).faults_eq rfl
  rw [h, (stopping_changes s).faults_eq rfl]

theorem bootStops_deviceGen (s : State) : (bootStops s).port.deviceGen = s.port.deviceGen := by
  have h : (bootStops s).port.deviceGen = (stopping s).port.deviceGen := bootDone_deviceGen (stopping s)
  rw [h, (stopping_changes s).port_eq rfl]

/-! ## The image -/

section
variable {s : State} {f : FlashRead}

theorem usedImage_setFlash (m : Option FlashMode) :
    usedImage { s with boot := { s.boot with flash := m } } f = usedImage s f := rfl

theorem exec_bootImage_taken {b : List Byte} (hp : s.boot.phase = .registers) (hb : s.boot.straps.flashBoot = true)
    (h : usedImage s f = some b) : ∃ t, exec (.bootImageValidation f) s = .next t ∧ t.boot.phase = .validated ∧
      t.boot.valid = true ∧ t.boot.sections = sectionsOf b ∧ t.boot.doneFlag = s.boot.doneFlag ∧ t.mem = s.mem := by
  have hx : execBootImageValidation f s = .next { s with
      boot := { s.boot with flash := some (flashMode s.boot.straps.quadOk f.sfdp), phase := .validated,
                            sections := sectionsOf b, valid := true }
      memc := { s.memc with
        cfg := (sectionIn (sectionsOf b) secMemory 0).bind fun x => parseMemory x.payload } } := by
    unfold execBootImageValidation
    rw [hp, hb, if_neg (by simp)]
    dsimp only
    rw [usedImage_setFlash, h]
  exact ⟨_, hx, rfl, rfl, rfl, rfl, rfl⟩

/-- The state in which the boot stops for want of a valid image. -/
def unbooted (f : FlashRead) (s : State) : State :=
  logFault 0x40 0 (if s.boot.straps.imageAlt then 1 else 0)
    { s with boot := { s.boot with flash := some (flashMode s.boot.straps.quadOk f.sfdp) } }

theorem exec_bootImage_stops (hp : s.boot.phase = .registers) (hb : s.boot.straps.flashBoot = true)
    (h : usedImage s f = none) :
    exec (.bootImageValidation f) s = .next (setPhaseOf .validated (bootStops (unbooted f s))) := by
  show execBootImageValidation f s = _
  unfold execBootImageValidation
  rw [hp, hb, if_neg (by simp)]
  dsimp only
  rw [usedImage_setFlash, h]
  rfl

theorem unbooted_boot : (unbooted f s).boot =
    { s.boot with flash := some (flashMode s.boot.straps.quadOk f.sfdp) } :=
  (logFault_changes (G := [.evu, .pcie, .faults]) .refl rfl).boot_eq rfl

theorem unbooted_valid : (unbooted f s).boot.valid = s.boot.valid := by rw [unbooted_boot]

theorem unbooted_mem : (unbooted f s).mem = s.mem :=
  (logFault_changes (G := [.evu, .pcie, .faults]) .refl rfl).mem_eq rfl

end

/-! ## Memory training -/

theorem trained_memc (ok : Bool) (s : State) : (trained ok s).memc = s.memc :=
  (trained_changes (G := [.port, .evu, .pcie, .faults, .power, .seg, .boot]) .refl rfl).memc_eq rfl

theorem trained_mem (ok : Bool) (s : State) : (trained ok s).mem = s.mem :=
  (trained_changes (G := [.port, .evu, .pcie, .faults, .power, .seg, .boot]) .refl rfl).mem_eq rfl

theorem trained_valid {s : State} (h : s.boot.valid = true) : trained true s = setPhaseOf .trained s := by
  have h' : (setPhaseOf .trained s).boot.valid = true := h
  simp only [trained, h', if_true]

/-- Without a valid image the start-up ends with the training. -/
theorem trained_unbooted {ok : Bool} {s : State} (h : s.boot.valid = false) :
    trained ok s = setPhaseOf .done (bootDone (setPhaseOf .trained s)) := by
  have h' : (setPhaseOf .trained s).boot.valid = false := h
  simp only [trained, h', Bool.false_eq_true, if_false]

theorem trained_failed {s : State} (h : s.boot.valid = true) :
    trained false s = setPhaseOf .done (bootStops (setPhaseOf .trained s)) := by
  have h' : (setPhaseOf .trained s).boot.valid = true := h
  simp only [trained, h', if_true, Bool.false_eq_true, if_false]

theorem trained_done {ok : Bool} {s : State} (h : ok = true → s.boot.valid = false) :
    (trained ok s).boot.phase = .done ∧ (trained ok s).boot.doneFlag = true := by
  cases hv : s.boot.valid with
  | false =>
    rw [trained_unbooted hv]
    exact ⟨rfl, congrArg Boot.doneFlag (bootDone_boot _)⟩
  | true =>
    cases ok with
    | true => exact absurd (h rfl) (by rw [hv]; exact Bool.true_eq_false.mp)
    | false =>
      rw [trained_failed hv]
      exact ⟨rfl, congrArg Boot.doneFlag (bootStops_boot _)⟩

theorem trained_faults_last {ok : Bool} {s : State} {e : Option FaultEntry} (h : s.faults.entries.getLast? = e) :
    (trained ok s).faults.entries.getLast? = e := by
  have hdone (t : State) : (bootDone t).faults = t.faults :=
    (bootDone_changes (G := [.port, .evu, .pcie, .power, .boot]) .refl rfl).faults_eq rfl
  have hstop (t : State) : (bootStops t).faults.entries = t.faults.entries := by rw [bootStops_faults]
  cases hv : s.boot.valid with
  | false =>
    rw [trained_unbooted hv]
    show (bootDone (setPhaseOf .trained s)).faults.entries.getLast? = e
    rw [hdone]
    exact h
  | true =>
    cases ok with
    | true =>
      rw [trained_valid hv]
      exact h
    | false =>
      rw [trained_failed hv]
      show (bootStops (setPhaseOf .trained s)).faults.entries.getLast? = e
      rw [hstop]
      exact h

/-- What the boot loader sets in the memory controller before it trains. -/
def trainFor (k : MemConfig) (s : State) : State :=
  { s with memc := { s.memc with rate := k.rate, ecc := k.ecc, resetN := true } }

/-- The settings of the image, else the defaults. -/
def trainConfig (s : State) : MemConfig := s.memc.cfg.getD { rate := 3733, ecc := false, deliverable := 0 }

/-- Memory that passed its training. -/
def passed (code ranks d : Nat) (s : State) : State :=
  { s with memc := { s.memc with ready := true, sizeCode := code, ranks := ranks, deliverable := firstDeclaration s d
      } }

section
variable {s : State}

theorem exec_training_pass {code ranks : Nat} (ht : mayTrain s = true) (h1 : 1 ≤ code) (h5 : code ≤ 5) :
    exec (.memoryTraining (.pass code ranks)) s = .next (trained true (raise 184
      (passed code ranks (trainConfig s).deliverable (trainFor (trainConfig s) s)))) := by
  have hc : (decide (code = 0) || decide (5 < code)) = false := by
    rw [decide_eq_false (Nat.ne_of_gt h1), decide_eq_false (Nat.not_lt.mpr h5)]
    rfl
  show execMemoryTraining (.pass code ranks) s = _
  unfold execMemoryTraining
  rw [ht, if_neg (by simp)]
  dsimp only
  rw [hc, if_neg Bool.false_ne_true]
  rfl

theorem exec_training_fail {c0 c1 m : Bool} (ht : mayTrain s = true) (h : (c0 || c1 || m) = true) :
    exec (.memoryTraining (.fail c0 c1 m)) s = .next (trained false (raise 187
      (logFault 0x05 (trainUnit c0 c1 m) 3 (trainFor (trainConfig s) s)))) := by
  show execMemoryTraining (.fail c0 c1 m) s = _
  unfold execMemoryTraining
  rw [ht, if_neg (by simp)]
  dsimp only
  rw [h, if_neg (by simp)]
  rfl

theorem exec_training_pass_result {code ranks : Nat} (ht : mayTrain s = true) (h1 : 1 ≤ code) (h5 : code ≤ 5) :
    ∃ t, exec (.memoryTraining (.pass code ranks)) s = .next t ∧ t.memc.ready = true ∧ t.memc.sizeCode = code ∧
      t.memc.ranks = ranks ∧ t.mem = s.mem ∧
      (s.boot.valid = true → t.boot.phase = .trained ∧ t.boot.doneFlag = s.boot.doneFlag) ∧
      (s.boot.valid = false → t.boot.phase = .done ∧ t.boot.doneFlag = true) := by
  have hch := raise_changes (G := [.evu, .pcie]) (n := 184)
    (.refl (s := passed code ranks (trainConfig s).deliverable (trainFor (trainConfig s) s))) rfl
  refine ⟨_, exec_training_pass ht h1 h5, ?_⟩
  generalize raise 184 _ = u at hch ⊢
  have hmemc : (trained true u).memc = _ := (trained_memc true u).trans (hch.memc_eq rfl)
  have hboot : u.boot = s.boot := hch.boot_eq rfl
  refine ⟨?_, ?_, ?_, (trained_mem true u).trans (hch.mem_eq rfl), fun hv => ?_, fun hv => ?_⟩
  · rw [hmemc]
    rfl
  · rw [hmemc]
    rfl
  · rw [hmemc]
    rfl
  · rw [trained_valid (by rw [hboot]; exact hv)]
    exact ⟨rfl, (congrArg Boot.doneFlag hboot : u.boot.doneFlag = s.boot.doneFlag)⟩
  · exact trained_done fun _ => by rw [hboot]; exact hv

theorem exec_training_fail_result {c0 c1 m : Bool} (ht : mayTrain s = true) (h : (c0 || c1 || m) = true)
    (hf : fabricOn s = true) : ∃ t e, exec (.memoryTraining (.fail c0 c1 m)) s = .next t ∧
      t.memc.ready = s.memc.ready ∧ t.boot.phase = .done ∧ t.boot.doneFlag = true ∧
      t.faults.entries.getLast? = some e ∧ e.code = 0x05 ∧ t.mem = s.mem := by
  have hch := raise_changes (n := 187) (logFault_changes (G := [.evu, .pcie, .faults]) (code := 0x05)
    (unit := trainUnit c0 c1 m) (arg := 3) (ctx := none) (.refl (s := trainFor (trainConfig s) s)) rfl) rfl
  have hlast := logFault_last (s := trainFor (trainConfig s) s) hf 0x05 (trainUnit c0 c1 m) 3 none
  rw [← raise_faults 187] at hlast
  have hx := exec_training_fail ht h
  generalize raise 187 _ = u at hch hlast hx
  obtain ⟨hphase, hdone⟩ := trained_done (ok := false) (s := u) fun h => absurd h Bool.false_ne_true
  refine ⟨_, _, hx, ?_, hphase, hdone, trained_faults_last hlast, rfl, (trained_mem false u).trans (hch.mem_eq rfl)⟩
  rw [trained_memc, hch.memc_eq rfl]
  rfl

/-! ## The application of the image -/

/-- The state after the sections: applied to the end, or stopped at one that fails. -/
def imageApplied (t : State) (ok : Bool) : State :=
  setPhaseOf .done
    (if ok then bootDone (applyFreeze { t with port := { t.port with auto := t.port.auto ++ bootAutos t } })
     else bootStops t)

theorem exec_bootImageApply_eq (k : Option Nat) (hp : s.boot.phase = .trained) (hv : s.boot.valid = true)
    (hd : s.boot.doneFlag = false) : exec (.bootImageApply k) s = .next (imageApplied
      { (applyAll (loadSection k) (orderedSections s) s).1 with
        port := { (applyAll (loadSection k) (orderedSections s) s).1.port with deviceGen := s.port.deviceGen } }
      (applyAll (loadSection k) (orderedSections s) s).2) := by
  show execBootImageApply k s = _
  unfold execBootImageApply
  rw [hp, hv, hd, if_neg (by simp)]
  rfl

theorem applyFreeze_deviceGen (t : State) : (applyFreeze t).port.deviceGen = t.port.deviceGen := by
  unfold applyFreeze
  split
  · split
    · rfl
    · rfl
  · rfl

theorem imageApplied_done (t : State) (ok : Bool) :
    (imageApplied t ok).boot.phase = .done ∧ (imageApplied t ok).boot.doneFlag = true ∧
      (imageApplied t ok).port.deviceGen = t.port.deviceGen := by
  cases ok with
  | true => exact ⟨rfl, congrArg Boot.doneFlag (bootDone_boot _), (bootDone_deviceGen _).trans
              (applyFreeze_deviceGen _)⟩
  | false => exact ⟨rfl, congrArg Boot.doneFlag (bootStops_boot _), bootStops_deviceGen _⟩

/-! ## The crystals -/

/-- XTAL_IN is lost: the PLL has no reference. -/
def crystalLost (s : State) : State :=
  { s with drone := { s.drone with xtalOk := false, xtalLost := true, pllLock := false } }

theorem exec_clkLoss_crystal (h : s.drone.xtalOk = true) : exec (.clkLoss false) s =
    .next (forEach [(0 : SynId), 1, 2] (fun y s => loseSyn y true s) (raise 280
        (logFault 0x10 0 0 (crystalLost s)))) := by
  show execClkLoss false s = _
  unfold execClkLoss
  rw [h, if_neg (by simp)]
  simp only [Bool.and_false, Bool.not_false, Bool.or_true]
  rfl

theorem logFault_loss_seen (hf : fabricOn s = true) (arg : Word) : LossSeen (logFault 0x10 0 arg s) := by
  rw [logFault_on s 0x10 0 arg none hf]
  unfold LossSeen enterFault
  dsimp only
  rw [raise_faults]
  rfl

theorem exec_clkLoss_result (h : s.drone.xtalOk = true) (hf : fabricOn s = true) :
    ∃ t, exec (.clkLoss false) s = .next t ∧ t.drone.xtalOk = false ∧ t.drone.pllLock = false ∧
      t.drone.xtalLost = true ∧ t.faults.seen.clkLoss = true := by
  have hseen : LossSeen (raise 280 (logFault 0x10 0 0 (crystalLost s))) :=
    (logFault_loss_seen (s := crystalLost s) hf 0).keep (raise_changes .refl rfl)
  have hlog := (raise_changes (n := 280) (logFault_changes (G := [.evu, .pcie, .faults]) (code := 0x10) (unit := 0)
    (arg := 0) (ctx := none) (.refl (s := crystalLost s)) rfl) rfl).drone_eq rfl
  refine ⟨_, exec_clkLoss_crystal h, ?_⟩
  generalize raise 280 _ = u at hseen hlog ⊢
  have hdrone : (forEach [(0 : SynId), 1, 2] (fun y s => loseSyn y true s) u).drone = u.drone :=
    forEach_keeps (P := fun t => t.drone = u.drone) (fun y t ht => ((loseSyn_changes (G := [.mem, .memc, .win, .ctx,
      .port, .evu, .pcie, .faults, .power, .mon, .fetch, .slot, .commits, .comp, .relief, .prot, .head, .panel, .syn,
      .epd, .adc, .relay, .cal, .free]) .refl rfl).drone_eq rfl).trans ht) _ rfl
  rw [hdrone, hlog]
  exact ⟨rfl, rfl, rfl, forEach_keeps (P := LossSeen) (fun y _ ht => loseSyn_lossSeen y true ht) _ hseen⟩

theorem exec_xtalReturn_result (h : s.drone.pllLock = false) : ∃ t, exec .xtalReturn s = .next t ∧
    t.drone = { s.drone with xtalOk := true, pllLock := true } ∧ t.mem = s.mem := by
  have hx : exec .xtalReturn s = .next (if memAvail { s with drone := { s.drone with xtalOk := true, pllLock := true }
      }
      then calibrate { s with drone := { s.drone with xtalOk := true, pllLock := true } }
      else { s with drone := { s.drone with xtalOk := true, pllLock := true } }) := by
    show execXtalReturn s = _
    unfold execXtalReturn
    rw [h, if_neg Bool.false_ne_true]
  have hch := calibrate_changes (G := [.memc, .evu, .pcie, .mon])
    (.refl (s := { s with drone := { s.drone with xtalOk := true, pllLock := true } })) rfl
  refine ⟨_, hx, ?_⟩
  split
  · exact ⟨hch.drone_eq rfl, hch.mem_eq rfl⟩
  · exact ⟨rfl, rfl⟩

/-! ## The JTAG port -/

theorem Jtag.fall_tap (x : Jtag) : x.fall.tap = x.tap := by
  unfold Jtag.fall
  split <;> rfl

/-- An edge of TCK moves the TAP and no other pin. -/
theorem exec_jtag_result (e : TckEdge) : ∃ t, exec (.jtagTckEdge e) s = .next t ∧ t.mem = s.mem ∧ t.win = s.win ∧
    t.pins.gpio = s.pins.gpio ∧
    t.pins.jtag.tap = (if e.trstN = false then .testLogicReset
      else if e.rising then s.pins.jtag.tap.next e.tms else s.pins.jtag.tap) ∧
    (e.trstN = false → t.pins.jtag.inst = .idcode) := by
  obtain ⟨rising, tms, tdi, trst⟩ := e
  cases trst with
  | false => exact ⟨_, rfl, rfl, rfl, rfl, rfl, fun _ => rfl⟩
  | true =>
    cases rising with
    | true => exact ⟨_, rfl, rfl, rfl, rfl, rfl, fun h => absurd h Bool.noConfusion⟩
    | false => exact ⟨_, rfl, rfl, rfl, rfl, Jtag.fall_tap _, fun h => absurd h Bool.noConfusion⟩

end

/-- Settles O52: the reset state, the steps of the start-up in their order, and the events of the clocks and the TAP.
    -/
theorem resetAndStartUpRunInOrder : Obligations.ResetAndStartUpRunInOrder := by
  refine ⟨fun s st => ⟨⟨_, rfl, rfl, rfl, rfl, rfl, rfl, rfl, rfl, rfl, rfl, rfl, rfl⟩, fun x => ?_⟩,
    fun s hp hf hl => ?_, fun s f hp hb => ⟨fun b => exec_bootImage_taken hp hb, fun h => ?_⟩,
    fun s ht => ⟨fun code ranks h1 h5 => exec_training_pass_result ht h1 h5,
      fun c0 c1 m h hf => exec_training_fail_result ht h hf⟩,
    fun s k hp hv hd => ?_,
    fun s => ⟨exec_clkLoss_result, exec_xtalReturn_result, rfl, rfl, exec_jtag_result⟩⟩
  · show execBrownOut x st s = _
    unfold execBrownOut
    cases monitored s x
    · rfl
    · rfl
  · show execRegisterFileReady s = _
    unfold execRegisterFileReady
    rw [hp, hf, hl]
    rfl
  · refine ⟨_, exec_bootImage_stops hp hb h, rfl, ?_, ?_, ?_, ?_⟩
    · exact congrArg Boot.doneFlag (bootStops_boot _)
    · exact (congrArg Boot.valid (bootStops_boot _)).trans (unbooted_valid (f := f))
    · exact congrArg FaultLog.bootFault (bootStops_faults _)
    · exact ((bootStops_changes (G := [.port, .evu, .pcie, .faults, .power, .seg, .boot]) .refl rfl).mem_eq
        rfl).trans unbooted_mem
  · obtain ⟨hphase, hdone, hgen⟩ := imageApplied_done
      { (applyAll (loadSection k) (orderedSections s) s).1 with
        port := { (applyAll (loadSection k) (orderedSections s) s).1.port with deviceGen := s.port.deviceGen } }
      (applyAll (loadSection k) (orderedSections s) s).2
    exact ⟨_, exec_bootImageApply_eq k hp hv hd, hphase, hdone, hgen⟩

end Sys2Proof.Machine
end

section
/-! RESET_CTL (Table 05-37): the block that a request bit names. -/
namespace Sys2Proof.Machine

/-! ## One bit of REQ -/

theorem reqBit_getLsbD : ∀ b : Fin 10, ∀ k : Fin 32, (reqBit b.1).getLsbD k.1 = decide (k.1 = b.1) := by decide

/-- Of a list of steps only one does anything. -/
theorem forEach_single {α : Type} {f : α → State → State} {l : List α} {b : α} (hb : b ∈ l) (hl : l.Nodup)
    (h : ∀ a ∈ l, a ≠ b → ∀ t, f a t = t) (s : State) : forEach l f s = f b s := by
  induction l generalizing s with
  | nil => cases hb
  | cons a l ih =>
    obtain ⟨hal, hl⟩ := List.nodup_cons.mp hl
    have hcons : forEach (a :: l) f s = forEach l f (f a s) := rfl
    rw [hcons]
    by_cases hab : a = b
    · subst hab
      exact forEach_keeps_mem (P := fun t => t = f a s) (fun x hx t ht =>
        (h x (List.mem_cons_of_mem _ hx) (fun e => hal (e ▸ hx)) t).trans ht) rfl
    · rw [h a List.mem_cons_self hab s]
      exact ih ((List.mem_cons.mp hb).resolve_left (Ne.symm hab)) hl (fun x hx => h x (List.mem_cons_of_mem _ hx)) s

/-- A request with one bit, and no clear of REFUSED. -/
theorem writeResetCtl_reqBit {b : Nat} (hb : b < 10) (s : State) : writeResetCtl (reqBit b) s =
    if resetRefused s b then { s with port := { s.port with resetRefused := true } } else resetBlock b s := by
  have hbit (k : Nat) (hk : k < 32) : (reqBit b).getLsbD k = decide (k = b) := reqBit_getLsbD ⟨b, hb⟩ ⟨k, hk⟩
  have h31 : (reqBit b).getLsbD 31 = false := (hbit 31 (by decide)).trans (decide_eq_false (Nat.ne_of_gt (by omega)))
  have hkeep : { s with port := { s.port with resetRefused := s.port.resetRefused && !(reqBit b).getLsbD 31 } } = s :=
      by
    rw [h31, Bool.not_false, Bool.and_true]
  have hskip (a : Nat) (ha : a ∈ List.range 10) (hab : a ≠ b) (t : State) : resetRequest (reqBit b) a t = t := by
    have ha10 := List.mem_range.mp ha
    unfold resetRequest
    rw [hbit a (by omega), decide_eq_false hab]
    rfl
  have hreq (t : State) : resetRequest (reqBit b) b t =
      if resetRefused t b then { t with port := { t.port with resetRefused := true } } else resetBlock b t := by
    unfold resetRequest
    rw [hbit b (by omega), decide_eq_true rfl]
    rfl
  unfold writeResetCtl
  dsimp only
  rw [hkeep, forEach_single (List.mem_range.mpr hb) List.nodup_range hskip, hreq]

section
variable {s : State} {acc : WriteAccess} {w : WinId} {v : Word} {b : Nat}

/-- A committed RESET_CTL write from the supervisor with one bit set: its request is refused or its block is reset. -/
theorem writeAt_reset (hw : committed s resetReg acc = some (w, v)) (hc : winCtx s w = some 0)
    (hv : v ||| reqBit b = reqBit b) (hb : b < 10) :
    writeAt resetReg (reqBit b) acc s = writeLeaves acc
      (if resetRefused (writeArrives acc s) b then
        { writeArrives acc s with port := { (writeArrives acc s).port with resetRefused := true } }
      else resetBlock b (writeArrives acc s)) := by
  have hc' : winCtx (writeArrives acc s) w = some 0 := by rw [winCtx_writeArrives, hc]
  have hoff : RegOffset.byte resetReg = 0xF8 := rfl
  rw [writeAt_eq hw, hv, ← writeResetCtl_reqBit hb, hoff]
  simp only [writeReg, hc']
  rfl

/-- Written through a window of another context it does nothing. -/
theorem writeAt_reset_tenant {c : CtxId} (hw : committed s resetReg acc = some (w, v)) (hc : winCtx s w = some c)
    (h0 : c ≠ 0) (set : Word) : writeAt resetReg set acc s = writeLeaves acc (writeArrives acc s) := by
  have hc' : winCtx (writeArrives acc s) w = some c := by rw [winCtx_writeArrives, hc]
  have hoff : RegOffset.byte resetReg = 0xF8 := rfl
  rw [writeAt_eq hw, hoff]
  simp only [writeReg, hc', writeBound, supervisor_of_ne h0, Bool.false_eq_true, if_false]

/-- What the access itself leaves: the windows' latches, the PCIe link and the bus pins apart, the state. -/
theorem reset_access_changes : Changes [.win, .pcie, .pins] s (writeLeaves acc (writeArrives acc s)) :=
  (writeArrives_changes.mono rfl).via writeLeaves_changes rfl

theorem resetRefused_writeArrives : resetRefused (writeArrives acc s) b = resetRefused s b := by
  cases acc <;> rfl

end

/-! ## A continuous head -/

/-- The head is stopped, and no other one has changed. -/
def StoppedApart (h : ContHead) (s t : State) : Prop :=
  t.head[h].run = .stopped ∧ ∀ k : ContHead, k ≠ h → t.head[k] = s.head[k]

/-- Every part of the state but the heads. -/
def besideHeads : List Part :=
  [.mem, .memc, .win, .ctx, .port, .evu, .pcie, .faults, .power, .drone, .timer, .timerShadow, .mon, .fetch, .slot,
    .commits, .comp, .relief, .prot, .panel, .syn, .epd, .seg, .adc, .relay, .cal, .boot, .pins, .free]

theorem StoppedApart.keep {h : ContHead} {s t u : State} (hs : StoppedApart h s t) (k : Changes besideHeads t u) :
    StoppedApart h s u := by
  unfold StoppedApart
  rw [k.head_eq rfl]
  exact hs

theorem modHead_get (s : State) (h : ContHead) (f : Head → Head) : (s.modHead h f).head[h] = f s.head[h] :=
  State.modHead_same s h f

theorem modHead_get_other {s : State} {h k : ContHead} {f : Head → Head} (hk : k ≠ h) :
    (s.modHead h f).head[k] = s.head[k] := State.modHead_other s h f k hk

theorem StoppedApart.modHead {h : ContHead} {s t : State} {f : Head → Head} (hs : StoppedApart h s t)
    (hf : ∀ x, x.run = .stopped → (f x).run = .stopped) : StoppedApart h s (t.modHead h f) := by
  refine ⟨?_, fun k hk => (modHead_get_other hk).trans (hs.2 k hk)⟩
  rw [modHead_get]
  exact hf _ hs.1

/-- The live fields that waited for a boundary apply to the stopped head. -/
def Head.settled (x : Head) : Head :=
  match x.next.getLast? with
  | some (l, _) => { x with next := [], cfg := x.cfg.map fun c => { c with live := l } }
  | none => x

theorem Head.settled_run (x : Head) : x.settled.run = x.run := by
  unfold Head.settled
  split <;> rfl

theorem settleStopped_rest (h : ContHead) (s : State) :
    Changes besideHeads (s.modHead h Head.settled) (settleStopped h s) := by
  unfold settleStopped
  refine protBoundary_changes (.set_commits (.forEach (removeGone_changes .refl rfl) fun n u hu => ?_) rfl) rfl
  dsimp only
  split
  · exact setPolicer_changes (by
      split
      · exact modCtx_changes hu rfl
      · exact hu) rfl
  · exact recomputeDs_changes (by
      split
      · exact modCtx_changes hu rfl
      · exact hu) rfl

theorem settleStopped_stoppedApart {h : ContHead} {s t : State} (hs : StoppedApart h s t) :
    StoppedApart h s (settleStopped h t) :=
  StoppedApart.keep (hs.modHead fun x hx => (Head.settled_run x).trans hx) (settleStopped_rest h t)

/-- The other heads are as before. -/
def HeadApart (h : ContHead) (s t : State) : Prop := ∀ k : ContHead, k ≠ h → t.head[k] = s.head[k]

theorem HeadApart.of_eq {h : ContHead} {s t : State} (e : t.head = s.head) : HeadApart h s t := fun k _ => by rw [e]

theorem HeadApart.modHead {h : ContHead} {s t : State} {f : Head → Head} (hs : HeadApart h s t) :
    HeadApart h s (t.modHead h f) := fun k hk => (modHead_get_other hk).trans (hs k hk)

theorem HeadApart.stopped {h : ContHead} {s t : State} {f : Head → Head} (hs : HeadApart h s t)
    (hf : ∀ x, (f x).run = .stopped) : StoppedApart h s (t.modHead h f) :=
  ⟨by rw [modHead_get, hf], hs.modHead⟩

theorem abandonWriteback_headApart (h : ContHead) (s : State) : HeadApart h s (abandonWriteback h s) := by
  unfold abandonWriteback
  split
  · exact .of_eq rfl
  · exact HeadApart.modHead (.of_eq ((writeRecord_changes (G := [.mem, .memc, .fetch]) .refl rfl).head_eq rfl))

theorem tapCut_head (h : ContHead) (s : State) : (tapCut h s).head = s.head :=
  (tapCut_changes (G := [.win, .port, .evu, .pcie, .fetch, .cal]) .refl rfl).head_eq rfl

/-- A head as it halts. -/
def Head.halted (x : Head) : Head :=
  { x with
    run := .stopped, frames := .normal, line := 0, gated := false, link := false, training := false
    pll := false, edp := { x.edp with stream := false }, gl := GenlockState.reset }

/-- The state in which a head halts, its taps and its writeback cut. -/
def haltCut (h : ContHead) (s : State) : State := tapCut h (if allRows s h then s else abandonWriteback h s)

theorem haltCut_headApart (h : ContHead) (s : State) : HeadApart h s (haltCut h s) := by
  intro k hk
  unfold haltCut
  rw [tapCut_head]
  split
  · rfl
  · exact abandonWriteback_headApart h s k hk

/-- A synthesizer that feeds a started head no more. -/
def Syn.released (x : Syn) : Syn :=
  { x with connected := false, x := (x.cfg.map fun c => (c.period.toNat : Int)).getD 0 }

/-- The head is halted: its synthesizer is let go, and its requests and its line store are dropped. -/
def haltDown (h : ContHead) (s : State) : State :=
  (dropLayerRequests h (((haltCut h s).modHead h Head.halted).modSyn (headSyn h) Syn.released)).modComp h Comp.clear

theorem haltDown_stoppedApart (h : ContHead) (s : State) : StoppedApart h s (haltDown h s) := by
  refine ((haltCut_headApart h s).stopped (f := Head.halted) fun _ => rfl).keep ?_
  unfold haltDown
  exact modComp_changes (dropLayerRequests_changes (modSyn_changes .refl rfl) rfl) rfl

theorem haltHead_rest {h : ContHead} {s : State} (hr : s.head[h].run ≠ .stopped) :
    Changes besideHeads (settleStopped h (haltDown h s)) (haltHead h s) := by
  unfold haltHead
  rw [if_neg hr]
  dsimp only
  split
  · exact .ite (tryCal_changes (raiseHead_changes (dropRuns_changes .refl rfl) rfl) rfl)
      (finishGen_changes (tryCal_changes (raiseHead_changes (dropRuns_changes .refl rfl) rfl) rfl) rfl)
  · exact tryCal_changes (raiseHead_changes (dropRuns_changes .refl rfl) rfl) rfl

/-- A head that halts is stopped, and the other one goes on. -/
theorem haltHead_stoppedApart (h : ContHead) (s : State) : StoppedApart h s (haltHead h s) := by
  by_cases hr : s.head[h].run = .stopped
  · have heq : haltHead h s = s := by
      unfold haltHead
      exact if_pos hr
    rw [heq]
    exact ⟨hr, fun _ _ => rfl⟩
  · exact (settleStopped_stoppedApart (haltDown_stoppedApart h s)).keep (haltHead_rest hr)

end Sys2Proof.Machine
end

section
/-! RESET_CTL (Table 05-37): what the reset of each block leaves. -/
namespace Sys2Proof.Machine

/-! ## A continuous head -/

/-- The lock that a reset aborts, and the panel's command before it: no head has changed. -/
def resetAborts (h : ContHead) (s : State) : State :=
  let abort (p : Phase → Bool) (s : State) : State := match windowIn s p with
    | some w => finish0 w .aborted s
    | none => s
  cancelLock h (abort (lockPhase h) (abort (fun p => p = .headStart h || p = .headStop h) (resetPanel h s)))

theorem resetAborts_changes (h : ContHead) (s : State) : Changes besideHeads s (resetAborts h s) := by
  have habort (p : Phase → Bool) {t u : State} (ht : Changes besideHeads t u) :
      Changes besideHeads t (match windowIn u p with | some w => finish0 w .aborted u | none => u) := by
    split
    · exact finish0_changes ht rfl
    · exact ht
  unfold resetAborts
  exact cancelLock_changes (habort _ (habort _ (resetPanel_changes .refl rfl))) rfl

theorem resetHeadCore_eq (h : ContHead) (s : State) : resetHeadCore h s =
    (autoDone h true .aborted (haltHead h (resetAborts h s))).modHead h fun x => { x with cfg := none, next := [] } :=
        rfl

/-- A reset head is stopped and unconfigured; the other one is as before. -/
theorem resetHeadCore_head (h : ContHead) (s : State) :
    (resetHeadCore h s).head[h].run = .stopped ∧ (resetHeadCore h s).head[h].cfg = none ∧
      (resetHeadCore h s).head[h].next = [] ∧ ∀ k : ContHead, k ≠ h → (resetHeadCore h s).head[k] = s.head[k] := by
  have hstop := (haltHead_stoppedApart h (resetAborts h s)).keep (autoDone_changes (h' := h) (start := true)
    (code := .aborted) .refl rfl)
  have hbefore := (resetAborts_changes h s).head_eq rfl
  rw [resetHeadCore_eq]
  obtain ⟨hrun, hother⟩ := hstop
  refine ⟨?_, ?_, ?_, fun k hk => ?_⟩
  · rw [modHead_get]
    exact hrun
  · rw [modHead_get]
  · rw [modHead_get]
  · rw [modHead_get_other hk, hother k hk, hbefore]

/-! ## Head E -/

section
variable {s : State} {r : EpdRun} {c : EpdCfg}

theorem interruptEpd_idle (code : Code) (h : s.epd.run = none) : interruptEpd code s = s := by
  unfold interruptEpd
  rw [h]

theorem interruptEpd_sample (code : Code) (h : s.epd.run = some r) (hc : s.epd.cfg = some c) (hr : r.step = .sample) :
    interruptEpd code s = endEpd r code 0 s := by
  unfold interruptEpd
  rw [h, hc]
  dsimp only
  rw [hr]

/-- The engine lets go of its command: the ADC is released and PD_EPD goes off. -/
def epdReleased (s : State) : State :=
  let t := releaseAdc { s with epd := { s.epd with run := none } }
  setPd .epd false { t with adc := { t.adc with bistableLate := false } }

/-- The command is answered. -/
def epdAnswered (r : EpdRun) (code : Code) (q0 : Nat) (s : State) : State :=
  let t := raise (if code = .ok then 162 else 163) (epdReleased s)
  if code = .rejected then reject r.byWindow 0x40 2 0 t else finish r.byWindow code (BitVec.ofNat 32 q0) 0 t

/-- A composition that waited for the end is in progress now. -/
def composeNow (s : State) : State :=
  if s.epd.composeDue then { s with epd := { s.epd with composeDue := false, composing := true } } else s

theorem endEpd_eq (code : Code) (q0 : Nat) : endEpd r code q0 s = composeNow (epdAnswered r code q0 s) := rfl

theorem epdReleased_epd : (epdReleased s).epd = { s.epd with run := none } :=
  (setPd_changes (G := [.power, .adc]) (.set_adc (releaseAdc_changes .refl rfl) rfl) rfl).epd_eq rfl

theorem epdAnswered_changes (code : Code) (q0 : Nat) :
    Changes [.win, .port, .evu, .pcie] (epdReleased s) (epdAnswered r code q0 s) :=
  .ite (reject_changes (raise_changes .refl rfl) rfl) (finish_changes (raise_changes .refl rfl) rfl)

theorem composeNow_run (s : State) : (composeNow s).epd.run = s.epd.run := by
  unfold composeNow
  split <;> rfl

theorem endEpd_run (code : Code) (q0 : Nat) : (endEpd r code q0 s).epd.run = none := by
  rw [endEpd_eq, composeNow_run, (epdAnswered_changes code q0).epd_eq rfl, epdReleased_epd]

/-- Once rails are up or going up, they are powered down first. -/
theorem interruptEpd_rails (h : s.epd.run = some r) (hc : s.epd.cfg = some c)
    (hr : r.step = .railsUp ∨ r.step = .drive) : ∃ q, (interruptEpd .aborted s).epd.rails = .falling ∧
      (interruptEpd .aborted s).epd.run = some q ∧ q.step = .railsDown ∧ q.outcome = .aborted := by
  unfold interruptEpd
  rw [h, hc]
  dsimp only
  rcases hr with hr | hr
  · rw [hr]
    exact ⟨_, rfl, rfl, rfl, rfl⟩
  · rw [hr]
    exact ⟨_, rfl, rfl, rfl, rfl⟩

end

/-! ## The relay port, the segment driver and the timers -/

theorem resetRelay_relay (s : State) : (resetRelay s).relay.up = false ∧ (resetRelay s).relay.cfg = none ∧
    (∀ i : StreamId, (resetRelay s).relay.stream[i].enabled = false) ∧
    ∀ g : IngestId, (resetRelay s).relay.ingest[g].enabled = false := by
  refine ⟨rfl, rfl, fun i => ?_, fun g => ?_⟩
  · exact congrArg Stream.enabled (Vector.getElem_map _ i.2)
  · exact congrArg Ingest.enabled (Vector.getElem_map _ g.2)

theorem stopSeg_reset (s : State) : (segRuns s = true → (stopSeg true s).seg.run = .stopping true) ∧
    (segRuns s = false → (stopSeg true s).seg = s.seg.clear) := by
  unfold segRuns stopSeg
  cases s.seg.run with
  | stopped => exact ⟨fun h => absurd h Bool.false_ne_true, fun _ => rfl⟩
  | starting => exact ⟨fun h => absurd h Bool.false_ne_true, fun _ => rfl⟩
  | running => exact ⟨fun _ => rfl, fun h => absurd h.symm Bool.false_ne_true⟩
  | stopping reset => exact ⟨fun _ => rfl, fun h => absurd h.symm Bool.false_ne_true⟩

theorem filter_below_twelve (i : TimerId) : i ∈ (List.finRange 16).filter (fun t => t.1 < 12) ↔ i.1 < 12 := by
  simp

/-- What a reset of the timers leaves of a channel. -/
def timerReset (s : State) (i : TimerId) : Timer :=
  if (backlightHead s i).isSome then s.timer[i] else { Timer.reset with owner := s.timer[i].owner }

/-- A step of the reset of the timers. -/
def resetTimer (t : TimerId) (s : State) : State :=
  if (backlightHead s t).isSome then s else s.modTimer t fun x => { Timer.reset with owner := x.owner }

theorem resetTimer_panel (t : TimerId) (s : State) : (resetTimer t s).panel = s.panel := by
  unfold resetTimer
  split <;> rfl

theorem backlightHead_congr {s t : State} (h : t.panel = s.panel) (i : TimerId) : backlightHead t i = backlightHead s
    i := by
  unfold backlightHead
  rw [h]

theorem resetTimer_same (t : TimerId) (s : State) : (resetTimer t s).timer[t] = timerReset s t := by
  unfold resetTimer timerReset
  split
  · rfl
  · exact modTimer_get s t _

theorem resetTimer_other {t i : TimerId} {s : State} (h : i ≠ t) : (resetTimer t s).timer[i] = s.timer[i] := by
  unfold resetTimer
  split
  · rfl
  · exact modTimer_get_other h

theorem forEach_resetTimer {l : List TimerId} (hl : l.Nodup) (s : State) (i : TimerId) :
    (forEach l resetTimer s).timer[i] = if i ∈ l then timerReset s i else s.timer[i] := by
  induction l generalizing s with
  | nil => rfl
  | cons t l ih =>
    obtain ⟨ht, hl⟩ := List.nodup_cons.mp hl
    have hcons : forEach (t :: l) resetTimer s = forEach l resetTimer (resetTimer t s) := rfl
    rw [hcons, ih hl]
    by_cases hi : i = t
    · subst hi
      rw [if_neg ht, if_pos List.mem_cons_self, resetTimer_same]
    · have hr : timerReset (resetTimer t s) i = timerReset s i := by
        unfold timerReset
        rw [backlightHead_congr (resetTimer_panel t s), resetTimer_other hi]
      rw [hr, resetTimer_other hi]
      simp only [List.mem_cons, hi, false_or]

/-- The channels below TIM_12 that drive no backlight are at reset but for their owner; the others are as before. -/
theorem resetTimers_timer (s : State) (i : TimerId) : (resetTimers s).timer[i] =
    if 12 ≤ i.1 ∨ (backlightHead s i).isSome = true then s.timer[i] else
        { Timer.reset with owner := s.timer[i].owner } := by
  have heq : resetTimers s = forEach ((List.finRange 16).filter fun t => t.1 < 12) resetTimer s := rfl
  rw [heq, forEach_resetTimer ((List.nodup_finRange 16).filter _)]
  by_cases hi : i.1 < 12
  · rw [if_pos ((filter_below_twelve i).mpr hi)]
    unfold timerReset
    simp only [Nat.not_le.mpr hi, false_or]
  · rw [if_neg (fun h => hi ((filter_below_twelve i).mp h)), if_pos (.inl (Nat.not_lt.mp hi))]

/-! ## A Caliper unit -/

/-- The unit has kept its epoch, and no other one has changed. -/
def CalApart (u : CalId) (s t : State) : Prop :=
  t.cal[u].epoch = s.cal[u].epoch ∧ ∀ k : CalId, k ≠ u → t.cal[k] = s.cal[k]

theorem CalApart.refl (u : CalId) (s : State) : CalApart u s s := ⟨rfl, fun _ _ => rfl⟩

theorem CalApart.of_eq {u : CalId} {s t v : State} (h : CalApart u s t) (e : v.cal = t.cal) : CalApart u s v := by
  unfold CalApart
  rw [e]
  exact h

theorem modCal_get_other {s : State} {u k : CalId} {f : Cal → Cal} (h : k ≠ u) :
    (s.modCal u f).cal[k] = s.cal[k] := State.modCal_other s u f k h

theorem CalApart.modCal {u : CalId} {s t : State} {f : Cal → Cal} (h : CalApart u s t)
    (hf : ∀ x, (f x).epoch = x.epoch) : CalApart u s (t.modCal u f) := by
  refine ⟨?_, fun k hk => (modCal_get_other hk).trans (h.2 k hk)⟩
  rw [modCal_get, hf]
  exact h.1

theorem finish_cal (w : WinId) (code : Code) (q0 q1 : Word) (s : State) : (finish w code q0 q1 s).cal = s.cal :=
  (finish_changes (G := [.win, .port, .evu, .pcie]) .refl rfl).cal_eq rfl

theorem calEvents_cal (u : CalId) (r : CalRun) (code : Code) (s : State) : (calEvents u r code s).cal = s.cal :=
  (calEvents_changes (G := [.evu, .pcie]) .refl rfl).cal_eq rfl

theorem stopCal_calApart (u : CalId) (code : Code) (keep : Bool) (s : State) : CalApart u s (stopCal u code keep s) :=
    by
  unfold stopCal
  split
  · exact .refl u s
  · rename_i r hr
    refine CalApart.of_eq (CalApart.modCal (CalApart.refl u s) (f := fun x =>
      { (if keep then x else x.showEnd r code) with op := none }) fun x => ?_)
      ((calEvents_cal _ _ _ _).trans ((removeRequests_changes (G := [.fetch]) .refl rfl).cal_eq rfl))
    cases keep <;> rfl

theorem endCal_calApart (u : CalId) (code : Code) (s : State) : CalApart u s (endCal u code s) := by
  unfold endCal
  dsimp only
  split
  · exact .refl u s
  · split
    · exact stopCal_calApart u code false s
    · exact (stopCal_calApart u code false s).of_eq (finish_cal _ _ _ _ _)

theorem endYielded_calApart {u : CalId} {s t : State} (code : Code) (h : CalApart u s t) :
    CalApart u s (endYielded u code t) := by
  unfold endYielded
  dsimp only
  split
  · exact h
  · have hmod {r : CalRun} : CalApart u s (t.modCal u fun x => { x.showEnd r code with yielded := none }) :=
      h.modCal fun _ => rfl
    split
    · exact hmod.of_eq (calEvents_cal _ _ _ _)
    · exact hmod.of_eq ((finish_cal _ _ _ _ _).trans (calEvents_cal _ _ _ _))

/-- A reset unit is idle with its epoch one higher; no other one has changed. -/
theorem resetCalUnit_cal (u : CalId) (s : State) : (resetCalUnit u s).cal[u].op = none ∧
    (resetCalUnit u s).cal[u].epoch = s.cal[u].epoch + 1 ∧ ∀ k : CalId, k ≠ u → (resetCalUnit u s).cal[k] =
        s.cal[k] := by
  obtain ⟨hep, hoth⟩ := endYielded_calApart .aborted (endCal_calApart u .aborted s)
  have heq : resetCalUnit u s = (endYielded u .aborted (endCal u .aborted s)).modCal u fun x =>
    { Cal.reset with epoch := x.epoch + 1 } := rfl
  rw [heq]
  refine ⟨?_, ?_, fun k hk => (modCal_get_other hk).trans (hoth k hk)⟩
  · rw [modCal_get]
    rfl
  · rw [modCal_get, hep]

theorem epdCalReset_idle {s : State} (u : CalId) (h : s.epd.run = none) : epdCalReset u s = s := by
  unfold epdCalReset
  rw [h]

/-! ## The commands -/

section
variable {s : State} {acc : WriteAccess} {w : WinId} {v : Word}

theorem resetRefused_head (h : ContHead) : resetRefused s h.1 = protLocked s h := by
  match h with
  | 0 => simp [resetRefused]
  | 1 => simp [resetRefused]

theorem resetBlock_head (h : ContHead) (s : State) : resetBlock h.1 s = resetHeadCore h s := by
  match h with
  | 0 => rfl
  | 1 => rfl

theorem resetRefused_cal (u : CalId) : resetRefused s (4 + u.1) = true ↔
    ((u = 3 ∧ cal3Reserved s = true) ∨ (u = 0 ∧ s.boot.doneFlag = false)) := by
  match u with
  | 0 => simp [resetRefused]
  | 1 => simp [resetRefused]
  | 2 => simp [resetRefused]
  | 3 => simp [resetRefused]

theorem resetBlock_cal (u : CalId) (s : State) : resetBlock (4 + u.1) s = resetCalUnit u (epdCalReset u s) := by
  match u with
  | 0 => rfl
  | 1 => rfl
  | 2 => rfl
  | 3 => rfl

/-- A request that is refused: REFUSED is set, and no unit has changed. -/
theorem reset_turned {b : Nat} (hw : committed s resetReg acc = some (w, v)) (hc : winCtx s w = some 0)
    (hv : v ||| reqBit b = reqBit b) (hb : b < 10) (hr : resetRefused s b = true) :
    ∃ u, writeAt resetReg (reqBit b) acc s = u ∧ u.port.resetRefused = true ∧
      Changes [.win, .pcie, .port, .pins] s u := by
  refine ⟨_, writeAt_reset hw hc hv hb, ?_, ?_⟩
  · rw [resetRefused_writeArrives, hr, if_pos rfl, writeLeaves_changes.port_eq rfl]
  · rw [resetRefused_writeArrives, hr, if_pos rfl]
    exact (Changes.set_port (writeArrives_changes.mono rfl) rfl).via writeLeaves_changes rfl

/-- A request that is carried out: the state is that of the block's reset but for the bus pins. -/
theorem reset_done {b : Nat} (hw : committed s resetReg acc = some (w, v)) (hc : winCtx s w = some 0)
    (hv : v ||| reqBit b = reqBit b) (hb : b < 10) (hr : resetRefused s b = false) :
    Changes [.pins] (resetBlock b (writeArrives acc s)) (writeAt resetReg (reqBit b) acc s) := by
  rw [writeAt_reset hw hc hv hb, resetRefused_writeArrives, hr, if_neg Bool.false_ne_true]
  exact writeLeaves_changes

theorem resetRefused_late {b : Nat} (hb : b = 2 ∨ b = 3 ∨ b = 8 ∨ b = 9) : resetRefused s b = false := by
  rcases hb with rfl | rfl | rfl | rfl <;> rfl

end

theorem writeArrives_head (acc : WriteAccess) (s : State) : (writeArrives acc s).head = s.head :=
  writeArrives_changes.head_eq rfl

theorem writeArrives_epd (acc : WriteAccess) (s : State) : (writeArrives acc s).epd = s.epd :=
  writeArrives_changes.epd_eq rfl

/-- Settles O53: a request with one bit set is refused or resets its block, and what the access itself leaves touches
windows, the PCIe link and bus pins only. -/
theorem resetControlResetsBlocks : Obligations.ResetControlResetsBlocks := by
  refine fun s acc w v hw => ⟨fun hc => ⟨fun h hv => ⟨fun hl => ?_, fun hl _ _ _ => ?_⟩,
    fun hv => ⟨fun hr => ?_, fun r c hr hcfg hs => ?_, fun r c hr hcfg hs => ?_⟩, fun hv => ?_,
    fun u hv => ⟨fun hr => ?_, fun hr he => ?_⟩, fun hv => ?_, fun hv => ?_⟩, fun c hc h0 u i hi => ?_⟩
  · obtain ⟨t, ht, href, hch⟩ := reset_turned hw hc hv (by omega) ((resetRefused_head h).trans hl)
    exact ⟨t, congrArg Host.Outcome.next ht, href, hch.head_eq rfl, hch.panel_eq rfl, hch.mem_eq rfl⟩
  · have hd := (reset_done hw hc hv (by omega) ((resetRefused_head h).trans hl)).head_eq rfl
    obtain ⟨hrun, hcfg, hnext, hoth⟩ := resetHeadCore_head h (writeArrives acc s)
    rw [resetBlock_head] at hd
    refine ⟨_, rfl, ?_, ?_, ?_, fun k hk => ?_⟩
    · rw [hd, hrun]
    · rw [hd, hcfg]
    · rw [hd, hnext]
    · rw [hd, hoth k hk, writeArrives_head]
  · have hd := reset_done hw hc hv (by omega) (resetRefused_late (.inl rfl))
    have hblock : resetBlock 2 (writeArrives acc s) = writeArrives acc s :=
      interruptEpd_idle .aborted (by rw [writeArrives_epd]; exact hr)
    rw [hblock] at hd
    exact ⟨_, rfl, (hd.epd_eq rfl).trans (writeArrives_epd acc s), (hd.mem_eq rfl).trans (writeArrives_mem acc s)⟩
  · have hd := reset_done hw hc hv (by omega) (resetRefused_late (.inl rfl))
    have hblock : resetBlock 2 (writeArrives acc s) = endEpd r .aborted 0 (writeArrives acc s) :=
      interruptEpd_sample .aborted (by rw [writeArrives_epd]; exact hr) (by rw [writeArrives_epd]; exact hcfg) hs
    rw [hblock] at hd
    refine ⟨_, rfl, ?_, (hd.mem_eq rfl).trans ?_⟩
    · rw [hd.epd_eq rfl, endEpd_run]
    · exact ((endEpd_changes (G := [.win, .port, .evu, .pcie, .power, .epd, .adc]) .refl rfl).mem_eq rfl).trans
        (writeArrives_mem acc s)
  · have hd := (reset_done hw hc hv (by omega) (resetRefused_late (.inl rfl))).epd_eq rfl
    obtain ⟨q, hrails, hrun, hq⟩ := interruptEpd_rails (s := writeArrives acc s) (by rw [writeArrives_epd]; exact hr)
      (by rw [writeArrives_epd]; exact hcfg) hs
    refine ⟨_, q, rfl, ?_, ?_, hq⟩
    · rw [hd]
      exact hrails
    · rw [hd]
      exact hrun
  · have hd := reset_done hw hc hv (by omega) (resetRefused_late (.inr (.inl rfl)))
    obtain ⟨hup, hcfg, hstream, hingest⟩ := resetRelay_relay (writeArrives acc s)
    have hrelay : (writeAt resetReg (reqBit 3) acc s).relay = (resetRelay (writeArrives acc s)).relay := hd.relay_eq
        rfl
    refine ⟨_, rfl, ?_, ?_, fun i => ?_, fun g => ?_, (hd.mem_eq rfl).trans ?_⟩
    · rw [hrelay, hup]
    · rw [hrelay, hcfg]
    · rw [hrelay, hstream]
    · rw [hrelay, hingest]
    · exact ((resetRelay_changes (G := [.win, .port, .evu, .pcie, .fetch, .relay, .cal]) .refl rfl).mem_eq rfl).trans
        (writeArrives_mem acc s)
  · obtain ⟨t, ht, href, hch⟩ := reset_turned hw hc hv (by omega) ((resetRefused_cal u).mpr hr)
    exact ⟨t, congrArg Host.Outcome.next ht, href, hch.cal_eq rfl, hch.mem_eq rfl⟩
  · have hno : resetRefused s (4 + u.1) = false := Bool.eq_false_iff.mpr fun h => hr ((resetRefused_cal u).mp h)
    have hd := reset_done hw hc hv (by omega) hno
    rw [resetBlock_cal, epdCalReset_idle u (by rw [writeArrives_epd]; exact he)] at hd
    obtain ⟨hop, hep, hoth⟩ := resetCalUnit_cal u (writeArrives acc s)
    have hcal := hd.cal_eq rfl
    have harr : (writeArrives acc s).cal = s.cal := writeArrives_changes.cal_eq rfl
    refine ⟨_, rfl, ?_, ?_, fun k hk => ?_, (hd.mem_eq rfl).trans ?_⟩
    · rw [hcal, hop]
    · rw [hcal, hep, harr]
    · rw [hcal, hoth k hk, harr]
    · exact ((resetCalUnit_changes (G := [.win, .port, .evu, .pcie, .fetch, .cal]) .refl rfl).mem_eq rfl).trans
        (writeArrives_mem acc s)
  · have hd := reset_done hw hc hv (by omega) (resetRefused_late (.inr (.inr (.inl rfl))))
    have hseg : (writeAt resetReg (reqBit 8) acc s).seg = (stopSeg true (writeArrives acc s)).seg := hd.seg_eq rfl
    have harr : (writeArrives acc s).seg = s.seg := writeArrives_changes.seg_eq rfl
    have hruns : segRuns (writeArrives acc s) = segRuns s := by
      unfold segRuns
      rw [harr]
    obtain ⟨hon, hoff⟩ := stopSeg_reset (writeArrives acc s)
    rw [hruns] at hon hoff
    refine ⟨_, rfl, (hd.mem_eq rfl).trans ?_, fun h => ?_, fun h => ?_⟩
    · exact ((stopSeg_changes (G := [.seg]) .refl rfl).mem_eq rfl).trans (writeArrives_mem acc s)
    · rw [hseg, hon h]
    · rw [hseg, hoff h, harr]
  · have hd := reset_done hw hc hv (by omega) (resetRefused_late (.inr (.inr (.inr rfl))))
    have htimer : (writeAt resetReg (reqBit 9) acc s).timer = (resetTimers (writeArrives acc s)).timer := hd.timer_eq
        rfl
    have harr : (writeArrives acc s).timer = s.timer := writeArrives_changes.timer_eq rfl
    refine ⟨_, rfl, (hd.mem_eq rfl).trans ?_, fun i => ?_⟩
    · exact ((resetTimers_changes (G := [.timer]) .refl rfl).mem_eq rfl).trans (writeArrives_mem acc s)
    · rw [htimer, resetTimers_timer, backlightHead_congr (writeArrives_changes.panel_eq rfl), harr]
  · have hsame (set : Word) : Changes [.win, .pcie, .pins] s (writeAt resetReg set acc s) := by
      rw [writeAt_reset_tenant hw hc h0 set]
      exact reset_access_changes
    have hunits {t : State} (h : Changes [.win, .pcie, .pins] s t) : t.head = s.head ∧ t.epd = s.epd ∧
        t.relay = s.relay ∧ t.cal = s.cal ∧ t.seg = s.seg ∧ t.timer = s.timer ∧ t.mem = s.mem :=
      ⟨h.head_eq rfl, h.epd_eq rfl, h.relay_eq rfl, h.cal_eq rfl, h.seg_eq rfl, h.timer_eq rfl, h.mem_eq rfl⟩
    simp only [List.mem_cons, List.not_mem_nil, or_false] at hi
    rcases hi with rfl | rfl | rfl | rfl | rfl | rfl | rfl
    all_goals exact ⟨_, rfl, hunits (hsame _)⟩

end Sys2Proof.Machine
end

section
/-! The pixel clock synthesizers (chapter 17). -/
namespace Sys2Proof.Machine

/-! ## What a head does leaves the clocks -/

/-- Every synthesizer's Bore, its loss mark and its output are as before. -/
def ClocksKept (s t : State) : Prop := ∀ y : SynId,
  t.syn[y].bore = s.syn[y].bore ∧ t.syn[y].lost = s.syn[y].lost ∧ t.syn[y].out = s.syn[y].out

/-- Every part of the state but the synthesizers. -/
def besideSyn : List Part :=
  [.mem, .memc, .win, .ctx, .port, .evu, .pcie, .faults, .power, .drone, .timer, .timerShadow, .mon, .fetch, .slot,
    .commits, .comp, .relief, .prot, .head, .panel, .epd, .seg, .adc, .relay, .cal, .boot, .pins, .free]

theorem ClocksKept.refl (s : State) : ClocksKept s s := fun _ => ⟨rfl, rfl, rfl⟩

theorem ClocksKept.keep {s t u : State} (hs : ClocksKept s t) (k : Changes besideSyn t u) : ClocksKept s u := by
  intro y
  rw [k.syn_eq rfl]
  exact hs y

theorem ClocksKept.ite {p : Prop} [Decidable p] {s t u : State} (ht : ClocksKept s t) (hu : ClocksKept s u) :
    ClocksKept s (if p then t else u) := by
  split
  · exact ht
  · exact hu

theorem modSyn_get (s : State) (y : SynId) (f : Syn → Syn) : (s.modSyn y f).syn[y] = f s.syn[y] :=
  State.modSyn_same s y f

theorem modSyn_get_other {s : State} {y z : SynId} {f : Syn → Syn} (h : z ≠ y) :
    (s.modSyn y f).syn[z] = s.syn[z] := State.modSyn_other s y f z h

theorem ClocksKept.modSyn {s t : State} {y : SynId} {f : Syn → Syn} (hs : ClocksKept s t)
    (hf : ∀ x, (f x).bore = x.bore ∧ (f x).lost = x.lost ∧ (f x).out = x.out) : ClocksKept s (t.modSyn y f) := by
  intro z
  by_cases hz : z = y
  · subst hz
    obtain ⟨h1, h2, h3⟩ := hf t.syn[z]
    obtain ⟨k1, k2, k3⟩ := hs z
    rw [modSyn_get]
    exact ⟨h1.trans k1, h2.trans k2, h3.trans k3⟩
  · rw [modSyn_get_other hz]
    exact hs z

theorem haltDown_clocksKept (h : ContHead) (s : State) : ClocksKept s (haltDown h s) := by
  have hcut : ClocksKept s ((haltCut h s).modHead h Head.halted) := by
    refine (ClocksKept.refl s).keep (modHead_changes ?_ rfl)
    unfold haltCut
    exact tapCut_changes (.ite .refl (abandonWriteback_changes .refl rfl)) rfl
  unfold haltDown
  exact (hcut.modSyn (f := Syn.released) fun x => ⟨rfl, rfl, rfl⟩).keep
      (modComp_changes (dropLayerRequests_changes .refl rfl) rfl)

theorem haltHead_clocksKept {h : ContHead} {s t : State} (hs : ClocksKept s t) : ClocksKept s (haltHead h t) := by
  have htrans : ClocksKept t (haltHead h t) := by
    by_cases hr : t.head[h].run = .stopped
    · have heq : haltHead h t = t := by
        unfold haltHead
        exact if_pos hr
      rw [heq]
      exact .refl t
    · unfold haltHead
      rw [if_neg hr]
      dsimp only
      have hdown := (haltDown_clocksKept h t).keep (settleStopped_changes (h' := h) .refl rfl)
      split
      · refine hdown.keep (.ite (tryCal_changes (raiseHead_changes (dropRuns_changes .refl rfl) rfl) rfl)
          (finishGen_changes (tryCal_changes (raiseHead_changes (dropRuns_changes .refl rfl) rfl) rfl) rfl))
      · exact hdown.keep (tryCal_changes (raiseHead_changes (dropRuns_changes .refl rfl) rfl) rfl)
  intro y
  obtain ⟨h1, h2, h3⟩ := htrans y
  obtain ⟨k1, k2, k3⟩ := hs y
  exact ⟨h1.trans k1, h2.trans k2, h3.trans k3⟩

theorem genlockStep_clocksKept {h : ContHead} {s t : State} (hs : ClocksKept s t) :
    ClocksKept s (genlockStep h t) := by
  have hmiss {f} : ClocksKept s (t.modHead h f) := hs.keep (modHead_changes .refl rfl)
  have hlost {f g} : ClocksKept s (setGenlocked h false ((t.modHead h f).modHead h g)) :=
    hmiss.keep (setGenlocked_changes (modHead_changes .refl rfl) rfl)
  have hmod {f g k} (hk : ∀ x, (k x).bore = x.bore ∧ (k x).lost = x.lost ∧ (k x).out = x.out) :
      ClocksKept s (((t.modHead h f).modHead h g).modSyn (headSyn h) k) :=
    (hmiss.keep (modHead_changes .refl rfl)).modSyn hk
  unfold genlockStep
  dsimp only
  split
  · refine .ite hs ?_
    split
    · refine .ite hlost (.ite (ClocksKept.keep (hmod ?_) (setGenlocked_changes .refl rfl))
        (.ite (ClocksKept.keep (hmod ?_) (setGenlocked_changes .refl rfl)) (hmod ?_)))
      all_goals exact fun _ => ⟨rfl, rfl, rfl⟩
    · exact .ite hlost hmiss
  · exact hs

/-- A frame as it begins, up to its genlock step. -/
def frameBegun (h : ContHead) (s : State) : State :=
  let s := completeWriteback h s
  let s := if allRows s h then s else abandonWriteback h s
  let s := kickFlatten (applyBoundary h s)
  let s := s.modComp h fun c => { c with shed := c.shedNext, shedNext := [], extent := [], opening := none }
  let s := s.modHead h fun x => { x with frameTime := s.drone.time, edp := { x.edp with stream := x.link } }
  let s := raiseHead h 0 s
  let s := s.modProt h fun p => { p with acc := 0xFFFFFFFF, checked := false }
  tapBegin h (beginWriteback h s)

theorem frameBegun_changes {G} {s₀ s : State} {h'} (h : Changes G s₀ s)
    (hG : Part.within [.mem, .memc, .win, .ctx, .port, .evu, .pcie, .faults, .mon, .fetch, .slot, .commits, .comp,
      .relief, .prot, .head, .relay, .cal, .free] G = true) : Changes G s₀ (frameBegun h' s) := by
  refine h.via ?_ hG
  unfold frameBegun
  exact tapBegin_changes (beginWriteback_changes (modProt_changes (raiseHead_changes (modHead_changes (modComp_changes
    (kickFlatten_changes (applyBoundary_changes (.ite (completeWriteback_changes .refl rfl)
      (abandonWriteback_changes (completeWriteback_changes .refl rfl) rfl)) rfl) rfl) rfl) rfl) rfl) rfl) rfl) rfl

/-- After its genlock step a frame drives pins and begins its lines. -/
theorem newFrame_rest (h : ContHead) (prime : Bool) (s : State) :
    Changes besideSyn (genlockStep h (frameBegun h s)) (newFrame h prime s) := by
  unfold newFrame
  dsimp only
  split
  · exact .ite (framesDone_changes (gatePin_changes (refToOther_changes .refl rfl) rfl) rfl)
      (gatePin_changes (refToOther_changes .refl rfl) rfl)
  · exact lineWork_changes (.ite (composeReady_changes (openFrame_changes
      (.ite (framesDone_changes (gatePin_changes (refToOther_changes .refl rfl) rfl) rfl)
        (gatePin_changes (refToOther_changes .refl rfl) rfl)) rfl) rfl)
      (.ite (framesDone_changes (gatePin_changes (refToOther_changes .refl rfl) rfl) rfl)
        (gatePin_changes (refToOther_changes .refl rfl) rfl))) rfl

theorem newFrame_clocksKept {h : ContHead} {prime : Bool} {s t : State} (hs : ClocksKept s t) :
    ClocksKept s (newFrame h prime t) :=
  (genlockStep_clocksKept (hs.keep (frameBegun_changes .refl rfl))).keep (newFrame_rest h prime t)

theorem restartHead_clocksKept {h : ContHead} {s t : State} (hs : ClocksKept s t) : ClocksKept s (restartHead h t) :=
    by
  unfold restartHead
  refine .ite hs (.ite (newFrame_clocksKept (hs.keep ?_)) (hs.keep (modHead_changes .refl rfl)))
  exact modHead_changes (setGenlocked_changes (modHead_changes .refl rfl) rfl) rfl

theorem gateHead_clocksKept {h : ContHead} {s t : State} (hs : ClocksKept s t) : ClocksKept s (gateHead h t) := by
  unfold gateHead
  have hgate {f} : ClocksKept s (tryCal (t.modHead h f)) :=
    hs.keep (tryCal_changes (modHead_changes .refl rfl) rfl)
  have hcut {f} : ClocksKept s (tapCut h (abandonWriteback h (completeWriteback h (tryCal (t.modHead h f))))) :=
    hgate.keep (tapCut_changes (abandonWriteback_changes (completeWriteback_changes .refl rfl) rfl) rfl)
  exact .ite hgate (.ite (haltHead_clocksKept hcut) (.ite (haltHead_clocksKept
      (hcut.keep (framesCut_changes .refl rfl)))
    (hcut.keep (fillStore_changes .refl rfl))))

theorem cutPhaseStep_clocksKept {y : SynId} {s t : State} (hs : ClocksKept s t) :
    ClocksKept s (cutPhaseStep y t) := by
  unfold cutPhaseStep
  dsimp only
  split
  · exact hs
  · refine ClocksKept.keep (ClocksKept.modSyn (hs.keep (bumpFree_changes .refl rfl)) ?_) (finish_changes .refl rfl)
    exact fun _ => ⟨rfl, rfl, rfl⟩

/-! ## CLOCK_CONFIG and PHASE_STEP -/

/-- Of a list of checks that turns nothing away none fails. -/
theorem firstFail_eq_none {l : List (Bool × Code)} (h : firstFail l = none) : ∀ p ∈ l, p.1 = false := by
  unfold firstFail at h
  split at h
  · cases h
  · rename_i hf
    exact fun p hp => Bool.eq_false_iff.mpr (List.find?_eq_none.mp hf p hp)

theorem orElse_eq_none {l : List (Option Verdict)} (h : orElse l = none) : ∀ v ∈ l, v = none := by
  induction l with
  | nil => exact fun v hv => absurd hv List.not_mem_nil
  | cons v l ih =>
    cases v with
    | some x => cases h
    | none => exact fun u hu => (List.mem_cons.mp hu).elim id (ih h u)


section
variable {s : State} {w : WinId} {a : Cmd} {y : SynId}

theorem exec_clockConfig_acts (h : ready s w 0 = true) (hy : argSyn a = some y) (hn : unclaimed s [.syn y] = true)
    (hk : checkClockConfig w 0 a (takenWith s w 0x68 a 0 [.syn y]) = none) : exec (.clockConfig w a) s =
      .next (setPhase w (.clockLock y) (loadSyn y (argSynCfg a) false (takenWith s w 0x68 a 0 [.syn y]))) := by
  have hneeds : opClockConfig.needs 0 a (taken s w 0x68 a 0) = [.syn y] := by
    show ((argSyn a).map Resource.syn).toList = _
    rw [hy]
    rfl
  refine congrArg Host.Outcome.next ((run_passes (o := opClockConfig) h hk hneeds hn ?_ ?_).trans ?_)
  · exact hk
  · rfl
  · show actClockConfig w 0 a _ = _
    unfold actClockConfig
    rw [hy]

theorem exec_phaseStep_acts (h : ready s w 0 = true) (hy : argSyn a = some y) (hn : unclaimed s [.syn y] = true)
    (hk : checkPhaseStep w 0 a (takenWith s w 0x69 a 0 [.syn y]) = none) : exec (.phaseStep w a) s =
      .next (setPhase w (.phaseSteps y)
        ((takenWith s w 0x69 a 0 [.syn y]).modSyn y fun x => { x with steps := argSteps a, taken := 0 })) := by
  have hneeds : opPhaseStep.needs 0 a (taken s w 0x69 a 0) = [.syn y] := by
    show ((argSyn a).map Resource.syn).toList = _
    rw [hy]
    rfl
  refine congrArg Host.Outcome.next ((run_passes (o := opPhaseStep) h hk hneeds hn ?_ ?_).trans ?_)
  · exact hk
  · rfl
  · show actPhaseStep w 0 a _ = _
    unfold actPhaseStep
    rw [hy]

/-- A PHASE_STEP that passes its checks finds the output running. -/
theorem checkPhaseStep_running {t : State} (hy : argSyn a = some y) (hk : checkPhaseStep w 0 a t = none) :
    t.syn[y].out = .running := by
  have h2 := orElse_eq_none hk _ (List.mem_cons_of_mem _ List.mem_cons_self)
  rw [hy] at h2
  have hrun := firstFail_eq_none h2 _ (List.mem_cons_of_mem _ (List.mem_cons_of_mem _ List.mem_cons_self))
  exact not_not.mp (of_decide_eq_false (Bool.or_eq_false_iff.mp hrun).1)

end

theorem setPhase_syn (w : WinId) (p : Phase) (s : State) : (setPhase w p s).syn = s.syn := rfl

theorem loadSyn_get (y : SynId) (c : SynCfg) (b : Bool) (s : State) : (loadSyn y c b s).syn[y] =
    { s.syn[y].load c with
      bore := .locking, out := .off, net := 0, steps := 0, timedOut := false, wasRunning := b } := modSyn_get s y _

/-! ## Bores -/

section
variable {s : State} {y : SynId}

/-- A synthesizer whose output starts. -/
def Syn.started (x : Syn) : Syn :=
  { (match x.cfg with | some c => x.load c | none => x) with
    out := .running, timedOut := false, wasRunning := false }

theorem Syn.started_bore (x : Syn) : x.started.bore = x.bore := by
  unfold Syn.started
  split <;> rfl

theorem startOutput_rest (s : State) (y : SynId) (b : Bool) :
    Changes [.evu, .pcie] (s.modSyn y Syn.started) (startOutput y b s) := by
  unfold startOutput
  exact .ite (raise_changes .refl rfl) .refl

theorem startOutput_syn (s : State) (y : SynId) (b : Bool) :
    (startOutput y b s).syn[y].bore = s.syn[y].bore ∧ (startOutput y b s).syn[y].out = .running := by
  rw [(startOutput_rest s y b).syn_eq rfl, modSyn_get]
  exact ⟨Syn.started_bore _, rfl⟩

theorem outputStarted_clocksKept (y : SynId) (s : State) : ClocksKept s (outputStarted y s) := by
  unfold outputStarted
  split
  · exact .refl s
  · refine .ite ?_ (restartHead_clocksKept (.refl s))
    unfold connectHead
    refine ClocksKept.keep (ClocksKept.modSyn (.refl s) ?_) (modHead_changes .refl rfl)
    exact fun _ => ⟨rfl, rfl, rfl⟩

/-- The command that waits for the lock ends, with the output running. -/
theorem exec_boreLock_waited {w : WinId} {k : SynCfg} (hw : windowIn s (fun p => p = .clockLock y) = some w)
    (hk : s.syn[y].cfg = some k) (hb : s.syn[y].bore = .locking) (hp : s.drone.pllLock = true)
    (hf : fabricOn s = true) : exec (.boreLock y) s = .next (finishGen w k.period 0
      (outputStarted y (startOutput y false (s.modSyn y fun x => { x with bore := .locked })))) := by
  have hw' : windowIn (s.modSyn y fun x => { x with bore := .locked }) (fun p => p = .clockLock y) = some w := hw
  show Host.Outcome.next (lockBore y s) = _
  unfold lockBore
  dsimp only
  rw [hk, hb, hp, hf, if_neg (by simp), hw']
  rfl

theorem finish_exec_none (w : WinId) (code : Code) (q0 q1 : Word) (s : State) :
    (finish w code q0 q1 s).win[w].exec = none := by
  cases he : s.win[w].exec with
  | none =>
    unfold finish
    rw [he]
    exact he
  | some e =>
    unfold finish
    rw [he]
    dsimp only
    have hraise (b : Bool) (n : Nat) (t : State) : (raiseIf b n t).win = t.win :=
      (raiseIf_changes (G := [.evu, .pcie]) .refl rfl).win_eq rfl
    rw [hraise, hraise]
    have hmod (f : Window → Window) (hf : (f s.win[w]).exec = none) :
        (releaseHolder (.window w) (s.modWin w f)).win[w].exec = none :=
      (congrArg Window.exec (State.modWin_same s w f)).trans hf
    exact hmod _ rfl

theorem exec_boreLock_result {w : WinId} {k : SynCfg} (hw : windowIn s (fun p => p = .clockLock y) = some w)
    (hk : s.syn[y].cfg = some k) (hb : s.syn[y].bore = .locking) (hp : s.drone.pllLock = true)
    (hf : fabricOn s = true) : ∃ t, exec (.boreLock y) s = .next t ∧ t.syn[y].bore = .locked ∧
      t.syn[y].out = .running ∧ t.win[w].exec = none := by
  have hx := exec_boreLock_waited hw hk hb hp hf
  have hstart := startOutput_syn (s.modSyn y fun x => { x with bore := .locked }) y false
  rw [modSyn_get] at hstart
  obtain ⟨hbore, hout⟩ := hstart
  generalize startOutput y false _ = u at hx hbore hout
  have hkept := (outputStarted_clocksKept y u).keep (finishGen_changes (w := w) (q0 := k.period) (q1 := 0) .refl rfl)
      y
  obtain ⟨h1, -, h3⟩ := hkept
  exact ⟨_, hx, h1.trans hbore, h3.trans hout, finish_exec_none _ _ _ _ _⟩

/-- The Bore that loses its lock, before what hangs on its output. -/
def boreLost (x : Syn) : Syn :=
  { x with bore := .locking, lost := true, out := if x.out = .running then .gated else x.out }

theorem loseSyn_clocksKept (ref : Bool) (hb : s.syn[y].bore = .locked) (hf : fabricOn s = true) :
    ClocksKept (s.modSyn y boreLost) (loseSyn y ref s) := by
  have hlog {f : Syn → Syn} (hfx : ∀ z : SynId, z = y → f s.syn[z] = boreLost s.syn[z]) :
      ClocksKept (s.modSyn y boreLost) (logFault 0x11 y.1 (if ref then 1 else 0) (s.modSyn y f)) := by
    refine ClocksKept.keep (fun z => ?_) (logFault_changes .refl rfl)
    by_cases hz : z = y
    · subst hz
      rw [modSyn_get, modSyn_get, hfx z rfl]
      exact ⟨rfl, rfl, rfl⟩
    · rw [modSyn_get_other hz, modSyn_get_other hz]
      exact ⟨rfl, rfl, rfl⟩
  unfold loseSyn
  dsimp only
  rw [hb, hf, if_neg (by simp)]
  have hcut {t : State} (ht : ClocksKept (s.modSyn y boreLost) t) :
      ClocksKept (s.modSyn y boreLost) (cutPhaseStep y (raise (synSource y false) t)) :=
    cutPhaseStep_clocksKept (ht.keep (raise_changes .refl rfl))
  refine .ite (hlog ?_) ?_
  · rintro z rfl
    simp [boreLost]
  · split
    · exact .ite (gateHead_clocksKept (hcut (hlog (by rintro z rfl; simp [boreLost]))))
        (hcut (hlog (by rintro z rfl; simp [boreLost])))
    · exact (hcut (hlog (by rintro z rfl; simp [boreLost]))).keep (interruptEpd_changes .refl rfl)

theorem exec_synLoss_result (ref : Bool) (hb : s.syn[y].bore = .locked) (hf : fabricOn s = true) :
    ∃ t, exec (.synLoss y ref) s = .next t ∧ t.syn[y].bore = .locking ∧ t.syn[y].lost = true ∧
      t.syn[y].out = (if s.syn[y].out = .running then .gated else s.syn[y].out) := by
  obtain ⟨h1, h2, h3⟩ := loseSyn_clocksKept ref hb hf y
  rw [modSyn_get] at h1 h2 h3
  exact ⟨_, rfl, h1, h2, h3⟩

/-- Every step of a PHASE_STEP is taken: the net count has moved and the command is answered. -/
theorem exec_lastPhaseStep_result {w : WinId} {e : Exec} (hw : windowIn s (fun p => p = .phaseSteps y) = some w)
    (he : s.win[w].exec = some e) (hd : e.discard = false) : ∃ t, exec (.lastPhaseStepTaken y) s = .next t ∧
      t.syn[y].steps = 0 ∧ t.syn[y].net = s.syn[y].net + BitVec.ofInt 16 s.syn[y].steps ∧ t.win[w].exec = none ∧
      t.win[w].done = s.win[w].done ++
        [{ tag := e.entry.cmd.tag, code := .ok, q0 := BitVec.ofNat 32 s.syn[y].steps.natAbs, q1 := 0 }] := by
  have hx : exec (.lastPhaseStepTaken y) s = .next (finish w .ok (BitVec.ofNat 32 s.syn[y].steps.natAbs) 0
      (s.modSyn y fun x => { x with steps := 0, taken := 0, net := x.net + BitVec.ofInt 16 s.syn[y].steps })) := by
    show execLastPhaseStepTaken y s = _
    unfold execLastPhaseStepTaken
    rw [hw]
  have hmod := modSyn_get s y fun x =>
    { x with steps := 0, taken := 0, net := x.net + BitVec.ofInt 16 s.syn[y].steps }
  have hwin : (s.modSyn y fun x =>
      { x with steps := 0, taken := 0, net := x.net + BitVec.ofInt 16 s.syn[y].steps }).win[w] = s.win[w] := rfl
  generalize (s.modSyn y fun x => _) = u at hx hmod hwin
  obtain ⟨hnone, -, hdone⟩ := finish_ends (s := s) (u := u) (code := .ok)
    (q0 := BitVec.ofNat 32 s.syn[y].steps.natAbs) (q1 := 0) hwin he hd
  have hsyn : (finish w .ok (BitVec.ofNat 32 s.syn[y].steps.natAbs) 0 u).syn = u.syn :=
    (finish_changes (G := [.win, .port, .evu, .pcie]) .refl rfl).syn_eq rfl
  refine ⟨_, hx, ?_, ?_, hnone, hdone⟩
  · rw [hsyn, hmod]
  · rw [hsyn, hmod]

end

/-- Settles O40: what follows a lock or a loss leaves the Bore and the output of every synthesizer as the event set
    them. -/
theorem synthesizersLockAndLose : Obligations.SynthesizersLockAndLose := by
  refine ⟨fun s w a y h hy hn => ⟨fun hk => ⟨_, exec_clockConfig_acts h hy hn hk, ?_, ?_, ?_, ?_, ?_, rfl, fun z hz =>
      ?_⟩,
      fun hk => ⟨_, exec_phaseStep_acts h hy hn hk, ?_, ?_, ?_, ?_⟩⟩,
    fun s y => ⟨fun w k => exec_boreLock_result, exec_synLoss_result, fun w e => exec_lastPhaseStep_result⟩⟩
  · exact underway_setPhase (s := s) (c := 0) _ rfl
  · rw [setPhase_syn, loadSyn_get]
    rfl
  · rw [setPhase_syn, loadSyn_get]
  · rw [setPhase_syn, loadSyn_get]
  · rw [setPhase_syn, loadSyn_get]
  · rw [setPhase_syn]
    exact modSyn_get_other hz
  · exact underway_setPhase (s := s) (c := 0) _ rfl
  · rw [setPhase_syn, modSyn_get]
  · rw [setPhase_syn, modSyn_get]
    exact checkPhaseStep_running hy hk
  · rw [setPhase_syn, modSyn_get]
    rfl

end Sys2Proof.Machine
end

section
/-! The segment driver and the shared ADC (chapter 19). -/
namespace Sys2Proof.Machine

/-- The state with other requests in the fetch queues. -/
def withQueue (q : Vector Queue 136) (s : State) : State := { s with fetch := { s.fetch with queue := q } }

/-- A command without failing checks that reads memory: it acts once its reads have entered their queues. -/
theorem run_fetches {s : State} {w : WinId} {c : CtxId} {a : Cmd} {op : Byte} {o : Opcode} {rs : List Resource}
    (h : ready s w c = true) (hk : o.check w c a (taken s w op a c) = none)
    (hr : o.needs c a (taken s w op a c) = rs) (hn : unclaimed s rs = true)
    (hk' : o.check w c a (takenWith s w op a c rs) = none) :
    ∃ q, portRow w op a o.run s = o.act w c a (withQueue q (takenWith s w op a c rs)) := by
  subst hr
  obtain ⟨q, hq⟩ := Opcode.fetch_eq o w c a (takenWith s w op a c (o.needs c a (taken s w op a c)))
  refine ⟨q, ?_⟩
  rw [run_unclaimed s w c op a o h hk hn hk', hq]
  rfl

/-! ## SEG_WRITE -/

theorem Seg.store_active (x : Seg) (first : Nat) (b : List Byte) :
    (x.store first b).pending = true ∧ (x.store first b).active = x.active := by
  unfold Seg.store Seg.active
  dsimp only
  cases hx : x.active1 with
  | true => exact ⟨rfl, by simp⟩
  | false => exact ⟨rfl, by simp⟩

/-- The frame that will show the bytes, while the driver runs. -/
def frameShown (s : State) : Word := if segRuns s then s.seg.frame + 1 else 0xFFFFFFFF

theorem actSegWrite_eq (w : WinId) (c : CtxId) (a : Cmd) (s : State) : actSegWrite w c a s =
    finish w .ok (frameShown s) 0 (modSeg (fun x => x.store (segBytes s a).1 (segBytes s a).2) s) := by
  unfold actSegWrite frameShown segRuns
  dsimp only
  cases s.seg.run with
  | stopped => rfl
  | starting => rfl
  | running => rfl
  | stopping reset => rfl

theorem segBytes_congr {s t : State} (hm : t.mem = s.mem) (hc : t.ctx = s.ctx) (a : Cmd) : segBytes t a = segBytes s
    a := by
  unfold segBytes
  rw [readPart_congr hm hc]

theorem exec_segWrite_result {s : State} {w : WinId} {a : Cmd} (h : ready s w 0 = true)
    (hk : checkSegWrite w 0 a (taken s w 0x2C a 0) = none) :
    ∃ t, exec (.segWrite w a) s = .next t ∧ answered s t w a.tag .ok (frameShown s) 0 ∧ t.mem = s.mem ∧
      t.seg = s.seg.store (segBytes s a).1 (segBytes s a).2 := by
  have hk' : checkSegWrite w 0 a (takenWith s w 0x2C a 0 []) = none := by
    rw [takenWith_nil]
    exact hk
  obtain ⟨q, hq⟩ := run_fetches (o := opSegWrite) h hk rfl rfl hk'
  have hx : exec (.segWrite w a) s = .next (actSegWrite w 0 a (withQueue q (takenWith s w 0x2C a 0 []))) :=
    congrArg Host.Outcome.next hq
  rw [actSegWrite_eq, segBytes_congr (s := s) (t := withQueue q (takenWith s w 0x2C a 0 [])) rfl rfl a] at hx
  have hfin := finish_changes (G := [.win, .port, .evu, .pcie]) (w := w) (code := .ok)
    (q0 := frameShown (withQueue q (takenWith s w 0x2C a 0 []))) (q1 := 0)
    (.refl (s := modSeg (fun x => x.store (segBytes s a).1 (segBytes s a).2)
      (withQueue q (takenWith s w 0x2C a 0 [])))) rfl
  exact ⟨_, hx, answered_finish s _ w 0x2C a 0 .ok _ 0 h rfl, hfin.mem_eq rfl, hfin.seg_eq rfl⟩

/-! ## The drive -/

section
variable {s : State}

theorem raise_seg (n : Nat) (s : State) : (raise n s).seg = s.seg :=
  (raise_changes (G := [.evu, .pcie]) .refl rfl).seg_eq rfl

/-- What a frame start leaves of the driver. -/
def Seg.nextFrame (x : Seg) : Seg :=
  { x with
    cfg := x.next.getD x.cfg, next := none, com := 0, negative := false, counted := true
    frame := if x.counted then x.frame + 1 else 0
    active1 := x.active1 != x.pending, pending := false
    run := if (x.next.getD x.cfg).en then x.run else .stopping false }

theorem segFrame_seg (s : State) : (segFrame s).seg = s.seg.nextFrame := by
  unfold segFrame
  dsimp only
  split
  · rw [raise_seg]
    rfl
  · rfl

theorem exec_segmentFrameStart (hr : s.seg.run = .running) (hc : s.seg.cfg.mux ≤ s.seg.com) :
    exec .segmentFrameStart s = .next (segFrame s) := by
  show execSegmentFrameStart s = _
  simp only [execSegmentFrameStart, hr, hc, decide_true, Bool.and_self, if_true]

theorem exec_negativePhaseStart (hr : segRuns s = true) (hc : s.seg.com < s.seg.cfg.mux) :
    exec .negativePhaseStart s = .next { s with seg := { s.seg with negative := true } } := by
  show execNegativePhaseStart s = _
  simp only [execNegativePhaseStart, hr, hc, decide_true, Bool.and_self, if_true, modSeg]

/-- The next common period, with the target that was measured. -/
def Seg.nextPeriod (x : Seg) : Seg :=
  { x with com := x.com + 1, negative := false, target := x.targetNext.getD x.target, targetNext := none }

theorem exec_commonPeriodEnd_running (hn : s.seg.negative = true) (hr : s.seg.run = .running) :
    exec .commonPeriodEnd s = .next (modSeg Seg.nextPeriod s) := by
  show execCommonPeriodEnd s = _
  unfold execCommonPeriodEnd
  rw [hn, if_neg (by simp), hr]
  rfl

theorem exec_commonPeriodEnd_stops (hn : s.seg.negative = true) (hr : s.seg.run = .stopping false)
    (hx : s.seg.next = none) : exec .commonPeriodEnd s =
      .next (raise 178 (modSeg (fun x => { x.nextPeriod.rest with next := none }) s)) := by
  show execCommonPeriodEnd s = _
  unfold execCommonPeriodEnd
  rw [hn, if_neg (by simp), hr]
  dsimp only
  rw [hx]
  rfl

theorem exec_vlcdReached (hr : s.seg.run = .starting) : exec .vlcdReached s =
    .next (raise 177 (segFrame (modSeg (fun x => { x with run := .running, counted := false }) s))) := by
  show execVlcdReached s = _
  simp only [execVlcdReached, hr, if_true]

theorem exec_vlcdStartTimeout (hr : s.seg.run = .starting) (mv : Nat) : exec (.vlcdStartTimeout mv) s =
    .next (raise 179 (logFault 0x24 0 (BitVec.ofNat 32 mv) (modSeg Seg.rest s))) := by
  show execVlcdStartTimeout mv s = _
  simp only [execVlcdStartTimeout, hr, if_true]

/-! ## The shared ADC -/

/-- What a contrast sample leaves of the driver. -/
def Seg.measured (x : Seg) (target : Nat) (limited ok : Bool) : Seg :=
  let out := if ok then 0 else x.outCount + 1
  let in_ := if ok then x.inCount + 1 else 0
  { x with
    targetNext := some target, limited := limited, outCount := out, inCount := in_
    fault := (x.fault || (decide (2 ≤ out) && !x.fault)) && !(decide (2 ≤ in_) && x.fault) }

theorem contrast_seg (mv : Nat) (s : State) :
    (contrast mv s).seg = s.seg.measured (vlcdTarget s) (vlcdLimited s) (vlcdOk s.seg.target mv) := by
  unfold contrast
  dsimp only
  have h : Changes [.evu, .pcie, .faults] (modSeg (fun x => x.measured (vlcdTarget s) (vlcdLimited s)
      (vlcdOk s.seg.target mv)) s) (contrast mv s) := by
    unfold contrast
    exact .ite (raise_changes (.ite (raise_changes (logFault_changes (.ite (raise_changes .refl rfl) .refl) rfl) rfl)
      (.ite (raise_changes .refl rfl) .refl)) rfl)
      (.ite (raise_changes (logFault_changes (.ite (raise_changes .refl rfl) .refl) rfl) rfl)
        (.ite (raise_changes .refl rfl) .refl))
  exact h.seg_eq rfl

theorem Seg.measured_fault {x : Seg} {target : Nat} {limited : Bool} (h : 1 ≤ x.outCount) :
    (x.measured target limited false).fault = true := by
  have h2 : 2 ≤ x.outCount + 1 := by omega
  simp only [Seg.measured, Bool.false_eq_true, if_false, h2, decide_true, Bool.true_and]
  cases x.fault <;> rfl

theorem exec_contrastSample (mv : Nat) (hr : segRuns s = true) (hh : s.adc.hold = none)
    (hb : bistableAsks s = false) :
    exec (.contrastSample mv) s = .next (contrast mv { s with adc := { s.adc with contrastLate := false } }) := by
  show execContrastSample mv s = _
  unfold execContrastSample
  rw [hr, hh, hb]
  rfl

theorem exec_adcLate_marks (hr : segRuns s = true) (hb : bistableAsks s = true) (hl : s.adc.contrastLate = false) :
    exec (.adcRequestLate .contrast) s = .next (raise 182 { s with adc := { s.adc with contrastLate := true } }) := by
  show execAdcRequestLate .contrast s = _
  simp only [execAdcRequestLate, hr, hb, hl, Bool.or_true, Bool.not_false, Bool.and_self, if_true]

theorem exec_adcLate_marked (hl : s.adc.contrastLate = true) : exec (.adcRequestLate .contrast) s = .next s := by
  show execAdcRequestLate .contrast s = _
  simp only [execAdcRequestLate, hl, Bool.not_true, Bool.and_false, Bool.false_eq_true, if_false]

/-! ## Temperature -/

/-- TEMP with its readings, and what its monitors make of them. -/
def tempRead (die : HalfWord) (therm : BitVec 12) (s : State) : State :=
  let s := { s with power := { s.power with die := die, therm := therm, thermValid := therm ≠ 0 && therm ≠ 4095 } }
  if fabricOn s then
    let s := sample 0x28 0 (die.toInt + 32768).toNat s
    if therm ≠ 0 && therm ≠ 4095 then sample 0x28 1 therm.toNat s else s
  else s

theorem tempRead_changes (die : HalfWord) (therm : BitVec 12) (s : State) : Changes [.evu, .pcie, .mon]
    { s with power := { s.power with die := die, therm := therm, thermValid := therm ≠ 0 && therm ≠ 4095 } }
    (tempRead die therm s) := by
  unfold tempRead
  exact .ite (.ite (sample_changes (sample_changes .refl rfl) rfl) (sample_changes .refl rfl)) .refl

/-- THERM_LIMIT follows the die's temperature. -/
def thermLimit (die : HalfWord) (s : State) : State :=
  if die.toInt ≤ 112 * 16 then { s with faults := { s.faults with thermArmed := true } }
  else if 115 * 16 < die.toInt ∧ s.faults.thermArmed = true then
    raise 280 (logFault 0x08 0 (die.setWidth 32) { s with faults := { s.faults with thermArmed := false } })
  else s

theorem exec_tempRefresh (die : HalfWord) (therm : BitVec 12) :
    exec (.tempRefresh die therm) s = .next (thermLimit die (tempRead die therm s)) := by
  have hx : exec (.tempRefresh die therm) s = if die.toInt ≤ 112 * 16 then
      .next { tempRead die therm s with faults := { (tempRead die therm s).faults with thermArmed := true } }
    else if 115 * 16 < die.toInt ∧ (tempRead die therm s).faults.thermArmed = true then
      .next (raise 280 (logFault 0x08 0 (die.setWidth 32)
        { tempRead die therm s with faults := { (tempRead die therm s).faults with thermArmed := false } }))
    else .next (tempRead die therm s) := rfl
  rw [hx]
  unfold thermLimit
  rw [apply_ite Host.Outcome.next, apply_ite Host.Outcome.next]

theorem thermLimit_changes (die : HalfWord) (s : State) : Changes [.evu, .pcie, .faults] s (thermLimit die s) := by
  unfold thermLimit
  exact .ite (.set_faults .refl rfl) (.ite (raise_changes (logFault_changes (.set_faults .refl rfl) rfl) rfl) .refl)

theorem logFault_thermArmed {code unit : Nat} {arg : Word} {c : Option CtxId} (h : s.faults.thermArmed = false) :
    (logFault code unit arg s c).faults.thermArmed = false := by
  unfold logFault
  dsimp only
  split
  · unfold enterFault
    dsimp only
    rw [raise_faults]
    exact h
  · split
    · split
      · exact h
      · exact h
    · exact h

theorem thermLimit_logged {die : HalfWord} (hd : 115 * 16 < die.toInt) (ha : s.faults.thermArmed = true)
    (hf : fabricOn s = true) : (thermLimit die s).faults.thermArmed = false ∧
      ∃ l, (thermLimit die s).faults.entries.getLast? = some l ∧ l.code = 0x08 := by
  unfold thermLimit
  rw [if_neg (by omega), if_pos ⟨hd, ha⟩, raise_faults]
  refine ⟨logFault_thermArmed rfl, ?_⟩
  exact ⟨_, logFault_last (s := { s with faults := { s.faults with thermArmed := false } }) hf _ _ _ _, rfl⟩

theorem exec_tempRefresh_result (die : HalfWord) (therm : BitVec 12) : ∃ t, exec (.tempRefresh die therm) s = .next t
    ∧
    t.power.die = die ∧ t.power.therm = therm ∧ t.power.thermValid = decide (therm ≠ 0 ∧ therm ≠ 4095) ∧ t.mem = s.mem
        ∧
    (115 * 16 < die.toInt → s.faults.thermArmed = true → fabricOn s = true →
      t.faults.thermArmed = false ∧ ∃ l, t.faults.entries.getLast? = some l ∧ l.code = 0x08) := by
  have hread := tempRead_changes die therm s
  have hpow := hread.power_eq rfl
  have hlimit := thermLimit_changes die (tempRead die therm s)
  have hp : (thermLimit die (tempRead die therm s)).power = _ := (hlimit.power_eq rfl).trans hpow
  refine ⟨_, exec_tempRefresh die therm, ?_, ?_, ?_, (hlimit.mem_eq rfl).trans (hread.mem_eq rfl), fun hd ha hf => ?_⟩
  · rw [hp]
  · rw [hp]
  · rw [hp]
    simp
  · refine thermLimit_logged hd ?_ ?_
    · rw [hread.faults_eq rfl]
      exact ha
    · unfold fabricOn pdOn
      rw [hpow]
      exact hf

end

/-- Settles O43: SEG_WRITE, the steps of the drive, the two users of the ADC and the temperature refresh. -/
theorem segmentDriverAndAdc : Obligations.SegmentDriverAndAdc := by
  refine ⟨fun s w a h hk => ?_, fun s => ⟨fun hr hc => ⟨_, exec_segmentFrameStart hr hc, ?_, ?_, ?_, ?_, fun hcnt =>
      ?_⟩,
    exec_negativePhaseStart, fun hn hr => ⟨_, exec_commonPeriodEnd_running hn hr, rfl, rfl, rfl, hr⟩,
    fun hn hr hx => ⟨_, exec_commonPeriodEnd_stops hn hr hx, ?_, ?_⟩, fun hr => ⟨fun he hx =>
      ⟨_, exec_vlcdReached hr, ?_, ?_, ?_⟩, fun mv => ⟨_, exec_vlcdStartTimeout hr mv, ?_, ?_, ?_⟩⟩,
    fun mv hr hh hb => ⟨_, exec_contrastSample mv hr hh hb, ?_, ?_, fun ho => ?_, fun ho => ?_, fun ho h1 => ?_⟩,
    fun hr hb => ⟨fun hl => ⟨_, exec_adcLate_marks hr hb hl, ?_, ?_⟩, exec_adcLate_marked⟩,
    exec_tempRefresh_result⟩⟩
  · obtain ⟨t, hx, hans, hmem, hseg⟩ := exec_segWrite_result h hk
    obtain ⟨hpend, hact⟩ := Seg.store_active s.seg (segBytes s a).1 (segBytes s a).2
    exact ⟨t, hx, hans, hmem, hseg, by rw [hseg, hpend], by rw [hseg, hact]⟩
  · rw [segFrame_seg]
    rfl
  · rw [segFrame_seg]
    rfl
  · rw [segFrame_seg]
    rfl
  · rw [segFrame_seg]
    rfl
  · rw [segFrame_seg]
    exact if_pos hcnt
  · rw [raise_seg]
    rfl
  · rw [raise_seg]
    rfl
  · rw [raise_seg, segFrame_seg]
    show (if (s.seg.next.getD s.seg.cfg).en then SegRun.running else .stopping false) = .running
    rw [hx, Option.getD_none, he]
    rfl
  · rw [raise_seg, segFrame_seg]
    rfl
  · rw [raise_seg, segFrame_seg]
    rfl
  · exact congrArg Seg.run ((raise_changes (logFault_changes (G := [.evu, .pcie, .faults]) .refl rfl) rfl).seg_eq rfl)
  · exact congrArg Seg.pump ((raise_changes (logFault_changes (G := [.evu, .pcie, .faults]) .refl rfl) rfl).seg_eq
        rfl)
  · exact (raise_changes (logFault_changes (G := [.evu, .pcie, .faults]) .refl rfl) rfl).mem_eq rfl
  · rw [contrast_seg]
    rfl
  · rw [contrast_seg]
    rfl
  · rw [contrast_seg]
    exact if_pos ho
  · rw [contrast_seg]
    exact if_neg (by rw [ho]; exact Bool.false_ne_true)
  · rw [contrast_seg]
    show (s.seg.measured _ _ (vlcdOk s.seg.target mv)).fault = true
    rw [ho]
    exact Seg.measured_fault h1
  · exact congrArg Adc.contrastLate ((raise_changes (G := [.evu, .pcie]) .refl rfl).adc_eq rfl)
  · exact (congrArg Adc.hold ((raise_changes (G := [.evu, .pcie]) .refl rfl).adc_eq rfl)).trans rfl

end Sys2Proof.Machine
end

section
/-! EPD_UPDATE, EPD_CLEAR, the canvas and the ledger (18.3, 18.7 to 18.9). -/
namespace Sys2Proof.Machine

/-! ## The commands -/

section
variable {s : State} {w : WinId} {a : Cmd}

theorem powerEpd_on (s : State) : pdOn .epd (powerEpd s) = true := by
  have hon : pdOn .epd (setPd .epd true (bumpFree s)) = true := by
    simp [pdOn, setPd, Pd.bit]
  unfold powerEpd
  dsimp only
  split
  · exact hon
  · exact hon

theorem powerEpd_epd (s : State) : (powerEpd s).epd = s.epd :=
  (powerEpd_changes (G := [.port, .power, .adc, .free]) .refl rfl).epd_eq rfl

/-- A started command: in the hand of the engine, with PD_EPD on, and its window in the phase of the engine. -/
theorem underway_powerEpd {op : Byte} {c : CtxId} {t : State} (hw : t.win[w] = (taken s w op a c).win[w]) :
    underway (setPhase w .epd (powerEpd t)) w op a.tag .epd :=
  underway_setPhase .epd
    ((congrArg (·[w]) ((powerEpd_changes (G := [.port, .power, .adc, .free]) .refl rfl).win_eq rfl)).trans hw)

theorem underway_congr {t u : State} {op tag : Byte} {p : Phase} (h : u.win = t.win) (ht : underway t w op tag p) :
    underway u w op tag p := by
  unfold underway
  rw [h]
  exact ht

theorem pdOn_congr {t u : State} {p : Pd} (h : u.power = t.power) : pdOn p u = pdOn p t := by
  unfold pdOn
  rw [h]

/-- A scan that starts: beside the unit and its reads only the engine's step moves. -/
theorem scanCanvas_eq {r : EpdRun} {u : CalId} {c : EpdCfg} (hu : r.cal = some u) (hc : s.epd.cfg = some c) :
    ∃ t, Changes [.cal, .fetch] s t ∧ scanCanvas r s = setRun { r with step := .canvasScan } t := by
  unfold scanCanvas
  split
  · exact ⟨_, startCal_changes (access_changes .refl rfl) rfl, rfl⟩
  · rename_i hno
    exact absurd hc (hno u c hu)

theorem scanCanvas_run {r : EpdRun} {u : CalId} {c : EpdCfg} (hu : r.cal = some u) (hc : s.epd.cfg = some c) :
    (scanCanvas r s).epd.run = some { r with step := .canvasScan } := by
  obtain ⟨t, -, heq⟩ := scanCanvas_eq hu hc
  rw [heq]
  rfl

theorem scanCanvas_keeps (r : EpdRun) (s : State) : (scanCanvas r s).epd.composing = s.epd.composing ∧
    (scanCanvas r s).epd.check = s.epd.check := by
  by_cases h : ∃ u c, r.cal = some u ∧ s.epd.cfg = some c
  · obtain ⟨u, c, hu, hc⟩ := h
    obtain ⟨t, ht, heq⟩ := scanCanvas_eq hu hc
    rw [heq, ← ht.epd_eq rfl]
    exact ⟨rfl, rfl⟩
  · unfold scanCanvas
    split
    · rename_i u c hu hc
      exact absurd ⟨u, c, hu, hc⟩ h
    · exact ⟨rfl, rfl⟩

/-- A Caliper unit that is free is still free for a command that has taken other resources. -/
theorem freeCal_takenWith {op : Byte} {c : CtxId} {rs : List Resource} (h : ready s w c = true)
    (hrs : ∀ u, Resource.cal u ∉ rs) : freeCal (takenWith s w op a c rs) = freeCal s := by
  have hidle := ((ready_iff s w c).mp h).2.2.2.1
  have hheld (u : CalId) : resHeld (takenWith s w op a c rs) (.cal u) = resHeld s (.cal u) := by
    have hnone : (rs.map fun r => (r, Holder.window w)).any (fun p => decide (p.1 = .cal u)) = false := by
      rw [List.any_map, List.any_eq_false]
      intro r hr
      simpa using fun e : r = .cal u => hrs u (e ▸ hr)
    show (s.port.held ++ rs.map fun r => (r, Holder.window w)).any _ = _
    rw [List.any_append, hnone, Bool.or_false]
    rfl
  have hwanted (r : Resource) : resWanted (takenWith s w op a c rs) r = resWanted s r := by
    unfold resWanted
    refine congrArg wins.any (funext fun v => ?_)
    by_cases hv : v = w
    · subst hv
      have hexec : (takenWith s v op a c rs).win[v].exec = (taken s v op a c).win[v].exec := rfl
      rw [hexec, taken_win, hidle]
    · have hother : (takenWith s w op a c rs).win[v] = s.win[v] :=
        Vector.getElem_set_ne w.2 v.2 fun e => hv (Fin.ext e.symm)
      rw [hother]
      rfl
  unfold freeCal
  simp only [hheld, hwanted]
  rfl

/-- A command that has taken other resources holds no Caliper unit. -/
theorem heldCal_takenWith {op : Byte} {c : CtxId} {rs : List Resource}
    (hn : ∀ r, (r, Holder.window w) ∉ s.port.held) (hrs : ∀ u, Resource.cal u ∉ rs) :
    heldCal (takenWith s w op a c rs) w = none := by
  unfold heldCal
  refine List.find?_eq_none.mpr fun u _ => ?_
  rw [Bool.not_eq_true, List.any_eq_false]
  intro p hp
  simp only [Bool.and_eq_true, decide_eq_true_eq, not_and]
  intro hr hh
  have hpair : p = (Resource.cal u, Holder.window w) := Prod.ext hr hh
  subst hpair
  rcases List.mem_append.mp hp with hp | hp
  · exact hn _ hp
  · obtain ⟨r, hr', he⟩ := List.mem_map.mp hp
    have heq : r = .cal u := congrArg Prod.fst he
    exact hrs u (heq ▸ hr')

/-- An EPD_UPDATE that passes its checks finds a configured engine. -/
theorem checkEpdUpdate_configured {t : State} (hk : checkEpdUpdate w 0 a t = none) : ∃ c, t.epd.cfg = some c := by
  have h1 := orElse_eq_none hk _ List.mem_cons_self
  have h2 := firstFail_eq_none h1 (t.epd.cfg.isNone, .noResource) (by simp)
  exact Option.isSome_iff_exists.mp (Option.isNone_eq_false_iff.mp h2)

theorem exec_epdUpdate_acts {u : CalId} (h : ready s w 0 = true) (hn : unclaimed s [.power, .syn 2] = true)
    (hh : ∀ r, (r, Holder.window w) ∉ s.port.held) (hu : freeCal s = some u)
    (hk : checkEpdUpdate w 0 a (takenWith s w 0x28 a 0 [.power, .syn 2]) = none) : exec (.epdUpdate w a) s =
      .next (startUpdate w a u (take (.window w) (.cal u) (takenWith s w 0x28 a 0 [.power, .syn 2]))) := by
  have hrs : ∀ v, Resource.cal v ∉ [Resource.power, .syn 2] := by simp
  have hfree := freeCal_takenWith (op := 0x28) (a := a) h hrs
  have hheld := heldCal_takenWith (op := 0x28) (a := a) (c := 0) hh hrs
  refine congrArg Host.Outcome.next ((run_passes (o := opEpdUpdate) h ?_ rfl hn ?_ ?_).trans ?_)
  · exact hk
  · exact hk
  · rfl
  · show actEpdUpdate w 0 a (takenWith s w 0x28 a 0 [.power, .syn 2]) = _
    unfold actEpdUpdate
    rw [hheld, hfree, hu]

/-- The update as it starts. -/
def newUpdate (w : WinId) (a : Cmd) (u : CalId) : EpdRun :=
  newRun w false ⟨fld a.a0 0 2, Nat.mod_lt _ (by decide)⟩ (updateRegion a) (some u)

theorem startUpdate_result {t : State} {u : CalId} {c : EpdCfg} (hw : t.win[w] = (taken s w 0x28 a 0).win[w])
    (hc : t.epd.cfg = some c) : underway (startUpdate w a u t) w 0x28 a.tag .epd ∧
      pdOn .epd (startUpdate w a u t) = true ∧ (startUpdate w a u t).epd.run =
        some { newUpdate w a u with step := if t.epd.composing then .composeWait else .canvasScan } := by
  have hepd : (setPhase w .epd (powerEpd t)).epd = t.epd := powerEpd_epd t
  have heq : startUpdate w a u t = if (setPhase w .epd (powerEpd t)).epd.composing then
      setRun { newUpdate w a u with step := .composeWait } (setPhase w .epd (powerEpd t))
    else scanCanvas (newUpdate w a u) (setPhase w .epd (powerEpd t)) := rfl
  have hrest : Changes [.fetch, .epd, .cal] (setPhase w .epd (powerEpd t)) (startUpdate w a u t) := by
    rw [heq]
    exact .ite (setRun_changes .refl rfl) (scanCanvas_changes .refl rfl)
  refine ⟨underway_congr (hrest.win_eq rfl) (underway_powerEpd hw),
    (pdOn_congr (hrest.power_eq rfl)).trans (powerEpd_on t), ?_⟩
  rw [heq, hepd]
  split
  · rfl
  · exact scanCanvas_run (u := u) rfl ((congrArg Epd.cfg hepd).trans hc)

theorem exec_epdUpdate_result {u : CalId} (h : ready s w 0 = true) (hn : unclaimed s [.power, .syn 2] = true)
    (hh : ∀ r, (r, Holder.window w) ∉ s.port.held) (hu : freeCal s = some u)
    (hk : checkEpdUpdate w 0 a (takenWith s w 0x28 a 0 [.power, .syn 2]) = none) : ∃ t r,
      exec (.epdUpdate w a) s = .next t ∧ underway t w 0x28 a.tag .epd ∧ pdOn .epd t = true ∧ t.epd.run = some r ∧
      r.byWindow = w ∧ r.clear = false ∧ r.cal = some u ∧
      r.step = (if s.epd.composing then .composeWait else .canvasScan) ∧ t.mem = s.mem := by
  obtain ⟨c, hc⟩ := checkEpdUpdate_configured hk
  obtain ⟨hway, hon, hrun⟩ := startUpdate_result (s := s) (w := w) (a := a) (u := u)
    (t := take (.window w) (.cal u) (takenWith s w 0x28 a 0 [.power, .syn 2])) rfl hc
  exact ⟨_, _, exec_epdUpdate_acts h hn hh hu hk, hway, hon, hrun, rfl, rfl, rfl, rfl,
    (startUpdate_changes (G := [.port, .power, .adc, .free, .win, .fetch, .epd, .cal]) .refl rfl).mem_eq rfl⟩

/-- A composition in progress is left off for EPD_CLEAR. -/
def composeLater (s : State) : State :=
  if s.epd.composing then { s with epd := { s.epd with composing := false, composeDue := true } } else s

theorem composeLater_changes (s : State) : Changes [.epd] s (composeLater s) := .ite (.set_epd .refl rfl) .refl

theorem composeLater_composing (s : State) : (composeLater s).epd.composing = false := by
  unfold composeLater
  split
  · rfl
  · rename_i h
    exact Bool.not_eq_true _ ▸ h

theorem exec_epdClear_result (h : ready s w 0 = true) (hn : unclaimed s [.power, .syn 2] = true)
    (hk : checkEpdClear w 0 a (takenWith s w 0x29 a 0 [.power, .syn 2]) = none) : ∃ t r,
      exec (.epdClear w a) s = .next t ∧ underway t w 0x29 a.tag .epd ∧ pdOn .epd t = true ∧ t.epd.run = some r ∧
      r.byWindow = w ∧ r.clear = true ∧ r.step = .sample ∧ t.epd.composing = false ∧ t.mem = s.mem := by
  have hx : exec (.epdClear w a) s = .next (setRun (newRun w true 3 (0, 0, 0, 0) none)
      (setPhase w .epd (powerEpd (composeLater (takenWith s w 0x29 a 0 [.power, .syn 2]))))) := by
    refine congrArg Host.Outcome.next ((run_passes (o := opEpdClear) h ?_ rfl hn ?_ ?_).trans ?_)
    · exact hk
    · exact hk
    · rfl
    · rfl
  have hlater := composeLater_changes (takenWith s w 0x29 a 0 [.power, .syn 2])
  have hpower := powerEpd_changes (G := [.port, .power, .adc, .free, .epd]) (hlater.mono rfl) rfl
  refine ⟨_, _, hx, underway_powerEpd (congrArg (·[w]) (hlater.win_eq rfl)), powerEpd_on _, rfl, rfl, rfl, rfl, ?_,
    hpower.mem_eq rfl⟩
  exact (congrArg Epd.composing (powerEpd_epd _)).trans (composeLater_composing _)

end

/-! ## The canvas -/

section
variable {s : State} {c : EpdCfg}

theorem sameBytesOutside.trans {s t u : State} {base n : Nat} (h : sameBytesOutside s t base n)
    (k : sameBytesOutside t u base n) : sameBytesOutside s u base n := fun a ha => (k a ha).trans (h a ha)

theorem sameBytesOutside.mono {s t : State} {a n base m : Nat} (h : sameBytesOutside s t a n) (hb : base ≤ a)
    (hm : a + n ≤ base + m) : sameBytesOutside s t base m := fun x hx => h x (by omega)

theorem sameBytesOutside.of_mem {s t u : State} {base n : Nat} (h : sameBytesOutside s t base n)
    (e : u.mem = t.mem) : sameBytesOutside s u base n := fun a ha => by
  rw [e]
  exact h a ha

theorem le_roundUp (n : Nat) : n ≤ roundUp n 32 := by
  unfold roundUp ceilDiv
  omega

/-- Rows are written in their region only. -/
theorem writeRows_outside (base : Nat) (f : Nat → Nat → Byte) (s : State) :
    sameBytesOutside s (writeRows base c f s) base c.bytes := by
  refine forEach_keeps_mem (P := fun t => sameBytesOutside s t base c.bytes) (fun y hy t ht => ?_) (fun _ _ => rfl)
  have hlen : ((List.range c.width).map (fun x => f x y) ++ List.replicate (c.stride - c.width) 0).length =
      c.stride := by
    have hw : c.width ≤ c.stride := le_roundUp c.width
    simp only [List.length_append, List.length_map, List.length_range, List.length_replicate]
    omega
  have hrow : (y + 1) * c.stride ≤ c.bytes := Nat.mul_le_mul_right _ (List.mem_range.mp hy)
  have hw := State.write_other t (base + y * c.stride)
    ((List.range c.width).map (fun x => f x y) ++ List.replicate (c.stride - c.width) 0)
  rw [hlen] at hw
  refine ht.trans (hw.mono (Nat.le_add_right _ _) ?_)
  rw [Nat.add_mul, Nat.one_mul] at hrow
  omega

/-- The rows of the canvas are written. -/
def canvasRows (c : EpdCfg) (s : State) : State :=
  writeRows (canvasBase s) c (canvasByte s c (epdLayers s)) s

theorem writeCanvas_result (c : EpdCfg) (s : State) : (writeCanvas c s).epd.composing = false ∧
    (writeCanvas c s).epd.check.isSome = true ∧ (writeCanvas c s).epd.run = s.epd.run ∧
    (writeCanvas c s).epd.cfg = s.epd.cfg ∧ sameBytesOutside s (writeCanvas c s) (canvasBase s) c.bytes := by
  obtain ⟨bad, u, hu, heq⟩ : ∃ bad u, u = epdAccess true (canvasBase s) c.bytes (accessLayers c
      (logUe bad (bumpFree (canvasRows c s)))) ∧ writeCanvas c s = raise 160 { u with epd := { u.epd with
        composing := false, check := some (BitVec.ofNat 32 (canvasCheck u c)) } } := ⟨_, _, rfl, rfl⟩
  have hch : Changes [.evu, .pcie, .faults, .fetch, .free] (canvasRows c s) u := by
    rw [hu]
    exact epdAccess_changes (accessLayers_changes (logUe_changes (bumpFree_changes .refl rfl) rfl) rfl) rfl
  have hepd : u.epd = s.epd := (hch.epd_eq rfl).trans ((writeRows_changes (G := [.mem, .memc]) .refl rfl).epd_eq rfl)
  have hraise : Changes [.evu, .pcie] _ (writeCanvas c s) := heq ▸ raise_changes .refl rfl
  have hend := hraise.epd_eq rfl
  refine ⟨congrArg Epd.composing hend, ?_, ?_, ?_, ?_⟩
  · exact congrArg (fun x => Option.isSome (Epd.check x)) hend
  · exact (congrArg Epd.run hend).trans (show u.epd.run = s.epd.run by rw [hepd])
  · exact (congrArg Epd.cfg hend).trans (show u.epd.cfg = s.epd.cfg by rw [hepd])
  · exact (writeRows_outside (canvasBase s) _ s).of_mem ((hraise.mem_eq rfl).trans (hch.mem_eq rfl))

theorem exec_canvasComposed_result (hc : s.epd.cfg = some c) (hm : memAvail s = true) (hx : s.epd.composing = true) :
    ∃ t, exec .canvasComposed s = .next t ∧ t.epd.composing = false ∧ t.epd.check.isSome = true ∧
      sameBytesOutside s t (canvasBase s) c.bytes ∧ ∀ (r : EpdRun) (u : CalId), s.epd.run = some r →
        r.step = .composeWait → r.cal = some u → t.epd.run = some { r with step := .canvasScan } := by
  obtain ⟨hcomp, hcheck, hrun, hcfg, hout⟩ := writeCanvas_result c s
  obtain ⟨v, hv⟩ : ∃ v, v = kickFlatten (zeroMay (fun r => { r with waitE := false }) (writeCanvas c s)) := ⟨_, rfl⟩
  have hch : Changes [.memc, .fetch, .relief] (writeCanvas c s) v :=
    hv ▸ kickFlatten_changes (zeroMay_changes .refl rfl) rfl
  have hepd := hch.epd_eq rfl
  have hgo : exec .canvasComposed s = (match v.epd.run with
      | some r => .next (if r.step = .composeWait then scanCanvas r v else v)
      | none => .next v) := by
    show execCanvasComposed s = _
    unfold execCanvasComposed
    rw [hc]
    dsimp only
    rw [hx, hm, ← hv]
    rfl
  have hold : v.epd.run = s.epd.run := (congrArg Epd.run hepd).trans hrun
  rw [hold] at hgo
  cases hr : s.epd.run with
  | none =>
    rw [hr] at hgo
    refine ⟨v, hgo, ?_, ?_, hout.of_mem (hch.mem_eq rfl), fun r u h => nomatch h⟩
    · rw [hepd, hcomp]
    · rw [hepd, hcheck]
  | some r =>
    rw [hr] at hgo
    have hscan : Changes [.fetch, .epd, .cal] v (if r.step = .composeWait then scanCanvas r v else v) :=
      .ite (scanCanvas_changes .refl rfl) .refl
    have hvc : v.epd.cfg = some c := (congrArg Epd.cfg hepd).trans (hcfg.trans hc)
    have hkeep : (if r.step = .composeWait then scanCanvas r v else v).epd.composing = v.epd.composing ∧
        (if r.step = .composeWait then scanCanvas r v else v).epd.check = v.epd.check := by
      split
      · exact scanCanvas_keeps r v
      · exact ⟨rfl, rfl⟩
    refine ⟨_, hgo, ?_, ?_, hout.of_mem ((hscan.mem_eq rfl).trans (hch.mem_eq rfl)), fun q u hq hs hu => ?_⟩
    · rw [hkeep.1, hepd, hcomp]
    · rw [hkeep.2, hepd, hcheck]
    · cases hq
      rw [if_pos hs, scanCanvas_run hu hvc]

/-! ## The ledger -/

theorem blockFails_congr {s t : State} (hm : t.mem = s.mem) (hc : t.memc = s.memc) (c : EpdCfg) (k : Nat) :
    blockFails t c k = blockFails s c k := by
  have hcrc : crcAddr t k = crcAddr s k := by
    unfold crcAddr ledgerBase deviceBase usable
    rw [hc]
  have hbase : ledgerBase t = ledgerBase s := by
    unfold ledgerBase deviceBase usable
    rw [hc]
  unfold blockFails blockCrc badRange State.read
  rw [hcrc, hbase, hm, hc]

/-- A ledger whose blocks pass is left as it is. -/
theorem checkLedger_passes (h : ∀ k, k < c.blocks → blockFails s c k = false) :
    Changes [.fetch] s (checkLedger c s) := by
  have hread : Changes [.fetch] s (epdAccess false (crcAddr s 0) (4 * c.blocks)
      (epdAccess false (ledgerBase s) c.bytes s)) := epdAccess_changes (epdAccess_changes .refl rfl) rfl
  refine forEach_keeps_mem (P := Changes [.fetch] s) (fun k hk t ht => ?_) hread
  have hk' : blockFails t c k = false :=
    (blockFails_congr (ht.mem_eq rfl) (ht.memc_eq rfl) c k).trans (h k (List.mem_range.mp hk))
  rw [hk', if_neg Bool.false_ne_true]
  exact ht

theorem exec_ledgerCheck_result (hc : s.epd.cfg = some c) (hm : memAvail s = true) (hr : s.epd.run = none)
    (hmode : s.power.mode = .run ∨ s.power.mode = .dim) (hb : ∀ k, k < c.blocks → blockFails s c k = false) :
    ∃ t, exec .ledgerCheck s = .next t ∧ t.mem = s.mem ∧ t.epd = s.epd := by
  have hlog := logUeIn_changes (G := [.evu, .pcie, .faults]) (s := s) (a := ledgerBase s) (n := c.bytes) .refl rfl
  have hpass := checkLedger_passes (c := c) (s := logUeIn (ledgerBase s) c.bytes s) fun k hk =>
    (blockFails_congr (hlog.mem_eq rfl) (hlog.memc_eq rfl) c k).trans (hb k hk)
  refine ⟨_, ?_, (hpass.mem_eq rfl).trans (hlog.mem_eq rfl), (hpass.epd_eq rfl).trans (hlog.epd_eq rfl)⟩
  show execLedgerCheck s = _
  unfold execLedgerCheck
  rw [hc]
  dsimp only
  rw [hr, hm, if_neg]
  rcases hmode with h | h
  · rw [h]
    decide
  · rw [h]
    decide

end

/-- Settles O41: the two commands as they start, the end of a composition and a check of a ledger without faults. -/
theorem bistableUpdatesStart : Obligations.BistableUpdatesStart :=
  ⟨fun _ _ _ h hn hh => ⟨fun _ hu hk => exec_epdUpdate_result h hn hh hu hk, exec_epdClear_result h hn⟩,
    fun _ _ hc hm => ⟨exec_canvasComposed_result hc hm, exec_ledgerCheck_result hc hm⟩⟩

end Sys2Proof.Machine
end

section
/-! The steps of a bistable drive (18.5 to 18.7). -/
namespace Sys2Proof.Machine

section
variable {s : State} {r : EpdRun} {c : EpdCfg}

/-! ## Temperature and rails -/

theorem firstBad_clean (h : s.memc.badWords = []) (a n : Nat) : firstBad s a n = none := by
  unfold firstBad
  rw [h]
  rfl

theorem updateBad_clean (h : s.memc.badWords = []) (c : EpdCfg) (r : EpdRun) : updateBad s c r = none := by
  unfold updateBad
  simp [firstBad_clean h]

theorem waveTable_congr {t : State} (hm : t.mem = s.mem) (hc : t.memc = s.memc) : waveTable t = waveTable s := by
  funext o
  unfold waveTable waveBase deviceBase usable
  rw [hm, hc]

/-- No sample is late any more. -/
def sampleInTime (s : State) : State := { s with adc := { s.adc with bistableLate := false } }

/-- The waveform table is read for the band. -/
def sampleRead (s : State) : State := epdAccess false (waveBase (sampleInTime s)) 0x100 (sampleInTime s)

theorem sampleRead_changes (s : State) : Changes [.adc, .fetch] s (sampleRead s) :=
  epdAccess_changes (.set_adc .refl rfl) rfl

/-- The update with its band, as its rails rise. -/
def banded (s : State) (r : EpdRun) (c : EpdCfg) (v : BitVec 12) : EpdRun :=
  { r with band := wfBand (waveTable (sampleInTime s)) (sampleValue c.tempTherm v) }

def firstRail (s : State) : State := { s with epd := { s.epd with rails := .rising 0 } }

/-- The search `updateBad` for a word with an error is made a variable, so that the kernel never evaluates it. -/
theorem exec_sample (hr : s.epd.run = some r) (hc : s.epd.cfg = some c) (v : BitVec 12) (hstep : r.step = .sample)
    (hh : s.adc.hold = none) (hb : s.memc.badWords = []) : exec (.bistableTemperatureSample v) s =
      .next (setRun { banded s r c v with step := .railsUp } (firstRail (checkLedger c (sampleRead s)))) := by
  have hclean : (sampleRead s).memc.badWords = [] :=
    (congrArg MemCtl.badWords ((sampleRead_changes s).memc_eq rfl)).trans hb
  have hgood := updateBad_clean hclean c (banded s r c v)
  show execBistableTemperatureSample v s = _
  unfold execBistableTemperatureSample
  rw [hr, hc]
  revert hgood
  generalize updateBad = bad
  revert bad
  refine id fun bad hgood => ?_
  dsimp only
  rw [if_neg (by rw [hstep, hh]; decide)]
  split
  · rename_i x hx
    exact absurd (hgood.symm.trans hx) (by simp)
  · rfl

theorem exec_sample_result (hr : s.epd.run = some r) (hc : s.epd.cfg = some c) (v : BitVec 12)
    (hstep : r.step = .sample) (hh : s.adc.hold = none) (hb : s.memc.badWords = []) :
    ∃ t q, exec (.bistableTemperatureSample v) s = .next t ∧ t.epd.rails = .rising 0 ∧ t.epd.run = some q ∧
      q.step = .railsUp ∧ q.band = wfBand (waveTable s) (sampleValue c.tempTherm v) ∧ q.byWindow = r.byWindow := by
  refine ⟨_, _, exec_sample hr hc v hstep hh hb, rfl, rfl, rfl, ?_, rfl⟩
  exact congrArg (fun f => wfBand f (sampleValue c.tempTherm v)) (waveTable_congr (t := sampleInTime s) rfl rfl)

theorem exec_railGood_next {k j : RailId} (hr : s.epd.run = some r) (hc : s.epd.cfg = some c)
    (hk : s.epd.rails = .rising k) (hj : j.1 = k.1 + 1) :
    exec (.railPowerGood k) s = .next { s with epd := { s.epd with rails := .rising j } } := by
  have hlt : k.1 + 1 < 5 := hj ▸ j.2
  show execRailPowerGood k s = _
  unfold execRailPowerGood
  rw [if_neg (not_not.mpr hk), hr, hc]
  dsimp only
  rw [dif_pos hlt, (Fin.ext hj : j = ⟨k.1 + 1, hlt⟩)]

/-- The rails are up. -/
def railsReached (s : State) : State :=
  raise 164 (releaseAdc { s with epd := { s.epd with rails := .up, railsShown := true } })

theorem railsReached_changes (s : State) : Changes [.evu, .pcie] { s with
    epd := { s.epd with rails := .up, railsShown := true }, adc := { s.adc with hold := none } } (railsReached s) :=
  raise_changes .refl rfl

theorem exec_railGood_last (hr : s.epd.run = some r) (hc : s.epd.cfg = some c) (hk : s.epd.rails = .rising 4) :
    exec (.railPowerGood 4) s = .next (startDrive r c (railsReached s)) := by
  show execRailPowerGood 4 s = _
  unfold execRailPowerGood
  rw [if_neg (not_not.mpr hk), hr, hc]
  rfl

theorem exec_railGood_last_result (hr : s.epd.run = some r) (hc : s.epd.cfg = some c)
    (hk : s.epd.rails = .rising 4) : ∃ t q, exec (.railPowerGood 4) s = .next t ∧ t.epd.rails = .up ∧
      t.epd.railsShown = true ∧ t.adc.hold = none ∧ t.epd.run = some q ∧ q.step = .drive ∧ q.phase = 0 ∧ q.row = 0 ∧
      q.p = wfPhases (waveTable s) r.mode.1 r.band := by
  have hup := railsReached_changes s
  have hdrive : Changes [.evu, .pcie] (setRun { r with
      step := .drive, b := balancePhases (railsReached s) c
      p := wfPhases (waveTable (railsReached s)) r.mode.1 r.band, phase := 0, row := 0 } (railsReached s))
      (startDrive r c (railsReached s)) := raise_changes .refl rfl
  have hepd := hdrive.epd_eq rfl
  refine ⟨_, _, exec_railGood_last hr hc hk, ?_, ?_, ?_, congrArg Epd.run hepd, rfl, rfl, rfl, ?_⟩
  · exact (congrArg Epd.rails hepd).trans (congrArg Epd.rails (hup.epd_eq rfl))
  · exact (congrArg Epd.railsShown hepd).trans (congrArg Epd.railsShown (hup.epd_eq rfl))
  · exact (congrArg Adc.hold (hdrive.adc_eq rfl)).trans (congrArg Adc.hold (hup.adc_eq rfl))
  · exact congrArg (fun f => wfPhases f r.mode.1 r.band) (waveTable_congr (hup.mem_eq rfl) (hup.memc_eq rfl))

theorem exec_railTimeout_result {k : RailId} (hr : s.epd.run = some r) (hk : s.epd.rails = .rising k) :
    ∃ t q, exec (.railPgTimeout k) s = .next t ∧ t.epd.rails = .falling ∧ t.epd.run = some q ∧
      q.step = .railsDown ∧ q.outcome = .timeout ∧ t.mem = s.mem := by
  refine ⟨railsFall r .timeout 0 (reportRail k 0 s), _, ?_, rfl, rfl, rfl, rfl,
    (railsFall_changes (G := [.evu, .pcie, .faults, .epd]) (reportRail_changes .refl rfl) rfl).mem_eq rfl⟩
  show execRailPgTimeout k s = _
  unfold execRailPgTimeout
  rw [if_neg (not_not.mpr hk), hr]

theorem interruptEpd_drive (code : Code) (hr : s.epd.run = some r) (hc : s.epd.cfg = some c)
    (hstep : r.step = .drive) : interruptEpd code s = railsFall r code r.phase (writePanel r c s) := by
  unfold interruptEpd
  rw [hr, hc]
  dsimp only
  rw [hstep]

theorem exec_railFault_result (k : RailId) (hr : s.epd.run = some r) (hc : s.epd.cfg = some c)
    (hu : s.epd.rails = .up) (hstep : r.step = .drive) : ∃ t q, exec (.railFault k) s = .next t ∧
      t.epd.rails = .falling ∧ t.epd.run = some q ∧ q.step = .railsDown ∧ q.outcome = .aborted ∧ q.q0 = r.phase := by
  have hrep : (reportRail k 1 s).epd = s.epd := (reportRail_changes (G := [.evu, .pcie, .faults]) .refl rfl).epd_eq
      rfl
  have hend := interruptEpd_drive .aborted (s := reportRail k 1 s) ((congrArg Epd.run hrep).trans hr)
    ((congrArg Epd.cfg hrep).trans hc) hstep
  refine ⟨railsFall r .aborted r.phase (writePanel r c (reportRail k 1 s)), _, ?_, rfl, rfl, rfl, rfl, rfl⟩
  show execRailFault k s = _
  unfold execRailFault
  rw [if_neg (not_not.mpr hu), hend]

/-! ## Phases and rows -/

theorem exec_phaseStart (hr : s.epd.run = some r) (hc : s.epd.cfg = some c) (hstep : r.step = .drive)
    (hp : pclkE s = true) (hlt : r.phase < r.b + r.p) (hrow : r.phase = 0 ∨ c.height ≤ r.row) :
    exec .epdPhaseStart s =
      .next (setRun { r with phase := r.phase + 1, row := 0, began := s.drone.time.toNat } s) := by
  show execEpdPhaseStart s = _
  unfold execEpdPhaseStart
  rw [hr, hc]
  dsimp only
  rw [hstep, hp, if_neg]
  rw [Bool.or_eq_true, Bool.or_eq_true, Bool.or_eq_true, Bool.and_eq_true]
  simp only [decide_eq_true_eq, Bool.not_true, Bool.false_eq_true, or_false, ne_eq, not_true_eq_false, false_or]
  omega

theorem rowErrors_clean (h : s.memc.badWords = []) (y : Nat) : rowErrors r s c y = [] := by
  unfold rowErrors
  rw [h]
  rfl

theorem holdErrors_clean (h : s.memc.badWords = []) : holdErrors r c s = (r, s) := by
  unfold holdErrors
  rw [rowErrors_clean h]
  rfl

theorem rowWords_congr {t : State} (hm : t.mem = s.mem) (hc : t.memc = s.memc) :
    rowWords r t c = rowWords r s c := by
  have hcode : ∀ x y i, r.code t c x y i = r.code s c x y i := fun x y i => by
    unfold EpdRun.code EpdRun.codeFree EpdRun.driven EpdRun.target ledgerAt panelLevel panelUnsure canvasLevel
      ledgerBase imageBase canvasBase deviceBase usable
    rw [hm, hc, waveTable_congr hm hc]
  unfold rowWords
  simp only [hcode]

/-- A row as the engine drives it. -/
def rowDriven (r : EpdRun) (c : EpdCfg) (s : State) : State :=
  let s := accessRow r c s
  let out : EpdRow :=
    { row := r.row, words := rowWords r s c, gdsp := r.row = 0, drive := c.rowClks - ceilDiv c.width 8 - c.leW - 4 }
  { s with epd := { s.epd with lastRow := some out } }

/-- A phase that took longer than its time is shown. -/
def rowLate (r : EpdRun) (c : EpdCfg) (s : State) : State :=
  if decide (c.height ≤ r.row + 1) && decide (r.began + wfPhaseUs (waveTable s) r.mode.1 < s.drone.time.toNat) then
    raise 169 s
  else s

theorem rowLate_changes (r : EpdRun) (c : EpdCfg) (s : State) : Changes [.evu, .pcie] s (rowLate r c s) :=
  .ite (raise_changes .refl rfl) .refl

theorem exec_rowPeriod (hr : s.epd.run = some r) (hc : s.epd.cfg = some c) (hstep : r.step = .drive)
    (hp : pclkE s = true) (h0 : r.phase ≠ 0) (hrow : r.row < c.height) (hb : s.memc.badWords = []) :
    exec .epdRowPeriod s = if decide (c.height ≤ r.row + 1) && decide (r.b + r.p ≤ r.phase) then
      .next (finishDrive { r with row := r.row + 1 } c (rowLate r c (rowDriven r c s)))
    else .next (setRun { r with row := r.row + 1 } (rowLate r c (rowDriven r c s))) := by
  have hclean : (accessRow r c s).memc.badWords = [] :=
    (congrArg MemCtl.badWords ((accessRow_changes (G := [.fetch]) .refl rfl).memc_eq rfl)).trans hb
  show execEpdRowPeriod s = _
  unfold execEpdRowPeriod
  rw [hr, hc]
  dsimp only
  rw [if_neg (by simp [hstep, hp, h0, Nat.not_le.mpr hrow]), holdErrors_clean hclean]
  unfold rowLate rowDriven
  rfl

theorem rowDriven_changes (r : EpdRun) (c : EpdCfg) (s : State) : Changes [.fetch, .epd] s (rowDriven r c s) :=
  .set_epd (accessRow_changes .refl rfl) rfl

theorem exec_rowPeriod_next (hr : s.epd.run = some r) (hc : s.epd.cfg = some c) (hstep : r.step = .drive)
    (hp : pclkE s = true) (h0 : r.phase ≠ 0) (hrow : r.row < c.height) (hb : s.memc.badWords = [])
    (hmore : r.row + 1 < c.height ∨ r.phase < r.b + r.p) : ∃ t o, exec .epdRowPeriod s = .next t ∧
      t.epd.run = some { r with row := r.row + 1 } ∧ t.mem = s.mem ∧ t.epd.lastRow = some o ∧ o.row = r.row ∧
      o.words = rowWords r s c := by
  have hx := exec_rowPeriod hr hc hstep hp h0 hrow hb
  rw [if_neg (by
    rw [Bool.and_eq_true, decide_eq_true_eq, decide_eq_true_eq]
    omega)] at hx
  have hlate := rowLate_changes r c (rowDriven r c s)
  have hrow := accessRow_changes (G := [.fetch]) (r := r) (c := c) (s := s) .refl rfl
  refine ⟨_, _, hx, rfl, (hlate.mem_eq rfl).trans ((rowDriven_changes r c s).mem_eq rfl),
    (congrArg Epd.lastRow (hlate.epd_eq rfl)).trans rfl, rfl, rowWords_congr (hrow.mem_eq rfl) (hrow.memc_eq rfl)⟩

theorem exec_rowPeriod_last (hr : s.epd.run = some r) (hc : s.epd.cfg = some c) (hstep : r.step = .drive)
    (hp : pclkE s = true) (h0 : r.phase ≠ 0) (hrow : r.row < c.height) (hb : s.memc.badWords = [])
    (hlast : c.height ≤ r.row + 1) (hend : r.b + r.p ≤ r.phase) (hs : r.stuck = []) :
    ∃ t q, exec .epdRowPeriod s = .next t ∧ t.epd.rails = .falling ∧ t.epd.run = some q ∧ q.step = .railsDown ∧
      q.outcome = .ok ∧ q.q0 = r.b + r.p := by
  have hx := exec_rowPeriod hr hc hstep hp h0 hrow hb
  rw [if_pos (by rw [decide_eq_true hlast, decide_eq_true hend, Bool.and_self])] at hx
  refine ⟨_, _, hx, rfl, rfl, rfl, ?_, rfl⟩
  show (if r.stuck.isEmpty then Code.ok else .incomplete) = .ok
  rw [hs]
  rfl

/-! ## The end -/

theorem composeNow_changes (s : State) : Changes [.epd] s (composeNow s) := .ite (.set_epd .refl rfl) .refl

theorem composeNow_rails (s : State) : (composeNow s).epd.rails = s.epd.rails ∧
    (composeNow s).epd.railsShown = s.epd.railsShown := by
  unfold composeNow
  split
  · exact ⟨rfl, rfl⟩
  · exact ⟨rfl, rfl⟩

theorem setPd_off (p : Pd) (s : State) : pdOn p (setPd p false s) = false := by
  cases p <;> simp [pdOn, setPd, Pd.bit]

theorem endEpd_off (code : Code) (q0 : Nat) : pdOn .epd (endEpd r code q0 s) = false := by
  rw [endEpd_eq]
  refine (pdOn_congr ((composeNow_changes _).power_eq rfl)).trans ?_
  refine (pdOn_congr ((epdAnswered_changes code q0).power_eq rfl)).trans ?_
  exact setPd_off .epd _

theorem endEpd_rails (code : Code) (q0 : Nat) : (endEpd r code q0 s).epd.rails = s.epd.rails ∧
    (endEpd r code q0 s).epd.railsShown = s.epd.railsShown := by
  obtain ⟨hr, hs⟩ := composeNow_rails (epdAnswered r code q0 s)
  have h := ((epdAnswered_changes (r := r) (s := s) code q0).epd_eq rfl).trans epdReleased_epd
  rw [endEpd_eq, hr, hs, h]
  exact ⟨rfl, rfl⟩

theorem endEpd_answers {e : Exec} {code : Code} {u : State} (q0 : Nat) (hu : u.win = s.win)
    (he : s.win[r.byWindow].exec = some e) (hd : e.discard = false) (hcode : code ≠ .rejected) :
    (endEpd r code q0 u).win[r.byWindow].exec = none ∧ (endEpd r code q0 u).win[r.byWindow].done =
      s.win[r.byWindow].done ++ [{ tag := e.entry.cmd.tag, code := code, q0 := BitVec.ofNat 32 q0, q1 := 0 }] := by
  have hraise : (raise (if code = .ok then 162 else 163) (epdReleased u)).win = s.win :=
    ((raise_changes (G := [.evu, .pcie]) .refl rfl).win_eq rfl).trans hu
  obtain ⟨hx, -, hdone⟩ := finish_ends (code := code) (q0 := BitVec.ofNat 32 q0) (q1 := 0)
    (congrArg (·[r.byWindow]) hraise) he hd
  have hend : epdAnswered r code q0 u = finish r.byWindow code (BitVec.ofNat 32 q0) 0
      (raise (if code = .ok then 162 else 163) (epdReleased u)) := if_neg hcode
  rw [endEpd_eq, (composeNow_changes _).win_eq rfl, hend]
  exact ⟨hx, hdone⟩

theorem exec_railsDown_result {e : Exec} (hr : s.epd.run = some r) (hf : s.epd.rails = .falling)
    (he : s.win[r.byWindow].exec = some e) (hd : e.discard = false) (ho : r.outcome ≠ .rejected) :
    ∃ t, exec .railsDown s = .next t ∧ t.epd.rails = .down ∧ t.epd.railsShown = false ∧ t.epd.run = none ∧
      pdOn .epd t = false ∧ t.win[r.byWindow].exec = none ∧ t.win[r.byWindow].done = s.win[r.byWindow].done ++
        [{ tag := e.entry.cmd.tag, code := r.outcome, q0 := BitVec.ofNat 32 r.q0, q1 := 0 }] := by
  obtain ⟨u, hu⟩ : ∃ u, u = raise 165 { s with epd := { s.epd with rails := .down, railsShown := false } } := ⟨_, rfl⟩
  have hch : Changes [.evu, .pcie] { s with epd := { s.epd with rails := .down, railsShown := false } } u :=
    hu ▸ raise_changes .refl rfl
  have hepd := hch.epd_eq rfl
  obtain ⟨hrails, hshown⟩ := endEpd_rails (r := r) (s := u) r.outcome r.q0
  obtain ⟨hx, hdone⟩ := endEpd_answers r.q0 (hch.win_eq rfl) he hd ho
  refine ⟨endEpd r r.outcome r.q0 u, ?_, ?_, ?_, endEpd_run _ _, endEpd_off _ _, hx, hdone⟩
  · show execRailsDown s = _
    unfold execRailsDown
    rw [if_neg (not_not.mpr hf)]
    dsimp only
    rw [← hu, hepd]
    dsimp only
    rw [hr]
  · rw [hrails, hepd]
  · rw [hshown, hepd]

end

/-- Settles O42: the sample, the rails, the phases and rows and the end, one after the other. -/
theorem bistableDriveRunsItsSteps : Obligations.BistableDriveRunsItsSteps := by
  refine fun s r c hr hc => ⟨exec_sample_result hr hc, fun k hk => ⟨fun j => exec_railGood_next hr hc hk, fun h4 =>
      ?_,
    exec_railTimeout_result hr hk⟩, fun k => exec_railFault_result k hr hc, fun hstep hp =>
        ⟨exec_phaseStart hr hc hstep hp,
    fun h0 hrow hb => ⟨exec_rowPeriod_next hr hc hstep hp h0 hrow hb, exec_rowPeriod_last hr hc hstep hp h0 hrow hb⟩⟩,
    fun e hf he hd ho => exec_railsDown_result hr hf he hd ho⟩
  subst h4
  exact exec_railGood_last_result hr hc hk

end Sys2Proof.Machine
end

section
/-! PANEL_POWER and the steps of its sequences (chapter 16). -/
namespace Sys2Proof.Machine

theorem modPanel_get (s : State) (h : ContHead) (f : Panel → Panel) : (s.modPanel h f).panel[h] = f s.panel[h] :=
  State.modPanel_same s h f

/-- The panel with a run at its next step. -/
def withRun (r : PanelRun) (p : Panel) : Panel := { p with run := some r }

section
variable {s : State} {h : ContHead} {r : PanelRun} {x : SeqStep} {rest : List SeqStep} {tb : PanelTable} {k : Nat}

/-! ## Steps -/

theorem nextStep_assert (hs : r.steps = x :: rest) (ht : s.panel[h].table = some tb) (ho : x.op = .assert) :
    nextStep h (k + 1) r s = (driveTarget h tb x.target true s).modPanel h (withRun { r with
      steps := rest, stepNo := r.stepNo + 1, wait := .delay, asserted := x.target :: r.asserted }) := by
  unfold nextStep
  rw [hs, ht]
  dsimp only
  rw [ho]
  rfl

theorem nextStep_waitPin (hs : r.steps = x :: rest) (ht : s.panel[h].table = some tb) (ho : x.op = .waitPin) :
    nextStep h (k + 1) r s = s.modPanel h (withRun { r with steps := rest, stepNo := r.stepNo + 1, wait := .pin }) :=
        by
  unfold nextStep
  rw [hs, ht]
  dsimp only
  rw [ho]
  rfl

theorem nextStep_end (hs : r.steps = []) : nextStep h (k + 1) r s = endSequence h r s := by
  unfold nextStep
  rw [hs]

/-- A target driven at its active level. -/
theorem driveTarget_drives (h : ContHead) (tb : PanelTable) (target : Nat) (s : State) :
    (target = 0 → (driveTarget h tb target true s).panel[h].vddEn = drive tb.polVdd true) ∧
    (target = 1 → (driveTarget h tb target true s).panel[h].blEn = drive tb.polBl true) ∧
    ∀ p : PinId, target = 16 + p.1 → (driveTarget h tb target true s).pins.gpio[p] = .high := by
  refine ⟨fun h0 => ?_, fun h1 => ?_, fun p hp => ?_⟩
  · subst h0
    unfold driveTarget
    rw [if_pos rfl, modPanel_get]
  · subst h1
    unfold driveTarget
    rw [if_neg Nat.one_ne_zero, if_pos rfl, modPanel_get]
  · have hlt := p.2
    unfold driveTarget
    rw [if_neg (by omega), if_neg (by omega), dif_pos (by omega)]
    have hi : target - 16 = p.1 := by omega
    simp only [hi]
    exact Vector.getElem_set_self p.2

theorem exec_step (hr : s.panel[h].run = some r) (hw : r.wait = .delay) :
    exec (.panelSequenceStep h) s = .next (nextStep h 40 r s) := by
  show execPanelSequenceStep h s = _
  unfold execPanelSequenceStep
  rw [hr]
  exact congrArg Host.Outcome.next (if_pos hw)

theorem exec_step_asserts (hr : s.panel[h].run = some r) (ht : s.panel[h].table = some tb) (hw : r.wait = .delay)
    (hs : r.steps = x :: rest) (ho : x.op = .assert) : ∃ t, exec (.panelSequenceStep h) s = .next t ∧
      t.panel[h].run = some { r with
        steps := rest, stepNo := r.stepNo + 1, wait := .delay, asserted := x.target :: r.asserted } ∧
      (x.target = 0 → t.panel[h].vddEn = drive tb.polVdd true) ∧
      (x.target = 1 → t.panel[h].blEn = drive tb.polBl true) ∧
      ∀ p : PinId, x.target = 16 + p.1 → t.pins.gpio[p] = .high := by
  obtain ⟨hvdd, hbl, hpin⟩ := driveTarget_drives h tb x.target s
  have hx := exec_step hr hw
  rw [nextStep_assert hs ht ho] at hx
  refine ⟨_, hx, ?_, fun h0 => ?_, fun h1 => ?_, hpin⟩
  · rw [modPanel_get]
    rfl
  · rw [modPanel_get]
    exact hvdd h0
  · rw [modPanel_get]
    exact hbl h1

theorem exec_step_waits (hr : s.panel[h].run = some r) (ht : s.panel[h].table = some tb) (hw : r.wait = .delay)
    (hs : r.steps = x :: rest) (ho : x.op = .waitPin) : ∃ t, exec (.panelSequenceStep h) s = .next t ∧
      t.panel[h].run = some { r with steps := rest, stepNo := r.stepNo + 1, wait := .pin } := by
  have hx := exec_step hr hw
  rw [nextStep_waitPin hs ht ho] at hx
  refine ⟨_, hx, ?_⟩
  rw [modPanel_get]
  rfl

/-! ## Ends -/

theorem finish_panel (w : WinId) (code : Code) (q0 q1 : Word) (s : State) :
    (finish w code q0 q1 s).panel = s.panel :=
  (finish_changes (G := [.win, .port, .evu, .pcie]) .refl rfl).panel_eq rfl

theorem exec_step_ends {w : WinId} {e : Exec} (hr : s.panel[h].run = some r) (hb : r.byWindow = some w)
    (he : s.win[w].exec = some e) (hd : e.discard = false) (hw : r.wait = .delay) (hs : r.steps = []) :
    ∃ t, exec (.panelSequenceStep h) s = .next t ∧ t.panel[h].run = none ∧ t.panel[h].st = r.final ∧
      t.win[w].exec = none ∧ t.win[w].done = s.win[w].done ++
        [{ tag := e.entry.cmd.tag, code := .ok, q0 := 0, q1 := 0 }] := by
  have hx := exec_step hr hw
  obtain ⟨u, hu, hp, heq⟩ : ∃ u : State, u.win = s.win ∧ (u.panel[h].run = none ∧ u.panel[h].st = r.final) ∧
      nextStep h 40 r s = finish w .ok 0 0 u := by
    rw [nextStep_end hs]
    unfold endSequence
    rw [hb]
    refine ⟨_, ?_, ?_, rfl⟩
    · rfl
    · simp only [bumpDevice]
      rw [modPanel_get]
      exact ⟨rfl, rfl⟩
  rw [heq] at hx
  obtain ⟨hx1, -, hdone⟩ := finish_ends (code := .ok) (q0 := 0) (q1 := 0) (congrArg (·[w]) hu) he hd
  refine ⟨_, hx, ?_, ?_, hx1, hdone⟩
  · rw [finish_panel]
    exact hp.1
  · rw [finish_panel]
    exact hp.2

/-- The pins of a failed sequence go back. -/
def reversed (h : ContHead) (r : PanelRun) (t : PanelTable) (s : State) : State :=
  let pins := r.asserted ++ (if !r.powerOff && r.byWindow.isNone && !r.auto then s.panel[h].firstAsserted else [])
  let s := forEach pins (fun p s => driveTarget h t p false s) s
  logFault 0x20 h.1 (BitVec.ofNat 32 (r.stepNo + if r.powerOff then 256 else 0))
    (if r.pwmStarted then pwmStop h t.polPwm s else s)

theorem reversed_changes (h : ContHead) (r : PanelRun) (t : PanelTable) (s : State) :
    Changes [.panel, .pins, .timer, .faults, .evu, .pcie] s (reversed h r t s) := by
  have hpins : Changes [.panel, .pins, .timer, .faults, .evu, .pcie] s (forEach
      (r.asserted ++ (if !r.powerOff && r.byWindow.isNone && !r.auto then s.panel[h].firstAsserted else []))
      (fun p s => driveTarget h t p false s) s) := .forEach .refl fun _ _ k => driveTarget_changes k rfl
  exact logFault_changes (.ite (pwmStop_changes hpins rfl) hpins) rfl

theorem failSequence_window {w : WinId} (ht : s.panel[h].table = some tb) (hb : r.byWindow = some w) :
    failSequence h r s = finish0 w .timeout ((reversed h r tb s).modPanel h fun p => { p with
      run := none, armed := none, firstAsserted := [], st := if r.powerOff then .discharged else .off }) := by
  unfold failSequence reversed
  rw [ht]
  dsimp only
  rw [hb]

theorem exec_waitPinTimeout_result {w : WinId} {e : Exec} (hr : s.panel[h].run = some r)
    (ht : s.panel[h].table = some tb) (hb : r.byWindow = some w) (he : s.win[w].exec = some e)
    (hd : e.discard = false) (hw : r.wait = .pin) : ∃ t, exec (.waitPinTimeout h) s = .next t ∧
      t.panel[h].run = none ∧ t.panel[h].st = (if r.powerOff then .discharged else .off) ∧ t.win[w].exec = none ∧
      t.win[w].done = s.win[w].done ++ [{ tag := e.entry.cmd.tag, code := .timeout, q0 := 0, q1 := 0 }] := by
  have hx : exec (.waitPinTimeout h) s = .next (failSequence h r s) := by
    show execWaitPinTimeout h s = _
    unfold execWaitPinTimeout
    rw [hr]
    exact congrArg Host.Outcome.next (if_pos hw)
  rw [failSequence_window ht hb] at hx
  obtain ⟨hx1, -, hdone⟩ := finish_ends (code := .timeout) (q0 := 0) (q1 := 0)
    (u := (reversed h r tb s).modPanel h fun p => { p with
      run := none, armed := none, firstAsserted := [], st := if r.powerOff then .discharged else .off })
    (congrArg (·[w]) ((reversed_changes h r tb s).win_eq rfl)) he hd
  refine ⟨_, hx, ?_, ?_, hx1, hdone⟩
  · rw [finish0, finish_panel, modPanel_get]
  · rw [finish0, finish_panel, modPanel_get]

theorem exec_waitPinLevel_result (hr : s.panel[h].run = some r) (hw : r.wait = .pin) :
    ∃ t, exec (.waitPinLevel h) s = .next t ∧ t.panel[h].run = some { r with wait := .delay } ∧
      t.panel[h].st = s.panel[h].st ∧ t.win = s.win := by
  refine ⟨s.modPanel h (withRun { r with wait := .delay }), ?_, ?_, ?_, rfl⟩
  · show execWaitPinLevel h s = _
    unfold execWaitPinLevel
    rw [hr]
    exact congrArg Host.Outcome.next (if_pos hw)
  · rw [modPanel_get]
    rfl
  · rw [modPanel_get]
    rfl

end

/-! ## The command -/

section
variable {s : State} {w : WinId} {a : Cmd} {h : ContHead} {tb : PanelTable}

theorem exec_panelPower_acts (hr : ready s w 0 = true) (hn : unclaimed s [.power] = true)
    (hk : checkPanelPower w 0 a (takenWith s w 0x23 a 0 [.power]) = none) : ∃ q, exec (.panelPower w a) s =
      .next (actPanelPower w 0 a (withQueue q (takenWith s w 0x23 a 0 [.power]))) := by
  obtain ⟨q, hq⟩ := run_fetches (o := opPanelPower) hr hk rfl hn hk
  exact ⟨q, congrArg Host.Outcome.next hq⟩

theorem panelTable_congr {t : State} (hm : t.mem = s.mem) (hc : t.ctx = s.ctx) (hp : t.panel = s.panel)
    (h : ContHead) (a : Cmd) : panelTable t h a = panelTable s h a := by
  unfold panelTable tableLen
  rw [hp, readPart_congr hm hc, readPart_congr hm hc]

theorem actPanelPower_stays {t : State} (ha : argCont a.a0 = some h) (ht : panelTable t h a = some tb)
    (hst : a.a0.getLsbD 16 = true ∧ (t.panel[h].st = .powered ∨ t.panel[h].st = .on) ∨
      a.a0.getLsbD 16 = false ∧ t.panel[h].st = .off) : actPanelPower w 0 a t = finish0 w .ok t := by
  unfold actPanelPower
  rw [ha]
  dsimp only
  rw [ht]
  dsimp only
  rcases hst with ⟨hon, hst | hst⟩ | ⟨hoff, hst⟩
  · rw [if_pos hon, hst]
  · rw [if_pos hon, hst]
  · rw [if_neg (by rw [hoff]; exact Bool.false_ne_true), hst]

/-- The first phase of a power-on. -/
def firstPhase (w : WinId) (tb : PanelTable) : PanelRun :=
  { PanelRun.fresh false (phase1 tb.on) 0 .powered (some w) with arm := true }

theorem actPanelPower_starts {t : State} (ha : argCont a.a0 = some h) (ht : panelTable t h a = some tb)
    (hon : a.a0.getLsbD 16 = true) (hst : t.panel[h].st = .off) (hs : started t h = false) :
    actPanelPower w 0 a t = startSequence h tb (firstPhase w tb) (setPhase w (.panel h) (powerHead h t)) := by
  unfold actPanelPower
  rw [ha]
  dsimp only
  rw [ht]
  dsimp only
  rw [if_pos hon, hst]
  dsimp only
  rw [if_neg (by rw [hs]; exact Bool.false_ne_true)]
  rfl

theorem startSequence_asserts {r : PanelRun} {x : SeqStep} {rest : List SeqStep} (hs : r.steps = x :: rest)
    (ho : x.op = .assert) : startSequence h tb r s =
      (driveTarget h tb x.target true (s.modPanel h fun p => { p with table := some tb })).modPanel h
          (withRun { r with
        steps := rest, stepNo := r.stepNo + 1, wait := .delay, asserted := x.target :: r.asserted }) := by
  refine nextStep_assert (k := 39) hs ?_ ho
  rw [modPanel_get]

theorem powerHead_on (h : ContHead) (s : State) : pdOn (headPd h) (powerHead h s) = true := by
  unfold powerHead headPd
  split
  · simp [pdOn, setPd, Pd.bit]
  · simp [pdOn, setPd, Pd.bit]

/-- A power-on drives VDD_EN first. -/
theorem powerOn_result {t : State} {x : SeqStep} {rest : List SeqStep}
    (hw : t.win[w] = (taken s w 0x23 a 0).win[w]) (htb : tb.on = x :: rest) (ho : x.op = .assert) (hx : x.target = 0)
        :
    ∃ u r, startSequence h tb (firstPhase w tb) (setPhase w (.panel h) (powerHead h t)) = u ∧
      underway u w 0x23 a.tag (.panel h) ∧ pdOn (headPd h) u = true ∧ u.panel[h].table = some tb ∧
      u.panel[h].run = some r ∧ r.byWindow = some w ∧ r.wait = .delay ∧ u.panel[h].vddEn = drive tb.polVdd true ∧
      u.mem = t.mem := by
  have hphase : (firstPhase w tb).steps = x :: rest.takeWhile fun x => x.op ≠ .frames := by
    show phase1 tb.on = _
    rw [htb, phase1, List.takeWhile_cons, ho]
    rfl
  have heq := startSequence_asserts (h := h) (tb := tb) (s := setPhase w (.panel h) (powerHead h t)) hphase ho
  have hch : Changes [.panel, .pins] (setPhase w (.panel h) (powerHead h t))
      (startSequence h tb (firstPhase w tb) (setPhase w (.panel h) (powerHead h t))) := by
    rw [heq]
    exact modPanel_changes (driveTarget_changes (modPanel_changes .refl rfl) rfl) rfl
  have hway : underway (setPhase w (.panel h) (powerHead h t)) w 0x23 a.tag (.panel h) := underway_setPhase _ hw
  refine ⟨_, { firstPhase w tb with
    steps := rest.takeWhile fun x => x.op ≠ .frames, stepNo := 1, asserted := [x.target] }, rfl,
    underway_congr (hch.win_eq rfl) hway, (pdOn_congr (hch.power_eq rfl)).trans (powerHead_on h t), ?_, ?_, rfl, rfl,
    ?_, hch.mem_eq rfl⟩
  · rw [heq, modPanel_get]
    show (driveTarget h tb x.target true _).panel[h].table = _
    rw [hx]
    unfold driveTarget
    rw [if_pos rfl, modPanel_get, modPanel_get]
  · rw [heq, modPanel_get]
    rfl
  · rw [heq, modPanel_get]
    exact (driveTarget_drives h tb x.target _).1 hx

theorem exec_panelPower_stays (hr : ready s w 0 = true) (ha : argCont a.a0 = some h)
    (hn : unclaimed s [.power] = true)
    (hk : checkPanelPower w 0 a (takenWith s w 0x23 a 0 [.power]) = none) (ht : panelTable s h a = some tb)
    (hst : a.a0.getLsbD 16 = true ∧ (s.panel[h].st = .powered ∨ s.panel[h].st = .on) ∨
      a.a0.getLsbD 16 = false ∧ s.panel[h].st = .off) :
    ∃ t, exec (.panelPower w a) s = .next t ∧ answered s t w a.tag .ok 0 0 ∧ t.panel = s.panel := by
  obtain ⟨q, hq⟩ := exec_panelPower_acts hr hn hk
  have ht' := (panelTable_congr (s := s) (t := withQueue q (takenWith s w 0x23 a 0 [.power])) rfl rfl rfl h a).trans
      ht
  rw [actPanelPower_stays ha ht' hst] at hq
  exact ⟨_, hq, answered_finish s _ w 0x23 a 0 .ok 0 0 hr rfl, finish_panel _ _ _ _ _⟩

theorem exec_panelPower_starts (hr : ready s w 0 = true) (ha : argCont a.a0 = some h)
    (hn : unclaimed s [.power] = true) (hk : checkPanelPower w 0 a (takenWith s w 0x23 a 0 [.power]) = none)
    (ht : panelTable s h a = some tb) (hon : a.a0.getLsbD 16 = true) (hst : s.panel[h].st = .off)
    (hs : started s h = false) (htb : ∃ x rest, tb.on = x :: rest ∧ x.op = .assert ∧ x.target = 0) :
    ∃ t r, exec (.panelPower w a) s = .next t ∧ underway t w 0x23 a.tag (.panel h) ∧ pdOn (headPd h) t = true ∧
      t.panel[h].table = some tb ∧ t.panel[h].run = some r ∧ r.byWindow = some w ∧ r.wait = .delay ∧
      t.panel[h].vddEn = drive tb.polVdd true ∧ t.mem = s.mem := by
  obtain ⟨q, hq⟩ := exec_panelPower_acts hr hn hk
  obtain ⟨x, rest, hl, ho, hx⟩ := htb
  have ht' := (panelTable_congr (s := s) (t := withQueue q (takenWith s w 0x23 a 0 [.power])) rfl rfl rfl h a).trans
      ht
  rw [actPanelPower_starts ha ht' hon hst hs] at hq
  obtain ⟨u, r, hu, hres⟩ := powerOn_result (s := s) (a := a) (h := h)
    (t := withQueue q (takenWith s w 0x23 a 0 [.power])) rfl hl ho hx
  exact ⟨u, r, hu ▸ hq, hres⟩

end

/-- Settles O39: the command by the panel's state, then each kind of step and the two ends of a sequence. -/
theorem panelPowerRunsItsSequences : Obligations.PanelPowerRunsItsSequences :=
  ⟨fun _ _ _ _ _ hr ha hn hk ht => ⟨exec_panelPower_stays hr ha hn hk ht,
      fun hon hst hs htb => exec_panelPower_starts hr ha hn hk ht hon hst hs htb⟩,
    fun _ _ _ _ hr ht => ⟨fun _ _ hw hs => ⟨exec_step_asserts hr ht hw hs, exec_step_waits hr ht hw hs⟩,
      fun _ _ hb he hd => ⟨exec_step_ends hr hb he hd, exec_waitPinTimeout_result hr ht hb he hd⟩,
      exec_waitPinLevel_result hr⟩⟩

end Sys2Proof.Machine
end

section
/-! HEAD_CONFIG of a head that is starting (15.2, 15.6). -/
namespace Sys2Proof.Machine

/-- A synthesizer's configuration. -/
def clockA : SynCfg := ⟨160000000, 1, 4, true, false, 0⟩

/-- The block after BOOT_DONE with nothing configured, and every source with the attributes of source 200. -/
def bootedUp : State :=
  { State.reset with
    boot := { State.reset.boot with phase := .done, doneFlag := true }
    evu := { State.reset.evu with src := Vector.replicate 288 (Source.reset 200) } }

/-- Memory is trained, CTX_0 has a granule, and head A has a clock. -/
def clockedUp : State :=
  { bootedUp with
    memc := { bootedUp.memc with ready := true, sizeCode := 1, deliverable := 20000 }
    ctx := bootedUp.ctx.set 0 { Ctx.supervisor with partBase := 2, partSize := 1 }
    syn := bootedUp.syn.set 0 { bootedUp.syn[(0 : SynId)] with cfg := some clockA } }

/-- At the start of the granule stands the configuration block of a 64 × 64 picture. -/
def blockUp : State :=
  { clockedUp with
    mem := [(131072, 1), (131076, 64), (131078, 64), (131080, 96), (131082, 66), (131084, 70), (131086, 80),
      (131088, 64), (131090, 65), (131092, 4), (131093, 16)] }

/-- The configuration that the block gives, with another background. -/
def greyer (l : Link) : HeadCfg :=
  let c := readHead blockUp (readPart blockUp 0 0 64) l none
  { c with live := { c.live with background := ⟨9, 9, 9⟩ } }

/-- Head A is starting with that configuration. -/
def headStarts : State := blockUp.modHead 0 fun x => { x with
  run := .starting .synth, cfg := (parseLink (readPart blockUp 0 0 64)).map greyer }

/-- A HEAD_CONFIG of head A with the block at the start of the partition. -/
def configA : Cmd := ⟨1, 0, 0, 0, 0⟩

/-- The block that the command names. -/
def startsBlock : List Byte := readPart headStarts 0 (woff configA.a1) 64

theorem headStarts_passes : ready headStarts 0 0 = true ∧ argCont configA.a0 = some 0 ∧
    unclaimed headStarts [.gate (headId 0)] = true ∧
    checkHeadConfig 0 0 configA (takenWith headStarts 0 0x20 configA 0 [.gate (headId 0)]) = none := by
  decide +kernel

/-- The head is not started, and yet a boundary is ahead of it. -/
theorem headStarts_ahead : started headStarts 0 = false ∧ boundaryOf headStarts 0 = some 1 := by decide +kernel

theorem headStarts_background :
    headStarts.head[(0 : ContHead)].cfg.map (fun c => c.live.background) = some ⟨9, 9, 9⟩ := by decide +kernel

theorem startsBlock_background :
    (parseLink startsBlock).map (fun l => (readHead headStarts startsBlock l none).live.background) =
      some ⟨0, 0, 0⟩ := by decide +kernel

/-- Refutes O35: a head that is starting is not `started`, and yet its live fields wait for the boundary ahead of it:
the configuration in force stays, which is not the block's. -/
theorem not_headsAreConfigured : ¬ Obligations.HeadsAreConfigured := by
  intro h
  obtain ⟨hready, harg, hfree, hpass⟩ := headStarts_passes
  obtain ⟨hstarted, hahead⟩ := headStarts_ahead
  obtain ⟨t, link, -, -, hlink, -, hstopped, hlive, -⟩ := (h headStarts 0 configA hready).1 0 harg hfree hpass
  obtain ⟨c, hc, hback⟩ := Option.map_eq_some_iff.mp headStarts_background
  have hold := (hlive 1 c hc hahead).1
  have hnew := hstopped hstarted
  have hblock := startsBlock_background
  have hlink' : parseLink startsBlock = some link := hlink
  rw [hlink', Option.map_some] at hblock
  have heq : c = readHead headStarts startsBlock link none := Option.some.inj (hold.symm.trans hnew)
  rw [← heq, hback] at hblock
  exact absurd hblock (by decide)

end Sys2Proof.Machine
end

section
/-! PROTECT_LOAD, PROTECT_LOCK and PROTECT_RELEASE (14.3, 14.4, 14.8). -/
namespace Sys2Proof.Machine

/-! ## Content blocks -/

/-- The image of a content block is no shorter than its header. -/
theorem parseImage_length {b : List Byte} {i : Image} (h : parseImage b = some i) : 16 ≤ b.length := by
  unfold parseImage at h
  split at h
  · cases h
  · rename_i f hf
    have hok := ((guardSome_eq_some_iff _ _ _).mp h).1
    rw [Bool.and_eq_true] at hok
    have hlen := of_decide_eq_true hok.2
    omega

theorem readMem_length (m : List Host.Cell) (a n : Nat) : (readMem m a n).length = n := by
  simp [readMem]

/-- A range without errors has none in its beginning. -/
theorem badRange_prefix {s : State} {a n k : Nat} (h : badRange s a n = false) (hk : k ≤ n) :
    badRange s a k = false := by
  unfold badRange at h ⊢
  rw [List.any_eq_false] at h ⊢
  intro w hw
  have := h w hw
  simp only [decide_eq_true_eq, not_and, Nat.not_lt] at this ⊢
  omega

/-! ## The caller -/

section
variable {s : State} {w : WinId} {c : CtxId} {a : Cmd} {h : ContHead}

theorem argCont_put (h : ContHead) : argCont (put h.1 8 2) = some h := by
  match h with
  | 0 => decide
  | 1 => decide

theorem namedHead_put (h0 : a.a0 = put h.1 8 2) : namedHead a = h := by
  unfold namedHead
  rw [h0, argCont_put]
  rfl

theorem isGuardian_put (h0 : a.a0 = put h.1 8 2) (hc : c ≠ 0) (hg : guards s c h = true) : isGuardian s c a = true :=
    by
  unfold isGuardian
  rw [h0, argCont_put, Option.any_some, hg, decide_eq_true hc]
  rfl

theorem onlyBits_head (h : ContHead) : onlyBits (put h.1 8 2) 0x300 = true := onlyBits_put _ (by decide)

theorem onlyBits_headSafe (h : ContHead) : onlyBits (put h.1 8 2) 0x10300 = true := onlyBits_put _ (by decide)

/-! ## PROTECT_LOAD -/

theorem checkProtectLoad_passes (h0 : a.a0 = put h.1 8 2) (hc : c ≠ 0) (hg : guards s c h = true)
    (h2 : a.a2.toNat < 0x400000) (h3 : a.a3 = 0) (hp : inPart s c (woff a.a1) a.a2.toNat = true)
    (hm : cmdMem s w = true) : checkProtectLoad w c a s = none := by
  have hbits : argBits a 0x300 wholeWord 0x3FFFFF 0 = true := by
    have hlen : onlyBits a.a2 0x3FFFFF = true := by
      have heq : a.a2 = put a.a2.toNat 0 22 := by
        rw [← ofNat_eq_put (k := 22) h2, BitVec.ofNat_toNat, BitVec.setWidth_eq]
      rw [heq]
      exact onlyBits_put _ (by decide)
    rw [argBits, h0, h3, hlen, onlyBits_head, onlyBits_wholeWord, onlyBits_zero]
    rfl
  rw [checkProtectLoad, isGuardian_put h0 hc hg, hbits, hp, hm]
  rfl

theorem actProtectLoad_loads {i : Image} (h0 : a.a0 = put h.1 8 2)
    (hi : parseImage (readPart s c (woff a.a1) a.a2.toNat) = some i)
    (hb : badPart s c (woff a.a1) a.a2.toNat = false) (hu : heldUse s.prot[h] + i.use ≤ allotBytes s.prot[h]) :
    actProtectLoad w c a s =
      finish w .ok (BitVec.ofNat 32 i.use) 0 (s.modProt h fun p => { p with shadow := some i }) := by
  have hlen : 16 ≤ a.a2.toNat := by
    have := parseImage_length hi
    rwa [readPart, State.read, readMem_length] at this
  have hhead : badPart s c (woff a.a1) 16 = false := badRange_prefix hb hlen
  have hname := namedHead_put h0
  subst hname
  unfold actProtectLoad
  dsimp only
  rw [hhead, if_neg Bool.false_ne_true, hi]
  dsimp only
  rw [if_neg (Nat.not_lt.mpr hu), hb, if_neg Bool.false_ne_true]

theorem exec_protectLoad_result {i : Image} (hr : ready s w c = true) (hc : c ≠ 0) (hg : guards s c h = true)
    (ht : s.power.trans = none) (hm : memAvail s = true) (h0 : a.a0 = put h.1 8 2) (h2 : a.a2.toNat < 0x400000)
    (h3 : a.a3 = 0) (hp : inPart s c (woff a.a1) a.a2.toNat = true)
    (hi : parseImage (readPart s c (woff a.a1) a.a2.toNat) = some i)
    (hb : badPart s c (woff a.a1) a.a2.toNat = false) (hu : heldUse s.prot[h] + i.use ≤ allotBytes s.prot[h]) :
    ∃ t, exec (.protectLoad w a) s = .next t ∧ answered s t w a.tag .ok (BitVec.ofNat 32 i.use) 0 ∧
      t.prot[h].shadow = some i ∧ t.prot[h].live = s.prot[h].live ∧ t.mem = s.mem ∧
      ∀ k : ContHead, k ≠ h → t.prot[k] = s.prot[k] := by
  have hpass : checkProtectLoad w c a (taken s w 0x18 a c) = none :=
    checkProtectLoad_passes h0 hc hg h2 h3 hp (cmdMem_of_idle (s := taken s w 0x18 a c) ht hm)
  obtain ⟨q, hq⟩ := run_fetches (o := opProtectLoad) (rs := []) hr hpass rfl rfl (by
    rw [takenWith_nil]
    exact hpass)
  have hx : exec (.protectLoad w a) s = .next (actProtectLoad w c a (withQueue q (takenWith s w 0x18 a c []))) :=
    congrArg Host.Outcome.next hq
  have hread := readPart_congr (s := s) (t := withQueue q (takenWith s w 0x18 a c [])) rfl rfl c (woff a.a1)
    a.a2.toNat
  have hgood := badPart_congr (s := s) (t := withQueue q (takenWith s w 0x18 a c [])) rfl rfl c (woff a.a1)
    a.a2.toNat
  have hload := actProtectLoad_loads (s := withQueue q (takenWith s w 0x18 a c [])) (w := w) (i := i) h0 (hread ▸ hi)
    (hgood ▸ hb) hu
  rw [hload] at hx
  have hfin := finish_changes (G := [.win, .port, .evu, .pcie]) (w := w) (code := .ok)
    (q0 := BitVec.ofNat 32 i.use) (q1 := 0) (.refl (s := (withQueue q (takenWith s w 0x18 a c [])).modProt h
      fun p => { p with shadow := some i })) rfl
  refine ⟨_, hx, answered_finish s _ w 0x18 a c .ok _ 0 hr rfl, ?_, ?_, hfin.mem_eq rfl, fun k hk => ?_⟩
  · rw [hfin.prot_eq rfl, modProt_get]
  · rw [hfin.prot_eq rfl, modProt_get]
    rfl
  · rw [hfin.prot_eq rfl, modProt_get_other hk]
    rfl

/-! ## PROTECT_LOCK -/

theorem put_head_unsafe (h : ContHead) : (put h.1 8 2).getLsbD 16 = false := by
  match h with
  | 0 => decide
  | 1 => decide

/-- The request of a lock at a position. -/
def lockAt (i : Image) (x y : Nat) : LockReq :=
  { image := i, x := x, y := y, safe := false, floor := 0, expected := none, loaded := true }

theorem fld_position {x y : Nat} (hx : x < 65536) (hy : y < 65536) :
    fld (put x 0 16 ||| put y 16 16) 0 16 = x ∧ fld (put x 0 16 ||| put y 16 16) 16 16 = y := by
  refine ⟨?_, ?_⟩
  · rw [fld_or, fld_put_same _ (by omega), fld_put_beside _ (by omega), Nat.or_zero]
    exact Nat.mod_eq_of_lt hx
  · rw [fld_or, fld_put_beside _ (by omega), fld_put_same _ (by omega), Nat.zero_or]
    exact Nat.mod_eq_of_lt hy

theorem checkProtectLock_passes {i : Image} {cfg : HeadCfg} {x y : Nat} (h0 : a.a0 = put h.1 8 2) (hc : c ≠ 0)
    (hg : guards s c h = true) (hcfg : s.head[h].cfg = some cfg) (hi : s.prot[h].shadow = some i)
    (hw : x + i.w ≤ cfg.hactive) (hh : y + i.h ≤ cfg.vactive) (hx : x < 65536) (hy : y < 65536)
    (h1 : a.a1 = put x 0 16 ||| put y 16 16) (h2 : a.a2 = 0) (h3 : a.a3 = 0) (hp : s.panel[h].run = none)
    (ht : s.power.trans = none) : checkProtectLock w c a s = none := by
  obtain ⟨hfx, hfy⟩ := fld_position hx hy
  have hin : decide (cfg.hactive < x + i.w ∨ cfg.vactive < y + i.h) = false := by
    rw [decide_eq_false_iff_not]
    omega
  have hname := namedHead_put h0
  subst hname
  unfold checkProtectLock
  dsimp only
  rw [hcfg, hi, hp, h1, hfx, hfy, isGuardian_put h0 hc hg, h0, onlyBits_headSafe, h2, h3,
    onlyBits_zero]
  simp only [entering, ht, Option.any_some, Option.any_none, hin]
  rfl

theorem holdImage_held {i : Image} {x y : Nat} (h0 : a.a0 = put h.1 8 2) (hi : s.prot[h].shadow = some i)
    (hx : x < 65536) (hy : y < 65536) (h1 : a.a1 = put x 0 16 ||| put y 16 16) (h2 : a.a2 = 0) :
    holdImage w a s = setPhase w (.lockExpected h)
      (s.modProt h fun p => { p with lock := some (lockAt i x y), shadow := none }) := by
  obtain ⟨hfx, hfy⟩ := fld_position hx hy
  have hsafe := put_head_unsafe h
  have hname := namedHead_put h0
  subst hname
  unfold holdImage
  dsimp only
  rw [hi]
  dsimp only
  rw [h1, hfx, hfy, h0, hsafe, h2]
  rfl

theorem preemptScan_idle {u : CalId} (hu : s.cal[u].op = none) : preemptScan u s = s := by
  unfold preemptScan
  rw [hu]

/-- The state in which the lock has its gate. -/
def gateTaken (s : State) (w : WinId) (a : Cmd) (c : CtxId) (h : ContHead) : State :=
  takenWith s w 0x19 a c [.gate (headId h)]

theorem gateTaken_free (hr : ready s w c = true) (hn : unclaimed s [.gate (headId h), .cal 3] = true) :
    unclaimed (gateTaken s w a c h) [.cal 3] = true := by
  have hidle := ((ready_iff s w c).mp hr).2.2.2.1
  have hboth := taken_unclaimed s w 0x19 a c _ hidle hn
  simp only [unclaimed, List.all_cons, List.all_nil, Bool.and_true, Bool.and_eq_true] at hboth ⊢
  obtain ⟨-, ⟨hheld, hwant⟩, hauto⟩ := hboth
  refine ⟨⟨?_, hwant⟩, hauto⟩
  rw [Bool.not_eq_true'] at hheld ⊢
  unfold resHeld at hheld ⊢
  show ((taken s w 0x19 a c).port.held ++ [(Resource.gate (headId h), Holder.window w)]).any _ = _
  rw [List.any_append, hheld]
  rfl

/-- The state in which the lock has its gate and CAL_3. -/
def lockTaken (s : State) (w : WinId) (a : Cmd) (c : CtxId) (h : ContHead) : State :=
  let t := gateTaken s w a c h
  { t with port := { t.port with held := t.port.held ++ [(.cal 3, .window w)] } }

theorem actProtectLock_acquires (hr : ready s w c = true) (hn : unclaimed s [.gate (headId h), .cal 3] = true)
    (hu : s.cal[(3 : CalId)].op = none) :
    actProtectLock w c a (gateTaken s w a c h) = lockHeld w c a (lockTaken s w a c h) := by
  have hfree := gateTaken_free (a := a) hr hn
  have hnot : (Resource.cal 3, Holder.window w) ∉ (gateTaken s w a c h).port.held := by
    intro hmem
    simp only [unclaimed, List.all_cons, List.all_nil, Bool.and_true, Bool.and_eq_true] at hfree
    have hheld := hfree.1.1
    rw [Bool.not_eq_true', resHeld, List.any_eq_false] at hheld
    exact hheld _ hmem (by simp)
  have hidle : preemptScan 3 (gateTaken s w a c h) = gateTaken s w a c h := preemptScan_idle hu
  unfold actProtectLock
  rw [if_neg hnot, hidle, acquire_unclaimed _ _ _ _ hfree]
  rfl

theorem exec_protectLock_result {i : Image} {cfg : HeadCfg} {x y : Nat} (hr : ready s w c = true) (hc : c ≠ 0)
    (hg : guards s c h = true) (hcfg : s.head[h].cfg = some cfg) (hi : s.prot[h].shadow = some i)
    (hw : x + i.w ≤ cfg.hactive) (hh : y + i.h ≤ cfg.vactive) (hx : x < 65536) (hy : y < 65536)
    (h0 : a.a0 = put h.1 8 2) (h1 : a.a1 = put x 0 16 ||| put y 16 16) (h2 : a.a2 = 0) (h3 : a.a3 = 0)
    (hp : s.panel[h].run = none) (ht : s.power.trans = none)
    (hn : unclaimed s [.gate (headId h), .cal 3] = true) (hu : s.cal[(3 : CalId)].op = none) :
    ∃ t, exec (.protectLock w a) s = .next t ∧ underway t w 0x19 a.tag (.lockExpected h) ∧
      t.prot[h].live = s.prot[h].live ∧ t.prot[h].shadow = none ∧ t.prot[h].lock = some (lockAt i x y) ∧
      t.mem = s.mem := by
  have hpass {t : State} (e1 : t.head = s.head) (e2 : t.prot = s.prot) (e3 : t.panel = s.panel)
      (e4 : t.power = s.power) (e5 : t.ctx = s.ctx) : checkProtectLock w c a t = none := by
    refine checkProtectLock_passes (h := h) (i := i) (cfg := cfg) h0 hc ?_ ?_ ?_ hw hh hx hy h1 h2 h3 ?_ ?_
    · unfold guards
      rw [e5]
      exact hg
    · rw [e1]
      exact hcfg
    · rw [e2]
      exact hi
    · rw [e3]
      exact hp
    · rw [e4]
      exact ht
  have hgate : unclaimed s [.gate (headId h)] = true := by
    simp only [unclaimed, List.all_cons, List.all_nil, Bool.and_true, Bool.and_eq_true] at hn ⊢
    exact hn.1
  have hneeds : opProtectLock.needs c a (taken s w 0x19 a c) = [.gate (headId h)] := by
    show [Resource.gate (headId (namedHead a))] = _
    rw [namedHead_put h0]
  have hrun := run_passes (o := opProtectLock) hr (hpass rfl rfl rfl rfl rfl) hneeds hgate (hpass rfl rfl rfl rfl rfl)
      rfl
  have hact : opProtectLock.act w c a (takenWith s w 0x19 a c [.gate (headId h)]) =
      lockHeld w c a (lockTaken s w a c h) := actProtectLock_acquires hr hn hu
  have hheld : lockHeld w c a (lockTaken s w a c h) = setPhase w (.lockExpected h)
      ((lockTaken s w a c h).modProt h fun p => { p with lock := some (lockAt i x y), shadow := none }) := by
    unfold lockHeld
    rw [hpass (t := lockTaken s w a c h) rfl rfl rfl rfl rfl]
    exact holdImage_held (s := lockTaken s w a c h) h0 hi hx hy h1 h2
  have hph : Changes [.win, .port] ((lockTaken s w a c h).modProt h fun p =>
      { p with lock := some (lockAt i x y), shadow := none }) (setPhase w (.lockExpected h)
      ((lockTaken s w a c h).modProt h fun p => { p with lock := some (lockAt i x y), shadow := none })) :=
    setPhase_changes .refl rfl
  refine ⟨_, congrArg Host.Outcome.next ((hrun.trans hact).trans hheld), underway_setPhase _ rfl, ?_, ?_, ?_,
    hph.mem_eq rfl⟩
  · rw [hph.prot_eq rfl, modProt_get]
    rfl
  · rw [hph.prot_eq rfl, modProt_get]
  · rw [hph.prot_eq rfl, modProt_get]

/-! ## PROTECT_RELEASE -/

theorem finishGen_deviceGen (w : WinId) (q0 q1 : Word) (s : State) :
    (finishGen w q0 q1 s).port.deviceGen = s.port.deviceGen + 1 := by
  obtain ⟨-, -, -, -, -, -, hdev, -⟩ := finish_port (bumpDevice s) w .ok q0 q1
  exact hdev

theorem exec_protectRelease_acts (hr : ready s w c = true) (hc : c ≠ 0) (hg : guards s c h = true)
    (hl : s.prot[h].live.isSome = true) (h0 : a.a0 = put h.1 8 2) (h1 : a.a1 = 0) (h2 : a.a2 = 0) (h3 : a.a3 = 0)
    (hn : unclaimed s [.gate (headId h)] = true) : exec (.protectRelease w a) s =
      .next (actProtectRelease w c a (takenWith s w 0x1A a c [.gate (headId h)])) := by
  have hpass {t : State} (e2 : t.prot = s.prot) (e5 : t.ctx = s.ctx) : checkProtectRelease w c a t = none := by
    have hg' : guards t c h = true := by
      unfold guards
      rw [e5]
      exact hg
    have hl' : protLocked t h = true := by
      unfold protLocked
      rw [e2]
      exact hl
    rw [checkProtectRelease, isGuardian_put h0 hc hg', argBits_first (by rw [h0]; exact onlyBits_head h) h1 h2 h3,
      namedHead_put h0, hl']
    rfl
  have hneeds : opProtectRelease.needs c a (taken s w 0x1A a c) = [.gate (headId h)] := by
    show [Resource.gate (headId (namedHead a))] = _
    rw [namedHead_put h0]
  exact congrArg Host.Outcome.next (run_passes (o := opProtectRelease) hr (hpass rfl rfl) hneeds hn (hpass rfl rfl)
      rfl)

theorem actProtectRelease_now (h0 : a.a0 = put h.1 8 2) (hb : boundaryOf s h = none) :
    actProtectRelease w c a s = finishGen w 0 0 (takeRelease h s) := by
  have hname := namedHead_put h0
  subst hname
  unfold actProtectRelease
  dsimp only
  rw [hb]

theorem actProtectRelease_later {f : Nat} (h0 : a.a0 = put h.1 8 2) (hb : boundaryOf s h = some f) :
    actProtectRelease w c a s = setPhase w (.releaseBoundary h f) s := by
  have hname := namedHead_put h0
  subst hname
  unfold actProtectRelease
  dsimp only
  rw [hb]

theorem finishGen_prot (w : WinId) (q0 q1 : Word) (s : State) : (finishGen w q0 q1 s).prot = s.prot :=
  (finishGen_changes (G := [.win, .port, .evu, .pcie]) .refl rfl).prot_eq rfl

theorem exec_protectRelease_now (hr : ready s w c = true) (hc : c ≠ 0) (hg : guards s c h = true)
    (hl : s.prot[h].live.isSome = true) (h0 : a.a0 = put h.1 8 2) (h1 : a.a1 = 0) (h2 : a.a2 = 0) (h3 : a.a3 = 0)
    (hn : unclaimed s [.gate (headId h)] = true) (hb : boundaryOf s h = none) :
    ∃ t, exec (.protectRelease w a) s = .next t ∧ answered s t w a.tag .ok 0 0 ∧ t.prot[h].live = none ∧
      t.port.deviceGen = s.port.deviceGen + 1 := by
  have hx := exec_protectRelease_acts hr hc hg hl h0 h1 h2 h3 hn
  rw [actProtectRelease_now h0 (s := takenWith s w 0x1A a c [.gate (headId h)]) hb] at hx
  refine ⟨_, hx, answered_finishGen (op := 0x1A) hr rfl, ?_, finishGen_deviceGen _ _ _ _⟩
  rw [finishGen_prot, takeRelease, modProt_get]

theorem exec_protectRelease_later {f : Nat} (hr : ready s w c = true) (hc : c ≠ 0) (hg : guards s c h = true)
    (hl : s.prot[h].live.isSome = true) (h0 : a.a0 = put h.1 8 2) (h1 : a.a1 = 0) (h2 : a.a2 = 0) (h3 : a.a3 = 0)
    (hn : unclaimed s [.gate (headId h)] = true) (hb : boundaryOf s h = some f) :
    ∃ t, exec (.protectRelease w a) s = .next t ∧ underway t w 0x1A a.tag (.releaseBoundary h f) ∧
      t.prot = s.prot := by
  have hx := exec_protectRelease_acts hr hc hg hl h0 h1 h2 h3 hn
  rw [actProtectRelease_later h0 (s := takenWith s w 0x1A a c [.gate (headId h)]) hb] at hx
  exact ⟨_, hx, underway_setPhase _ rfl, rfl⟩

end

/-! ## The expected value -/

section
variable {s : State} {w : WinId} {h : ContHead} {e : Exec} {l : LockReq} {cfg : HeadCfg}

/-- The lock with its expected value. -/
def expected (h : ContHead) (l : LockReq) (cfg : HeadCfg) (s : State) : State := s.modProt h fun p =>
  { p with lock := some { l with expected := some (BitVec.ofNat 64 (expectedValue cfg.live l.image l.x l.y)) } }

theorem exec_expected_now (hw : windowIn s (fun p => p = .lockExpected h) = some w) (hl : s.prot[h].lock = some l)
    (hc : s.head[h].cfg = some cfg) (hb : boundaryOf s h = none) :
    exec (.expectedValueComplete h) s = .next (takeLock h (expected h l cfg s)) := by
  have hb' : boundaryOf (expected h l cfg s) h = none := hb
  show execExpectedValueComplete h s = _
  unfold execExpectedValueComplete
  rw [hw, hl, hc]
  dsimp only
  unfold expected at hb' ⊢
  rw [hb']

theorem exec_expected_later {f : Nat} (hw : windowIn s (fun p => p = .lockExpected h) = some w)
    (hl : s.prot[h].lock = some l) (hc : s.head[h].cfg = some cfg) (hb : boundaryOf s h = some f) :
    exec (.expectedValueComplete h) s = .next (setPhase w (.lockBoundary h f) (expected h l cfg s)) := by
  have hb' : boundaryOf (expected h l cfg s) h = some f := hb
  show execExpectedValueComplete h s = _
  unfold execExpectedValueComplete
  rw [hw, hl, hc]
  dsimp only
  unfold expected at hb' ⊢
  rw [hb']

/-- What a lock leaves of the layer. -/
def Prot.locked (p : Prot) (l : LockReq) (g : CtxId) : Prot := { p with
  live := some l.image, lock := none, x := l.x, y := l.y, safe := l.safe, floor := l.floor
  expected := l.expected.getD 0, guardian := some g, orphaned := false, safeShowing := false, safeNext := false
  badWords := if l.loaded then [] else p.badWords, acc := 0xFFFFFFFF, checked := false }

theorem takeLock_eq (hl : s.prot[h].lock = some l) (hw : windowIn s (lockPhase h) = some w)
    (he : s.win[w].exec = some e) : takeLock h s =
      finishGen w ((l.expected.getD 0).setWidth 32) 0 (s.modProt h fun p => p.locked l e.ctx) := by
  unfold takeLock
  rw [hl, hw]
  dsimp only
  rw [he]
  rfl

theorem exec_expected_now_result (hw : windowIn s (fun p => p = .lockExpected h) = some w)
    (hw' : windowIn s (lockPhase h) = some w) (he : s.win[w].exec = some e) (hd : e.discard = false)
    (hl : s.prot[h].lock = some l) (hc : s.head[h].cfg = some cfg) (hb : boundaryOf s h = none) :
    ∃ t, exec (.expectedValueComplete h) s = .next t ∧ t.prot[h].live = some l.image ∧ t.prot[h].x = l.x ∧
      t.prot[h].y = l.y ∧ t.prot[h].expected = BitVec.ofNat 64 (expectedValue cfg.live l.image l.x l.y) ∧
      t.prot[h].guardian = some e.ctx ∧ t.win[w].exec = none ∧
      ∃ q, t.win[w].done = s.win[w].done ++ [{ tag := e.entry.cmd.tag, code := .ok, q0 := q, q1 := 0 }] := by
  have hx := exec_expected_now hw hl hc hb
  have hlock : (expected h l cfg s).prot[h].lock =
      some { l with expected := some (BitVec.ofNat 64 (expectedValue cfg.live l.image l.x l.y)) } := by
    rw [expected, modProt_get]
  rw [takeLock_eq hlock hw' he] at hx
  obtain ⟨hex, -, hdone⟩ := finish_ends (w := w) (code := .ok)
    (q0 := (BitVec.ofNat 64 (expectedValue cfg.live l.image l.x l.y)).setWidth 32) (q1 := 0)
    (u := bumpDevice ((expected h l cfg s).modProt h fun p => p.locked
      { l with expected := some (BitVec.ofNat 64 (expectedValue cfg.live l.image l.x l.y)) } e.ctx)) rfl he hd
  refine ⟨_, hx, ?_, ?_, ?_, ?_, ?_, hex, _, hdone⟩
  · rw [finishGen_prot, modProt_get]
    rfl
  · rw [finishGen_prot, modProt_get]
    rfl
  · rw [finishGen_prot, modProt_get]
    rfl
  · rw [finishGen_prot, modProt_get]
    rfl
  · rw [finishGen_prot, modProt_get]
    rfl

theorem exec_expected_later_result {f : Nat} (hw : windowIn s (fun p => p = .lockExpected h) = some w)
    (he : s.win[w].exec = some e) (hd : e.discard = false) (hl : s.prot[h].lock = some l)
    (hc : s.head[h].cfg = some cfg) (hb : boundaryOf s h = some f) :
    ∃ t, exec (.expectedValueComplete h) s = .next t ∧ t.prot[h].live = s.prot[h].live ∧
      t.win[w].exec.map (fun x => x.phase) = some (.lockBoundary h f) := by
  obtain ⟨⟨e', he', -, -, hp, -⟩, -⟩ := setPhase_underway (s := expected h l cfg s) (w := w) (.lockBoundary h f) he hd
  refine ⟨_, exec_expected_later hw hl hc hb, ?_, ?_⟩
  · show (expected h l cfg s).prot[h].live = _
    rw [expected, modProt_get]
  · rw [he', Option.map_some, hp]

end

/-- Settles O32: the three commands of the guardian, and the expected value that lets a lock take effect. -/
theorem protectedContentIsLoadedLockedAndReleased : Obligations.ProtectedContentIsLoadedLockedAndReleased :=
  ⟨fun _ _ _ _ _ hr hc hg =>
    ⟨fun _ ht hm h0 h2 h3 hp hi hb _ hu => exec_protectLoad_result hr hc hg ht hm h0 h2 h3 hp hi hb hu,
      fun _ _ _ _ hcfg hi hw hh hx hy h0 h1 h2 h3 hp ht hn hu =>
        exec_protectLock_result hr hc hg hcfg hi hw hh hx hy h0 h1 h2 h3 hp ht hn hu,
      fun hl h0 h1 h2 h3 hn => ⟨exec_protectRelease_now hr hc hg hl h0 h1 h2 h3 hn,
        fun _ => exec_protectRelease_later hr hc hg hl h0 h1 h2 h3 hn⟩⟩,
    fun _ _ _ _ _ _ hw hw' he hd hl hc => ⟨exec_expected_now_result hw hw' he hd hl hc,
      fun _ => exec_expected_later_result hw he hd hl hc⟩⟩

end Sys2Proof.Machine
end

section
/-! SCAN, SELFTEST and the end of a Caliper operation (chapter 21). -/
namespace Sys2Proof.Machine

/-! ## SCAN -/

section
variable {s : State} {w : WinId} {c : CtxId} {a : Cmd} {u : CalId}

/-- An operation as it starts. -/
def CalRun.begin (op : CalOp) (w : WinId) (c : CtxId) (crc : CrcCfg) (s : State) : CalRun where
  op := op
  byWindow := some w
  ctx := c
  crc := crc
  reg := crc.init
  rowPos := 0
  row := 0
  blocks := 0
  asked := 0
  failed := false
  since := s.drone.time.toNat

theorem startCal_op (u : CalId) (op : CalOp) (w : WinId) (c : CtxId) (crc : CrcCfg) (s : State) :
    (startCal u op (some w) c crc s).cal[u].op = some (CalRun.begin op w c crc s) := by
  unfold startCal
  rw [modCal_get]
  rfl

/-- The next request of a scan changes nothing of its operation but the bytes asked for. -/
theorem askScan_op {r : CalRun} (h : s.cal[u].op = some r) :
    ∃ k, (askScan u s).cal[u].op = some { r with asked := k } := by
  unfold askScan
  rw [h]
  dsimp only
  split
  · split
    · exact ⟨r.asked, h⟩
    · rename_i base start rows len stride hop hrow
      refine ⟨Nat.min (len - r.rowPos) (256 - (base + start + r.row * stride + r.rowPos) % 256), ?_⟩
      have hch := enqueue_changes (G := [.fetch]) (n := 131)
        (r := mkRequest (s.modCal u fun x => { x with op := some { r with
          asked := Nat.min (len - r.rowPos) (256 - (base + start + r.row * stride + r.rowPos) % 256) } })
          (.scan u s.cal[u].epoch) r.ctx (base + start + r.row * stride + r.rowPos)
          (Nat.min (len - r.rowPos) (256 - (base + start + r.row * stride + r.rowPos) % 256)))
        (.refl (s := s.modCal u fun x => { x with op := some { r with
          asked := Nat.min (len - r.rowPos) (256 - (base + start + r.row * stride + r.rowPos) % 256) } })) rfl
      have hget := congrArg (·[u].op) (hch.cal_eq rfl)
      rw [modCal_get] at hget
      exact hget
  · exact ⟨r.asked, h⟩

/-- The scan's operation on its unit. -/
def scanStarted (w : WinId) (c : CtxId) (a : Cmd) (b : List Byte) (s : State) : State :=
  setPhase w (.caliper (scanUnit a)) (startCal (scanUnit a) (CalOp.of s c b) (some w) c (scanCrc b) s)

theorem CalOp.of_congr {t : State} (hm : t.memc = s.memc) (hc : t.ctx = s.ctx) (b : List Byte) :
    CalOp.of t c b = CalOp.of s c b := by
  unfold CalOp.of deviceBase usable
  rw [partBase_congr hc, hm]

theorem exec_scan_result (hr : ready s w c = true) (hn : unclaimed s [.cal (scanUnit a)] = true)
    (hk : checkScan w c a (takenWith s w 0x30 a c [.cal (scanUnit a)]) = none) : ∃ t r,
      exec (.scan w a) s = .next t ∧ underway t w 0x30 a.tag (.caliper (scanUnit a)) ∧
      t.cal[scanUnit a].op = some r ∧ r.byWindow = some w ∧ r.ctx = c ∧
      r.op = CalOp.of s c (readPart s c (woff a.a1) 64) ∧ r.reg = (scanCrc (readPart s c (woff a.a1) 64)).init ∧
      r.failed = false ∧ t.mem = s.mem := by
  obtain ⟨q, hq⟩ := run_fetches (o := opScan) hr hk rfl hn hk
  obtain ⟨v, hv⟩ : ∃ v, v = withQueue q (takenWith s w 0x30 a c [.cal (scanUnit a)]) := ⟨_, rfl⟩
  have hread : readPart v c (woff a.a1) 64 = readPart s c (woff a.a1) 64 := by
    rw [hv]
    exact readPart_congr rfl rfl c _ _
  have hop : CalOp.of v c (readPart s c (woff a.a1) 64) = CalOp.of s c (readPart s c (woff a.a1) 64) := by
    rw [hv]
    exact CalOp.of_congr rfl rfl _
  have hx : exec (.scan w a) s =
      .next (askScan (scanUnit a) (scanStarted w c a (readPart s c (woff a.a1) 64) v)) := by
    rw [← hread, hv]
    exact congrArg Host.Outcome.next hq
  have hstart : (scanStarted w c a (readPart s c (woff a.a1) 64) v).cal[scanUnit a].op = _ :=
    startCal_op (scanUnit a) (CalOp.of v c (readPart s c (woff a.a1) 64)) w c _ v
  obtain ⟨k, hask⟩ := askScan_op hstart
  have hch := askScan_changes (G := [.fetch, .cal]) (u := scanUnit a)
    (.refl (s := scanStarted w c a (readPart s c (woff a.a1) 64) v)) rfl
  have hway : underway (scanStarted w c a (readPart s c (woff a.a1) 64) v) w 0x30 a.tag (.caliper (scanUnit a)) := by
    subst hv
    exact underway_setPhase _ rfl
  refine ⟨_, _, hx, underway_congr (hch.win_eq rfl) hway, hask, rfl, rfl, hop, rfl, rfl, ?_⟩
  exact (hch.mem_eq rfl).trans (hv ▸ rfl)

/-! ## SELFTEST -/

/-- The unit that a window holds is found where it holds no other one. -/
theorem heldCal_only {t : State} (hm : (Resource.cal u, Holder.window w) ∈ t.port.held)
    (ho : ∀ v, (Resource.cal v, Holder.window w) ∈ t.port.held → v = u) : heldCal t w = some u := by
  have hsome : (heldCal t w).isSome = true := by
    unfold heldCal
    rw [List.find?_isSome]
    refine ⟨u, ?_, List.any_eq_true.mpr ⟨_, hm, by simp⟩⟩
    match u with
    | 0 => decide
    | 1 => decide
    | 2 => decide
    | 3 => decide
  obtain ⟨v, hv⟩ := Option.isSome_iff_exists.mp hsome
  have hfound := hv
  unfold heldCal at hfound
  have hpred := List.find?_some hfound
  obtain ⟨p, hp, hpv⟩ := List.any_eq_true.mp hpred
  rw [Bool.and_eq_true, decide_eq_true_eq, decide_eq_true_eq] at hpv
  have hpair : p = (Resource.cal v, Holder.window w) := Prod.ext hpv.1 hpv.2
  rw [hv, ho v (hpair ▸ hp)]

/-- The test starts on the unit that its window has taken. -/
theorem startSelftest_result {t : State} {n : Nat} (hh : heldCal t w = some u)
    (hw : t.win[w] = (taken s w 0x31 a c).win[w]) : ∃ r, underway (startSelftest w n t) w 0x31 a.tag (.caliper u) ∧
      (startSelftest w n t).cal[u].op = some r ∧ r.op = .selftest n 0 0 ∧ r.byWindow = some w := by
  have heq : startSelftest w n t =
      setPhase w (.caliper u) (startCal u (.selftest n 0 0) (some w) 0 CrcCfg.crc32c t) := by
    unfold startSelftest
    rw [hh]
  rw [heq]
  exact ⟨_, underway_setPhase _ hw, startCal_op u _ w 0 _ t, rfl, rfl⟩

theorem selftest_bits {n : Nat} (hn : n < 256) (h0 : a.a0 = BitVec.ofNat 32 n) (h1 : a.a1 = 0) (h2 : a.a2 = 0)
    (h3 : a.a3 = 0) : argBits a 0xFF 0 0 0 = true ∧ selftestTarget a = n := by
  refine ⟨argBits_first ?_ h1 h2 h3, ?_⟩
  · rw [h0, ofNat_eq_put (k := 8) hn]
    exact onlyBits_put _ (by decide)
  · rw [selftestTarget, h0, fld_ofNat hn (by decide)]

theorem checkSelftest_eq {n : Nat} (hb : argBits a 0xFF 0 0 0 = true) (ht : selftestTarget a = n)
    (hn : n < 4 ∨ 0x10 ≤ n ∧ n ≤ 0x15) (hr : n = 3 → cal3Reserved s = false) :
    checkSelftest w 0 a s = if selftestPower s n then none else fail .noResource := by
  have hok : (!(decide (n < 4) || decide (0x10 ≤ n ∧ n ≤ 0x15))) = false := by
    rw [← Bool.decide_or, decide_eq_true hn]
    rfl
  have hres : (n = 3 && cal3Reserved s) = false := by
    by_cases h3 : n = 3
    · rw [hr h3, Bool.and_false]
    · rw [decide_eq_false h3, Bool.false_and]
  rw [checkSelftest, ht]
  simp only [supervisor_zero, hb, hok, hres, Bool.not_true, Bool.or_self, firstFail_cons_false]
  cases selftestPower s n with
  | true => rfl
  | false => rfl

theorem exec_selftest_unit (hr : ready s w 0 = true) (h0 : a.a0 = BitVec.ofNat 32 u.1) (h1 : a.a1 = 0) (h2 : a.a2 = 0)
    (h3 : a.a3 = 0) (hh : ∀ r, (r, Holder.window w) ∉ s.port.held) (hn : unclaimed s [.cal u] = true)
    (hres : u = 3 → cal3Reserved s = false) : ∃ t r, exec (.selftest w a) s = .next t ∧
      underway t w 0x31 a.tag (.caliper u) ∧ t.cal[u].op = some r ∧ r.op = .selftest u.1 0 0 ∧ r.byWindow = some w :=
          by
  obtain ⟨hb, ht⟩ := selftest_bits (Nat.lt_of_lt_of_le u.2 (by decide)) h0 h1 h2 h3
  have hpower (t : State) : selftestPower t u.1 = true := by
    unfold selftestPower
    rw [if_neg (by omega), if_neg (by omega)]
  have hpass {t : State} (hp : t.prot = s.prot) : checkSelftest w 0 a t = none := by
    rw [checkSelftest_eq hb ht (.inl u.2) ?_, hpower, if_pos rfl]
    intro h
    have hsame : cal3Reserved t = cal3Reserved s := by
      unfold cal3Reserved anyLocked protLocked
      rw [hp]
    rw [hsame, hres (Fin.ext h)]
  have hneeds : opSelftest.needs 0 a (taken s w 0x31 a 0) = [.cal u] := by
    show (if h : selftestTarget a < 4 then [Resource.cal ⟨selftestTarget a, h⟩] else []) = _
    rw [dif_pos (ht ▸ u.2)]
    exact congrArg (fun v => [Resource.cal v]) (Fin.ext ht)
  have hrun := run_passes (o := opSelftest) hr (hpass rfl) hneeds hn (hpass rfl) rfl
  have hact : opSelftest.act w 0 a (takenWith s w 0x31 a 0 [.cal u]) =
      startSelftest w u.1 (takenWith s w 0x31 a 0 [.cal u]) := by
    show actSelftest w 0 a _ = _
    unfold actSelftest
    rw [ht]
    exact if_pos u.2
  have hheld : heldCal (takenWith s w 0x31 a 0 [.cal u]) w = some u := by
    refine heldCal_only (List.mem_append_right _ (List.mem_singleton.mpr rfl)) fun v hv => ?_
    rcases List.mem_append.mp hv with hv | hv
    · exact absurd hv (hh _)
    · have heq := List.mem_singleton.mp hv
      exact Resource.cal.inj (congrArg Prod.fst heq)
  obtain ⟨r, hres⟩ := startSelftest_result (s := s) (a := a) (c := 0) (n := u.1) hheld rfl
  exact ⟨_, r, congrArg Host.Outcome.next (hrun.trans hact), hres⟩

theorem exec_selftest_sram {n : Nat} (hr : ready s w 0 = true) (h0 : a.a0 = BitVec.ofNat 32 n) (h1 : a.a1 = 0)
    (h2 : a.a2 = 0) (h3 : a.a3 = 0) (hh : ∀ r, (r, Holder.window w) ∉ s.port.held) (hlo : 0x10 ≤ n) (hhi : n ≤ 0x15)
    (hp : selftestPower s n = true) (hu : freeCal s = some u) : ∃ t r, exec (.selftest w a) s = .next t ∧
      underway t w 0x31 a.tag (.caliper u) ∧ t.cal[u].op = some r ∧ r.op = .selftest n 0 0 ∧ r.byWindow = some w := by
  obtain ⟨hb, ht⟩ := selftest_bits (by omega) h0 h1 h2 h3
  have hpass : checkSelftest w 0 a (taken s w 0x31 a 0) = none := by
    rw [checkSelftest_eq hb ht (.inr ⟨hlo, hhi⟩) (by omega), (show selftestPower (taken s w 0x31 a 0) n = true from
        hp),
      if_pos rfl]
  have hneeds : opSelftest.needs 0 a (taken s w 0x31 a 0) = [] := by
    show (if h : selftestTarget a < 4 then [Resource.cal ⟨selftestTarget a, h⟩] else []) = _
    exact dif_neg (by omega)
  have hrun := run_passes (o := opSelftest) hr hpass hneeds rfl (by rw [takenWith_nil]; exact hpass) rfl
  have hrs : ∀ v, Resource.cal v ∉ ([] : List Resource) := fun v => List.not_mem_nil
  have hfree := (freeCal_takenWith (op := 0x31) (a := a) hr hrs).trans hu
  have hnone := heldCal_takenWith (op := 0x31) (a := a) (c := 0) hh hrs
  have hact : opSelftest.act w 0 a (takenWith s w 0x31 a 0 []) =
      startSelftest w n (take (.window w) (.cal u) (takenWith s w 0x31 a 0 [])) := by
    show actSelftest w 0 a _ = _
    unfold actSelftest
    dsimp only
    rw [ht, if_neg (by omega), hnone, hfree]
  have hheld : heldCal (take (.window w) (.cal u) (takenWith s w 0x31 a 0 [])) w = some u := by
    refine heldCal_only (List.mem_append_right _ (List.mem_singleton.mpr rfl)) fun v hv => ?_
    rcases List.mem_append.mp hv with hv | hv
    · rw [takenWith_nil] at hv
      exact absurd hv (hh _)
    · have heq := List.mem_singleton.mp hv
      exact Resource.cal.inj (congrArg Prod.fst heq)
  obtain ⟨r, hres⟩ := startSelftest_result (s := s) (a := a) (c := 0) (n := n) hheld rfl
  exact ⟨_, r, congrArg Host.Outcome.next (hrun.trans hact), hres⟩

theorem exec_selftest_off {n : Nat} (hr : ready s w 0 = true) (h0 : a.a0 = BitVec.ofNat 32 n) (h1 : a.a1 = 0)
    (h2 : a.a2 = 0) (h3 : a.a3 = 0) (hlo : 0x10 ≤ n) (hhi : n ≤ 0x15) (hp : selftestPower s n = false) :
    ∃ t, exec (.selftest w a) s = .next t ∧ answered s t w a.tag .noResource 0 0 ∧ t.cal = s.cal ∧ t.mem = s.mem := by
  obtain ⟨hb, ht⟩ := selftest_bits (by omega) h0 h1 h2 h3
  have hfail : checkSelftest w 0 a (taken s w 0x31 a 0) = fail .noResource := by
    rw [checkSelftest_eq hb ht (.inr ⟨hlo, hhi⟩) (by omega), (show selftestPower (taken s w 0x31 a 0) n = false from
        hp)]
    rfl
  have hch := row_turned_changes (o := opSelftest) hr hfail
  exact ⟨_, rfl, row_turned_answered (o := opSelftest) hr hfail, hch.cal_eq rfl, hch.mem_eq rfl⟩

end

/-! ## The end of an operation -/

section
variable {s : State} {w : WinId} {u : CalId} {r : CalRun} {e : Exec}

theorem stopCal_cal {code : Code} (h : s.cal[u].op = some r) :
    (stopCal u code false s).cal[u] = { s.cal[u].showEnd r code with op := none } := by
  unfold stopCal
  rw [h]
  dsimp only
  rw [calEvents_cal, (removeRequests_changes (G := [.fetch]) .refl rfl).cal_eq rfl, modCal_get]
  rfl

theorem endCal_window {code : Code} (h : s.cal[u].op = some r) (hb : r.byWindow = some w) : endCal u code s =
    finish w code (r.words s.cal[u].yields code).1 (r.words s.cal[u].yields code).2 (stopCal u code false s) := by
  unfold endCal
  rw [h]
  dsimp only
  rw [hb]

/-- An operation of a window's command ends: the unit shows its end, and the command is answered. -/
theorem endCal_result {code : Code} (h : s.cal[u].op = some r) (hb : r.byWindow = some w)
    (he : s.win[w].exec = some e) (hd : e.discard = false) :
    (endCal u code s).cal[u] = { s.cal[u].showEnd r code with op := none } ∧ (endCal u code s).win[w].exec = none ∧
      (endCal u code s).win[w].done = s.win[w].done ++
          [⟨e.entry.cmd.tag, code, (r.words s.cal[u].yields code).1,
        (r.words s.cal[u].yields code).2⟩] := by
  have hstop := stopCal_changes (G := [.evu, .pcie, .fetch, .cal]) (u := u) (code := code) (keep := false)
    (.refl (s := s)) rfl
  obtain ⟨hx, -, hdone⟩ := finish_ends (code := code) (q0 := (r.words s.cal[u].yields code).1)
    (q1 := (r.words s.cal[u].yields code).2) (congrArg (·[w]) (hstop.win_eq rfl)) he hd
  rw [endCal_window h hb]
  refine ⟨?_, hx, hdone⟩
  rw [finish_cal, stopCal_cal h]

theorem exec_operationEnd (h : s.cal[u].op = some r) (hc : r.op ≠ .canvas) : exec (.caliperOperationEnd u) s =
    if r.failed then .next (endCal u .rejected s) else if r.fed then .next (endCal u .ok s) else .next s := by
  show execCaliperOperationEnd u s = _
  unfold execCaliperOperationEnd
  rw [h]
  dsimp only
  split
  · rename_i hop
    exact absurd hop hc
  · rfl

theorem exec_operationEnd_fed (h : s.cal[u].op = some r) (hb : r.byWindow = some w) (he : s.win[w].exec = some e)
    (hd : e.discard = false) (hc : r.op ≠ .canvas) (hf : r.failed = false) (hfed : r.fed = true) :
    ∃ t, exec (.caliperOperationEnd u) s = .next t ∧ t.cal[u].op = none ∧ t.cal[u].done = true ∧
      t.cal[u].value = r.result ∧ t.cal[u].match_ = decide (r.crc.expect = some r.result) ∧ t.win[w].exec = none ∧
      t.win[w].done = s.win[w].done ++ [⟨e.entry.cmd.tag, .ok, (r.words s.cal[u].yields .ok).1,
        (r.words s.cal[u].yields .ok).2⟩] := by
  obtain ⟨hcal, hx, hdone⟩ := endCal_result (code := .ok) h hb he hd
  refine ⟨endCal u .ok s, ?_, ?_, ?_, ?_, ?_, hx, hdone⟩
  · rw [exec_operationEnd h hc, hf, hfed]
    rfl
  · rw [hcal]
  · rw [hcal]
    rfl
  · rw [hcal]
    rfl
  · rw [hcal]
    rfl

theorem exec_operationEnd_failed (h : s.cal[u].op = some r) (hb : r.byWindow = some w) (he : s.win[w].exec = some e)
    (hd : e.discard = false) (hc : r.op ≠ .canvas) (hf : r.failed = true) :
    ∃ t, exec (.caliperOperationEnd u) s = .next t ∧ t.cal[u].op = none ∧ t.cal[u].value = 0 ∧ t.win[w].exec = none ∧
      t.win[w].done = s.win[w].done ++ [⟨e.entry.cmd.tag, .rejected, 0x41,
        0⟩] := by
  obtain ⟨hcal, hx, hdone⟩ := endCal_result (code := .rejected) h hb he hd
  refine ⟨endCal u .rejected s, ?_, ?_, ?_, hx, hdone⟩
  · rw [exec_operationEnd h hc, hf]
    rfl
  · rw [hcal]
  · rw [hcal]
    rfl

/-! ## The chunks of a self-test -/

variable {n k : Nat} {f : Word}

/-- The self-test with one chunk more. -/
def CalRun.chunked (r : CalRun) (n k : Nat) (f : Word) : CalRun := { r with op := .selftest n (k + 1) f }

/-- The unit with another operation. -/
def withOp (u : CalId) (r : CalRun) (s : State) : State := s.modCal u fun x => { x with op := some r }

theorem exec_chunk_more {x : ChunkResult} (h : s.cal[u].op = some r) (ho : r.op = .selftest n k f)
    (hk : k + 1 < selftestChunks n) (ht : s.drone.time.toNat < r.since + 10000) (hw : calWanted s u = false)
    (hx : x.foreground = false) : exec (.selftestChunk u x) s =
      .next (withOp u (r.chunked n k (addFailures n k f x.failures)) s) := by
  show execSelftestChunk u x s = _
  unfold execSelftestChunk
  rw [h]
  dsimp only
  rw [ho]
  dsimp only
  rw [if_neg (Nat.not_le.mpr hk), if_neg (by simpa using ht), hw, if_neg Bool.false_ne_true, hx,
    if_neg Bool.false_ne_true]
  rfl

theorem exec_chunk_last {x : ChunkResult} (h : s.cal[u].op = some r) (ho : r.op = .selftest n k f)
    (hk : selftestChunks n ≤ k + 1) : exec (.selftestChunk u x) s =
      .next (endSelftest u n (addFailures n k f x.failures)
        (withOp u (r.chunked n k (addFailures n k f x.failures)) s)) := by
  show execSelftestChunk u x s = _
  unfold execSelftestChunk
  rw [h]
  dsimp only
  rw [ho]
  dsimp only
  rw [if_pos hk]
  rfl

theorem withOp_op (u : CalId) (r : CalRun) (s : State) : (withOp u r s).cal[u].op = some r := by
  rw [withOp, modCal_get]

theorem withOp_yields (u : CalId) (r : CalRun) (s : State) : (withOp u r s).cal[u].yields = s.cal[u].yields := by
  rw [withOp, modCal_get]

theorem logFault_nonzero_changes (u n : Nat) (f : Word) (s : State) :
    Changes [.evu, .pcie, .faults] s (if f = 0 then s else logFault u n f s) := .ite .refl
        (logFault_changes .refl rfl)

theorem exec_chunk_more_result {x : ChunkResult} (h : s.cal[u].op = some r) (ho : r.op = .selftest n k f)
    (hk : k + 1 < selftestChunks n) (ht : s.drone.time.toNat < r.since + 10000) (hw : calWanted s u = false)
    (hx : x.foreground = false) : ∃ t, exec (.selftestChunk u x) s = .next t ∧
      t.cal[u].op = some { r with op := .selftest n (k + 1) (addFailures n k f x.failures) } ∧ t.win = s.win :=
  ⟨_, exec_chunk_more h ho hk ht hw hx, withOp_op _ _ _, rfl⟩

theorem exec_chunk_last_result {x : ChunkResult} (h : s.cal[u].op = some r) (hb : r.byWindow = some w)
    (he : s.win[w].exec = some e) (hd : e.discard = false) (ho : r.op = .selftest n k f)
    (hk : selftestChunks n ≤ k + 1) : ∃ t, exec (.selftestChunk u x) s = .next t ∧ t.cal[u].op = none ∧
      t.cal[u].done = true ∧ t.win[w].exec = none ∧ t.win[w].done = s.win[w].done ++
          [⟨e.entry.cmd.tag, .ok, addFailures n k f x.failures,
        BitVec.ofNat 32 (Nat.min 65535 s.cal[u].yields)⟩] ∧
      (fabricOn s = true → addFailures n k f x.failures ≠ 0 → ∃ l, t.faults.entries.getLast? = some l ∧
        l.code = 0x35 ∧ l.arg = addFailures n k f x.failures) := by
  generalize hf : addFailures n k f x.failures = g
  have hx := exec_chunk_last (x := x) h ho hk
  rw [hf] at hx
  obtain ⟨hcal, hex, hdone⟩ := endCal_result (code := .ok) (withOp_op u (r.chunked n k g) s) hb he hd
  have hlog := logFault_nonzero_changes 0x35 n g (endCal u .ok (withOp u (r.chunked n k g) s))
  have hlcal := hlog.cal_eq rfl
  have hlwin := hlog.win_eq rfl
  rw [withOp_yields] at hdone
  refine ⟨_, hx, ?_, ?_, ?_, ?_, fun hon hne => ?_⟩
  · exact (congrArg (·[u].op) hlcal).trans (congrArg Cal.op hcal)
  · exact (congrArg (·[u].done) hlcal).trans (congrArg Cal.done hcal)
  · exact (congrArg (·[w].exec) hlwin).trans hex
  · exact (congrArg (·[w].done) hlwin).trans hdone
  · have hend := endCal_changes (G := [.win, .port, .evu, .pcie, .fetch, .cal]) (u := u) (code := .ok)
      (.refl (s := withOp u (r.chunked n k g) s)) rfl
    have hon' : fabricOn (endCal u .ok (withOp u (r.chunked n k g) s)) = true := by
      unfold fabricOn at hon ⊢
      exact (pdOn_congr (hend.power_eq rfl)).trans hon
    have heq : endSelftest u n g (withOp u (r.chunked n k g) s) =
        logFault 0x35 n g (endCal u .ok (withOp u (r.chunked n k g) s)) := if_neg hne
    rw [heq]
    exact ⟨_, logFault_last hon' _ _ _ _, rfl, rfl⟩

end

/-- Settles O34: the two commands as they start, the ends of an operation and the chunks of a self-test. -/
theorem caliperOperationsStartAndEnd : Obligations.CaliperOperationsStartAndEnd := by
  refine ⟨fun s w c a hr => ⟨exec_scan_result hr, fun hc h1 h2 h3 hh => ?_⟩, fun s w u r e h hb he hd =>
    ⟨fun hc => ⟨exec_operationEnd_fed h hb he hd hc, exec_operationEnd_failed h hb he hd hc⟩,
      fun n k f x ho => ⟨exec_chunk_more_result h ho, exec_chunk_last_result h hb he hd ho⟩⟩⟩
  subst hc
  exact ⟨fun u h0 => exec_selftest_unit hr h0 h1 h2 h3 hh, fun n u h0 hlo hhi =>
    ⟨exec_selftest_sram hr h0 h1 h2 h3 hh hlo hhi, exec_selftest_off hr h0 h1 h2 h3 hlo hhi⟩⟩

end Sys2Proof.Machine
end

section
/-! The slots of the budget checker (06.5, 12.3). -/
namespace Sys2Proof.Machine

/-! ## An accepted commit -/

section
variable {s : State} {c : CtxId}

/-- The ID after one. -/
def nextId (id : BitVec 16) : BitVec 16 := if id = 0xFFFF then 1 else id + 1

/-- A context with its next commit ID, in a new generation. -/
def numbered (c : CtxId) (id : BitVec 16) (s : State) : State :=
  bumpDevice (bumpCtx c (s.modCtx c fun x => { x with commitId := nextId id }))

/-- The commit that is entered. -/
def newCommit (c : CtxId) (r : CommitReq) (id : BitVec 16) (t : List CommitPart × State) : PendingCommit where
  ctx := c
  id := id
  parts := t.1.filter fun x => (contHead x.head).isSome
  joint := r.joint
  fallback := r.fallback
  listOff := r.listOff
  entries := r.entries
  acceptedAt := t.2.fetch.fclk

/-- The commit is entered, where a part of it is for a continuous head. -/
def entered (p : PendingCommit) (s : State) : State :=
  { s with commits := if p.parts.isEmpty then s.commits else s.commits ++ [p] }

/-- Acceptance: the commit is entered, its context gets its next ID, and a part for head E applies. -/
theorem acceptCommit_eq (c : CtxId) (r : CommitReq) (parts : List (HeadId × Option Nat × List (SlotId × Option Desc)))
    (s : State) : ∃ u p e, Changes [.evu, .pcie, .commits, .free] s u ∧
      (acceptCommit c r parts s = numbered c s.ctx[c].commitId u ∨
        acceptCommit c r parts s = composeCanvas (forEach e (applyPart p) (numbered c s.ctx[c].commitId u))) := by
  obtain ⟨t, ht⟩ : ∃ t, t = assignParts parts (replaceHeld c parts s) := ⟨_, rfl⟩
  have hch : Changes [.evu, .pcie, .commits, .free] s (entered (newCommit c r s.ctx[c].commitId t) t.2) :=
    .set_commits (ht ▸ assignParts_changes (replaceHeld_changes .refl rfl) rfl) rfl
  refine ⟨_, newCommit c r s.ctx[c].commitId t, t.1.filter fun x => x.head = 2, hch, ?_⟩
  subst ht
  unfold acceptCommit
  dsimp only
  split
  · exact .inl rfl
  · exact .inr rfl

/-- What the rest of an acceptance leaves: the context's commit ID and the port. -/
def NumberKept (c : CtxId) (s t : State) : Prop := t.ctx[c].commitId = s.ctx[c].commitId ∧ t.port = s.port

theorem applyPart_numberKept {t : State} (p : PendingCommit) (x : CommitPart) (h : NumberKept c s t) :
    NumberKept c s (applyPart p x t) := by
  obtain ⟨hid, hport⟩ := h
  have hops : Changes [.slot] t (forEach x.ops (applyOp x.head p.ctx p.id) t) :=
    .forEach .refl fun _ _ k => applyOp_changes k rfl
  have hraise {u : State} : Changes [.evu, .pcie] u (raise (64 + p.ctx.1) u) := raise_changes .refl rfl
  unfold applyPart
  dsimp only
  refine ⟨?_, (hraise.port_eq rfl).trans ((hops.port_eq rfl).trans hport)⟩
  rw [hraise.ctx_eq rfl]
  by_cases hc : c = p.ctx
  · subst hc
    rw [modCtx_get, hops.ctx_eq rfl]
    exact hid
  · rw [modCtx_get_other hc, hops.ctx_eq rfl]
    exact hid

theorem numbered_id (c : CtxId) (id : BitVec 16) (s : State) : (numbered c id s).ctx[c].commitId = nextId id := by
  unfold numbered bumpDevice bumpCtx
  dsimp only
  rw [modCtx_get, modCtx_get]

theorem acceptCommit_result (c : CtxId) (r : CommitReq)
    (parts : List (HeadId × Option Nat × List (SlotId × Option Desc))) (s : State) :
    (acceptCommit c r parts s).ctx[c].commitId = nextId s.ctx[c].commitId ∧
      (acceptCommit c r parts s).port = { s.port with deviceGen := s.port.deviceGen + 1 } := by
  obtain ⟨u, p, e, hu, heq⟩ := acceptCommit_eq c r parts s
  have hport : (numbered c s.ctx[c].commitId u).port = { s.port with deviceGen := s.port.deviceGen + 1 } := by
    rw [← hu.port_eq rfl]
    rfl
  rcases heq with heq | heq
  · rw [heq]
    exact ⟨numbered_id _ _ _, hport⟩
  · obtain ⟨hid, hp⟩ := forEach_keeps_mem (P := NumberKept c (numbered c s.ctx[c].commitId u)) (l := e)
      (fun x _ t h => applyPart_numberKept p x h) ⟨rfl, rfl⟩
    have hc := composeCanvas_changes (G := [.epd])
      (.refl (s := forEach e (applyPart p) (numbered c s.ctx[c].commitId u))) rfl
    rw [heq, hc.ctx_eq rfl, hc.port_eq rfl]
    exact ⟨hid.trans (numbered_id _ _ _), hp.trans hport⟩

/-! ## The request of a slot -/

/-- A ready request is the command in its window. -/
theorem oldestReady_exec {w : WinId} {e : Exec} (h : oldestReady s c = some (w, e)) : s.win[w].exec = some e := by
  have hready {v : WinId} (hv : readyOf s c v = some (w, e)) : s.win[w].exec = some e := by
    unfold readyOf at hv
    obtain ⟨x, hx, hq⟩ := Option.bind_eq_some_iff.mp hv
    split at hq
    · obtain ⟨-, heq⟩ := (guardSome_eq_some_iff _ _ _).mp hq
      cases heq
      exact hx
    · obtain ⟨-, heq⟩ := (guardSome_eq_some_iff _ _ _).mp hq
      cases heq
      exact hx
    · cases hq
  refine List.foldlRecOn (motive := fun b => b = some (w, e) → s.win[w].exec = some e) wins _ (fun h0 => ?_)
    (fun b hb v _ hv => ?_) h
  · cases h0
  · split at hv
    · rename_i x y hx
      split at hv
      · exact hready (hx.trans hv)
      · exact hb hv
    · rename_i x hx
      exact hready (hx.trans hv)
    · exact hb hv

/-- The slot has passed to the next context. -/
def slotPassed (s : State) : State := { s with port := { s.port with budgetCtx := s.port.budgetCtx + 1 } }

section
variable {w : WinId} {e : Exec} {r : CommitReq}

theorem slot_fallback_empty (hq : s.port.budgetCtx ≠ 0 ∨ s.port.fallbackQueue = []) :
    (if s.port.budgetCtx = 0 then s.port.fallbackQueue else []) = [] := by
  split
  · rename_i h
    exact hq.resolve_left (not_not.mpr h)
  · rfl

theorem oldestReady_slotPassed (s : State) (c : CtxId) : oldestReady (slotPassed s) c = oldestReady s c := rfl

theorem exec_slot_idle (hf : fabricOn s = true) (hq : s.port.budgetCtx ≠ 0 ∨ s.port.fallbackQueue = [])
    (ho : oldestReady s s.port.budgetCtx = none) : exec .budgetCheckerSlot s = .next (slotPassed s) := by
  have hready := (oldestReady_slotPassed s s.port.budgetCtx).trans ho
  unfold slotPassed at hready
  show execBudgetCheckerSlot s = _
  unfold execBudgetCheckerSlot
  rw [hf, Bool.not_true, if_neg Bool.false_ne_true]
  dsimp only
  rw [slot_fallback_empty hq]
  dsimp only
  rw [hready]
  rfl

theorem exec_slot_request (hf : fabricOn s = true) (hq : s.port.budgetCtx ≠ 0 ∨ s.port.fallbackQueue = [])
    (ho : oldestReady s s.port.budgetCtx = some (w, e)) (hp : e.phase = .budget r) :
    exec .budgetCheckerSlot s = .next (decideRequest w s.port.budgetCtx r (slotPassed s)) := by
  have hready := (oldestReady_slotPassed s s.port.budgetCtx).trans ho
  unfold slotPassed at hready
  show execBudgetCheckerSlot s = _
  unfold execBudgetCheckerSlot
  rw [hf, Bool.not_true, if_neg Bool.false_ne_true]
  dsimp only
  rw [slot_fallback_empty hq]
  dsimp only
  rw [hready]
  dsimp only
  rw [hp]
  rfl

theorem exec_slot_seal (hf : fabricOn s = true) (hq : s.port.budgetCtx ≠ 0 ∨ s.port.fallbackQueue = [])
    (ho : oldestReady s s.port.budgetCtx = some (w, e)) (hp : e.phase = .budgetSeal) :
    exec .budgetCheckerSlot s = .next (decideSeal w (argCtx e.entry.cmd.a0) (slotPassed s)) := by
  have hready := (oldestReady_slotPassed s s.port.budgetCtx).trans ho
  unfold slotPassed at hready
  show execBudgetCheckerSlot s = _
  unfold execBudgetCheckerSlot
  rw [hf, Bool.not_true, if_neg Bool.false_ne_true]
  dsimp only
  rw [slot_fallback_empty hq]
  dsimp only
  rw [hready]
  dsimp only
  rw [hp]
  rfl

theorem exec_slot_fallback {i : Nat} {rest : List (Nat × CommitReq)} (hf : fabricOn s = true)
    (hb : s.port.budgetCtx = 0) (hq : s.port.fallbackQueue = (i, r) :: rest) : exec .budgetCheckerSlot s =
      .next (decideFallback i r { slotPassed s with port := { (slotPassed s).port with fallbackQueue := rest } }) :=
          by
  have hexec : exec .budgetCheckerSlot s = execBudgetCheckerSlot s := rfl
  unfold execBudgetCheckerSlot at hexec
  rw [hf, Bool.not_true, if_neg Bool.false_ne_true] at hexec
  dsimp only at hexec
  rw [if_pos hb, hq] at hexec
  exact hexec

theorem decideCommit_slotPassed (s : State) (c : CtxId) (r : CommitReq) :
    decideCommit (slotPassed s) c r = decideCommit s c r := rfl

end

/-! ## What it decides -/

section
variable {w : WinId} {e : Exec} {r : CommitReq} {parts : List (HeadId × Option Nat × List (SlotId × Option Desc))}

theorem finish_budgetCtx (w : WinId) (code : Code) (q0 q1 : Word) (s : State) :
    (finish w code q0 q1 s).port.budgetCtx = s.port.budgetCtx := by
  obtain ⟨-, -, -, -, -, hb, -⟩ := finish_port s w code q0 q1
  exact hb

theorem exec_slot_accepts (hf : fabricOn s = true) (hc : s.port.budgetCtx = c)
    (hq : c ≠ 0 ∨ s.port.fallbackQueue = []) (ho : oldestReady s c = some (w, e)) (hd : e.discard = false)
    (hp : e.phase = .budget r) (ha : decideCommit s c r = .accept parts) :
    ∃ t, exec .budgetCheckerSlot s = .next t ∧ t.win[w].exec = none ∧ t.port.budgetCtx = c + 1 ∧
      (r.check = true → t.commits = s.commits ∧ t.ctx[c].commitId = s.ctx[c].commitId ∧
        t.win[w].done = s.win[w].done ++ [⟨e.entry.cmd.tag, .ok, 0, framesWord parts⟩]) ∧
      (r.check = false → t.ctx[c].commitId = nextId s.ctx[c].commitId ∧ t.win[w].done = s.win[w].done ++
        [⟨e.entry.cmd.tag, .ok, put s.ctx[c].commitId.toNat 0 16, framesWord parts⟩]) := by
  subst hc
  have hx := exec_slot_request hf hq ho hp
  have he := oldestReady_exec ho
  unfold decideRequest at hx
  rw [decideCommit_slotPassed, ha] at hx
  dsimp only at hx
  cases hk : r.check with
  | true =>
    rw [hk, if_pos rfl] at hx
    obtain ⟨hex, -, hdone⟩ := finish_ends (u := slotPassed s) (code := .ok) (q0 := 0) (q1 := framesWord parts) rfl he
        hd
    have hfin := finish_changes (G := [.win, .port, .evu, .pcie]) (w := w) (code := .ok) (q0 := 0)
      (q1 := framesWord parts) (.refl (s := slotPassed s)) rfl
    exact ⟨_, hx, hex, finish_budgetCtx _ _ _ _ _, fun _ => ⟨hfin.commits_eq rfl,
      congrArg (·[s.port.budgetCtx].commitId) (hfin.ctx_eq rfl), hdone⟩, fun h => absurd h (by simp)⟩
  | false =>
    rw [hk, if_neg Bool.false_ne_true] at hx
    obtain ⟨hid, hport⟩ := acceptCommit_result s.port.budgetCtx r parts (slotPassed s)
    have hwin := (acceptCommit_changes (G := [.ctx, .port, .evu, .pcie, .slot, .commits, .epd, .free])
      (c := s.port.budgetCtx) (r := r) (parts := parts) (.refl (s := slotPassed s)) rfl).win_eq rfl
    obtain ⟨hex, -, hdone⟩ := finish_ends (code := .ok) (q0 := put s.ctx[s.port.budgetCtx].commitId.toNat 0 16)
      (q1 := framesWord parts) (congrArg (·[w]) hwin) he hd
    have hfin := finish_changes (G := [.win, .port, .evu, .pcie]) (w := w) (code := .ok)
      (q0 := put s.ctx[s.port.budgetCtx].commitId.toNat 0 16) (q1 := framesWord parts)
      (.refl (s := acceptCommit s.port.budgetCtx r parts (slotPassed s))) rfl
    refine ⟨_, hx, hex, ?_, fun h => absurd h (by simp), fun _ => ⟨?_, hdone⟩⟩
    · rw [finish_budgetCtx]
      exact congrArg Port.budgetCtx hport
    · exact (congrArg (·[s.port.budgetCtx].commitId) (hfin.ctx_eq rfl)).trans hid

theorem exec_slot_rejects {reason head line : Nat} (hf : fabricOn s = true) (hc : s.port.budgetCtx = c)
    (hq : c ≠ 0 ∨ s.port.fallbackQueue = []) (ho : oldestReady s c = some (w, e)) (hd : e.discard = false)
    (hp : e.phase = .budget r) (ha : decideCommit s c r = .reject reason head line) :
    ∃ t q1, exec .budgetCheckerSlot s = .next t ∧ t.win[w].exec = none ∧ t.commits = s.commits ∧ t.ctx = s.ctx ∧
      t.win[w].done = s.win[w].done ++ [⟨e.entry.cmd.tag, .rejected, put reason 0 8 ||| put head 8 2, q1⟩] := by
  subst hc
  have hx := exec_slot_request hf hq ho hp
  have he := oldestReady_exec ho
  unfold decideRequest at hx
  rw [decideCommit_slotPassed, ha] at hx
  dsimp only at hx
  have hch := rejectCommit_changes (G := [.win, .port, .evu, .pcie]) (w := w) (c := s.port.budgetCtx)
    (isCheck := r.check) (reason := reason) (head := head) (line := line) (.refl (s := slotPassed s)) rfl
  have hwin : (rejectCommit w s.port.budgetCtx r.check reason head line (slotPassed s)).win =
      (reject w reason head line (slotPassed s)).win := by
    unfold rejectCommit
    dsimp only
    split
    · rfl
    · exact (raise_changes (G := [.evu, .pcie]) .refl rfl).win_eq rfl
  obtain ⟨hex, -, hdone⟩ := finish_ends (u := slotPassed s) (code := .rejected)
    (q0 := put reason 0 8 ||| put head 8 2)
    (q1 := if decide (winCtx (slotPassed s) w = some 0) then put line 0 13 else 0) rfl he hd
  exact ⟨_, _, hx, (congrArg (·[w].exec) hwin).trans hex, hch.commits_eq rfl, hch.ctx_eq rfl,
    (congrArg (·[w].done) hwin).trans hdone⟩

theorem sealCtx_st (n : CtxId) (s : State) : (sealCtx n s).ctx[n].st = .sealed := by
  have hq : Changes [.fetch] (s.modCtx n fun c => { c with st := .sealed }) (sealCtx n s) :=
    .forEach .refl fun _ _ h => sealQueue_changes h rfl
  exact (congrArg (·[n].st) (hq.ctx_eq rfl)).trans (congrArg Ctx.st (modCtx_get s n _))

theorem decideSeal_shared {n : CtxId} (hs : s.ctx[n].st = .shared) : decideSeal w n s =
    if crossOk s n (fun _ => []) (some n) (admTerr s) then finishGen w 0 0 (sealCtx n s) else reject w 0x04 0 0 s :=
        by
  have hnot : isSealed s n = false := by
    unfold isSealed
    rw [hs]
    decide
  unfold decideSeal
  rw [hs, if_neg (by decide), if_neg (by decide), hnot, if_neg Bool.false_ne_true]

theorem crossOk_slotPassed (s : State) (n : CtxId) : crossOk (slotPassed s) n (fun _ => []) (some n)
    (admTerr (slotPassed s)) = crossOk s n (fun _ => []) (some n) (admTerr s) := rfl

theorem exec_slot_seals {n : CtxId} (hf : fabricOn s = true) (hc : s.port.budgetCtx = c)
    (hq : c ≠ 0 ∨ s.port.fallbackQueue = []) (ho : oldestReady s c = some (w, e)) (hd : e.discard = false)
    (hp : e.phase = .budgetSeal) (hn : argCtx e.entry.cmd.a0 = n) (hs : s.ctx[n].st = .shared) :
    (crossOk s n (fun _ => []) (some n) (admTerr s) = true → ∃ t, exec .budgetCheckerSlot s = .next t ∧
      t.ctx[n].st = .sealed ∧ t.win[w].exec = none ∧
      t.win[w].done = s.win[w].done ++ [⟨e.entry.cmd.tag, .ok, 0, 0⟩]) ∧
    (crossOk s n (fun _ => []) (some n) (admTerr s) = false → ∃ t q1, exec .budgetCheckerSlot s = .next t ∧
      t.ctx[n].st = .shared ∧ t.win[w].exec = none ∧
      t.win[w].done = s.win[w].done ++ [⟨e.entry.cmd.tag, .rejected, 0x04, q1⟩]) := by
  subst hc
  subst hn
  have hx := exec_slot_seal hf hq ho hp
  have he := oldestReady_exec ho
  rw [decideSeal_shared (s := slotPassed s) hs,
    crossOk_slotPassed] at hx
  refine ⟨fun hok => ?_, fun hno => ?_⟩
  · rw [hok, if_pos rfl] at hx
    have hwin := (sealCtx_changes (G := [.ctx, .fetch]) (n := argCtx e.entry.cmd.a0)
      (.refl (s := slotPassed s)) rfl).win_eq rfl
    obtain ⟨hex, -, hdone⟩ := finish_ends (u := bumpDevice (sealCtx (argCtx e.entry.cmd.a0) (slotPassed s)))
      (code := .ok) (q0 := 0) (q1 := 0) (congrArg (·[w]) hwin) he hd
    refine ⟨_, hx, ?_, hex, hdone⟩
    exact (congrArg (·[argCtx e.entry.cmd.a0].st) (finishGen_ctx w 0 0 _)).trans (sealCtx_st _ _)
  · rw [hno, if_neg Bool.false_ne_true] at hx
    obtain ⟨hex, -, hdone⟩ := finish_ends (u := slotPassed s) (code := .rejected)
      (q0 := put 0x04 0 8 ||| put 0 8 2)
      (q1 := if decide (winCtx (slotPassed s) w = some 0) then put 0 0 13 else 0) rfl he hd
    have hch := reject_changes (G := [.win, .port, .evu, .pcie]) (w := w) (reason := 0x04) (head := 0) (line := 0)
      (.refl (s := slotPassed s)) rfl
    exact ⟨_, _, hx, (congrArg (·[argCtx e.entry.cmd.a0].st) (hch.ctx_eq rfl)).trans hs, hex, hdone⟩

end

end

/-- Settles O30: by what the slot finds, and what it decides of it. -/
theorem budgetSlotDecidesTheOldestRequest : Obligations.BudgetSlotDecidesTheOldestRequest := by
  refine fun s c hf hc => ⟨fun hq => ⟨fun ho => ?_, fun w e ho hd => ⟨fun r parts hp ha =>
    exec_slot_accepts hf hc hq ho hd hp ha, fun r reason head line hp ha => exec_slot_rejects hf hc hq ho hd hp ha,
    fun n hp hn hs => exec_slot_seals hf hc hq ho hd hp hn hs⟩⟩, fun i r rest parts h0 hq ha => ?_⟩
  · subst hc
    exact exec_slot_idle hf hq ho
  · have hx := exec_slot_fallback hf (hc.trans h0) hq
    obtain ⟨u, hu⟩ : ∃ u : State, u = { slotPassed s with
      port := { (slotPassed s).port with fallbackQueue := rest } } := ⟨_, rfl⟩
    rw [← hu] at hx
    have ha' : decideCommit u 0 r = .accept parts := hu ▸ ha
    unfold decideFallback at hx
    rw [ha'] at hx
    obtain ⟨hid, hport⟩ := acceptCommit_result 0 r parts u
    refine ⟨_, hx, (congrArg Port.fallbackQueue hport).trans (hu ▸ rfl), ?_, hid.trans (hu ▸ rfl)⟩
    refine (congrArg Port.budgetCtx hport).trans ?_
    rw [hu]
    show s.port.budgetCtx + 1 = 1
    rw [hc, h0]
    rfl

end Sys2Proof.Machine
end

section
/-! The relay port (chapter 20). -/
namespace Sys2Proof.Machine

/-! ## Egress queues -/

theorem modEgress_get (s : State) (i : StreamId) (f : EgressQueue → EgressQueue) :
    (s.modEgress i f).relay.egress[i] = f s.relay.egress[i] := State.modEgress_same s i f

theorem modEgress_get_other (s : State) (i j : StreamId) (f : EgressQueue → EgressQueue) (hj : j ≠ i) :
    (s.modEgress i f).relay.egress[j] = s.relay.egress[j] := State.modEgress_other s i f j hj

theorem modStream_get (s : State) (i : StreamId) (f : Stream → Stream) :
    (s.modStream i f).relay.stream[i] = f s.relay.stream[i] := State.modStream_same s i f

/-- What the upkeep of egress queue i leaves alone: the ETX queue, the full bucket of i and every other queue. -/
structure EgressKept (i : StreamId) (s t : State) : Prop where
  etx : t.relay.etx = s.relay.etx
  tp : t.relay.egress[i].tp = s.relay.egress[i].tp
  others : ∀ j, j ≠ i → t.relay.egress[j] = s.relay.egress[j]

theorem EgressKept.of_relay {i : StreamId} {s t : State} (h : t.relay = s.relay) : EgressKept i s t where
  etx := by rw [h]
  tp := by rw [h]
  others j _ := by rw [h]

theorem EgressKept.trans {i : StreamId} {s t u : State} (h : EgressKept i s t) (k : EgressKept i t u) :
    EgressKept i s u where
  etx := k.etx.trans h.etx
  tp := k.tp.trans h.tp
  others j hj := (k.others j hj).trans (h.others j hj)

theorem modEgress_egressKept (i : StreamId) (f : EgressQueue → EgressQueue) (s : State)
    (hf : ∀ q, (f q).tp = q.tp) : EgressKept i s (s.modEgress i f) where
  etx := rfl
  tp := by rw [modEgress_get, hf]
  others j hj := modEgress_get_other s i j f hj

theorem modStream_egressKept (i : StreamId) (f : Stream → Stream) (s : State) :
    EgressKept i s (s.modStream i f) where
  etx := rfl
  tp := rfl
  others _ _ := rfl

theorem settleEgress_egressKept (i : StreamId) (s : State) : EgressKept i s (settleEgress i s) := by
  unfold settleEgress
  dsimp only
  split
  · exact modEgress_egressKept i _ s fun _ => rfl
  · exact modEgress_egressKept i _ s fun _ => rfl

theorem assemble_egressKept (i : StreamId) (s : State) : EgressKept i s (assemble i s) := by
  unfold assemble
  dsimp only
  split
  · exact .of_relay rfl
  · split
    · exact .of_relay rfl
    · refine .trans ?_ (settleEgress_egressKept i _)
      refine .trans ?_ (modEgress_egressKept i _ _ fun _ => rfl)
      refine .trans (.of_relay ?_) (modStream_egressKept i _ _)
      refine (access_changes (G := [.evu, .pcie, .faults, .fetch, .free]) ?_ rfl).relay_eq rfl
      exact .ite (logUeIn_changes (bumpFree_changes .refl rfl) rfl) .refl

/-- The slice at the head of the queue leaves it for the ETX queue, and its length leaves the full bucket (R433). -/
def sliceGranted (i : StreamId) (tag : Nat) (cls : ReqClass) (c : RelayCfg) (x : Slice) (rest : List Slice)
    (s : State) : State :=
  let l := sliceLen s x * 256
  let r := s.relay
  State.modEgress { bumpFree s with relay := { r with
      etx := r.etx ++ [wireFrame c x (Config.txOffset s.free)]
      vc := if cls = ReqClass.committed then tag else r.vc
      ve := if cls = ReqClass.committed then r.ve else tag } } i fun q => { q with
    frames := rest, headFc := none, headFe := none
    tc := if cls = ReqClass.committed then q.tc - l else q.tc
    tp := q.tp - l
    fcPrev := if cls = ReqClass.committed then tag else q.fcPrev
    fePrev := if cls = ReqClass.committed then q.fePrev else tag
    delay := maxOpt q.delay (s.fetch.fclk - x.entered) }

theorem releaseSlice_eq {i : StreamId} {tag : Nat} {cls : ReqClass} {s : State} {c : RelayCfg} {x : Slice}
    {rest : List Slice} (hc : s.relay.cfg = some c) (hq : s.relay.egress[i].frames = x :: rest) :
    releaseSlice i tag cls s =
      if x.last then
        raise 270 ((settleEgress i (sliceGranted i tag cls c x rest s)).modStream i
          fun y => { y with sending := none, sent := y.sent + 1 })
      else assemble i (settleEgress i (sliceGranted i tag cls c x rest s)) := by
  simp only [releaseSlice, hc, hq]
  rfl

theorem releaseSlice_egressKept {i : StreamId} {tag : Nat} {cls : ReqClass} {s : State} {c : RelayCfg} {x : Slice}
    {rest : List Slice} (hc : s.relay.cfg = some c) (hq : s.relay.egress[i].frames = x :: rest) :
    EgressKept i (sliceGranted i tag cls c x rest s) (releaseSlice i tag cls s) := by
  rw [releaseSlice_eq hc hq]
  refine .trans (settleEgress_egressKept i _) ?_
  split
  · exact (modStream_egressKept i _ _).trans
      (.of_relay ((raise_changes (G := [.evu, .pcie]) .refl rfl).relay_eq rfl))
  · exact assemble_egressKept i _

theorem settleEgress_stream (i : StreamId) (s : State) : (settleEgress i s).relay.stream = s.relay.stream := by
  unfold settleEgress
  dsimp only
  split <;> rfl

/-- The last slice of a frame ends its sending and counts it. -/
theorem releaseSlice_last {i : StreamId} {tag : Nat} {cls : ReqClass} {s : State} {c : RelayCfg} {x : Slice}
    {rest : List Slice} (hc : s.relay.cfg = some c) (hq : s.relay.egress[i].frames = x :: rest)
    (hl : x.last = true) :
    (releaseSlice i tag cls s).relay.stream[i].sending = none ∧
      (releaseSlice i tag cls s).relay.stream[i].sent = s.relay.stream[i].sent + 1 := by
  have hstream : (settleEgress i (sliceGranted i tag cls c x rest s)).relay.stream = s.relay.stream :=
    (settleEgress_stream i _).trans rfl
  have hrelay : ∀ t, (raise 270 t).relay = t.relay := fun t =>
    (raise_changes (G := [.evu, .pcie]) .refl rfl).relay_eq rfl
  rw [releaseSlice_eq hc hq, if_pos hl, hrelay, modStream_get, hstream]
  exact ⟨rfl, rfl⟩

/-- The egress scheduler grants the slice it chose, in the committed tier before the excess one. -/
theorem exec_egressFrameRelease {s : State} (hup : s.relay.up = true) (hpd : pdOn .link s = true) {i : StreamId}
    {tag : Nat} {cls : ReqClass}
    (hbest : (cls = .committed ∧ bestEgress s .committed = some (i, tag)) ∨
      (cls = .excess ∧ bestEgress s .committed = none ∧ bestEgress s .excess = some (i, tag))) :
    exec .egressFrameRelease s = .next (releaseSlice i tag cls s) := by
  show execEgressFrameRelease s = _
  unfold execEgressFrameRelease
  rw [hup, hpd, if_neg (by decide)]
  rcases hbest with ⟨rfl, h⟩ | ⟨rfl, hnone, h⟩
  · rw [h]
  · rw [hnone, h]

theorem exec_egressFrameRelease_idle {s : State} (hc : bestEgress s .committed = none)
    (he : bestEgress s .excess = none) : exec .egressFrameRelease s = .next s := by
  show execEgressFrameRelease s = _
  unfold execEgressFrameRelease
  rw [hc, he]
  exact ite_self _

/-! ## Ingest -/

theorem modIngest_get (s : State) (g : IngestId) (f : Ingest → Ingest) :
    (s.modIngest g f).relay.ingest[g] = f s.relay.ingest[g] := State.modIngest_same s g f

theorem modIngest_get_other (s : State) (g j : IngestId) (f : Ingest → Ingest) (hj : j ≠ g) :
    (s.modIngest g f).relay.ingest[j] = s.relay.ingest[j] := State.modIngest_other s g f j hj

theorem raise_relay (n : Nat) (s : State) : (raise n s).relay = s.relay :=
  (raise_changes (G := [.evu, .pcie]) .refl rfl).relay_eq rfl

theorem raise_ingest (n : Nat) (s : State) (g : IngestId) : (raise n s).relay.ingest[g] = s.relay.ingest[g] := by
  rw [raise_relay]

theorem countLost_get (g : IngestId) (n : Word) (s : State) : (countLost g n s).relay.ingest[g] =
    { s.relay.ingest[g] with lost := s.relay.ingest[g].lost + n, lossRun := true } := by
  unfold countLost
  dsimp only
  split
  · exact modIngest_get s g _
  · exact (raise_ingest 268 _ g).trans (modIngest_get s g _)

theorem startFrame_get (g : IngestId) (x : RxSlice) (s : State) :
    (startFrame g x s).relay.ingest[g].lost = s.relay.ingest[g].lost ∧
      (startFrame g x s).relay.ingest[g].expect = s.relay.ingest[g].expect := by
  unfold startFrame
  rw [modIngest_get]
  exact ⟨rfl, rfl⟩

theorem writePixels_relay (g : IngestId) (c : IngestCfg) (x : RxSlice) (s : State) :
    (writePixels g c x s).relay = s.relay :=
  (writePixels_changes (G := [.mem, .memc, .fetch]) .refl rfl).relay_eq rfl

theorem frameComplete_get (g : IngestId) (c : IngestCfg) (s : State) :
    (frameComplete g c s).relay.ingest[g].lost = s.relay.ingest[g].lost ∧
      (frameComplete g c s).relay.ingest[g].expect = s.relay.ingest[g].expect := by
  unfold frameComplete
  split
  · exact ⟨rfl, rfl⟩
  · dsimp only
    rw [(ingestFeed_changes (G := [.evu, .pcie, .faults, .fetch, .cal])
      (.ite (raise_changes .refl rfl) .refl) rfl).relay_eq rfl, modIngest_get]
    exact ⟨rfl, rfl⟩

/-- A slice of the session in hand that comes later than expected, of whatever kind: what lies between is lost. -/
theorem acceptSlice_later {g : IngestId} {c : IngestCfg} {x : RxSlice} {s : State}
    (hs : s.relay.ingest[g].session = some x.session) (hne : x.seq ≠ s.relay.ingest[g].expect)
    (hd : (x.seq - s.relay.ingest[g].expect).toNat < 0x80000000) :
    (acceptSlice g c x s).relay.ingest[g].lost =
        s.relay.ingest[g].lost + (x.seq - s.relay.ingest[g].expect) ∧
      (acceptSlice g c x s).relay.ingest[g].expect = x.seq + 1 := by
  have hd0 : x.seq - s.relay.ingest[g].expect ≠ 0 := fun h => hne (sub_eq_zero.mp h)
  have hdone : ∀ t : State,
      (if x.last then frameComplete g c t else t).relay.ingest[g].lost = t.relay.ingest[g].lost ∧
        (if x.last then frameComplete g c t else t).relay.ingest[g].expect = t.relay.ingest[g].expect := by
    intro t
    split
    · exact frameComplete_get g c t
    · exact ⟨rfl, rfl⟩
  unfold acceptSlice
  dsimp only
  rw [if_neg (fun h => h hs), if_neg (by omega), if_neg hd0]
  obtain ⟨u, hu⟩ : ∃ u, u = ((countLost g (x.seq - s.relay.ingest[g].expect) s).modIngest g
      fun y => { y with filling := false }).modIngest g
        fun y => { y with expect := x.seq + 1, lastSeq := x.seq, lossRun := false } := ⟨_, rfl⟩
  have hlost : u.relay.ingest[g].lost = s.relay.ingest[g].lost + (x.seq - s.relay.ingest[g].expect) := by
    rw [hu, modIngest_get, modIngest_get, countLost_get]
  have hexp : u.relay.ingest[g].expect = x.seq + 1 := by rw [hu, modIngest_get]
  rw [← hu]
  split
  · obtain ⟨hl, he⟩ := startFrame_get g x u
    rw [(hdone _).1, (hdone _).2, writePixels_relay, hl, he]
    exact ⟨hlost, hexp⟩
  · split
    · exact ⟨hlost, hexp⟩
    · rw [(hdone _).1, (hdone _).2, writePixels_relay]
      exact ⟨hlost, hexp⟩

/-- A slice that comes earlier than expected is dropped. -/
theorem acceptSlice_earlier {g : IngestId} {c : IngestCfg} {x : RxSlice} {s : State}
    (hs : s.relay.ingest[g].session = some x.session)
    (hd : 0x80000000 ≤ (x.seq - s.relay.ingest[g].expect).toNat) : acceptSlice g c x s = s := by
  unfold acceptSlice
  dsimp only
  rw [if_neg (fun h => h hs), if_pos hd]

/-- The expected slice, neither the first nor the last of its frame, goes into the filling buffer. -/
theorem acceptSlice_expected {g : IngestId} {c : IngestCfg} {x : RxSlice} {s : State}
    (hs : s.relay.ingest[g].session = some x.session) (hseq : x.seq = s.relay.ingest[g].expect)
    (hfirst : x.first = false) (hlast : x.last = false) (hfill : s.relay.ingest[g].filling = true)
    (hframe : s.relay.ingest[g].curFrame = x.frame) :
    acceptSlice g c x s = writePixels g c x
      (s.modIngest g fun y => { y with expect := x.seq + 1, lastSeq := x.seq, lossRun := false }) := by
  have hd : x.seq - s.relay.ingest[g].expect = 0 := by rw [hseq, sub_self]
  unfold acceptSlice
  dsimp only
  rw [if_neg (fun h => h hs), hd, if_neg (by decide), if_pos rfl, if_neg (by rw [hfirst]; decide), if_neg, if_neg]
  · rw [hlast]; decide
  · rw [modIngest_get]
    show ¬(!s.relay.ingest[g].filling || decide (x.frame ≠ s.relay.ingest[g].curFrame)) = true
    rw [hfill, hframe]
    simp

/-- The bytes of a slice's pixels as they stand in memory: XRGB8888 with the padding byte 0. -/
theorem writePixels_mem {g : IngestId} {c : IngestCfg} {x : RxSlice} {s : State} {b : Fin 3}
    {l : List (List Byte)} (hb : s.relay.ingest[g].buf = some b) (hl : x.pixels = some l) :
    (writePixels g c x s).mem =
      (s.write (ingestBase s c b + x.line * roundUp (4 * c.w) 32 + 4 * x.x) (l.flatMap fun p => p ++ [0])).mem := by
  unfold writePixels
  rw [hb, hl]
  exact (access_changes (G := [.fetch]) .refl rfl).mem_eq rfl

theorem ingestBase_congr {s t : State} (h : t.memc = s.memc) (c : IngestCfg) (k : Fin 3) :
    ingestBase t c k = ingestBase s c k := by
  unfold ingestBase deviceBase usable
  rw [h]

theorem wakeRequest_domains (x : WakeSource) (s : State) : (wakeRequest x s).power.domains = s.power.domains := by
  unfold wakeRequest
  split <;> rfl

theorem wakeRequest_memAvail (x : WakeSource) (s : State) : memAvail (wakeRequest x s) = memAvail s := by
  have hmemc : (wakeRequest x s).memc = s.memc := (wakeRequest_changes (G := [.power]) .refl rfl).memc_eq rfl
  unfold memAvail pdOn
  rw [wakeRequest_domains, hmemc]

/-- A frame of the port's, with the link up, as the row takes it: what R444 asks of it before its slice counts. -/
structure FrameTaken (s : State) (c : RelayCfg) (f : RxFrame) (x : RxSlice) (g : IngestId) (k : IngestCfg) :
    Prop where
  cfg : s.relay.cfg = some c
  en : c.en = true
  up : s.relay.up = true
  pd : pdOn .link s = true
  room : f.queueFull = false
  fcs : f.fcsOk = true
  body : ∃ b, frameBody c f.bytes = some b ∧ x = readSlice f.bytes b
  stream : ingestOf s x = some (g, k)

theorem FrameTaken.exec_invalid {s : State} {c : RelayCfg} {f : RxFrame} {x : RxSlice} {g : IngestId}
    {k : IngestCfg} (h : FrameTaken s c f x g k) (hv : x.valid k = false) :
    exec (.ethernetFrameReceived f) s = .next (countLost g 1 s) := by
  obtain ⟨hc, hen, hup, hpd, hroom, hfcs, ⟨b, hb, rfl⟩, hg⟩ := h
  show execEthernetFrameReceived f s = _
  simp [execEthernetFrameReceived, hc, hen, hup, hpd, hroom, hfcs, hb, hg, hv]

/-- The state in which a valid slice is accepted: the wake-up request and the frame marker have been taken. -/
theorem FrameTaken.exec_valid {s : State} {c : RelayCfg} {f : RxFrame} {x : RxSlice} {g : IngestId}
    {k : IngestCfg} (h : FrameTaken s c f x g k) (hv : x.valid k = true) (hm : memAvail s = true) :
    ∃ u, Changes [.power, .head] s u ∧
      exec (.ethernetFrameReceived f) s = .next (acceptSlice g k x u) := by
  obtain ⟨hc, hen, hup, hpd, hroom, hfcs, ⟨b, hb, rfl⟩, hg⟩ := h
  have hm' : memAvail (wakeRequest .relayLink s) = true := (wakeRequest_memAvail _ s).trans hm
  refine ⟨_, ?_, show execEthernetFrameReceived f s = _ by
    simp only [execEthernetFrameReceived, hc, hen, hup, hpd, hroom, hfcs, hb, hg, hv, hm', Bool.not_true,
      Bool.or_self, Bool.false_eq_true, if_false]
    exact rfl⟩
  exact .ite (marker_changes (wakeRequest_changes .refl rfl) rfl) (wakeRequest_changes .refl rfl)

/-- A frame that finds the ERX queue full. -/
theorem exec_frame_dropped {s : State} {c : RelayCfg} {f : RxFrame} (hc : s.relay.cfg = some c) (hen : c.en = true)
    (hup : s.relay.up = true) (hpd : pdOn .link s = true) (hfull : f.queueFull = true) :
    exec (.ethernetFrameReceived f) s = .next (raise 271
      { s with relay := { s.relay with rxDrop := true, rxDropCount := s.relay.rxDropCount + 1 } }) := by
  show execEthernetFrameReceived f s = _
  simp [execEthernetFrameReceived, hc, hen, hup, hpd, hfull]

theorem exec_frame_badFcs {s : State} {f : RxFrame} (hroom : f.queueFull = false) (hfcs : f.fcsOk = false) :
    exec (.ethernetFrameReceived f) s = .next s := by
  show execEthernetFrameReceived f s = _
  unfold execEthernetFrameReceived
  cases s.relay.cfg with
  | none => rfl
  | some c => simp [hroom, hfcs]

theorem exec_ingestStale {s : State} {g : IngestId} (hen : s.relay.ingest[g].enabled = true)
    (hst : s.relay.ingest[g].stale = false) : exec (.ingestStale g) s =
      .next (ingestCut g (raise 267 (s.modIngest g fun x => { x with stale := true }))) := by
  show execIngestStale g s = _
  unfold execIngestStale
  dsimp only
  rw [hen, hst]
  rfl

theorem exec_ingestStale_idle {s : State} {g : IngestId}
    (h : s.relay.ingest[g].enabled = false ∨ s.relay.ingest[g].stale = true) :
    exec (.ingestStale g) s = .next s := by
  show execIngestStale g s = _
  unfold execIngestStale
  dsimp only
  rcases h with h | h
  · rw [h]
    rfl
  · rw [h, Bool.or_true]
    rfl

/-- Settles O45: the egress scheduler grants the chosen slice, and a received frame is taken as R444 and R445 say. -/
theorem relayCarriesFrames : Obligations.RelayCarriesFrames := by
  unfold Obligations.RelayCarriesFrames
  refine ⟨fun s c hup hpd hc => ⟨exec_egressFrameRelease_idle, fun i tag cls x l hq hbest => ?_,
    fun hen f => ⟨fun hfull => ?_, exec_frame_badFcs, fun body g k x hroom hfcs hbody hx hg => ?_⟩⟩,
    fun s g => ⟨fun hen hst => ?_, exec_ingestStale_idle⟩⟩
  · have hkept : EgressKept i (sliceGranted i tag cls c x l s) (releaseSlice i tag cls s) :=
      releaseSlice_egressKept hc hq
    refine ⟨_, exec_egressFrameRelease hup hpd hbest, hkept.etx.trans rfl, ?_, ?_, fun j hj => ?_,
      releaseSlice_last hc hq⟩
    · rw [hkept.tp]
      exact congrArg EgressQueue.tp (modEgress_get _ i _)
    · exact (releaseSlice_changes (G := [.evu, .pcie, .faults, .fetch, .relay, .free]) .refl rfl).mem_eq rfl
    · rw [hkept.others j hj]
      exact modEgress_get_other _ i j _ hj
  · refine ⟨_, exec_frame_dropped hc hen hup hpd hfull, raise_relay 271 _, fun hon => ?_, ?_⟩
    · exact raise_edged { s with relay := { s.relay with rxDrop := true, rxDropCount := s.relay.rxDropCount + 1 } }
        271 hon
    · exact (raise_changes (G := [.evu, .pcie]) .refl rfl).mem_eq rfl
  · have taken : FrameTaken s c f x g k := ⟨hc, hen, hup, hpd, hroom, hfcs, ⟨body, hbody, hx⟩, hg⟩
    refine ⟨fun hv => ⟨_, taken.exec_invalid hv, ?_, ?_⟩, fun hv hm hs => ?_⟩
    · rw [countLost_get]
    · exact (countLost_changes (G := [.evu, .pcie, .relay]) .refl rfl).mem_eq rfl
    obtain ⟨u, hu, hexec⟩ := taken.exec_valid hv hm
    have hr : u.relay = s.relay := hu.relay_eq rfl
    have hmem : u.mem = s.mem := hu.mem_eq rfl
    have hmemc : u.memc = s.memc := hu.memc_eq rfl
    rw [← hr] at hs ⊢
    refine ⟨fun b l hseq hfirst hlast hfill hframe hb hl => ⟨_, hexec, ?_⟩,
      fun hne hd => ⟨_, hexec, acceptSlice_later hs hne hd⟩,
      fun hd => ⟨_, hexec, ?_⟩⟩
    · rw [acceptSlice_expected hs hseq hfirst hlast hfill hframe]
      obtain ⟨v, hv'⟩ : ∃ v, v = u.modIngest g fun y =>
        { y with expect := x.seq + 1, lastSeq := x.seq, lossRun := false } := ⟨_, rfl⟩
      have hbase : ingestBase v k b = ingestBase s k b := by
        rw [hv']; exact ingestBase_congr hmemc k b
      have hvm : v.mem = s.mem := by rw [hv']; exact hmem
      have hvb : v.relay.ingest[g].buf = some b := by rw [hv', modIngest_get]; exact hb
      have hstore := writePixels_mem (c := k) hvb hl
      rw [hbase] at hstore
      rw [← hv', writePixels_relay]
      refine ⟨?_, ?_, fun hwf => ?_, ?_⟩
      · rw [hv', modIngest_get]
      · rw [hv', modIngest_get]
      · rw [hstore]
        exact State.read_write_same v (hvm ▸ hwf) _ _
      · intro a ha
        rw [hstore, ← hvm]
        exact State.write_other v _ _ a ha
    · rw [acceptSlice_earlier hs hd]
      exact ⟨rfl, hmem⟩
  · have hr : ∀ t, (ingestCut g (raise 267 t)).relay = t.relay := fun t =>
      (ingestCut_changes (G := [.win, .port, .evu, .pcie, .fetch, .cal]) (raise_changes .refl rfl) rfl).relay_eq rfl
    refine ⟨_, exec_ingestStale hen hst, ?_, fun j hj => ?_, ?_⟩
    · rw [hr, modIngest_get]
    · rw [hr]
      exact modIngest_get_other s g j _ hj
    · exact (ingestCut_changes (G := [.win, .port, .evu, .pcie, .fetch, .cal, .relay]) (raise_changes
        (modIngest_changes .refl rfl) rfl) rfl).mem_eq rfl

end Sys2Proof.Machine
end

section
/-! QUEUE_CONFIG, POLICER_CONFIG and the fetch scheduler (chapter 10). -/
namespace Sys2Proof.Machine

theorem modQueue_get (s : State) (q : QueueId) (f : Queue → Queue) :
    (s.modQueue q f).fetch.queue[q] = f s.fetch.queue[q] := State.modQueue_same s q f

theorem modQueue_get_other {s : State} {q j : QueueId} {f : Queue → Queue} (hj : j ≠ q) :
    (s.modQueue q f).fetch.queue[j] = s.fetch.queue[j] := State.modQueue_other s q f j hj

/-- Of a list of steps of which each changes its own entry only, what the one of an entry does to it is what becomes
    of
it. -/
theorem forEach_own {ι β : Type} (get : State → ι → β) (R : β → β → Prop) {f : ι → State → State} {l : List ι} {i : ι}
    (hl : l.Nodup) (hi : i ∈ l) (hother : ∀ j t, i ≠ j → get (f j t) i = get t i)
    (hown : ∀ t, R (get t i) (get (f i t) i)) (s : State) : R (get s i) (get (forEach l f s) i) := by
  induction l generalizing s with
  | nil => cases hi
  | cons a l ih =>
    obtain ⟨ha, hl⟩ := List.nodup_cons.mp hl
    have hcons : forEach (a :: l) f s = forEach l f (f a s) := rfl
    rw [hcons]
    rcases List.mem_cons.mp hi with rfl | hil
    · have hkept : get (forEach l f (f i s)) i = get (f i s) i :=
        forEach_keeps_mem (P := fun t => get t i = get (f i s) i)
          (fun j hj t ht => (hother j t (fun e => ha (e ▸ hj))).trans ht) rfl
      rw [hkept]
      exact hown s
    · have h := ih hl hil (f a s)
      rwa [hother a s (fun e => ha (e ▸ hil))] at h

/-! ## The upkeep of a queue -/

/-- Two queues have the same policer and the same tokens. -/
structure PolicedAlike (p q : Queue) : Prop where
  pol : q.pol = p.pol
  polNext : q.polNext = p.polNext
  tc : q.tc = p.tc
  tp : q.tp = p.tp

theorem PolicedAlike.refl {p : Queue} : PolicedAlike p p := ⟨rfl, rfl, rfl, rfl⟩

theorem PolicedAlike.trans {p q r : Queue} (h : PolicedAlike p q) (k : PolicedAlike q r) : PolicedAlike p r :=
  ⟨k.pol.trans h.pol, k.polNext.trans h.polNext, k.tc.trans h.tc, k.tp.trans h.tp⟩

theorem police_alike (isS : Bool) (fclk : Nat) (q : Queue) : PolicedAlike q (q.police isS fclk) := by
  unfold Queue.police
  split
  · exact ⟨rfl, rfl, rfl, rfl⟩
  · exact .refl

theorem fill_alike (isS : Bool) (fclk : Nat) (l : List Request) (q : Queue) :
    PolicedAlike q (Queue.fill isS fclk l q) := by
  induction l generalizing q with
  | nil => exact (police_alike isS fclk q).trans ⟨rfl, rfl, rfl, rfl⟩
  | cons r l ih =>
    unfold Queue.fill
    dsimp only
    split
    · refine (police_alike isS fclk q).trans (.trans ?_ (ih _))
      exact ⟨rfl, rfl, rfl, rfl⟩
    · refine (police_alike isS fclk q).trans ((ih _).trans ?_)
      exact ⟨rfl, rfl, rfl, rfl⟩

theorem tagHead_alike (vc ve : Nat) (l : List Request) (q : Queue) : PolicedAlike q (q.tagHead vc ve l) := by
  cases l with
  | nil => exact ⟨rfl, rfl, rfl, rfl⟩
  | cons r l => exact ⟨rfl, rfl, rfl, rfl⟩

theorem settle_alike (n : QueueId) (s : State) : PolicedAlike s.fetch.queue[n] (settle n s).fetch.queue[n] := by
  unfold settle
  dsimp only
  rw [modQueue_get]
  exact (fill_alike _ _ _ _).trans (tagHead_alike _ _ _ _)

theorem settle_other {n q : QueueId} (h : q ≠ n) (s : State) : (settle n s).fetch.queue[q] = s.fetch.queue[q] :=
  modQueue_get_other h

/-! ## QUEUE_CONFIG -/

theorem setWeight_queue (a : Cmd) (s : State) (q : QueueId) : (setWeight a s).fetch.queue[q] =
    if argQueue a = some (.fetch q) then { s.fetch.queue[q] with
      pol := { s.fetch.queue[q].pol with weight := fld a.a1 0 16 }
      polNext := s.fetch.queue[q].polNext.map fun p => { p with weight := fld a.a1 0 16 } }
    else s.fetch.queue[q] := by
  unfold setWeight
  dsimp only
  cases argQueue a with
  | none => rfl
  | some x =>
    cases x with
    | egress i => rfl
    | fetch n =>
      by_cases hn : q = n
      · subst hn
        rw [if_pos rfl]
        exact modQueue_get s q _
      · rw [if_neg (fun h => hn (AnyQueue.fetch.inj (Option.some.inj h)).symm)]
        exact modQueue_get_other hn

theorem setWeight_egress (a : Cmd) (s : State) (i : StreamId) : (setWeight a s).relay.egress[i] =
    if argQueue a = some (.egress i) then { s.relay.egress[i] with
      pol := { s.relay.egress[i].pol with weight := fld a.a1 0 16 } }
    else s.relay.egress[i] := by
  unfold setWeight
  dsimp only
  cases argQueue a with
  | none => rfl
  | some x =>
    cases x with
    | fetch n => rfl
    | egress j =>
      by_cases hj : i = j
      · subst hj
        rw [if_pos rfl]
        exact modEgress_get s i _
      · rw [if_neg (fun h => hj (AnyQueue.egress.inj (Option.some.inj h)).symm)]
        exact modEgress_get_other s j i _ hj

theorem exec_queueConfig_passes {s : State} {w : WinId} {a : Cmd} (h : ready s w 0 = true)
    (hb : queueBad a = false) :
    exec (.queueConfig w a) s = .next (finishGen w 0 0 (setWeight a (taken s w 0x38 a 0))) := by
  have hk : opQueueConfig.check w 0 a (taken s w 0x38 a 0) = none := by
    show firstFail [(!supervisor 0, .denied), (queueBad a, .badArg)] = none
    rw [hb]
    rfl
  have hrun := run_passes (o := opQueueConfig) (rs := []) h hk rfl rfl (takenWith_nil s w 0x38 a 0 ▸ hk) rfl
  rw [takenWith_nil] at hrun
  exact congrArg Host.Outcome.next hrun

/-! ## POLICER_CONFIG -/

theorem exec_policerConfig_acts {s : State} {w : WinId} {a : Cmd} (h : ready s w 0 = true)
    (hb : policerBad a = false) :
    exec (.policerConfig w a) s = .next (actPolicerConfig w 0 a (taken s w 0x39 a 0)) := by
  have hk : opPolicerConfig.check w 0 a (taken s w 0x39 a 0) = none := by
    show firstFail [(!supervisor 0, .denied), (policerBad a, .badArg)] = none
    rw [hb]
    rfl
  have hrun := run_passes (o := opPolicerConfig) (rs := []) h hk rfl rfl (takenWith_nil s w 0x39 a 0 ▸ hk) rfl
  rw [takenWith_nil] at hrun
  exact congrArg Host.Outcome.next hrun

theorem reject_supervisor {s : State} {w : WinId} (h : winCtx s w = some 0) (reason head line : Nat) :
    reject w reason head line s = finish w .rejected (put reason 0 8 ||| put head 8 2) (put line 0 13) s := by
  unfold reject
  rw [h]
  rfl

theorem setPolicer_queue (n : QueueId) (p : Policer) (s : State) :
    (setPolicer n p s).fetch.queue[n].pol = p ∧
      (setPolicer n p s).fetch.queue[n].tc = p.cbs * 64 * 256 ∧
      (setPolicer n p s).fetch.queue[n].tp = p.pbs * 64 * 256 := by
  unfold setPolicer
  dsimp only
  obtain ⟨u, hu⟩ : ∃ u, u = s.modQueue n fun q =>
    { q with
      pol := p, polNext := none, tc := p.cbs * 64 * 256, tp := p.pbs * 64 * 256
      ownC := p.cbs * 64 * 256, ownP := p.pbs * 64 * 256
      ds := if sealedQueue s n then releaseOffset p s.memc.deliverable else q.ds } := ⟨_, rfl⟩
  have hsettled : PolicedAlike u.fetch.queue[n] (settle n u).fetch.queue[n] := settle_alike n u
  rw [← hu, hsettled.pol, hsettled.tc, hsettled.tp, hu, modQueue_get]
  exact ⟨rfl, rfl, rfl⟩

/-- The new policer of a fetch queue: held for the boundary on a sealed context's queue of a started head. -/
theorem takePolicer_queue {a : Cmd} {q : QueueId} (ha : argQueue a = some (.fetch q)) (s : State) :
    (takePolicer a s).fetch = (if sealedQueue s q && started s (queueHead q) then
      s.modQueue q fun x => { x with polNext := some (argPolicer a s.fetch.queue[q].pol.weight) }
    else setPolicer q (argPolicer a s.fetch.queue[q].pol.weight) s).fetch := by
  simp only [takePolicer, ha]
  cases queueCtx q with
  | none => rfl
  | some c =>
    dsimp only
    generalize (if sealedQueue s q && started s (queueHead q) then
      s.modQueue q fun x => { x with polNext := some (argPolicer a s.fetch.queue[q].pol.weight) }
      else setPolicer q (argPolicer a s.fetch.queue[q].pol.weight) s) = u
    exact (Changes.ite (G := [.ctx]) (s₀ := u) .refl (bumpCtx_changes .refl rfl)).fetch_eq rfl

theorem takePolicer_now {a : Cmd} {q : QueueId} {s : State} (ha : argQueue a = some (.fetch q))
    (h : (sealedQueue s q && started s (queueHead q)) = false) :
    (takePolicer a s).fetch = (setPolicer q (argPolicer a s.fetch.queue[q].pol.weight) s).fetch := by
  rw [takePolicer_queue ha, h]
  rfl

theorem takePolicer_later {a : Cmd} {q : QueueId} {s : State} (ha : argQueue a = some (.fetch q))
    (h : (sealedQueue s q && started s (queueHead q)) = true) : (takePolicer a s).fetch =
      (s.modQueue q fun x => { x with polNext := some (argPolicer a s.fetch.queue[q].pol.weight) }).fetch := by
  rw [takePolicer_queue ha, h]
  rfl

theorem settleEgress_pol (i : StreamId) (s : State) :
    (settleEgress i s).relay.egress[i].pol = s.relay.egress[i].pol := by
  unfold settleEgress
  dsimp only
  split
  · exact (congrArg EgressQueue.pol (modEgress_get s i _)).trans rfl
  · exact (congrArg EgressQueue.pol (modEgress_get s i _)).trans rfl

theorem takePolicer_egress {a : Cmd} {i : StreamId} (ha : argQueue a = some (.egress i)) (s : State) :
    (takePolicer a s).relay.egress[i].pol = argPolicer a s.relay.egress[i].pol.weight := by
  simp only [takePolicer, ha]
  rw [settleEgress_pol, modEgress_get]

/-! ## TOKEN_CREDIT -/

/-- What a µs brings to a pair of buckets of a fetch queue (R219). -/
def Credited (p q : Queue) : Prop :=
  q.tc = min (p.pol.cbs * 64 * 256) (p.tc + p.pol.cir) ∧ q.tp = min (p.pol.pbs * 64 * 256) (p.tp + p.pol.pir)

/-- What a µs brings to a pair of buckets of an egress queue (R433). -/
def EgressCredited (p q : EgressQueue) : Prop :=
  q.tc = min (p.pol.cbs * 64 * 256) (p.tc + p.pol.cir) ∧ q.tp = min (p.pol.pbs * 64 * 256) (p.tp + p.pol.pir)

theorem creditQueue_same (n : QueueId) (s : State) :
    Credited s.fetch.queue[n] (creditQueue n s).fetch.queue[n] := by
  unfold creditQueue
  obtain ⟨u, hu⟩ : ∃ u, u = s.modQueue n fun q =>
    let (tc, tp) := credit q.pol q.tc q.tp
    let (oc, op) := credit q.pol q.ownC q.ownP
    { q with tc := tc, tp := tp, ownC := oc, ownP := op } := ⟨_, rfl⟩
  have hsettled : PolicedAlike u.fetch.queue[n] (settle n u).fetch.queue[n] := settle_alike n u
  rw [← hu, Credited, hsettled.tc, hsettled.tp, hu, modQueue_get]
  exact ⟨rfl, rfl⟩

theorem creditQueue_other {n q : QueueId} (h : q ≠ n) (s : State) :
    (creditQueue n s).fetch.queue[q] = s.fetch.queue[q] :=
  (settle_other h _).trans (modQueue_get_other h)

theorem drain_egress (r : Relay) : r.drain.egress = r.egress := by
  unfold Relay.drain
  split <;> rfl

/-- FCLK moves on, the channels take what they hold, and the ETX queue sends. -/
def fclkTick (s : State) : State :=
  { s with
    fetch := { s.fetch with
      fclk := s.fetch.fclk + 500, chan := Vector.replicate 2 0, chanData := Vector.replicate 2 0 }
    relay := s.relay.drain }

/-- A µs of credit to an egress queue. -/
def creditEgress (i : StreamId) (s : State) : State :=
  s.modEgress i fun q =>
    let (tc, tp) := credit q.pol q.tc q.tp
    { q with tc := tc, tp := tp }

theorem exec_tokenCredit {s : State} (h : fabricOn s = true) : exec .tokenCredit s =
    .next (forEach (List.finRange 16) creditEgress (forEach (List.finRange 136) creditQueue (fclkTick s))) := by
  show execTokenCredit s = _
  unfold execTokenCredit
  rw [h]
  rfl

theorem creditEgresses_fetch (s : State) : (forEach (List.finRange 16) creditEgress s).fetch = s.fetch :=
  (Changes.forEach (G := [.relay]) .refl fun _ _ h => modEgress_changes h rfl).fetch_eq rfl

theorem creditEgress_same (i : StreamId) (s : State) :
    EgressCredited s.relay.egress[i] (creditEgress i s).relay.egress[i] := by
  unfold creditEgress
  rw [modEgress_get]
  exact ⟨rfl, rfl⟩

theorem creditEgresses_egress {i : StreamId} {l : List StreamId} (hl : l.Nodup) (hi : i ∈ l) (s : State) :
    EgressCredited s.relay.egress[i] (forEach l creditEgress s).relay.egress[i] :=
  forEach_own (fun s i => s.relay.egress[i]) EgressCredited (f := creditEgress) hl hi
    (fun j t hj => modEgress_get_other t j i _ hj) (creditEgress_same i) s

theorem creditQueues_queue {q : QueueId} {l : List QueueId} (hl : l.Nodup) (hq : q ∈ l) (s : State) :
    Credited s.fetch.queue[q] (forEach l creditQueue s).fetch.queue[q] :=
  forEach_own (fun s q => s.fetch.queue[q]) Credited (f := creditQueue) hl hq
    (fun _ t hj => creditQueue_other hj t) (creditQueue_same q) s

theorem creditQueues_relay (s : State) : (forEach (List.finRange 136) creditQueue s).relay = s.relay :=
  (Changes.forEach (G := [.fetch]) .refl fun _ _ h => creditQueue_changes h rfl).relay_eq rfl

theorem creditQueue_fclk (n : QueueId) (s : State) : (creditQueue n s).fetch.fclk = s.fetch.fclk := rfl

theorem creditQueues_fclk (l : List QueueId) (s : State) :
    (forEach l creditQueue s).fetch.fclk = s.fetch.fclk :=
  forEach_keeps_mem (P := fun t => t.fetch.fclk = s.fetch.fclk)
    (fun n _ t ht => (creditQueue_fclk n t).trans ht) rfl

theorem tokenCredit_result {s : State} (h : fabricOn s = true) :
    ∃ t, exec .tokenCredit s = .next t ∧ t.fetch.fclk = s.fetch.fclk + 500 ∧ t.mem = s.mem ∧
      (∀ q : QueueId, Credited s.fetch.queue[q] t.fetch.queue[q]) ∧
      ∀ i : StreamId, EgressCredited s.relay.egress[i] t.relay.egress[i] := by
  refine ⟨_, exec_tokenCredit h, ?_, ?_, fun q => ?_, fun i => ?_⟩
  · rw [creditEgresses_fetch, creditQueues_fclk]
    rfl
  · exact (Changes.forEach (G := [.fetch, .relay]) (s₀ := s)
      (.forEach (.set_fetch_relay .refl rfl) fun _ _ k => creditQueue_changes k rfl)
      fun _ _ k => modEgress_changes k rfl).mem_eq rfl
  · rw [creditEgresses_fetch]
    obtain ⟨l, hl⟩ : ∃ l : List QueueId, l = List.finRange 136 := ⟨_, rfl⟩
    rw [← hl]
    exact creditQueues_queue (hl ▸ List.nodup_finRange 136) (hl ▸ List.mem_finRange q) (fclkTick s)
  · have hegress : (forEach (List.finRange 136) creditQueue (fclkTick s)).relay.egress = s.relay.egress := by
      rw [creditQueues_relay]
      exact drain_egress s.relay
    obtain ⟨l, hl⟩ : ∃ l : List StreamId, l = List.finRange 16 := ⟨_, rfl⟩
    rw [← hegress, ← hl]
    exact creditEgresses_egress (hl ▸ List.nodup_finRange 16) (hl ▸ List.mem_finRange i) _

/-! ## QUEUE_SAMPLE -/

/-- The samples of a fetch queue, and the beginning of its next period. -/
def sampleQueue (n : QueueId) (s : State) : State :=
  let q := s.fetch.queue[n]
  let s := sample 0x01 n.1 (depthOf s n) s
  let s := match q.delay with | some d => sample 0x02 n.1 d s | none => s
  let s := match q.rawDelay with | some d => (if n.1 < 128 then sample 0x03 n.1 d s else s) | none => s
  s.modQueue n fun q => { q with delay := none, rawDelay := none }

/-- The sample of a channel's latency. -/
def sampleChannel (ch : Channel) (s : State) : State :=
  if s.fetch.readIn[ch] then
    let s := sample 0x10 ch.1 (Config.latency s.free).toNat (bumpFree s)
    { s with fetch := { s.fetch with readIn := s.fetch.readIn.set ch false } }
  else s

/-- The sample of an egress queue's delay. -/
def sampleEgress (i : StreamId) (s : State) : State :=
  match s.relay.egress[i].delay with
  | some d => (sample 0x18 i.1 d s).modEgress i fun q => { q with delay := none }
  | none => s

theorem exec_queueSample {s : State} (h : fabricOn s = true) : exec .queueSample s =
    .next (forEach (List.finRange 16) sampleEgress (forEach [(0 : Channel), 1] sampleChannel
      (forEach (List.finRange 136) sampleQueue s))) := by
  show execQueueSample s = _
  unfold execQueueSample
  rw [h]
  rfl

/-- The samples of a queue's delays move the monitors and their events only. -/
theorem sampleQueue_eq (n : QueueId) (s : State) : ∃ u, Changes [.evu, .pcie, .mon] s u ∧
    sampleQueue n s = u.modQueue n fun q => { q with delay := none, rawDelay := none } := by
  refine ⟨_, ?_, rfl⟩
  cases s.fetch.queue[n].delay with
  | none => cases s.fetch.queue[n].rawDelay with
    | none => exact sample_changes .refl rfl
    | some d => exact .ite (sample_changes (sample_changes .refl rfl) rfl) (sample_changes .refl rfl)
  | some e => cases s.fetch.queue[n].rawDelay with
    | none => exact sample_changes (sample_changes .refl rfl) rfl
    | some d =>
      exact .ite (sample_changes (sample_changes (sample_changes .refl rfl) rfl) rfl)
        (sample_changes (sample_changes .refl rfl) rfl)

theorem sampleQueue_fetch (n : QueueId) (s : State) : (sampleQueue n s).fetch =
    (s.modQueue n fun q => { q with delay := none, rawDelay := none }).fetch := by
  obtain ⟨u, hu, hs⟩ := sampleQueue_eq n s
  rw [hs]
  exact congrArg (fun f : Fetch => { f with
    queue := f.queue.set n { f.queue[n] with delay := none, rawDelay := none } }) (hu.fetch_eq rfl)

theorem sampleQueues_queue {q : QueueId} {l : List QueueId} (hl : l.Nodup) (hq : q ∈ l) (s : State) :
    (forEach l sampleQueue s).fetch.queue[q] = { s.fetch.queue[q] with delay := none, rawDelay := none } :=
  forEach_own (fun s q => s.fetch.queue[q]) (fun p r => r = { p with delay := none, rawDelay := none })
    (f := sampleQueue) hl hq
    (fun j t hj => by
      show (sampleQueue j t).fetch.queue[q] = _
      rw [sampleQueue_fetch]
      exact modQueue_get_other hj)
    (fun t => by
      show (sampleQueue q t).fetch.queue[q] = _
      rw [sampleQueue_fetch]
      exact modQueue_get t q _) s

theorem sampleQueue_changes {G : List Part} {s₀ s : State} {n : QueueId} (h : Changes G s₀ s)
    (hG : Part.within [.evu, .pcie, .mon, .fetch] G = true) : Changes G s₀ (sampleQueue n s) := by
  obtain ⟨u, hu, hs⟩ := sampleQueue_eq n s
  rw [hs]
  exact h.via (modQueue_changes (hu.mono rfl) rfl) hG

theorem sampleChannel_changes {G : List Part} {s₀ s : State} {ch : Channel} (h : Changes G s₀ s)
    (hG : Part.within [.evu, .pcie, .mon, .fetch, .free] G = true) : Changes G s₀ (sampleChannel ch s) := by
  refine h.via ?_ hG
  unfold sampleChannel
  exact .ite (.set_fetch (sample_changes (bumpFree_changes .refl rfl) rfl) rfl) .refl

theorem sampleChannel_queue (ch : Channel) (s : State) : (sampleChannel ch s).fetch.queue = s.fetch.queue := by
  unfold sampleChannel
  by_cases h : s.fetch.readIn[ch] = true
  · obtain ⟨u, hu⟩ : ∃ u, u = sample 0x10 ch.1 (Config.latency s.free).toNat (bumpFree s) := ⟨_, rfl⟩
    have hkept : u.fetch = s.fetch := by
      rw [hu]
      exact (sample_changes (G := [.evu, .pcie, .mon, .free]) (bumpFree_changes .refl rfl) rfl).fetch_eq rfl
    rw [if_pos h, ← hu]
    show u.fetch.queue = s.fetch.queue
    rw [hkept]
  · rw [if_neg h]

theorem sampleEgress_changes {G : List Part} {s₀ s : State} {i : StreamId} (h : Changes G s₀ s)
    (hG : Part.within [.evu, .pcie, .mon, .relay] G = true) : Changes G s₀ (sampleEgress i s) := by
  refine h.via ?_ hG
  unfold sampleEgress
  cases s.relay.egress[i].delay with
  | none => exact .refl
  | some d => exact modEgress_changes (sample_changes .refl rfl) rfl

theorem queueSample_result {s : State} (h : fabricOn s = true) :
    ∃ t, exec .queueSample s = .next t ∧ t.mem = s.mem ∧
      ∀ q : QueueId, t.fetch.queue[q] = { s.fetch.queue[q] with delay := none, rawDelay := none } := by
  refine ⟨_, exec_queueSample h, ?_, fun q => ?_⟩
  · exact (Changes.forEach (G := [.evu, .pcie, .mon, .fetch, .free, .relay]) (s₀ := s)
      (.forEach (.forEach .refl fun _ _ k => sampleQueue_changes k rfl) fun _ _ k => sampleChannel_changes k rfl)
      fun _ _ k => sampleEgress_changes k rfl).mem_eq rfl
  · have hch : ∀ u, (forEach [(0 : Channel), 1] sampleChannel u).fetch.queue = u.fetch.queue := fun u =>
      (sampleChannel_queue 1 _).trans (sampleChannel_queue 0 u)
    rw [(Changes.forEach (G := [.evu, .pcie, .mon, .relay]) .refl
      fun _ _ k => sampleEgress_changes k rfl).fetch_eq rfl, hch]
    obtain ⟨l, hl⟩ : ∃ l : List QueueId, l = List.finRange 136 := ⟨_, rfl⟩
    rw [← hl]
    exact sampleQueues_queue (hl ▸ List.nodup_finRange 136) (hl ▸ List.mem_finRange q) s

/-! ## SCHEDULER_GRANT -/

/-- A queue whose head is granted: the debit, the tags of the next head, and a read's place in the order of delivery.
    -/
def grantedQueue (tag : Nat) (cls : ReqClass) (isS : Bool) (fclk : Nat) (r : Request) (rest : List Request)
    (q : Queue) : Queue :=
  { q with
    tc := if cls = .committed then q.tc - r.len * 256 else q.tc
    tp := q.tp - r.len * 256
    fcPrev := if cls = .committed then tag else q.fcPrev
    fePrev := if cls = .committed then q.fePrev else tag
    reqs := rest, headFc := none, headFe := none
    held := if r.kind.isRead then q.held ++ [{ req := r, data := none, due := false }] else q.held
    delay := if isS then q.delay else maxOpt q.delay (fclk - r.entered)
    rawDelay := maxOpt q.rawDelay (fclk - r.entered) }

/-- The scheduler after a grant, before the queue is settled. -/
def grantedFetch (n : QueueId) (tag : Nat) (cls : ReqClass) (isS : Bool) (r : Request) (rest : List Request)
    (f : Fetch) : Fetch :=
  let vc := if cls = .committed then tag else f.vc
  let ve := if cls = .committed then f.ve else tag
  let ch := channelOf r.addr
  { f with
    vc := vc, ve := ve
    queue := (f.queue.set n (grantedQueue tag cls isS f.fclk r rest f.queue[n])).map fun q => q.keepNear vc ve
    chan := f.chan.set ch (f.chan[ch] + 1)
    chanData := if r.kind.isRead then f.chanData else f.chanData.set ch (f.chanData[ch] + r.len)
    inflight := if r.kind.isRead then f.inflight.set ch (f.inflight[ch] ++ [(n, r)]) else f.inflight
    turn := if n = 135 then r.requester else f.turn }

/-- The state in which a queue's head has been granted. -/
def granted (n : QueueId) (tag : Nat) (cls : ReqClass) (r : Request) (rest : List Request) (s : State) : State :=
  settle n { s with fetch := grantedFetch n tag cls (sealedQueue s n) r rest s.fetch }

theorem granted_changes (n : QueueId) (tag : Nat) (cls : ReqClass) (r : Request) (rest : List Request) (s : State) :
    Changes [.fetch] s (granted n tag cls r rest s) :=
  settle_changes (.set_fetch .refl rfl) rfl

section
variable {s : State} {n : QueueId} {tag : Nat} {cls : ReqClass} {r : Request} {rest : List Request}

theorem grantHead_eq (hq : s.fetch.queue[n].reqs = r :: rest) :
    grantHead n tag cls s = (granted n tag cls r rest s, some r) := by
  simp only [grantHead, hq]
  rfl

/-- The scheduler grants the queue it chose, in the committed tier before the excess one. -/
theorem schedule_grants (hm : mayGrant s = true) (hq : s.fetch.queue[n].reqs = r :: rest)
    (hbest : (cls = .committed ∧ bestQueue s .committed = some (n, tag)) ∨
      (cls = .excess ∧ bestQueue s .committed = none ∧ bestQueue s .excess = some (n, tag))) :
    schedule s = (granted n tag cls r rest s, some (n, r)) := by
  unfold schedule
  rw [hm, if_neg (by decide)]
  rcases hbest with ⟨rfl, hb⟩ | ⟨rfl, hnone, hb⟩
  · rw [hb]
    dsimp only
    rw [grantHead_eq hq]
    rfl
  · rw [hnone, hb]
    dsimp only
    rw [grantHead_eq hq]
    rfl

/-- With nothing to grant the scheduler does nothing. -/
theorem exec_schedulerGrant_idle
    (h : mayGrant s = false ∨ (bestQueue s .committed = none ∧ bestQueue s .excess = none)) :
    exec .schedulerGrant s = .next s := by
  have hs : schedule s = (s, none) := by
    unfold schedule
    rcases h with hm | ⟨hc, he⟩
    · rw [hm]
      rfl
    · rw [hc, he]
      exact ite_self _
  show execSchedulerGrant s = _
  unfold execSchedulerGrant
  rw [hs]

theorem granted_read (hr : r.kind.isRead = true) :
    (granted n tag cls r rest s).fetch.inflight[channelOf r.addr] =
        s.fetch.inflight[channelOf r.addr] ++ [(n, r)] ∧
      (granted n tag cls r rest s).fetch.vc = (if cls = .committed then tag else s.fetch.vc) ∧
      (granted n tag cls r rest s).fetch.ve = (if cls = .committed then s.fetch.ve else tag) := by
  refine ⟨?_, rfl, rfl⟩
  show (grantedFetch n tag cls (sealedQueue s n) r rest s.fetch).inflight[channelOf r.addr] = _
  simp [grantedFetch, hr]

theorem granted_tokens :
    (granted n tag cls r rest s).fetch.queue[n].tp = s.fetch.queue[n].tp - r.len * 256 ∧
      (granted n tag cls r rest s).fetch.queue[n].tc =
        (if cls = .committed then s.fetch.queue[n].tc - r.len * 256 else s.fetch.queue[n].tc) := by
  obtain ⟨u, hu⟩ : ∃ u, u = { s with fetch := grantedFetch n tag cls (sealedQueue s n) r rest s.fetch } := ⟨_, rfl⟩
  have hsettled : PolicedAlike u.fetch.queue[n] (settle n u).fetch.queue[n] := settle_alike n u
  unfold granted
  rw [← hu, hsettled.tp, hsettled.tc, hu]
  simp [grantedFetch, grantedQueue, Queue.keepNear]

theorem exec_grant_other (hs : schedule s = (granted n tag cls r rest s, some (n, r))) (hz : r.kind ≠ .zero)
    (hc : ∀ v d, r.kind ≠ .copyWrite v d) : exec .schedulerGrant s = .next (granted n tag cls r rest s) := by
  show execSchedulerGrant s = _
  unfold execSchedulerGrant
  rw [hs]
  dsimp only
  cases hk : r.kind with
  | zero => exact absurd hk hz
  | copyWrite v d => exact absurd hk (hc v d)
  | _ => rfl

theorem exec_grant_zero (hs : schedule s = (granted n tag cls r rest s, some (n, r))) (hk : r.kind = .zero) :
    exec .schedulerGrant s =
      .next (zeroed ((granted n tag cls r rest s).write r.addr (List.replicate 256 0))) := by
  show execSchedulerGrant s = _
  unfold execSchedulerGrant
  rw [hs]
  dsimp only
  rw [hk]

theorem exec_grant_copyWrite (hs : schedule s = (granted n tag cls r rest s, some (n, r))) {v : WinId}
    {d : List Byte} (hk : r.kind = .copyWrite v d) : exec .schedulerGrant s =
      if r.current s then
        .next (copyMoved v d.length (snoop r.addr d.length ((granted n tag cls r rest s).write r.addr d)))
      else .next (granted n tag cls r rest s) := by
  have hcur : r.current (granted n tag cls r rest s) = r.current s := by
    unfold Request.current
    rw [(granted_changes n tag cls r rest s).ctx_eq rfl]
  show execSchedulerGrant s = _
  unfold execSchedulerGrant
  rw [hs]
  dsimp only
  rw [hk]
  dsimp only
  rw [hcur]

end

/-- A memory that a write to another with the same bytes leaves: the bytes stand there, and no other byte changes. -/
theorem write_stores {s t u : State} {x : Nat} {d : List Byte} (hu : u.mem = s.mem) (ht : t.mem = (u.write x d).mem) :
    (Memory.wf s.mem = true → readMem t.mem x d.length = d) ∧ sameBytesOutside s t x d.length := by
  refine ⟨fun hwf => ?_, fun y hy => ?_⟩
  · rw [ht]
    exact State.read_write_same u (hu ▸ hwf) x d
  · rw [ht, ← hu]
    exact State.write_other u x d y hy

/-- Settles O46: configuration, credit, samples and grants. -/
theorem queuesAreConfiguredAndServed : Obligations.QueuesAreConfiguredAndServed := by
  unfold Obligations.QueuesAreConfiguredAndServed
  refine ⟨fun s w a h => ⟨fun hb => ?_, fun hb => ⟨fun r g l hrej => ?_, fun hrej => ?_⟩⟩, fun s hon =>
    ⟨tokenCredit_result hon, queueSample_result hon, exec_schedulerGrant_idle, fun hm q tag cls r l hq hbest => ?_⟩⟩
  · have hch : Changes [.win, .port, .evu, .pcie] (setWeight a (taken s w 0x38 a 0))
      (finishGen w 0 0 (setWeight a (taken s w 0x38 a 0))) := finishGen_changes .refl rfl
    have hset : Changes [.fetch, .relay] (taken s w 0x38 a 0) (setWeight a (taken s w 0x38 a 0)) :=
      setWeight_changes .refl rfl
    have hfetch : (taken s w 0x38 a 0).fetch = s.fetch := rfl
    have hrelay : (taken s w 0x38 a 0).relay = s.relay := rfl
    refine ⟨_, exec_queueConfig_passes h hb, answered_finishGen (op := 0x38) h (by rw [hset.win_eq rfl]),
      (hch.mem_eq rfl).trans (hset.mem_eq rfl), fun q => ?_, fun q => ?_, fun i => ?_⟩
    · rw [hch.fetch_eq rfl, setWeight_queue, hfetch]
      split <;> rfl
    · rw [hch.fetch_eq rfl, setWeight_queue, hfetch]
      split <;> exact ⟨rfl, rfl, rfl⟩
    · rw [hch.relay_eq rfl, setWeight_egress, hrelay]
      split <;> rfl
  · have hact : actPolicerConfig w 0 a (taken s w 0x39 a 0) = reject w r g l (taken s w 0x39 a 0) := by
      unfold actPolicerConfig
      rw [hrej]
    obtain ⟨-, -, hw, -⟩ := (ready_iff s w 0).mp h
    have hfin : Changes [.win, .port, .evu, .pcie] s (reject w r g l (taken s w 0x39 a 0)) :=
      reject_changes (taken_changes .refl rfl) rfl
    refine ⟨_, (exec_policerConfig_acts h hb).trans (congrArg Host.Outcome.next hact), ?_, hfin.fetch_eq rfl,
      hfin.relay_eq rfl, hfin.mem_eq rfl⟩
    rw [reject_supervisor (s := taken s w 0x39 a 0) hw]
    exact answered_finish s _ w 0x39 a 0 _ _ _ h rfl
  · have hact : actPolicerConfig w 0 a (taken s w 0x39 a 0) =
        finishGen w 0 0 (takePolicer a (taken s w 0x39 a 0)) := by
      unfold actPolicerConfig
      rw [hrej]
    have hset : Changes [.ctx, .fetch, .relay] (taken s w 0x39 a 0) (takePolicer a (taken s w 0x39 a 0)) :=
      takePolicer_changes .refl rfl
    have hch : Changes [.win, .port, .evu, .pcie] (takePolicer a (taken s w 0x39 a 0))
      (finishGen w 0 0 (takePolicer a (taken s w 0x39 a 0))) := finishGen_changes .refl rfl
    refine ⟨_, (exec_policerConfig_acts h hb).trans (congrArg Host.Outcome.next hact),
      answered_finishGen (op := 0x39) h (by rw [hset.win_eq rfl]), (hch.mem_eq rfl).trans (hset.mem_eq rfl),
      fun q hq hnow => ?_, fun q hq hlater => ?_, fun i hi => ?_⟩
    · rw [hch.fetch_eq rfl, takePolicer_now (s := taken s w 0x39 a 0) hq hnow]
      exact setPolicer_queue q _ (taken s w 0x39 a 0)
    · rw [hch.fetch_eq rfl, takePolicer_later (s := taken s w 0x39 a 0) hq hlater, modQueue_get]
      exact ⟨rfl, rfl⟩
    · rw [hch.relay_eq rfl]
      exact takePolicer_egress hi (taken s w 0x39 a 0)
  · have hs : schedule s = (granted q tag cls r l s, some (q, r)) := schedule_grants hm hq hbest
    have hmem : (granted q tag cls r l s).mem = s.mem := (granted_changes q tag cls r l s).mem_eq rfl
    obtain ⟨htp, htc⟩ := granted_tokens (s := s) (n := q) (tag := tag) (cls := cls) (r := r) (rest := l)
    by_cases hz : r.kind = .zero
    · rw [hz]
      have hmem' : (zeroed ((granted q tag cls r l s).write r.addr (List.replicate 256 0))).mem =
          ((granted q tag cls r l s).write r.addr (List.replicate 256 0)).mem :=
        (zeroed_changes (G := [.memc, .evu, .pcie, .fetch]) .refl rfl).mem_eq rfl
      refine ⟨_, exec_grant_zero hs hz, (fun h => by cases h), fun _ => ?_, (fun _ _ h => by cases h)⟩
      have hstore := write_stores hmem hmem'
      rwa [List.length_replicate] at hstore
    by_cases hc : ∃ v d, r.kind = .copyWrite v d
    · obtain ⟨v, d, hk⟩ := hc
      rw [hk]
      by_cases hcur : r.current s = true
      · refine ⟨_, (exec_grant_copyWrite hs hk).trans (if_pos hcur), (fun h => by cases h), (fun h => by cases h),
          fun v' d' h => ?_⟩
        obtain ⟨rfl, rfl⟩ := ReqKind.copyWrite.inj h
        refine ⟨(fun h => by cases h.symm.trans hcur), fun _ => write_stores hmem ?_⟩
        exact (copyMoved_changes (G := [.win, .port, .evu, .pcie, .faults, .fetch, .relief])
          (snoop_changes .refl rfl) rfl).mem_eq rfl
      · exact ⟨_, (exec_grant_copyWrite hs hk).trans (if_neg hcur), (fun h => by cases h), (fun h => by cases h),
          fun v' d' h => ⟨fun _ => hmem, fun h => absurd h hcur⟩⟩
    · refine ⟨_, exec_grant_other hs hz (fun v d hk => hc ⟨v, d, hk⟩), fun hread => ?_, fun h => absurd h hz,
        fun v d h => absurd ⟨v, d, h⟩ hc⟩
      obtain ⟨hin, hvc, hve⟩ := granted_read (s := s) (n := q) (tag := tag) (cls := cls) (rest := l) hread
      exact ⟨hmem, hin, htp, htc, hvc, hve⟩

end Sys2Proof.Machine
end

section
/-! Read returns, sealed release, scrub, calibration and mode register 4 (chapters 09 and 10). -/
namespace Sys2Proof.Machine

/-! ## What entering a request leaves of a queue -/

theorem police_held (isS : Bool) (fclk : Nat) (q : Queue) : (q.police isS fclk).held = q.held := by
  unfold Queue.police
  split <;> rfl

theorem fill_held (isS : Bool) (fclk : Nat) (l : List Request) (q : Queue) :
    (Queue.fill isS fclk l q).held = q.held := by
  induction l generalizing q with
  | nil => exact police_held isS fclk q
  | cons r l ih =>
    unfold Queue.fill
    dsimp only
    split
    · exact (ih _).trans (police_held isS fclk q)
    · exact (ih _).trans (police_held isS fclk q)

theorem tagHead_held (vc ve : Nat) (l : List Request) (q : Queue) : (q.tagHead vc ve l).held = q.held := by
  cases l <;> rfl

theorem tagHead_reqs (vc ve : Nat) (l : List Request) (q : Queue) : (q.tagHead vc ve l).reqs = l := by
  cases l <;> rfl

theorem tagHead_waiting (vc ve : Nat) (l : List Request) (q : Queue) :
    (q.tagHead vc ve l).waiting = q.waiting := by
  cases l <;> rfl

theorem settle_held (n q : QueueId) (s : State) : (settle n s).fetch.queue[q].held = s.fetch.queue[q].held := by
  by_cases h : q = n
  · subst h
    unfold settle
    dsimp only
    rw [modQueue_get]
    exact (tagHead_held _ _ _ _).trans (fill_held _ _ _ _)
  · rw [settle_other h]

theorem enqueue_held (n q : QueueId) (r : Request) (s : State) :
    (enqueue n r s).fetch.queue[q].held = s.fetch.queue[q].held := by
  unfold enqueue
  rw [settle_held]
  by_cases h : q = n
  · subst h
    rw [modQueue_get]
  · rw [modQueue_get_other h]

/-- A request of a kind, at an address, stands in a queue or waits to enter it. -/
def Standing (k : ReqKind) (a : Nat) (q : Queue) : Prop := ∃ x ∈ q.reqs ++ q.waiting, x.kind = k ∧ x.addr = a

/-- What may enter a queue of no sealed context stands there, or still waits. -/
theorem fill_standing {k : ReqKind} {a fclk : Nat} {l : List Request} {q : Queue}
    (h : ∃ x ∈ q.reqs ++ l, x.kind = k ∧ x.addr = a) : Standing k a (Queue.fill false fclk l q) := by
  have hpol : ∀ p : Queue, p.police false fclk = p := fun _ => rfl
  induction l generalizing q with
  | nil =>
    obtain ⟨x, hx, hk⟩ := h
    exact ⟨x, hx, hk⟩
  | cons r l ih =>
    unfold Queue.fill
    dsimp only
    rw [hpol]
    obtain ⟨x, hx, hk⟩ := h
    rw [List.mem_append, List.mem_cons] at hx
    split
    · apply ih
      rcases hx with hx | rfl | hx
      · exact ⟨x, by simp [hx], hk⟩
      · exact ⟨{ x with entered := fclk }, by simp, hk⟩
      · exact ⟨x, by simp [hx], hk⟩
    · have hin : x ∈ q.reqs ++ l → Standing k a
          { Queue.fill false fclk l q with waiting := r :: (Queue.fill false fclk l q).waiting } := by
        intro hx
        obtain ⟨y, hy, hyk⟩ := ih ⟨x, hx, hk⟩
        rw [List.mem_append] at hy
        refine ⟨y, ?_, hyk⟩
        rcases hy with hy | hy
        · exact List.mem_append_left _ hy
        · exact List.mem_append_right _ (List.mem_cons_of_mem _ hy)
      rcases hx with hx | rfl | hx
      · exact hin (List.mem_append_left _ hx)
      · exact ⟨x, by simp, hk⟩
      · exact hin (List.mem_append_right _ hx)

theorem mem_cons_erase {x y : Request} {l : List Request} (h : y ∈ l) : y ∈ x :: l.erase x := by
  by_cases hyx : y = x
  · exact hyx ▸ List.mem_cons_self
  · exact List.mem_cons_of_mem _ ((List.mem_erase_of_ne hyx).mpr h)

/-- The order of grant of queue_132 keeps every request. -/
theorem mem_upkeepFirst {slow : Bool} {q : Queue} {x : Request} (h : x ∈ q.reqs) : x ∈ upkeepFirst slow q := by
  unfold upkeepFirst
  dsimp only
  split
  · exact mem_cons_erase h
  · split
    · exact mem_cons_erase h
    · exact h

theorem enqueue_standing (r : Request) (s : State) :
    Standing r.kind r.addr (enqueue 132 r s).fetch.queue[(132 : QueueId)] := by
  have hs : ∀ u, sealedQueue u 132 = false := fun _ => rfl
  have harr : ∀ t sl q, arranged 132 t sl q = upkeepFirst sl q := fun _ _ _ => rfl
  unfold enqueue settle
  dsimp only
  rw [modQueue_get, modQueue_get, hs, harr]
  obtain ⟨q, hq⟩ : ∃ q, q = s.fetch.queue[(132 : QueueId)] := ⟨_, rfl⟩
  rw [← hq]
  have hin : ∃ x ∈ q.reqs ++ (q.waiting ++ [r]), x.kind = r.kind ∧ x.addr = r.addr := ⟨r, by simp, rfl, rfl⟩
  obtain ⟨x, hx, hk⟩ := fill_standing (fclk := (s.modQueue 132 fun q =>
      { q with waiting := q.waiting ++ [r] }).fetch.fclk)
    (q := { q with waiting := q.waiting ++ [r] }) hin
  refine ⟨x, ?_, hk⟩
  rw [tagHead_reqs, tagHead_waiting]
  rcases List.mem_append.mp hx with hx | hx
  · exact List.mem_append_left _ (mem_upkeepFirst hx)
  · exact List.mem_append_right _ hx

/-! ## MEMORY_READ_RETURN -/

theorem modQueue_modQueue (s : State) (q : QueueId) (f g : Queue → Queue) :
    (s.modQueue q f).modQueue q g = s.modQueue q fun x => g (f x) := by
  simp [State.modQueue]

/-- The oldest read of a channel has come. -/
def returned (ch : Channel) (l : List (QueueId × Request)) (s : State) : State :=
  { s with fetch := { s.fetch with
    inflight := s.fetch.inflight.set ch l, readIn := s.fetch.readIn.set ch true } }

/-- A queue's only read, not sealed, has its data: it is delivered. -/
theorem releaseAll_single {q : QueueId} {s : State} {r : Request} {d : List Byte} {o : ReadOutcome} {due : Bool}
    (h : s.fetch.queue[q].held = [{ req := r, data := some (d, o), due := due }]) (hr : r.release = none) :
    releaseAll q s = deliver r d (readBad o) (s.modQueue q fun y => { y with held := [] }) := by
  have hall : releaseAll q s = releaseHeld 1 q 0 s := by
    unfold releaseAll
    rw [h]
    rfl
  rw [hall]
  simp only [releaseHeld, h, hr]

/-- The outcome that a queue keeps of a read: with an uncorrectable error in its range, or without. -/
def outcomeOf (bad : Option Nat) : ReadOutcome := match bad with
  | some w => .uncorrectable w
  | none => .good

theorem readBad_outcomeOf (bad : Option Nat) : readBad (outcomeOf bad) = bad.isSome := by
  cases bad <;> rfl

/-- The state in which a read's data is ready for its queue: its ECC is taken, and a new error is logged. -/
def eccTaken (o : ReadOutcome) (r : Request) (s : State) : State :=
  if r.kind.early && (firstBad s r.addr r.len).isSome then takeEcc o r s
  else logUe (firstBad (takeEcc o r s) r.addr r.len) (takeEcc o r s)

section
variable {s : State} {ch : Channel} {q : QueueId} {r : Request} {l : List (QueueId × Request)} {o : ReadOutcome}

/-- The oldest read of a channel, the only one its queue has not delivered, is delivered. -/
theorem exec_return_single (hin : s.fetch.inflight[ch] = (q, r) :: l) (hr : r.release = none)
    (hheld : (eccTaken o r (returned ch l s)).fetch.queue[q].held = [{ req := r, data := none, due := false }]) :
    exec (.memoryReadReturn ch o) s = .next (deliver r
      ((eccTaken o r (returned ch l s)).read r.addr (r.len - r.addr % 32))
      (firstBad (takeEcc o r (returned ch l s)) r.addr r.len).isSome
      ((eccTaken o r (returned ch l s)).modQueue q fun y => { y with held := [] })) := by
  obtain ⟨bad, hbad⟩ : ∃ bad, bad = firstBad (takeEcc o r (returned ch l s)) r.addr r.len := ⟨_, rfl⟩
  obtain ⟨u, hu⟩ : ∃ u, u = eccTaken o r (returned ch l s) := ⟨_, rfl⟩
  obtain ⟨d, hd⟩ : ∃ d, d = u.read r.addr (r.len - r.addr % 32) := ⟨_, rfl⟩
  obtain ⟨out, hout⟩ : ∃ out, out = outcomeOf bad := ⟨_, rfl⟩
  rw [← hu] at hheld
  have hexec : exec (.memoryReadReturn ch o) s =
      .next (releaseAll q (u.modQueue q fun y => { y with held := fillHeld u.fetch.fclk r (d, out) 0 y.held })) := by
    have hany : ((eccTaken o r (returned ch l s)).fetch.queue[q].held.any
        fun x => decide (x.req = r) && x.data.isNone) = true := by
      rw [← hu, hheld]
      simp
    show execMemoryReadReturn ch o s = _
    unfold execMemoryReadReturn
    rw [hin]
    refine (if_pos hany).trans ?_
    rw [hd, hout, hu, hbad]
    rfl
  have hfilled : (u.modQueue q fun y => { y with held := fillHeld u.fetch.fclk r (d, out) 0 y.held
      }).fetch.queue[q].held =
      [{ req := r, data := some (d, out), due := false }] := by
    rw [modQueue_get]
    show fillHeld u.fetch.fclk r (d, out) 0 u.fetch.queue[q].held = _
    rw [hheld]
    simp [fillHeld, hr]
  have hflag : readBad out = bad.isSome := hout ▸ readBad_outcomeOf bad
  rw [hexec, releaseAll_single hfilled hr, modQueue_modQueue, hflag, hbad, ← hu, hd]

theorem deliver_scrub {d : List Byte} {bad : Bool} (hk : r.kind = .scrub) : deliver r d bad s = s := by
  unfold deliver
  rw [hk]
  exact ite_self s

end

/-! ## SEALED_RELEASE -/

section
variable {s : State} {q : QueueId} {x : Held} {l : List Held} {time : Nat}

theorem exec_sealedRelease (hon : fabricOn s = true) (hheld : s.fetch.queue[q].held = x :: l) :
    exec (.sealedRelease q) s = .next (releaseHeld (l.length + 1) q 0 s) := by
  show execSealedRelease q s = _
  unfold execSealedRelease releaseAll
  rw [hon, hheld]
  rfl

theorem sealedRelease_early (hon : fabricOn s = true) (hheld : s.fetch.queue[q].held = x :: l)
    (hr : x.req.release = some time) (ht : s.fetch.fclk < time) : exec (.sealedRelease q) s = .next s := by
  rw [exec_sealedRelease hon hheld]
  have hfloor : Nat.max 0 time = time := Nat.zero_max time
  simp only [releaseHeld, hheld, hr, hfloor, if_pos ht]

theorem sealedRelease_due (hon : fabricOn s = true) (hheld : s.fetch.queue[q].held = x :: l)
    (hr : x.req.release = some time) (ht : time ≤ s.fetch.fclk) (hd : x.data = none) :
    exec (.sealedRelease q) s = .next (s.modQueue q fun y => { y with held := { x with due := true } :: l }) := by
  rw [exec_sealedRelease hon hheld]
  have hfloor : Nat.max 0 time = time := Nat.zero_max time
  simp only [releaseHeld, hheld, hr, hfloor, if_neg (Nat.not_lt.mpr ht), hd]

theorem sealedRelease_delivers {d : List Byte} {o : ReadOutcome} (hon : fabricOn s = true)
    (hheld : s.fetch.queue[q].held = [x]) (hr : x.req.release = some time) (ht : time ≤ s.fetch.fclk)
    (hdue : x.due = false) (hd : x.data = some (d, o)) : exec (.sealedRelease q) s =
      .next (deliver x.req d (readBad o) (s.modQueue q fun y => { y with
        held := [], delay := maxOpt y.delay (time - x.req.entered) })) := by
  rw [exec_sealedRelease hon hheld]
  have hfloor : Nat.max 0 time = time := Nat.zero_max time
  simp only [List.length_nil, releaseHeld, hheld, hr, hfloor, if_neg (Nat.not_lt.mpr ht), hd, hdue,
    Bool.false_eq_true, if_false]

end

/-- Source bytes for the frame in hand reach the line store's bursts. -/
theorem deliverPixel_arrives {s : State} {h : ContHead} {z : SlotId} {f k addr : Nat} {d : List Byte}
    (hm : (z, f, k) ∈ s.comp[h].missing) : deliverPixel h z s.head[h].frame.toNat f k addr d false s =
      s.modComp h fun c => { c with
        missing := c.missing.erase (z, f, k)
        bursts := c.bursts ++ [{ slot := z, frame := s.head[h].frame.toNat, first := f, last := k, addr := addr,
                                 bytes := d }] } := by
  obtain ⟨b, hb⟩ : ∃ b, frameAhead? s h s.head[h].frame.toNat = some b := by
    have hframe : frameOf s h false = s.head[h].frame.toNat := rfl
    unfold frameAhead?
    rw [hframe, if_pos rfl]
    split <;> exact ⟨_, rfl⟩
  unfold deliverPixel
  rw [hb, decide_eq_true hm]
  simp [State.modComp]

theorem modComp_get (s : State) (h : ContHead) (f : Comp → Comp) : (s.modComp h f).comp[h] = f s.comp[h] :=
  State.modComp_same s h f

/-! ## DRAM_SCRUB -/

/-- The scrub moves on to the next block of usable capacity. -/
def scrubMoved (s : State) : State :=
  { s with memc := { s.memc with
    scrubNext := if s.memc.scrubNext + 256 < usable s then s.memc.scrubNext + 256 else 0 } }

theorem exec_dramScrub {s : State} (hm : memAvail s = true) (he : s.memc.ecc = true) (hon : fabricOn s = true)
    (hq : inQueue132 s .scrub = false) : exec .dramScrub s =
      .next (enqueue 132 (mkRequest (scrubMoved s) .scrub 0 s.memc.scrubNext 256) (scrubMoved s)) := by
  show execDramScrub s = _
  unfold execDramScrub
  rw [hm, he, hon, hq]
  rfl

theorem exec_dramScrub_noEcc {s : State} (he : s.memc.ecc = false) : exec .dramScrub s = .next s := by
  show execDramScrub s = _
  unfold execDramScrub
  rw [he]
  rfl

/-! ## The polling of mode register 4 -/

theorem pollRank_absent {v : Vector Byte 4} {i : Fin 4} {s : State} (h : s.memc.ranks ≤ i.1 % 2) :
    pollRank v i s = s := if_pos h

theorem pollRank_memc {v : Vector Byte 4} {i : Fin 4} {s : State} (h : i.1 % 2 < s.memc.ranks) :
    (pollRank v i s).memc =
      { s.memc with mr4 := s.memc.mr4.set i v[i], hot := s.memc.hot.set i (mr4Hot v[i]) } := by
  unfold pollRank
  rw [if_neg (Nat.not_le.mpr h)]
  exact (Changes.ite (G := [.evu, .pcie, .faults]) (raise_changes (logFault_changes .refl rfl) rfl)
    .refl).memc_eq rfl

/-- What a poll of some ranks leaves: the number of ranks, and the values of the others. -/
theorem pollRanks_mr4 {v : Vector Byte 4} {l : List (Fin 4)} {i : Fin 4} (hl : l.Nodup) (hi : i ∈ l) (s : State) :
    (forEach l (pollRank v) s).memc.mr4[i] = if i.1 % 2 < s.memc.ranks then v[i] else s.memc.mr4[i] := by
  have hranks : ∀ j t, (pollRank v j t).memc.ranks = t.memc.ranks := by
    intro j t
    rcases Nat.lt_or_ge (j.1 % 2) t.memc.ranks with h | h
    · rw [pollRank_memc h]
    · rw [pollRank_absent h]
  have hother : ∀ j t, i ≠ j → (pollRank v j t).memc.mr4[i] = t.memc.mr4[i] := by
    intro j t hj
    rcases Nat.lt_or_ge (j.1 % 2) t.memc.ranks with h | h
    · rw [pollRank_memc h]
      exact Vector.getElem_set_ne j.2 i.2 (fun e => hj (Fin.ext e.symm))
    · rw [pollRank_absent h]
  have hown : ∀ t, (pollRank v i t).memc.mr4[i] = if i.1 % 2 < t.memc.ranks then v[i] else t.memc.mr4[i] := by
    intro t
    split
    next h =>
      rw [pollRank_memc h]
      exact Vector.getElem_set_self _
    next h => rw [pollRank_absent (Nat.not_lt.mp h)]
  exact (forEach_own (fun s i => (s.memc.ranks, s.memc.mr4[i])) (f := pollRank v)
    (fun x y => y.2 = if i.1 % 2 < x.1 then v[i] else x.2) hl hi
    (fun j t hj => Prod.ext (hranks j t) (hother j t hj)) hown s)

theorem exec_mr4Poll {r : Mr4Values} {s : State} (hm : memAvail s = true) :
    exec (.mr4Poll r) s = .next (forEach (List.finRange 4) (pollRank r.v) s) := by
  show execMr4Poll r s = _
  unfold execMr4Poll
  rw [hm]
  rfl

/-! ## Calibration -/

theorem calibrate_memc (s : State) : (calibrate s).memc = { s.memc with calDue := false } :=
  (sample_changes (G := [.evu, .pcie, .mon]) .refl rfl).memc_eq rfl

theorem calibrate_calDue (s : State) : (calibrate s).memc.calDue = false := by
  rw [calibrate_memc]

theorem calibrationDue_result {s : State} (hm : memAvail s = true) :
    ∃ t, exec .calibrationDue s = .next t ∧ t.mem = s.mem ∧ t.memc.calDue = !calQualifies s := by
  obtain ⟨u, hu⟩ : ∃ u, u = { s with memc := { s.memc with calDue := true } } := ⟨_, rfl⟩
  have hexec : exec .calibrationDue s = .next (tryCal u) := by
    show execCalibrationDue s = _
    unfold execCalibrationDue
    rw [hm, hu]
    rfl
  have hdue : u.memc.calDue = true := by rw [hu]
  have hq : calQualifies u = calQualifies s := by rw [hu]; rfl
  refine ⟨_, hexec, ?_, ?_⟩
  · rw [(tryCal_changes (G := [.memc, .evu, .pcie, .mon]) .refl rfl).mem_eq rfl, hu]
  · cases hqs : calQualifies s with
    | true =>
      have hrun : tryCal u = calibrate u := if_pos (by rw [hdue, hq, hqs]; rfl)
      rw [hrun, calibrate_calDue]
      rfl
    | false =>
      have hwait : tryCal u = u := if_neg (by rw [hdue, hq, hqs]; decide)
      rw [hwait, hdue]
      rfl

theorem exec_forcedCalibration {s : State} (hm : memAvail s = true) (hd : s.memc.calDue = true) :
    exec .forcedCalibration s =
      .next (calibrate { s with memc := { s.memc with forcedCount := satInc s.memc.forcedCount } }) := by
  show execForcedCalibration s = _
  unfold execForcedCalibration
  rw [hm, hd]
  rfl

theorem exec_forcedCalibration_idle {s : State} (hd : s.memc.calDue = false) :
    exec .forcedCalibration s = .next s := by
  show execForcedCalibration s = _
  unfold execForcedCalibration
  rw [hd]
  rfl

/-! ## SRAM_SCRUB -/

/-- The SRAM scrub moves on to the next word. -/
def sramMoved (s : State) : State :=
  { s with memc := { s.memc with sramNext := (s.memc.sramNext + 1) % 262144 } }

section
variable {s : State} (hp : pdOn .sram s = true) (hon : fabricOn s = true)
include hp hon

theorem exec_sramScrub_clean : exec (.sramScrub .clean) s = .next (sramMoved s) := by
  show execSramScrub .clean s = _
  unfold execSramScrub
  rw [hp, hon]
  rfl

theorem exec_sramScrub_corrected : exec (.sramScrub .corrected) s = .next (raise 190 (sramMoved s)) := by
  show execSramScrub .corrected s = _
  unfold execSramScrub
  rw [hp, hon]
  rfl

/-- An uncorrectable error of a structure other than Relief is logged; one in the protected store also marks its
    image. -/
theorem sramScrub_uncorrectable {u : SramUnit} (hu : u ≠ .relief) (n : Nat) :
    ∃ t, exec (.sramScrub (.uncorrectable u n)) s = .next t ∧
      Changes [.prot] (raise 191 (logFault 0x04 u.ctorIdx (BitVec.ofNat 32 n) (sramMoved s))) t := by
  have hexec : exec (.sramScrub (.uncorrectable u n)) s = execSramScrub (.uncorrectable u n) s := rfl
  unfold execSramScrub at hexec
  rw [hp, hon] at hexec
  cases u with
  | relief => exact absurd rfl hu
  | protectedStore => exact ⟨_, hexec, protectedError_changes .refl rfl⟩
  | _ => exact ⟨_, hexec, .refl⟩

end

/-! ## The ECC of a returned read -/

section
variable {s : State} {ch : Channel} {q : QueueId} {r : Request} {l : List (QueueId × Request)} {w : Nat}

/-- An error-free read. -/
theorem eccTaken_good (h : firstBad s r.addr r.len = none) : takeEcc .good r s = s ∧ eccTaken .good r s = s := by
  have htake : takeEcc .good r s = s := by
    unfold takeEcc
    dsimp only
    cases s.memc.ecc <;> rfl
  refine ⟨htake, ?_⟩
  unfold eccTaken
  rw [htake, h]
  exact ite_self s

/-- The words that hold errors, once a read has shown one more. -/
def withBad (w : Nat) (s : State) : State :=
  if w ∈ s.memc.badWords then s else { s with memc := { s.memc with badWords := s.memc.badWords ++ [w] } }

theorem withBad_mem (w : Nat) (s : State) : w ∈ (withBad w s).memc.badWords := by
  unfold withBad
  split
  next h => exact h
  next => exact List.mem_append_right _ List.mem_cons_self

theorem withBad_changes (w : Nat) (s : State) : Changes [.memc] s (withBad w s) :=
  .ite .refl (.set_memc .refl rfl)

theorem takeEcc_uncorrectable (he : s.memc.ecc = true) (hin : r.addr < 8 * w + 8 ∧ 8 * w < r.addr + r.len) :
    takeEcc (.uncorrectable w) r s = withBad w s := by
  unfold takeEcc withBad
  rw [he]
  dsimp only
  by_cases hw : w ∈ s.memc.badWords
  · rw [if_pos hw]
    exact if_neg (by simp [hw])
  · rw [if_neg hw]
    exact if_pos (by simp [hw, hin])

theorem takeEcc_corrected (he : s.memc.ecc = true) (hin : r.addr < 8 * w + 8 ∧ 8 * w < r.addr + r.len) :
    takeEcc (.corrected w) r s = correctedError w s := by
  unfold takeEcc
  rw [he]
  dsimp only
  exact if_pos (decide_eq_true hin)

/-- A scrub read that shows an uncorrectable error: it is kept with its word and logged. -/
theorem eccTaken_uncorrectable (hk : r.kind = .scrub) (he : s.memc.ecc = true)
    (hin : r.addr < 8 * w + 8 ∧ 8 * w < r.addr + r.len) : ∃ v, eccTaken (.uncorrectable w) r s =
      raise 186 (logFault 0x03 (v / 32 % 2) (BitVec.ofNat 32 (v / 32)) (withBad w s)) := by
  obtain ⟨v, hv⟩ : ∃ v, firstBad (withBad w s) r.addr r.len = some v := by
    cases hfirst : firstBad (withBad w s) r.addr r.len with
    | some v => exact ⟨v, rfl⟩
    | none =>
      have hnone := List.find?_eq_none.mp hfirst w (withBad_mem w s)
      exact absurd (decide_eq_true ⟨hin.2, hin.1⟩) hnone
  refine ⟨v, ?_⟩
  unfold eccTaken
  rw [takeEcc_uncorrectable he hin, hk, hv]
  rfl

theorem correctedError_badWords (w : Nat) (s : State) :
    (correctedError w s).memc.badWords = s.memc.badWords := by
  unfold correctedError
  dsimp only
  rw [(enqueue_changes (G := [.fetch, .evu, .pcie]) (raise_changes .refl rfl) rfl).memc_eq rfl]
  split
  · rfl
  · rw [(logFault_changes (G := [.faults, .evu, .pcie]) .refl rfl).memc_eq rfl]

theorem correctedError_held (w : Nat) (q : QueueId) (s : State) :
    (correctedError w s).fetch.queue[q].held = s.fetch.queue[q].held := by
  unfold correctedError
  dsimp only
  rw [enqueue_held, (raise_changes (G := [.memc, .evu, .pcie, .faults]) (s₀ := s)
    (.ite .refl (logFault_changes (.set_memc .refl rfl) rfl)) rfl).fetch_eq rfl]

theorem correctedError_standing (w : Nat) (s : State) :
    Standing .correct (w / 8 * 64) (correctedError w s).fetch.queue[(132 : QueueId)] := enqueue_standing _ _

theorem eccTaken_corrected (hk : r.kind = .scrub) (he : s.memc.ecc = true)
    (hin : r.addr < 8 * w + 8 ∧ 8 * w < r.addr + r.len) (hclean : firstBad s r.addr r.len = none) :
    eccTaken (.corrected w) r s = correctedError w s := by
  have hbad : (correctedError w s).memc.badWords = s.memc.badWords := correctedError_badWords w s
  have hfirst : firstBad (correctedError w s) r.addr r.len = none := by
    unfold firstBad at hclean ⊢
    rw [hbad]
    exact hclean
  unfold eccTaken
  rw [takeEcc_corrected he hin, hk, hfirst]
  rfl

end

theorem deliver_pixel {s : State} {r : Request} {h : ContHead} {z : SlotId} {frame f k : Nat} {d : List Byte}
    {bad : Bool} (hcur : r.current s = true) (hk : r.kind = .pixel h z frame f k) :
    deliver r d bad s = deliverPixel h z frame f k r.addr d bad s := by
  unfold deliver
  rw [hcur, hk]
  rfl

theorem standing_dropHeld {k : ReqKind} {a : Nat} {n : QueueId} {s : State}
    (h : Standing k a s.fetch.queue[n]) (q : QueueId) :
    Standing k a (s.modQueue q fun y => { y with held := [] }).fetch.queue[n] := by
  by_cases hq : n = q
  · subst hq
    rw [modQueue_get]
    exact h
  · rw [modQueue_get_other hq]
    exact h

/-- Settles O47: a read's return with its ECC, sealed release, the scrubs, calibration and mode register 4. -/
theorem memoryIsRefreshedAndScrubbed : Obligations.MemoryIsRefreshedAndScrubbed := by
  unfold Obligations.MemoryIsRefreshedAndScrubbed
  refine ⟨fun s ch q r l hin hheld hr => ⟨fun hclean => ?_, fun hk he w hlo hhi => ⟨fun hon => ?_, fun hclean => ?_⟩⟩,
    fun s q x l time hon hheld hr => ⟨sealedRelease_early hon hheld hr, sealedRelease_due hon hheld hr,
      fun h z f k d ht hl hdue hd hcur hk hm => ?_⟩,
    fun s hm => ⟨exec_dramScrub_noEcc, fun he hon hq => ⟨_, exec_dramScrub hm he hon hq, ?_, ?_,
        enqueue_standing _ _⟩,
      fun r => ⟨_, exec_mr4Poll hm, ?_, fun i => ?_⟩, calibrationDue_result hm,
      fun hd => ⟨_, exec_forcedCalibration hm hd, ?_, ?_, ?_⟩, exec_forcedCalibration_idle⟩,
    fun s hp hon => ⟨exec_sramScrub_clean hp hon, ⟨_, exec_sramScrub_corrected hp hon, ?_, ?_, ?_⟩, fun u n hu => ?_⟩⟩
  · obtain ⟨htake, hecc⟩ := eccTaken_good (s := returned ch l s) hclean
    have hexec := exec_return_single (o := .good) hin hr (by rw [hecc]; exact hheld)
    have hnone : firstBad (returned ch l s) r.addr r.len = none := hclean
    rw [htake, hecc, hnone] at hexec
    exact hexec
  · obtain ⟨v, hv⟩ := eccTaken_uncorrectable (s := returned ch l s) hk he ⟨hlo, hhi⟩
    have hch : Changes [.memc, .evu, .pcie, .faults] (returned ch l s)
        (eccTaken (.uncorrectable w) r (returned ch l s)) := by
      rw [hv]
      exact raise_changes (logFault_changes ((withBad_changes w _).mono rfl) rfl) rfl
    have hexec := exec_return_single (o := .uncorrectable w) hin hr (by rw [hch.fetch_eq rfl]; exact hheld)
    rw [deliver_scrub hk] at hexec
    refine ⟨_, hexec, ?_, hch.mem_eq rfl, ?_, ?_⟩
    · show w ∈ (eccTaken (.uncorrectable w) r (returned ch l s)).memc.badWords
      rw [hv, (raise_changes (G := [.evu, .pcie, .faults]) (logFault_changes .refl rfl) rfl).memc_eq rfl]
      exact withBad_mem w _
    · show (eccTaken (.uncorrectable w) r (returned ch l s)).fetch.inflight[ch] = l
      rw [hch.fetch_eq rfl]
      simp [returned]
    · have hon' : fabricOn (withBad w (returned ch l s)) = true := by
        unfold fabricOn at hon ⊢
        rw [pdOn_congr ((withBad_changes w _).power_eq rfl)]
        exact hon
      have hlast := logFault_last hon' 0x03 (v / 32 % 2) (BitVec.ofNat 32 (v / 32)) none
      rw [← raise_faults 186, ← hv] at hlast
      exact ⟨_, hlast, rfl⟩
  · have hv := eccTaken_corrected (s := returned ch l s) hk he ⟨hlo, hhi⟩ hclean
    have hexec := exec_return_single (o := .corrected w) hin hr
      (by rw [hv, correctedError_held]; exact hheld)
    rw [deliver_scrub hk, hv] at hexec
    refine ⟨_, hexec, correctedError_badWords w _, ?_, ?_⟩
    · exact (correctedError_changes (G := [.memc, .evu, .pcie, .faults, .fetch]) .refl rfl).mem_eq rfl
    · exact standing_dropHeld (correctedError_standing w _) q
  · subst hl
    obtain ⟨u, hu⟩ : ∃ u, u = s.modQueue q fun y => { y with
      held := [], delay := maxOpt y.delay (time - x.req.entered) } := ⟨_, rfl⟩
    have hexec := sealedRelease_delivers hon hheld hr ht hdue hd
    rw [← hu] at hexec
    have hcomp : u.comp = s.comp := by rw [hu]; rfl
    have hhead : u.head = s.head := by rw [hu]; rfl
    have hcur' : x.req.current u = true := by rw [hu]; exact hcur
    rw [deliver_pixel hcur' hk, ← hhead] at hexec
    have harr := deliverPixel_arrives (s := u) (addr := x.req.addr) (d := d) (hcomp ▸ hm)
    refine ⟨_, hexec.trans (congrArg Host.Outcome.next harr), ?_, ?_, ?_, ?_, ?_⟩
    · show u.fetch.queue[q].held = []
      rw [hu, modQueue_get]
    · show u.fetch.queue[q].late = _
      rw [hu, modQueue_get]
    · rw [hu]
      rfl
    · rw [modComp_get, hcomp, hhead]
    · rw [modComp_get, hcomp]
  · exact (enqueue_changes (G := [.memc, .fetch]) (.set_memc .refl rfl) rfl).mem_eq rfl
  · rw [(enqueue_changes (G := [.fetch]) .refl rfl).memc_eq rfl]
    rfl
  · exact (Changes.forEach (G := [.memc, .evu, .pcie, .faults]) .refl
      fun _ _ h => pollRank_changes h rfl).mem_eq rfl
  · obtain ⟨l, hl⟩ : ∃ l : List (Fin 4), l = List.finRange 4 := ⟨_, rfl⟩
    rw [← hl]
    exact pollRanks_mr4 (hl ▸ List.nodup_finRange 4) (hl ▸ List.mem_finRange i) s
  · exact (calibrate_changes (G := [.memc, .evu, .pcie, .mon]) (.set_memc .refl rfl) rfl).mem_eq rfl
  · exact calibrate_calDue _
  · rw [calibrate_memc]
  · rw [(raise_changes (G := [.evu, .pcie]) .refl rfl).memc_eq rfl]
    rfl
  · exact raise_edged (sramMoved s) 190 hon
  · exact (raise_changes (G := [.memc, .evu, .pcie]) (.set_memc .refl rfl) rfl).mem_eq rfl
  · obtain ⟨t, hexec, ht⟩ := sramScrub_uncorrectable hp hon hu n
    have hlog : Changes [.memc, .evu, .pcie, .faults] (sramMoved s)
        (raise 191 (logFault 0x04 u.ctorIdx (BitVec.ofNat 32 n) (sramMoved s))) :=
      raise_changes (logFault_changes .refl rfl) rfl
    have hlast := logFault_last (s := sramMoved s) hon 0x04 u.ctorIdx (BitVec.ofNat 32 n) none
    rw [← raise_faults 191, ← ht.faults_eq rfl] at hlast
    refine ⟨t, hexec, ?_, (ht.mem_eq rfl).trans (hlog.mem_eq rfl), _, hlast, rfl, rfl⟩
    rw [ht.memc_eq rfl, (raise_changes (G := [.evu, .pcie, .faults]) (logFault_changes .refl rfl) rfl).memc_eq rfl]
    rfl

end Sys2Proof.Machine
end

section
/-! Lines: composition, shedding, scan and writeback (12.9, 15.7). -/
namespace Sys2Proof.Machine

/-! ## What requests leave of a pipeline -/

/-- Every part of the state but the composition pipelines. -/
def besideComp : List Part :=
  [.mem, .memc, .win, .ctx, .port, .evu, .pcie, .faults, .power, .drone, .timer, .timerShadow, .mon, .fetch, .slot,
    .commits, .relief, .prot, .head, .panel, .syn, .epd, .seg, .adc, .relay, .cal, .boot, .pins, .free]

/-- The line store of a head and its underrun count are as before. -/
def LinesKept (h : ContHead) (s t : State) : Prop :=
  t.comp[h].store = s.comp[h].store ∧ t.comp[h].underrun = s.comp[h].underrun

section
variable {h : ContHead} {s t u : State}

theorem LinesKept.refl : LinesKept h s s := ⟨rfl, rfl⟩

theorem LinesKept.keep (hs : LinesKept h s t) (k : Changes besideComp t u) : LinesKept h s u := by
  unfold LinesKept
  rw [k.comp_eq rfl]
  exact hs

theorem LinesKept.ite {p : Prop} [Decidable p] (ht : LinesKept h s t) (hu : LinesKept h s u) :
    LinesKept h s (if p then t else u) := by
  split
  · exact ht
  · exact hu

theorem LinesKept.modComp {f : Comp → Comp} (hs : LinesKept h s t)
    (hf : ∀ c, (f c).store = c.store ∧ (f c).underrun = c.underrun) : LinesKept h s (t.modComp h f) := by
  obtain ⟨h1, h2⟩ := hf t.comp[h]
  unfold LinesKept
  rw [modComp_get]
  exact ⟨h1.trans hs.1, h2.trans hs.2⟩

theorem LinesKept.forEach {α : Type} {l : List α} {f : α → State → State} (hs : LinesKept h s t)
    (hf : ∀ a u, LinesKept h s u → LinesKept h s (f a u)) : LinesKept h s (forEach l f t) :=
  forEach_keeps hf l hs

theorem logExtent_linesKept (z : SlotId) (l : Layer) (hs : LinesKept h s t) :
    LinesKept h s (logExtent h z l t) := by
  unfold logExtent
  refine .ite hs (LinesKept.keep ?_ (logFault_changes .refl rfl))
  exact hs.modComp fun _ => ⟨rfl, rfl⟩

theorem requestRange_linesKept (frame : Nat) (z : SlotId) (l : Layer) (v : State) (x : Nat × Nat × Nat × Nat)
    (hs : LinesKept h s t) : LinesKept h s (requestRange h frame z l v x t) := by
  unfold requestRange
  refine .ite (LinesKept.keep ?_ (enqueue_changes .refl rfl)) (logExtent_linesKept z l hs)
  exact hs.modComp fun _ => ⟨rfl, rfl⟩

theorem requestLine_linesKept (y : Nat) (next : Bool) (hs : LinesKept h s t) :
    LinesKept h s (requestLine h y next t) := by
  unfold requestLine
  dsimp only
  split
  · exact hs
  · refine .forEach (hs.modComp fun _ => ⟨rfl, rfl⟩) fun ⟨z, l⟩ u hu => ?_
    exact .forEach hu fun x u hu => requestRange_linesKept _ z l _ x hu

theorem loadPalettes_linesKept (cfg : HeadCfg) (next : Bool) (hs : LinesKept h s t) :
    LinesKept h s (loadPalettes h cfg next t) := by
  unfold loadPalettes
  refine .forEach (hs.modComp fun _ => ⟨rfl, rfl⟩) fun ⟨z, l⟩ u hu => ?_
  refine .ite (.ite ?_ ?_) hu
  · exact .forEach (hu.modComp fun _ => ⟨rfl, rfl⟩) fun p v hv => hv.keep (enqueue_changes .refl rfl)
  · exact logExtent_linesKept z l (hu.modComp fun _ => ⟨rfl, rfl⟩)

theorem shedSlots_linesKept (zs : List SlotId) (next : Bool) (hs : LinesKept h s t) :
    LinesKept h s (shedSlots h zs next t) := by
  unfold shedSlots
  refine .ite hs (LinesKept.keep ?_ (.ite (raiseHead_changes (.set_faults .refl rfl) rfl) (.set_faults .refl rfl)))
  exact hs.modComp fun _ => ⟨rfl, rfl⟩

theorem shedWithRun_linesKept (z : SlotId) (next : Bool) (v : State) (hs : LinesKept h s t) :
    LinesKept h s (shedWithRun h z next v t) := by
  unfold shedWithRun
  split
  · exact shedSlots_linesKept _ next hs
  · exact shedSlots_linesKept _ next hs

theorem shedLatePalettes_linesKept (cfg : HeadCfg) (y : Nat) (hs : LinesKept h s t) :
    LinesKept h s (shedLatePalettes h cfg y t) := by
  unfold shedLatePalettes
  exact .forEach hs fun ⟨z, l⟩ u hu => .ite (shedWithRun_linesKept z false u hu) hu

/-- What was held for a line goes, and the next one is the next. -/
theorem passLine_linesKept (cfg : HeadCfg) (next : Bool) (y : Nat) (hs : LinesKept h s t) :
    LinesKept h s (passLine h cfg next y t) := by
  unfold passLine
  refine .ite ?_ (LinesKept.keep ?_ (freeSlots_changes .refl rfl))
  · exact hs.modComp fun _ => ⟨rfl, rfl⟩
  · exact hs.modComp fun _ => ⟨rfl, rfl⟩

end

theorem passLine_nextLine (h : ContHead) (cfg : HeadCfg) (next : Bool) (y : Nat) (s : State) :
    (passLine h cfg next y s).comp[h].nextLine = if y + 1 < cfg.vactive then y + 1 else 0 := by
  have hfree : ∀ t, (freeSlots t).comp = t.comp := fun t =>
    (freeSlots_changes (G := [.evu, .pcie, .faults, .fetch, .relief]) .refl rfl).comp_eq rfl
  unfold passLine
  by_cases hs : s.comp[h].served.isEmpty = true
  · rw [if_pos hs, modComp_get]
  · rw [if_neg hs, hfree, modComp_get]

/-! ## LINE_COMPOSED -/

/-- A head that scans does not wait for a boundary. -/
theorem filling_of_scanning {s : State} {h : ContHead} (hs : scanning s h = true) : filling s h = false := by
  unfold scanning at hs
  obtain ⟨hstart, hgate⟩ := (Bool.and_eq_true _ _).mp hs
  have hgated : s.head[h].gated = false := by simpa using hgate
  have hrun : s.head[h].run ≠ .starting .firstBoundary := by
    intro hrun
    unfold started Head.started at hstart
    rw [hrun] at hstart
    exact absurd hstart (by decide)
  unfold filling
  rw [hgated, Bool.and_false, Bool.false_or]
  exact decide_eq_false hrun

theorem modComp_opening (s : State) (h : ContHead) (o : Opening) :
    (s.modComp h fun c => { c with opening := some o }).comp[h].opening = some o ∧
      (s.modComp h fun c => { c with opening := some o }).comp[h].store = s.comp[h].store := by
  rw [modComp_get]
  exact ⟨rfl, rfl⟩

/-- The line store of a waiting head is opened anew, and empty. -/
theorem openFrame_store (h : ContHead) (cfg : HeadCfg) (next : Bool) (s : State) :
    (openFrame h cfg next s).comp[h].store = [] := by
  obtain ⟨u, hu⟩ : ∃ u, u = freeSlots ((dropLayerRequests h s).modComp h Comp.clear) := ⟨_, rfl⟩
  have hempty : u.comp[h].store = [] := by
    rw [hu, (freeSlots_changes (G := [.evu, .pcie, .faults, .fetch, .relief]) .refl rfl).comp_eq rfl, modComp_get]
    rfl
  have hkept : LinesKept h u (openFrame h cfg next s) := by
    unfold openFrame
    rw [← hu]
    exact .forEach (loadPalettes_linesKept cfg next .refl) fun y t ht => requestLine_linesKept y next ht
  exact hkept.1.trans hempty

/-- The composed line stands at the end of the line store. -/
theorem storeLine_result {s : State} {h : ContHead} {cfg : HeadCfg} : (storeLine h cfg s).comp[h].store =
      s.comp[h].store ++ [composeLine s h cfg s.comp[h].nextLine (nextWraps s h cfg)] ∧
    (storeLine h cfg s).comp[h].nextLine =
      (if s.comp[h].nextLine + 1 < cfg.vactive then s.comp[h].nextLine + 1 else 0) := by
  obtain ⟨u, hu⟩ : ∃ u, u = s.modComp h fun c => { c with
    store := c.store ++ [composeLine s h cfg s.comp[h].nextLine (nextWraps s h cfg)], composed := c.composed + 1 } :=
    ⟨_, rfl⟩
  have heq : storeLine h cfg s = passLine h cfg (nextWraps s h cfg) s.comp[h].nextLine u := by rw [hu]; rfl
  have hkept : LinesKept h u (passLine h cfg (nextWraps s h cfg) s.comp[h].nextLine u) :=
    passLine_linesKept cfg _ _ .refl
  rw [heq, passLine_nextLine, hkept.1, hu, modComp_get]
  exact ⟨rfl, rfl⟩

section
variable {s : State} {h : ContHead} {cfg : HeadCfg} (hcfg : s.head[h].cfg = some cfg)
include hcfg

/-- The line store of a waiting head filled anew. -/
theorem fillStore_eq : fillStore h s =
    (openFrame h cfg true s).modComp h fun c => { c with opening := some (openingOf s h cfg) } := by
  unfold fillStore
  simp only [hcfg]

theorem fillStore_result : (fillStore h s).comp[h].opening = some (openingOf s h cfg) ∧
    (fillStore h s).comp[h].store = [] := by
  rw [fillStore_eq hcfg]
  obtain ⟨hopen, hstore⟩ := modComp_opening (openFrame h cfg true s) h (openingOf s h cfg)
  exact ⟨hopen, hstore.trans (openFrame_store h cfg true s)⟩

theorem exec_lineComposed_opens (hf : filling s h = true) (ho : s.comp[h].opening ≠ some (openingOf s h cfg)) :
    exec (.lineComposed h) s = .next (fillStore h s) := by
  show execLineComposed h s = _
  unfold execLineComposed
  simp only [hcfg]
  exact if_pos (by rw [hf, Bool.true_and]; exact decide_eq_true ho)

theorem exec_lineComposed_stores (hs : scanning s h = true) (hl : leadOf s h cfg ≤ 3) (ha : awaited s h cfg = []) :
    exec (.lineComposed h) s = .next (storeLine h cfg s) := by
  show execLineComposed h s = _
  unfold execLineComposed
  simp only [hcfg]
  rw [if_neg (by rw [filling_of_scanning hs, Bool.false_and]; decide), hs, ha, decide_eq_false (Nat.not_lt.mpr hl)]
  rfl

theorem exec_lineComposed_waits (hs : scanning s h = true) (ha : awaited s h cfg ≠ []) :
    exec (.lineComposed h) s = .next s := by
  have hne : (awaited s h cfg).isEmpty = false := by simpa using ha
  show execLineComposed h s = _
  unfold execLineComposed
  simp only [hcfg]
  rw [if_neg (by rw [filling_of_scanning hs, Bool.false_and]; decide), hne, Bool.not_false, Bool.or_true]
  rfl

/-! ## SHED -/

theorem exec_shed_idle (ha : awaited s h cfg = []) : exec (.shed h) s = .next s := by
  show execShed h s = _
  unfold execShed
  simp only [hcfg]
  rw [ha, List.isEmpty_nil, Bool.or_true]
  rfl

theorem exec_shed {z : SlotId} (hs : scanning s h = true) (hl : leadOf s h cfg ≤ 2) (ha : awaited s h cfg ≠ [])
    (hz : shedChoice s h cfg = some z) : exec (.shed h) s =
      .next (shedWithRun h z (nextWraps s h cfg) (viewOf s h (nextWraps s h cfg)) s) := by
  have hne : (awaited s h cfg).isEmpty = false := by simpa using ha
  show execShed h s = _
  unfold execShed
  simp only [hcfg]
  rw [hs, hne, decide_eq_false (Nat.not_lt.mpr hl), hz]
  rfl

end

/-- A layer that a frame shows is not shed in it. -/
theorem frameLayers_unshed {s : State} {h : ContHead} {shed : List SlotId} {z : SlotId} {l : Layer}
    (hm : (z, l) ∈ frameLayers s h shed) : z ∉ shed := by
  unfold frameLayers at hm
  split at hm
  · cases hm
  · obtain ⟨z', -, hz⟩ := List.mem_filterMap.mp hm
    split at hz
    · cases hz
    · obtain ⟨hb, he⟩ := (guardSome_eq_some_iff _ _ _).mp hz
      obtain ⟨rfl, -⟩ := Prod.mk.inj he
      simp only [Bool.and_eq_true, decide_eq_true_eq] at hb
      obtain ⟨⟨⟨⟨-, hshed⟩, -⟩, -⟩, -⟩ := hb
      exact hshed

/-- The layer that R280 or R239 names is one that the frame still shows. -/
theorem shedChoice_unshed {s : State} {h : ContHead} {cfg : HeadCfg} {z : SlotId}
    (hz : shedChoice s h cfg = some z) : z ∉ shedOf s h (nextWraps s h cfg) := by
  have hline : ∀ l, (z, l) ∈ lineLayers (viewOf s h (nextWraps s h cfg)) h
      (lineInputs s h (nextWraps s h cfg) s.comp[h].nextLine) → z ∉ shedOf s h (nextWraps s h cfg) :=
    fun l hl => frameLayers_unshed (List.mem_filter.mp hl).1
  unfold shedChoice at hz
  dsimp only at hz
  cases hlate : latePalette s h cfg with
  | some x =>
    rw [hlate] at hz
    obtain rfl := Option.some.inj hz
    unfold latePalette at hlate
    obtain ⟨⟨z', l⟩, hfind, rfl⟩ := Option.map_eq_some_iff.mp hlate
    exact hline l (List.mem_filter.mp (List.mem_of_find?_eq_some hfind)).1
  | none =>
    rw [hlate] at hz
    obtain ⟨⟨z', l⟩, hfold, rfl⟩ := Option.map_eq_some_iff.mp hz
    have hmem := (foldl_choice (fun b q => by
      cases b with
      | none => exact .inl rfl
      | some p =>
        dsimp only
        split
        · exact .inl rfl
        · exact .inr rfl) _ hfold).resolve_right (by simp)
    exact hline l (List.mem_filter.mp hmem).1

theorem shedOf_congr {s t : State} (hc : t.comp = s.comp) (h : ContHead) (next : Bool) :
    shedOf t h next = shedOf s h next := by
  unfold shedOf
  rw [hc]

/-- A slot to shed that is not shed yet is shed, and that is seen. -/
theorem shedSlots_sheds {s : State} {h : ContHead} {zs : List SlotId} {next : Bool} {z : SlotId} (hz : z ∈ zs)
    (hn : z ∉ shedOf s h next) : z ∈ shedOf (shedSlots h zs next s) h next ∧
      (shedSlots h zs next s).faults.seen.shed = true := by
  obtain ⟨l, hl⟩ : ∃ l, l = zs.filter fun z => z ∉ shedOf s h next := ⟨_, rfl⟩
  have hmem : z ∈ l := hl ▸ List.mem_filter.mpr ⟨hz, decide_eq_true hn⟩
  have hne : ¬l.isEmpty = true := fun he => by
    rw [List.isEmpty_iff.mp he] at hmem
    cases hmem
  obtain ⟨u, hu⟩ : ∃ u, u = s.modComp h fun c => { c with
    shed := if next then c.shed else c.shed ++ l
    shedNext := if next then c.shedNext ++ l else c.shedNext
    missing := c.missing.filter fun m => m.1 ∉ l
    shedCount := l.foldl (fun n _ => satInc n) c.shedCount } := ⟨_, rfl⟩
  obtain ⟨v, hv⟩ : ∃ v, v = { u with faults := { u.faults with seen := { u.faults.seen with shed := true } } } :=
    ⟨_, rfl⟩
  have heq : shedSlots h zs next s = if (shedOf s h next).isEmpty then raiseHead h 3 v else v := by
    unfold shedSlots
    rw [← hl, hv, hu]
    exact if_neg hne
  have hr : Changes [.evu, .pcie] v (shedSlots h zs next s) := by
    rw [heq]
    exact .ite (raiseHead_changes .refl rfl) .refl
  have hcomp : v.comp = u.comp := by rw [hv]
  refine ⟨?_, ?_⟩
  · rw [shedOf_congr ((hr.comp_eq rfl).trans hcomp), hu]
    unfold shedOf
    rw [modComp_get]
    cases next with
    | true => exact List.mem_append_right _ hmem
    | false => exact List.mem_append_right _ hmem
  · rw [hr.faults_eq rfl, hv]

theorem shedWithRun_sheds {s v : State} {h : ContHead} {next : Bool} {z : SlotId} (hn : z ∉ shedOf s h next) :
    z ∈ shedOf (shedWithRun h z next v s) h next ∧ (shedWithRun h z next v s).faults.seen.shed = true := by
  unfold shedWithRun
  split
  next r hr => exact shedSlots_sheds (of_decide_eq_true (List.find?_some (p := fun r : Run => decide (z ∈ r.members))
                 hr))
                 hn
  next => exact shedSlots_sheds List.mem_cons_self hn

/-! ## LINE_START -/

/-- The line in hand and the frame number of a head. -/
def Positioned (h : ContHead) (y : Nat) (frame : Word) (s : State) : Prop :=
  s.head[h].line = y ∧ s.head[h].frame = frame

theorem Positioned.keep {h : ContHead} {y : Nat} {frame : Word} {s t : State} (hs : Positioned h y frame s)
    (k : Changes besideHeads s t) : Positioned h y frame t := by
  unfold Positioned
  rw [k.head_eq rfl]
  exact hs

theorem Positioned.modHead {h : ContHead} {y : Nat} {frame : Word} {s : State} {f : Head → Head}
    (hs : Positioned h y frame s) (hf : ∀ x, (f x).line = x.line ∧ (f x).frame = x.frame) :
    Positioned h y frame (s.modHead h f) := by
  obtain ⟨h1, h2⟩ := hf s.head[h]
  unfold Positioned
  rw [modHead_get]
  exact ⟨h1.trans hs.1, h2.trans hs.2⟩

theorem writeRow_positioned {h : ContHead} {y : Nat} {frame : Word} {s : State} (cfg : HeadCfg) (row : Nat)
    (px : List Px) (hs : Positioned h y frame s) : Positioned h y frame (writeRow h cfg row px s) := by
  unfold writeRow
  split
  · exact hs
  · split
    · exact hs
    · refine Positioned.modHead (hs.keep (wbWrite_changes .refl rfl)) fun _ => ⟨rfl, rfl⟩

/-- What the scan of a line has done before its pixels go to the taps and to writeback: a line that is not stored
    counts an
underrun, and nothing else. -/
structure LineTaken (h : ContHead) (y : Nat) (s u : State) : Prop where
  rest : Changes [.evu, .pcie, .faults, .fetch, .comp, .relief, .free] s u
  missed : (∀ e ∈ s.comp[h].store, e.line ≠ y) → u.comp[h].underrun = satInc s.comp[h].underrun
  found : (∃ e ∈ s.comp[h].store, e.line = y) → u.comp[h].underrun = s.comp[h].underrun

theorem scanLine_eq (h : ContHead) (cfg : HeadCfg) (y : Nat) (s : State) : ∃ u px tap line,
    LineTaken h y s u ∧
      scanLine h cfg y s = writeRow h cfg y px (tapFeed h y line (protFeed h y tap u)) := by
  unfold scanLine
  cases hfind : s.comp[h].store.find? fun e => decide (e.line = y) with
  | some e =>
    have hline : e.line = y := of_decide_eq_true (List.find?_some (p := fun e : Stored => decide (e.line = y)) hfind)
    refine ⟨_, _, _, _, ⟨modComp_changes .refl rfl, fun hall => ?_, fun _ => ?_⟩, rfl⟩
    · exact absurd hline (hall e (List.mem_of_find?_eq_some hfind))
    · rw [modComp_get]
  | none =>
    refine ⟨_, _, _, _, ⟨?_, fun _ => ?_, fun ⟨e, he, hy⟩ => ?_⟩, rfl⟩
    · exact raiseHead_changes (logFault_changes (passLine_changes (bumpFree_changes (modComp_changes .refl rfl) rfl)
        rfl) rfl) rfl
    · rw [(raiseHead_changes (G := [.evu, .pcie, .faults]) (logFault_changes .refl rfl) rfl).comp_eq rfl,
        (passLine_linesKept cfg false y .refl).2]
      exact congrArg Comp.underrun (modComp_get s h fun c => { c with underrun := satInc c.underrun })
    · exact absurd (decide_eq_true hy) (List.find?_eq_none.mp hfind e he)

theorem scanLine_positioned {h : ContHead} {y : Nat} {frame : Word} {s : State} (cfg : HeadCfg)
    (hs : Positioned h y frame s) : Positioned h y frame (scanLine h cfg y s) := by
  obtain ⟨u, px, tap, line, htaken, heq⟩ := scanLine_eq h cfg y s
  rw [heq]
  exact writeRow_positioned cfg y px (hs.keep (tapFeed_changes (protFeed_changes (htaken.rest.mono rfl) rfl) rfl))

theorem scanLine_underrun (h : ContHead) (cfg : HeadCfg) (y : Nat) (s : State) :
    ((∀ e ∈ s.comp[h].store, e.line ≠ y) →
        (scanLine h cfg y s).comp[h].underrun = satInc s.comp[h].underrun) ∧
      ((∃ e ∈ s.comp[h].store, e.line = y) → (scanLine h cfg y s).comp[h].underrun = s.comp[h].underrun) := by
  obtain ⟨u, px, tap, line, htaken, heq⟩ := scanLine_eq h cfg y s
  have hcomp : (scanLine h cfg y s).comp = u.comp := by
    rw [heq]
    exact (writeRow_changes (G := [.mem, .memc, .fetch, .head, .cal, .prot])
      (tapFeed_changes (protFeed_changes .refl rfl) rfl) rfl).comp_eq rfl
  rw [hcomp]
  exact ⟨htaken.missed, htaken.found⟩

/-- A line begins: its event, the line lead that ended, and the count of composed lines anew. -/
def lineBegun (h : ContHead) (cfg : HeadCfg) (y : Nat) (s : State) : State :=
  let s := s.modHead h fun x => { x with line := y }
  let s := if y = cfg.live.lineEvt then raiseHead h 2 s else s
  (bumpFree (sample 0x08 h.1 (lowestLead s h cfg y) s)).modComp h fun c => { c with composed := 0 }

/-- A line that begins is scanned, where it is active. -/
def lineShown (h : ContHead) (cfg : HeadCfg) (y : Nat) (s : State) : State :=
  let s := lineBegun h cfg y s
  if y < cfg.vactive then scanLine h cfg y (shedLatePalettes h cfg y s) else s

theorem lineWork_eq (h : ContHead) (cfg : HeadCfg) (y : Nat) (s : State) : lineWork h cfg y s =
    if y + 4 < cfg.vtotal then requestLine h (y + 4) (decide (cfg.vactive ≤ y + 4)) (lineShown h cfg y s)
    else requestLine h (y + 4 - cfg.vtotal) true (lineShown h cfg y s) := rfl

theorem lineBegun_positioned (h : ContHead) (cfg : HeadCfg) (y : Nat) (s : State) :
    Positioned h y s.head[h].frame (lineBegun h cfg y s) := by
  have hline : Positioned h y s.head[h].frame (s.modHead h fun x => { x with line := y }) := by
    unfold Positioned
    rw [modHead_get]
    exact ⟨rfl, rfl⟩
  unfold lineBegun
  dsimp only
  generalize (s.modHead h fun x => { x with line := y }) = t at hline ⊢
  refine hline.keep (modComp_changes (bumpFree_changes (sample_changes ?_ rfl) rfl) rfl)
  exact .ite (raiseHead_changes .refl rfl) .refl

theorem lineBegun_linesKept (h : ContHead) (cfg : HeadCfg) (y : Nat) (s : State) :
    LinesKept h s (lineBegun h cfg y s) := by
  unfold lineBegun
  refine LinesKept.modComp (LinesKept.keep .refl (bumpFree_changes (sample_changes ?_ rfl) rfl)) fun _ => ⟨rfl, rfl⟩
  exact .ite (raiseHead_changes (modHead_changes .refl rfl) rfl) (modHead_changes .refl rfl)

theorem lineWork_positioned (h : ContHead) (cfg : HeadCfg) (y : Nat) (s : State) :
    Positioned h y s.head[h].frame (lineWork h cfg y s) := by
  have hbegun := lineBegun_positioned h cfg y s
  have hshown : Positioned h y s.head[h].frame (lineShown h cfg y s) := by
    unfold lineShown
    dsimp only
    split
    · exact scanLine_positioned cfg (hbegun.keep (shedLatePalettes_changes .refl rfl))
    · exact hbegun
  rw [lineWork_eq]
  exact hshown.keep (.ite (requestLine_changes .refl rfl) (requestLine_changes .refl rfl))

theorem lineWork_underrun {h : ContHead} {cfg : HeadCfg} {y : Nat} (s : State) (hy : y < cfg.vactive) :
    ((∀ e ∈ s.comp[h].store, e.line ≠ y) →
        (lineWork h cfg y s).comp[h].underrun = satInc s.comp[h].underrun) ∧
      ((∃ e ∈ s.comp[h].store, e.line = y) → (lineWork h cfg y s).comp[h].underrun = s.comp[h].underrun) := by
  obtain ⟨hstore, hunder⟩ := shedLatePalettes_linesKept cfg y (lineBegun_linesKept h cfg y s)
  have hscan := scanLine_underrun h cfg y (shedLatePalettes h cfg y (lineBegun h cfg y s))
  have hshown : lineShown h cfg y s = scanLine h cfg y (shedLatePalettes h cfg y (lineBegun h cfg y s)) := if_pos hy
  have hkept : LinesKept h (lineShown h cfg y s) (lineWork h cfg y s) := by
    rw [lineWork_eq]
    exact .ite (requestLine_linesKept _ _ .refl) (requestLine_linesKept _ _ .refl)
  rw [hkept.2, hshown]
  rwa [hstore, hunder] at hscan

theorem exec_lineStart {s : State} {h : ContHead} {cfg : HeadCfg} (hcfg : s.head[h].cfg = some cfg)
    (hs : scanning s h = true) (hy : s.head[h].line + 1 < cfg.vtotal) :
    exec (.lineStart h) s = .next (lineWork h cfg (s.head[h].line + 1) s) := by
  show execLineStart h s = _
  unfold execLineStart
  simp only [hcfg]
  exact if_pos (by rw [hs, decide_eq_true hy]; rfl)

/-! ## VERTICAL_BLANK -/

/-- Every part of the state but the event unit. -/
def besideEvents : List Part :=
  [.mem, .memc, .win, .ctx, .port, .pcie, .faults, .power, .drone, .timer, .timerShadow, .mon, .fetch, .slot,
    .commits, .comp, .relief, .prot, .head, .panel, .syn, .epd, .seg, .adc, .relay, .cal, .boot, .pins, .free]

/-- A source is pending. -/
def PendingAt (n : SourceId) (s : State) : Prop := s.evu.src[n].pending = true

section
variable {n : SourceId} {s t : State}

theorem PendingAt.keep (hs : PendingAt n s) (k : Changes besideEvents s t) : PendingAt n t := by
  unfold PendingAt
  rw [k.evu_eq rfl]
  exact hs

theorem PendingAt.ite {p : Prop} [Decidable p] (hs : PendingAt n s) (ht : PendingAt n t) :
    PendingAt n (if p then s else t) := by
  split
  · exact hs
  · exact ht

theorem PendingAt.forEach {α : Type} {l : List α} {f : α → State → State} (hs : PendingAt n s)
    (hf : ∀ a u, PendingAt n u → PendingAt n (f a u)) : PendingAt n (forEach l f s) := forEach_keeps hf l hs

theorem Source.edge_pending (x : Source) : x.edge.pending = true := by
  unfold Source.edge
  split
  next h => exact h
  next => rfl

/-- No edge ends that a source is pending. -/
theorem raise_pendingAt (m : Nat) (hs : PendingAt n s) : PendingAt n (raise m s) := by
  unfold PendingAt at hs ⊢
  by_cases hm : n.1 = m
  · subst hm
    by_cases hon : fabricOn s = true
    · rw [raise_edged s n hon]
      exact Source.edge_pending _
    · unfold raise
      rw [dif_pos n.isLt, if_neg hon]
      split
      · rw [modSrc_get]
        exact hs
      · exact hs
  · rw [raise_src_other s m n hm]
    exact hs

theorem logFault_pendingAt (code unit : Nat) (arg : Word) (c : Option CtxId) (hs : PendingAt n s) :
    PendingAt n (logFault code unit arg s c) := by
  unfold logFault
  refine .ite ?_ (.ite (.ite ?_ ?_) hs)
  · exact raise_pendingAt 281 (hs.keep (.set_faults .refl rfl))
  · exact hs.keep (.set_faults .refl rfl)
  · exact hs.keep (.set_faults .refl rfl)

theorem sampleOne_pendingAt (c : MonId) (v : Word) (hs : PendingAt n s) : PendingAt n (sampleOne c v s) := by
  unfold sampleOne
  dsimp only
  split
  · exact hs
  · refine .ite hs ?_
    refine List.foldlRecOn _ _ (motive := PendingAt n) (hs.keep (modMon_changes .refl rfl)) fun u hu _ _ => ?_
    exact raise_pendingAt _ hu

theorem sample_pendingAt (probe idx v : Nat) (hs : PendingAt n s) : PendingAt n (sample probe idx v s) := by
  unfold sample
  exact .forEach hs fun c u hu => .ite (sampleOne_pendingAt c _ hu) hu

theorem tryCal_pendingAt (hs : PendingAt n s) : PendingAt n (tryCal s) := by
  unfold tryCal calibrate
  exact .ite (sample_pendingAt _ _ _ (hs.keep (.set_memc .refl rfl))) hs

theorem logExtent_pendingAt (h : ContHead) (z : SlotId) (l : Layer) (hs : PendingAt n s) :
    PendingAt n (logExtent h z l s) := by
  unfold logExtent
  exact .ite hs (logFault_pendingAt _ _ _ _ (hs.keep (modComp_changes .refl rfl)))

theorem loadPalettes_pendingAt (h : ContHead) (cfg : HeadCfg) (next : Bool) (hs : PendingAt n s) :
    PendingAt n (loadPalettes h cfg next s) := by
  unfold loadPalettes
  refine .forEach (hs.keep (modComp_changes .refl rfl)) fun ⟨z, l⟩ u hu => ?_
  refine .ite (.ite ?_ ?_) hu
  · exact .forEach (hu.keep (modComp_changes .refl rfl)) fun p v hv => hv.keep (enqueue_changes .refl rfl)
  · exact logExtent_pendingAt h z l (hu.keep (modComp_changes .refl rfl))

end

theorem exec_verticalBlank {s : State} {h : ContHead} {cfg : HeadCfg} (hcfg : s.head[h].cfg = some cfg)
    (hs : scanning s h = true) (hy : s.head[h].line = cfg.vactive) : ∃ next, exec (.verticalBlank h) s =
      .next (tryCal (loadPalettes h cfg true (sendMsa h next (raiseHead h 1 s)))) := by
  refine ⟨((viewOf s h true).head[h].cfg).getD cfg, ?_⟩
  show execVerticalBlank h s = _
  unfold execVerticalBlank
  simp only [hcfg]
  exact if_pos (by rw [hs, decide_eq_true hy]; rfl)

/-- The stream attributes are all that a head's eDP link sends of a head. -/
theorem sendMsa_head (h : ContHead) (next : HeadCfg) (s : State) :
    (sendMsa h next s).head[h] = { s.head[h] with edp := (sendMsa h next s).head[h].edp } ∧
      (s.head[h].edp.stream = false → (sendMsa h next s).head = s.head) ∧
      ∀ k, k ≠ h → (sendMsa h next s).head[k] = s.head[k] := by
  unfold sendMsa
  split
  next y _ _ =>
    by_cases hstream : s.head[h].edp.stream = true
    · rw [if_pos hstream, modHead_get]
      refine ⟨rfl, fun hn => ?_, fun k hk => modHead_get_other hk⟩
      cases hstream.symm.trans hn
    · rw [if_neg hstream]
      exact ⟨rfl, fun _ => rfl, fun _ _ => rfl⟩
  · exact ⟨rfl, fun _ => rfl, fun _ _ => rfl⟩

/-! ## Writeback -/

theorem writebackAbandon_result {s : State} {h : ContHead} {k : Fin 2} (hk : s.head[h].wb.writing = some k) :
    ∃ t, exec (.writebackAbandon h) s = .next t ∧ t.head[h].wb.writing = none ∧
      t.comp[h].wbDrop = satInc s.comp[h].wbDrop := by
  have hnone : ¬s.head[h].wb.writing.isNone = true := fun hn => by
    rw [hk] at hn
    cases hn
  obtain ⟨u, hu⟩ : ∃ u, u = (writeRecord h 2 s).modHead h fun x =>
    { x with wb := { x.wb with writing := none, rows := 0 } } := ⟨_, rfl⟩
  have habandon : abandonWriteback h s = u := by
    rw [hu]
    exact if_neg hnone
  have hexec : exec (.writebackAbandon h) s = .next (wbDropOne h u) := by
    rw [← habandon]
    exact if_neg hnone
  refine ⟨_, hexec, ?_, ?_⟩
  · rw [(wbDropOne_changes (G := [.evu, .pcie, .comp]) .refl rfl).head_eq rfl, hu, modHead_get]
  · have hcomp : u.comp = s.comp := by
      rw [hu]
      exact (modHead_changes (G := [.mem, .memc, .fetch, .head]) (writeRecord_changes .refl rfl) rfl).comp_eq rfl
    unfold wbDropOne
    rw [(raiseHead_changes (G := [.evu, .pcie]) .refl rfl).comp_eq rfl, modComp_get, hcomp]

theorem writebackComplete_result {s : State} {h : ContHead} {cfg : HeadCfg} {k : Fin 2}
    (hcfg : s.head[h].cfg = some cfg) (hk : s.head[h].wb.writing = some k) (hrows : cfg.vactive ≤ s.head[h].wb.rows) :
    ∃ t, exec (.writebackFrameComplete h) s = .next t ∧ t.head[h].wb.writing = none ∧
      t.head[h].wb.last = some k := by
  obtain ⟨u, hu⟩ : ∃ u, u = (writeRecord h 1 s).modHead h fun x =>
    { x with wb := { x.wb with last := some k, writing := none } } := ⟨_, rfl⟩
  have hexec : exec (.writebackFrameComplete h) s =
      .next (forEach (List.finRange 16) (fun i s => beginStream i h s) (raiseHead h 9 u)) := by
    show execWritebackFrameComplete h s = _
    unfold execWritebackFrameComplete completeWriteback
    simp only [hcfg, hk]
    rw [if_neg (Nat.not_lt.mpr hrows), hu]
  have hch : Changes [.evu, .pcie, .faults, .fetch, .relay, .free] u
      (forEach (List.finRange 16) (fun i s => beginStream i h s) (raiseHead h 9 u)) :=
    .forEach (raiseHead_changes .refl rfl) fun i v hv => beginStream_changes hv rfl
  refine ⟨_, hexec, ?_, ?_⟩
  · rw [hch.head_eq rfl, hu, modHead_get]
  · rw [hch.head_eq rfl, hu, modHead_get]

/-- What vertical blank does: the head is where it was but for the stream attributes, and its source is pending. -/
theorem verticalBlank_result {s : State} {h : ContHead} {cfg : HeadCfg} (hcfg : s.head[h].cfg = some cfg)
    (hs : scanning s h = true) (hy : s.head[h].line = cfg.vactive) : ∃ t, exec (.verticalBlank h) s = .next t ∧
      t.head[h] = { s.head[h] with edp := t.head[h].edp } ∧
      (s.head[h].edp.stream = false → t.head = s.head) ∧ (∀ k : ContHead, k ≠ h → t.head[k] = s.head[k]) ∧
      t.mem = s.mem ∧
      ∀ n : SourceId, n.1 = 129 + 16 * h.1 → fabricOn s = true → t.evu.src[n].pending = true := by
  obtain ⟨next, hexec⟩ := exec_verticalBlank hcfg hs hy
  obtain ⟨u, hu⟩ : ∃ u, u = raiseHead h 1 s := ⟨_, rfl⟩
  rw [← hu] at hexec
  have huhead : u.head = s.head := by
    rw [hu]
    exact (raiseHead_changes (G := [.evu, .pcie]) .refl rfl).head_eq rfl
  have hch : Changes [.evu, .pcie, .faults, .fetch, .comp, .memc, .mon] (sendMsa h next u)
      (tryCal (loadPalettes h cfg true (sendMsa h next u))) := tryCal_changes (loadPalettes_changes .refl rfl) rfl
  have hmem : (sendMsa h next u).mem = s.mem := by
    rw [hu]
    exact (sendMsa_changes (G := [.head, .evu, .pcie]) (raiseHead_changes .refl rfl) rfl).mem_eq rfl
  obtain ⟨hown, hstream, hothers⟩ := sendMsa_head h next u
  rw [huhead] at hown hstream hothers
  refine ⟨_, hexec, ?_, ?_, ?_, (hch.mem_eq rfl).trans hmem, fun n hn hon => ?_⟩
  · rw [hch.head_eq rfl]
    exact hown
  · rw [hch.head_eq rfl]
    exact hstream
  · rw [hch.head_eq rfl]
    exact hothers
  · refine tryCal_pendingAt (loadPalettes_pendingAt h cfg true (PendingAt.keep ?_ (sendMsa_changes .refl rfl)))
    have hsource : raiseHead h 1 s = raise n.1 s := by
      unfold raiseHead
      exact congrArg (raise · s) (by omega)
    unfold PendingAt
    rw [hu, hsource, raise_edged s n hon]
    exact Source.edge_pending _

/-- Settles O38: composition, shedding, the scan of lines, vertical blank and writeback. -/
theorem linesAreComposedAndScanned : Obligations.LinesAreComposedAndScanned := by
  unfold Obligations.LinesAreComposedAndScanned
  refine fun s h cfg hcfg => ⟨fun hf ho => ⟨_, exec_lineComposed_opens hcfg hf ho, ?_, ?_, ?_⟩, fun hs =>
    ⟨fun hl ha => ?_, exec_lineComposed_waits hcfg hs, exec_shed_idle hcfg, fun z hl ha hz => ?_, fun hy => ?_,
      fun hy => ?_, fun k hk => ⟨writebackAbandon_result hk, writebackComplete_result hcfg hk⟩⟩⟩
  · exact (fillStore_changes (G := [.evu, .pcie, .faults, .fetch, .comp, .relief]) .refl rfl).mem_eq rfl
  · exact (fillStore_result hcfg).1
  · exact (fillStore_result hcfg).2
  · obtain ⟨hstore, hnext⟩ := storeLine_result (s := s) (h := h) (cfg := cfg)
    exact ⟨_, exec_lineComposed_stores hcfg hs hl ha,
      (storeLine_changes (G := [.evu, .pcie, .faults, .fetch, .comp, .relief]) .refl rfl).mem_eq rfl, hstore, hnext⟩
  · obtain ⟨hshed, hseen⟩ := shedWithRun_sheds (v := viewOf s h (nextWraps s h cfg)) (shedChoice_unshed hz)
    exact ⟨_, exec_shed hcfg hs hl ha hz, hshed, hseen,
      (shedWithRun_changes (G := [.evu, .pcie, .faults, .comp]) .refl rfl).mem_eq rfl⟩
  · obtain ⟨hline, hframe⟩ := lineWork_positioned h cfg (s.head[h].line + 1) s
    exact ⟨_, exec_lineStart hcfg hs hy, hline, hframe, fun hact => lineWork_underrun s hact⟩
  · exact verticalBlank_result hcfg hs hy

end Sys2Proof.Machine
end
